-- ==== Sys2Proof/Word.lean ====
section
/-! DEFINITION. The word types of the BJ4800 model: bytes, Knaen words, and the name of a running Knaen program. -/

namespace Sys2Proof

/-- One byte of a message, a frame, a flit or a flash page. -/
abbrev Byte := BitVec 8

/-- One Knaen word, one work register or one 32-bit message word (R46, R49). -/
abbrev Word := BitVec 32

/-- A Knaen register number w0…w15 (R49, R54). -/
abbrev RegNo := BitVec 4

/-- The name of a running Knaen program: the one Manifest a context runs (R129),
or the program of one of the sixteen threads of a Shunter engine (R268). -/
inductive ProgId where
  | manifest (ctx : Nat)
  | shunter (engine thread : Nat)
  deriving DecidableEq, Repr

/-- The channels a context's Control messages arrive and leave on (R121, R25, R26): the LDL Control tunnel of a landing,
a landing's legacy management interface, the local port, and the management UDP session. -/
inductive Chan where
  | ldl (landing : Nat)
  | legacy (landing : Nat)
  | localPort
  | mgmt
  deriving DecidableEq, Repr

/-- The context a channel belongs to (R1): landing Ll is Cl, the local port C4, network management C5. -/
def Chan.ctx : Chan → Nat
  | .ldl l => l
  | .legacy l => l
  | .localPort => 4
  | .mgmt => 5

/-- The code of CONTEXT.CHANNEL (R593). -/
def Chan.code : Chan → Nat
  | .ldl _ => 1
  | .legacy _ => 2
  | .localPort => 3
  | .mgmt => 4

/-- What the boot ROM finds from power-good on (R575): the level of REFSEL; µs from power-good to the local counter's start, to the Signal Box
running, and to the data paths' start; the flash's identification and size in MiB, none when it does not answer; the start-up pattern of the
key array, as 64 blocks of 1,023 bits (R491), and the copies of the helper record whose content in flash is damaged; for parts of which no image has been recorded, the header and whole-image SHA-384 in the running slot; the copies of the switch record that are
invalid, and the record kinds whose newest ring entry is (R532, R587); the slots whose image fails (2 × part the running one, 2 × part + 1 the other); standing slots whose record fails; whether the
Sprint lifetime record is valid; the fuses of PROVISIONED that the factory's test access has blown (R518); and the hottest sensor in 0.1 °C. -/
structure StartFacts where
  refsel : Bool := false
  leadUs : Nat := 2000
  bootUs : Nat := 135000
  readyUs : Nat := 210000
  flash : Option (Nat × Nat) := some (0, 0)
  pattern : List Nat := []
  badHelper : List Nat := []
  images : List (List Byte × List Byte) := []
  badSwitch : List Nat := []
  badRing : List Nat := []
  bad : List Nat := []
  badSlots : List Nat := []
  lifetimeOk : Bool := true
  fused : Nat := 0
  hot : Int := 250
  deriving DecidableEq, Repr

end Sys2Proof
end

