-- ==== Sys2Proof/Syntax.lean ====
section
/-! DEFINITION. The commands of the hub: one constructor per row of the table of operations and events. A Knaen
instruction names the running program that executes it and carries every operand bit of its word, reserved bits included
(R54, R55); an event carries what its block observes from outside: a message's bytes, a measurement, an outcome. -/

namespace Sys2Proof

/-- What the end of a training tells of a pair (R179): the training frame that speaks for it (the last one received on a host→dock pair, or the host's
last one that names a dock→host pair as target), and, of the device's receiver, the bits measured and those in error before FEC. -/
structure TrainingResult where
  pair : Nat
  frame : List Byte
  bits : Nat
  errors : Nat
  deriving DecidableEq, Repr

/-- The commands, in the table's order. Each docstring is the row's rule. -/
inductive Instr where
  /-- HALT (R59). -/
  | halt (p : ProgId) (wd wa wb : RegNo) (func : BitVec 14)
  /-- NOP (R59). -/
  | nop (p : ProgId) (wd wa wb : RegNo) (func : BitVec 14)
  /-- LIT (R60). -/
  | lit (p : ProgId) (wd wa : RegNo) (imm : BitVec 18)
  /-- LITW (R60). -/
  | litw (p : ProgId) (wd wa : RegNo) (imm : BitVec 18)
  /-- MOV (R61). -/
  | mov (p : ProgId) (wd wa wb : RegNo) (func : BitVec 14)
  /-- ADD (R63). -/
  | add (p : ProgId) (wd wa wb : RegNo) (func : BitVec 14)
  /-- ADDI (R63). -/
  | addi (p : ProgId) (wd wa : RegNo) (imm : BitVec 18)
  /-- SUB (R63). -/
  | sub (p : ProgId) (wd wa wb : RegNo) (func : BitVec 14)
  /-- MUL (R61). -/
  | mul (p : ProgId) (wd wa wb : RegNo) (func : BitVec 14)
  /-- MULH (R62). -/
  | mulh (p : ProgId) (wd wa wb : RegNo) (func : BitVec 13)
  /-- MULHU (R62). -/
  | mulhu (p : ProgId) (wd wa wb : RegNo) (func : BitVec 13)
  /-- AND (R61). -/
  | and (p : ProgId) (wd wa wb : RegNo) (func : BitVec 14)
  /-- OR (R61). -/
  | or (p : ProgId) (wd wa wb : RegNo) (func : BitVec 14)
  /-- XOR (R61). -/
  | xor (p : ProgId) (wd wa wb : RegNo) (func : BitVec 14)
  /-- ANDI (R61). -/
  | andi (p : ProgId) (wd wa : RegNo) (imm : BitVec 18)
  /-- ORI (R61). -/
  | ori (p : ProgId) (wd wa : RegNo) (imm : BitVec 18)
  /-- SHL (R64). -/
  | shl (p : ProgId) (wd wa wb : RegNo) (func : BitVec 14)
  /-- SHR (R64). -/
  | shr (p : ProgId) (wd wa wb : RegNo) (func : BitVec 14)
  /-- SAR (R64). -/
  | sar (p : ProgId) (wd wa wb : RegNo) (func : BitVec 14)
  /-- MIN (R65). -/
  | min (p : ProgId) (wd wa wb : RegNo) (func : BitVec 13)
  /-- MINU (R65). -/
  | minu (p : ProgId) (wd wa wb : RegNo) (func : BitVec 13)
  /-- MAX (R65). -/
  | max (p : ProgId) (wd wa wb : RegNo) (func : BitVec 13)
  /-- MAXU (R65). -/
  | maxu (p : ProgId) (wd wa wb : RegNo) (func : BitVec 13)
  /-- CMP (R63). -/
  | cmp (p : ProgId) (wd wa wb : RegNo) (func : BitVec 14)
  /-- BR (R68). -/
  | br (p : ProgId) (cond wa : RegNo) (offset : BitVec 18)
  /-- CALL (R69). -/
  | call (p : ProgId) (cond wa : RegNo) (offset : BitVec 18)
  /-- RET (R69). -/
  | ret (p : ProgId) (cond wa : RegNo) (offset : BitVec 18)
  /-- EXECUTE_RESERVED_OPCODE (R58). -/
  | executeReservedOpcode (p : ProgId) (opcode : BitVec 6) (rest : BitVec 26)
  /-- OPEN (R73). -/
  | openObject (p : ProgId) (wd wa : RegNo) (imm : BitVec 18)
  /-- GET (R78). -/
  | get (p : ProgId) (wv wh : RegNo) (field : BitVec 12) (modifier : BitVec 6)
  /-- GETS (R79). -/
  | gets (p : ProgId) (wv wh : RegNo) (field : BitVec 12) (modifier : BitVec 6)
  /-- SET (R80). -/
  | set (p : ProgId) (wv wh : RegNo) (field : BitVec 12) (modifier : BitVec 6)
  /-- SETX (R81). -/
  | setx (p : ProgId) (wv wh : RegNo) (field : BitVec 12) (modifier : BitVec 6)
  /-- SETM (R82). -/
  | setm (p : ProgId) (wv wh : RegNo) (field : BitVec 12) (modifier : BitVec 6)
  /-- COMMIT_NOW (R136). -/
  | commitNow (p : ProgId) (wa wb : RegNo) (index : BitVec 14)
  /-- COMMIT_REFILL (R136). -/
  | commitRefill (p : ProgId) (wa wb : RegNo) (index : BitVec 14)
  /-- COMMIT_BLANKING (R136). -/
  | commitBlanking (p : ProgId) (wa wb : RegNo) (index : BitVec 14)
  /-- COMMIT_TIME (R136). -/
  | commitTime (p : ProgId) (wa wb : RegNo) (index : BitVec 14)
  /-- COMMIT_CYCLE (R136). -/
  | commitCycle (p : ProgId) (wa wb : RegNo) (index : BitVec 14)
  /-- COMMIT_QUIET (R136). -/
  | commitQuiet (p : ProgId) (wa wb : RegNo) (index : BitVec 14)
  /-- COMMIT_RESERVED_KIND (R84). -/
  | commitReservedKind (p : ProgId) (wa wb : RegNo) (kind : BitVec 4) (index : BitVec 14)
  /-- ABANDON (R85). -/
  | abandon (p : ProgId) (wd wa wb : RegNo) (func : BitVec 14)
  /-- WAIT_NOW (R86). -/
  | waitNow (p : ProgId) (wa wb : RegNo) (index : BitVec 14)
  /-- WAIT_REFILL (R86). -/
  | waitRefill (p : ProgId) (wa wb : RegNo) (index : BitVec 14)
  /-- WAIT_BLANKING (R86). -/
  | waitBlanking (p : ProgId) (wa wb : RegNo) (index : BitVec 14)
  /-- WAIT_TIME (R86). -/
  | waitTime (p : ProgId) (wa wb : RegNo) (index : BitVec 14)
  /-- WAIT_CYCLE (R86). -/
  | waitCycle (p : ProgId) (wa wb : RegNo) (index : BitVec 14)
  /-- WAIT_QUIET (R86). -/
  | waitQuiet (p : ProgId) (wa wb : RegNo) (index : BitVec 14)
  /-- WAIT_DELAY (R86). -/
  | waitDelay (p : ProgId) (wa wb : RegNo) (kind : BitVec 4) (index : BitVec 14)
  /-- WAIT_DELAY_EXPIRY (R87). -/
  | waitDelayExpiry (ctx : Nat)
  /-- OWN (R89). -/
  | own (p : ProgId) (wd wa : RegNo) (imm : BitVec 17)
  /-- OWN_FORCE (R148). -/
  | ownForce (p : ProgId) (wd wa : RegNo) (imm : BitVec 17)
  /-- YIELD (R89). -/
  | yield (p : ProgId) (wd wa : RegNo) (imm : BitVec 17)
  /-- YIELD_FORCE (R148). -/
  | yieldForce (p : ProgId) (wd wa : RegNo) (imm : BitVec 17)
  /-- NOTE (R91). -/
  | note (p : ProgId) (wd wa wb : RegNo) (func : BitVec 14)
  /-- TIME_LOCAL (R66). -/
  | timeLocal (p : ProgId) (wd wa wb : RegNo) (func : BitVec 13)
  /-- TIME_NETWORK (R66). -/
  | timeNetwork (p : ProgId) (wd wa wb : RegNo) (func : BitVec 13)
  /-- XFER (R94). -/
  | xfer (p : ProgId) (wa wb : RegNo) (kind : BitVec 4) (index : BitVec 14)
  /-- XFER_DONE (R94). -/
  | xferDone (ctx : Nat)
  /-- RELEASE (R95). -/
  | release (p : ProgId) (wd wa wb : RegNo) (func : BitVec 14)
  /-- EXT (R99). -/
  | ext (p : ProgId) (wd wa wb : RegNo) (func : BitVec 14)
  /-- INS (R99). -/
  | ins (p : ProgId) (wd wa wb : RegNo) (func : BitVec 14)
  /-- SCALE (R100). -/
  | scale (p : ProgId) (wd wa wb : RegNo) (func : BitVec 14)
  /-- LOOK (R101). -/
  | look (p : ProgId) (wd wa wb : RegNo) (func : BitVec 14)
  /-- FWD (R102). -/
  | fwd (p : ProgId) (wa wb : RegNo) (kind : BitVec 3) (index : BitVec 14)
  /-- FWD_REPLACE (R102). -/
  | fwdReplace (p : ProgId) (wa wb : RegNo) (kind : BitVec 3) (index : BitVec 14)
  /-- DROP (R103). -/
  | drop (p : ProgId) (wd wa wb : RegNo) (func : BitVec 14)
  /-- MIRR (R104). -/
  | mirr (p : ProgId) (wa wb : RegNo) (kind : BitVec 4) (index : BitVec 14)
  /-- STAMP (R105). -/
  | stamp (p : ProgId) (wa wb : RegNo) (kind : BitVec 3) (index : BitVec 14)
  /-- STAMP_EGRESS (R105). -/
  | stampEgress (p : ProgId) (wa wb : RegNo) (kind : BitVec 3) (index : BitVec 14)
  /-- CORR (R106). -/
  | corr (p : ProgId) (wa wb : RegNo) (kind : BitVec 4) (index : BitVec 14)
  /-- CSUM_COMPUTE (R107). -/
  | csumCompute (p : ProgId) (wd wa wb : RegNo) (func : BitVec 14)
  /-- CSUM_FIX (R107). -/
  | csumFix (p : ProgId) (wd wa wb : RegNo) (func : BitVec 12)
  /-- EMIT (R108). -/
  | emit (p : ProgId) (wa wb : RegNo) (kind : BitVec 4) (index : BitVec 14)
  /-- COUNT (R109). -/
  | count (p : ProgId) (wa wb : RegNo) (kind : BitVec 4) (index : BitVec 14)
  /-- SHUNTER_PROGRAM_START (R96). -/
  | shunterProgramStart (engine thread : Nat)
  /-- HELLO_MESSAGE (R126). -/
  | helloMessage (ch : Chan) (msg : List Byte)
  /-- MANIFEST_MESSAGE (R128). -/
  | manifestMessage (ch : Chan) (msg : List Byte)
  /-- MANIFEST_START (R129). -/
  | manifestStart (ctx : Nat)
  /-- PEEK_MESSAGE (R151). -/
  | peekMessage (ch : Chan) (msg : List Byte)
  /-- LOCAL_WRITE_INBOUND_FIFO (R122). -/
  | localWriteInboundFifo (data : List Byte)
  /-- LOCAL_READ_OUTBOUND_FIFO (R122). -/
  | localReadOutboundFifo (count : Nat)
  /-- LOCAL_READ_STATUS (R122). -/
  | localReadStatus
  /-- EPOCH_NETWORK_TIME (R136). -/
  | epochNetworkTime
  /-- COMMIT_TIMEOUT_EXPIRY (R140). -/
  | commitTimeoutExpiry (ctx : Nat)
  /-- STANDING_REPLAY (R155). -/
  | standingReplay
  /-- STANDING_CLEAR (R154). -/
  | standingClear (ctx slot : Nat)
  /-- STANDING_TOKEN_TIMEOUT (R156). -/
  | standingTokenTimeout
  /-- K0_WINDOW_END (R36). -/
  | k0WindowEnd
  /-- NOTICE_COLLECTOR_ROUND (R160). -/
  | noticeCollectorRound (ctx : Nat)
  /-- NOTICE_ENTRY_TAKEN (R161). -/
  | noticeEntryTaken (ctx : Nat)
  /-- FEED_LINK_FRAME (R20). -/
  | feedLinkFrame (frame : List Byte)
  /-- FEED_LINK_HOLD_ENTRY (R20). -/
  | feedLinkHoldEntry
  /-- PACE_BELOW_FLOOR (R31). -/
  | paceBelowFloor
  /-- AVS_START_ABSENT (R31). -/
  | avsStartAbsent
  /-- AVS_COMMAND_TIMEOUT (R31). -/
  | avsCommandTimeout
  /-- AVS_READBACK_FAULT (R31). -/
  | avsReadbackFault (sense readback : Nat)
  /-- VCORE_OVERVOLTAGE (R31). -/
  | vcoreOvervoltage (sense : Nat)
  /-- VCORE_OVERVOLTAGE_TRIP (R31). -/
  | vcoreOvervoltageTrip (sense : Nat)
  /-- SIDEBAND_POLL (R172). -/
  | sidebandPoll (l : Nat)
  /-- SIDEBAND_UNPLUG (R172). -/
  | sidebandUnplug (l : Nat)
  /-- PONG (R173). -/
  | pong (l : Nat)
  /-- SIDEBAND_BAD_FRAME (R171). -/
  | sidebandBadFrame (l : Nat)
  /-- LINK_HELLO (R176). -/
  | linkHello (l : Nat) (body : List Byte)
  /-- LINK_HELLO_TIMEOUT (R173). -/
  | linkHelloTimeout (l : Nat)
  /-- LINK_SELECT_ECHO (R175). -/
  | linkSelectEcho (l : Nat) (body : List Byte)
  /-- SIDEBAND_WAKE (R199). -/
  | sidebandWake (l : Nat)
  /-- TRAINING_START (R178). -/
  | trainingStart (l : Nat)
  /-- TRAINING_COMPLETE (R180), with what phases A and B heard, and the eye heights in mV of the pairs the device receives on. -/
  | trainingComplete (l : Nat) (allotted reversed : List TrainingResult) (eyes : List Nat)
  /-- TRAINING_RETRY_TIMER (R180). -/
  | trainingRetryTimer (l : Nat)
  /-- ALIGN_COMPLETE (R181). -/
  | alignComplete (l : Nat)
  /-- ALIGN_TIMEOUT (R173). -/
  | alignTimeout (l : Nat)
  /-- RETRAIN_COMPLETE (R182). -/
  | retrainComplete (l : Nat) (results : List TrainingResult)
  /-- DATA_FLIT (R216). -/
  | dataFlit (l pair fec : Nat) (flit : List Byte)
  /-- IDLE_FLIT (R183). -/
  | idleFlit (l pair fec : Nat) (flit : List Byte)
  /-- ACK_FLIT (R187). -/
  | ackFlit (l pair fec : Nat) (flit : List Byte)
  /-- TAG_FLIT (R204). -/
  | tagFlit (l pair fec : Nat) (flit : List Byte)
  /-- SWAP_ACK (R194). -/
  | swapAck (l pair fec : Nat) (flit : List Byte)
  /-- SWAP_NAK (R195). -/
  | swapNak (l pair fec : Nat) (flit : List Byte)
  /-- SWAP_DONE (R194). -/
  | swapDone (l pair fec : Nat) (flit : List Byte)
  /-- SWAP_EOS_RECEIVED (R194). -/
  | swapEosReceived (l : Nat)
  /-- SWAP_PAIR_LOCKED (R194). -/
  | swapPairLocked (l : Nat)
  /-- SWAP_ACK_TIMEOUT (R194). -/
  | swapAckTimeout (l : Nat)
  /-- SWAP_LOCK_TIMEOUT (R195). -/
  | swapLockTimeout (l : Nat) (restored : Bool)
  /-- REKEY_FLIT (R206). -/
  | rekeyFlit (l pair fec : Nat) (flit : List Byte)
  /-- REKEY_FLIT_LIMIT (R206). -/
  | rekeyFlitLimit (l : Nat)
  /-- IDLE_REQ (R198). -/
  | idleReq (l pair fec : Nat) (flit : List Byte)
  /-- IDLE_ACK (R198). -/
  | idleAck (l pair fec : Nat) (flit : List Byte)
  /-- SLEEP_REQ (R199). -/
  | sleepReq (l pair fec : Nat) (flit : List Byte)
  /-- RETRAIN_REQ (R182). -/
  | retrainReq (l pair fec : Nat) (flit : List Byte)
  /-- PAIR_OUT (R196). -/
  | pairOut (l pair fec : Nat) (flit : List Byte)
  /-- PAIR_JOIN (R197). -/
  | pairJoin (l pair fec : Nat) (flit : List Byte)
  /-- RESYNC (R206). -/
  | resync (l pair fec : Nat) (flit : List Byte)
  /-- RESERVED_CONTROL_FLIT (R185). -/
  | reservedControlFlit (l pair fec : Nat) (flit : List Byte)
  /-- ACK_TIMER (R187). -/
  | ackTimer (l : Nat)
  /-- NAK_TIMER (R188). -/
  | nakTimer (l : Nat)
  /-- REPLAY_TIMER (R188). -/
  | replayTimer (l : Nat)
  /-- SEAL_GROUP_TIMER (R204). -/
  | sealGroupTimer (l : Nat)
  /-- FLIT_TRANSMIT (R229). -/
  | flitTransmit (l : Nat)
  /-- QUIET_POINT (R191). -/
  | quietPoint (l : Nat)
  /-- DEMAND_WINDOW (R193). -/
  | demandWindow (l load : Nat)
  /-- ALLOT_RETRY_TIMER (R237). -/
  | allotRetryTimer (l : Nat)
  /-- PAIR_FAILURE (R196). -/
  | pairFailure (l pair cause : Nat)
  /-- SOLO_RETRAIN_TIMER (R197). -/
  | soloRetrainTimer (pair : Nat)
  /-- SOLO_RETRAIN_DONE (R197). -/
  | soloRetrainDone (pair : Nat) (results : List TrainingResult)
  /-- LIDLE_ENTRY_TIMER (R198). -/
  | lidleEntryTimer (l : Nat)
  /-- LIDLE_EXIT (R198). -/
  | lidleExit (l : Nat)
  /-- AUTH_INIT (R503). -/
  | authInit (ch : Chan) (pair fec : Nat) (data : List Byte)
  /-- AUTH_PROOF (R505). -/
  | authProof (ch : Chan) (pair fec : Nat) (data : List Byte)
  /-- AUTH_GO (R204). -/
  | authGo (ch : Chan) (pair fec : Nat) (data : List Byte)
  /-- AUTH_ABORT (R202). -/
  | authAbort (ch : Chan) (pair fec : Nat) (data : List Byte)
  /-- AUTH_TIMEOUT (R203). -/
  | authTimeout (ch : Chan)
  /-- CREDIT_STALL_TIMER (R207). -/
  | creditStallTimer (l cls : Nat)
  /-- DETECT_ENABLE_COMMIT (R173). -/
  | detectEnableCommit (ctx l value : Nat)
  /-- LANDING_REKEY_COMMIT (R206). -/
  | landingRekeyCommit (ctx l : Nat)
  /-- ALLOT_IN_CHANGE (R237). -/
  | allotInChange (ctx l value : Nat)
  /-- PAIR_ENABLE_CHANGE (R211). -/
  | pairEnableChange (ctx pair value : Nat)
  /-- CEILING_WINDOW (R231). -/
  | ceilingWindow (l slot : Nat)
  /-- GUEST_ALLOW_CLEAR (R241). -/
  | guestAllowClear (ctx inst : Nat)
  /-- NETWORK_FRAME (R312). -/
  | networkFrame (l slot : Nat) (msg : List Byte)
  /-- CELL_MATCH (R250). -/
  | cellMatch
  /-- EGRESS_SELECT (R290). -/
  | egressSelect (port unit : Nat)
  /-- YARD_PORT_DOWN (R260). -/
  | yardPortDown (port unit : Nat)
  /-- YARD_PORT_UP (R260). -/
  | yardPortUp (port unit : Nat)
  /-- YARD_FLUSH (R260). -/
  | yardFlush (port unit : Nat)
  /-- INCAST_TIMER (R262). -/
  | incastTimer (output : Nat)
  /-- BACKPRESSURE_TIMER (R280). -/
  | backpressureTimer (voq : Nat)
  /-- LEARN_AGE_EXPIRY (R266). -/
  | learnAgeExpiry (entry : Nat)
  /-- SHUNTER_DISPATCH (R268). -/
  | shunterDispatch
  /-- SHUNTER_ENGINE_FAULT (R270). -/
  | shunterEngineFault (engine : Nat)
  /-- SHUNTER_DISABLE (R270). -/
  | shunterDisable (ctx engine : Nat)
  /-- PROGRAM_LOAD (R272). -/
  | programLoad (ctx slot : Nat) (stores : List (Nat × Nat × Int))
  /-- PROGRAM_UNLOAD (R272). -/
  | programUnload (ctx slot : Nat)
  /-- SHAPER_REFILL (R294). -/
  | shaperRefill (n : Nat)
  /-- WHEEL_SLOT_EXPIRY (R293). -/
  | wheelSlotExpiry
  /-- TIMETABLE_ENTRY_BOUNDARY (R300). -/
  | timetableEntryBoundary (port : Nat)
  /-- TIMETABLE_CYCLE_BOUNDARY (R302). -/
  | timetableCycleBoundary (port : Nat)
  /-- TIMETABLE_COMMIT (R302). -/
  | timetableCommit (ctx port : Nat) (stores : List (Nat × Nat × Int))
  /-- LAUNCH_TIME_REACHED (R304). -/
  | launchTimeReached (leaf : Nat)
  /-- ETH_FRAME_RECEIVED (R308). -/
  | ethFrameReceived (mac : Nat) (frame : List Byte)
  /-- PAUSE_RECEIVED (R309). -/
  | pauseReceived (mac : Nat) (frame : List Byte)
  /-- PAUSE_WATCHDOG_EXPIRY (R309). -/
  | pauseWatchdogExpiry (mac : Nat)
  /-- PAUSE_HONOUR_RESUME (R309). -/
  | pauseHonourResume (mac : Nat)
  /-- STORM_WINDOW (R310). -/
  | stormWindow (mac : Nat)
  /-- ETH_LINK_CHANGE (R311). -/
  | ethLinkChange (mac : Nat) (isUp : Bool) (speed fault : Nat)
  /-- MDIO_REQUEST (R311). -/
  | mdioRequest (ctx mac value : Nat)
  /-- MDIO_DONE (R311). -/
  | mdioDone (mac : Nat) (answered : Bool) (data : Nat)
  /-- SURFACE_WRITE (R333). -/
  | surfaceWrite (l slot : Nat) (msg : List Byte)
  /-- TILE_DELTA (R334). -/
  | tileDelta (l slot : Nat) (msg : List Byte)
  /-- PRESENT (R337). -/
  | present (l slot : Nat) (msg : List Byte)
  /-- TURN_JOB (R341). -/
  | turnJob (l slot : Nat) (msg : List Byte)
  /-- TURN_JOB_DONE (R341). -/
  | turnJobDone (l : Nat)
  /-- CLONE_COPY_DONE (R347). -/
  | cloneCopyDone (layer : Nat)
  /-- CLONE_START (R347). -/
  | cloneStart (ctx layer source : Nat) (stores : List (Nat × Nat × Int))
  /-- SURFACE_ALLOCATE (R329). -/
  | surfaceAllocate (ctx surface : Nat) (stores : List (Nat × Nat × Int))
  /-- SURFACE_FREE (R330). -/
  | surfaceFree (ctx surface : Nat)
  /-- LAYER_SURFACE_STORE (R339). -/
  | layerSurfaceStore (ctx layer surface : Nat)
  /-- START_OF_BLANKING (R348). -/
  | startOfBlanking (head : Nat)
  /-- SCANOUT_START (R352). -/
  | scanoutStart (ctx head : Nat)
  /-- MODE_RESTART_DONE (R352). -/
  | modeRestartDone (head us : Nat)
  /-- FRAME_START (R354). -/
  | frameStart (head : Nat)
  /-- LINE_MATCH (R350). -/
  | lineMatch (head : Nat)
  /-- FRAME_DONE (R350). -/
  | frameDone (head : Nat)
  /-- LINE_UNDERRUN (R361). -/
  | lineUnderrun (head line : Nat)
  /-- SINK_ABSENT (R360). -/
  | sinkAbsent (head : Nat)
  /-- SINK_PRESENT (R360). -/
  | sinkPresent (head caps : Nat) (edid : List Nat) (answered intact : Bool)
  /-- HPD_IRQ (R360). -/
  | hpdIrq (head : Nat) (lost : Bool)
  /-- DP_TRAINING_DONE (R360). -/
  | dpTrainingDone (head : Nat) (ok : Bool)
  /-- DP_TRAIN_RETRY (R360). -/
  | dpTrainRetry (head : Nat)
  /-- REF_LOST (R370). -/
  | refLost
  /-- REF_RESTORED (R370). -/
  | refRestored (ms : Nat)
  /-- PTP_SYNC (R375). -/
  | ptpSync (port : Nat) (msg : List Byte)
  /-- PTP_FOLLOW_UP (R375). -/
  | ptpFollowUp (port : Nat) (msg : List Byte)
  /-- PTP_DELAY_REQ (R381). -/
  | ptpDelayReq (port : Nat) (msg : List Byte)
  /-- PTP_DELAY_RESP (R375). -/
  | ptpDelayResp (port : Nat) (msg : List Byte)
  /-- PTP_PDELAY_REQ (R385). -/
  | ptpPdelayReq (port : Nat) (msg : List Byte)
  /-- PTP_PDELAY_RESP (R385). -/
  | ptpPdelayResp (port : Nat) (msg : List Byte)
  /-- PTP_ANNOUNCE (R381). -/
  | ptpAnnounce (port : Nat) (msg : List Byte)
  /-- PTP_UNSUPPORTED (R382). -/
  | ptpUnsupported (port : Nat) (msg : List Byte)
  /-- PTP_SYNC_TX_TIMER (R385). -/
  | ptpSyncTxTimer (port : Nat)
  /-- PTP_PDELAY_TX_TIMER (R385). -/
  | ptpPdelayTxTimer (port : Nat)
  /-- PTP_ANNOUNCE_TX_TIMER (R381). -/
  | ptpAnnounceTxTimer (port : Nat)
  /-- SYNC_LOSS_TIMEOUT (R374). -/
  | syncLossTimeout
  /-- CLOCK_STEP (R376). -/
  | clockStep (ctx : Nat) (ns : Int) (force : Bool)
  /-- RATE_CHANGE (R372). -/
  | rateChange (ctx : Nat) (rate : Int)
  /-- HOST_LOCK_COMMIT (R374). -/
  | hostLockCommit (ctx value : Nat)
  /-- TRIGGER_ARM (R387). -/
  | triggerArm (ctx trigger : Nat) (stores : List (Nat × Nat × Int))
  /-- TRIGGER_FIRE (R387). -/
  | triggerFire (trigger : Nat)
  /-- CUE_PULSE_END (R389). -/
  | cuePulseEnd (cue : Nat)
  /-- PPS_PULSE (R389). -/
  | ppsPulse
  /-- PPS_PULSE_END (R389). -/
  | ppsPulseEnd
  /-- STORAGE_TLP_FROM_HOST (R399). -/
  | storageTlpFromHost (l slot : Nat) (msg : List Byte)
  /-- STORAGE_TLP_FROM_SLOT (R399). -/
  | storageTlpFromSlot (n : Nat) (tlp : List Byte)
  /-- SLOT_PRESENCE (R403). -/
  | slotPresence (n : Nat)
  /-- SLOT_POWER_GOOD (R403). -/
  | slotPowerGood (n : Nat)
  /-- SLOT_PERST_RELEASE (R403). -/
  | slotPerstRelease (n : Nat)
  /-- SLOT_LINK_UP (R403). -/
  | slotLinkUp (n gen width mps : Nat)
  /-- SLOT_TRAIN_TIMEOUT (R403). -/
  | slotTrainTimeout (n : Nat)
  /-- SLOT_ENABLE_CHANGE (R403). -/
  | slotEnableChange (ctx n value : Nat)
  /-- SURPRISE_REMOVAL (R404). -/
  | surpriseRemoval (n : Nat)
  /-- SLOT_LINK_DOWN (R404). -/
  | slotLinkDown (n : Nat)
  /-- POSTED_WRITE_ACK (R404). -/
  | postedWriteAck (n count : Nat)
  /-- CPL_TIMEOUT (R409). -/
  | cplTimeout (n : Nat) (toHost : Bool)
  /-- HANDOVER_DRAIN_END (R412). -/
  | handoverDrainEnd (n : Nat)
  /-- HANDOVER_PERST_END (R412). -/
  | handoverPerstEnd (n : Nat)
  /-- HOLD_DEFER_END (R410). -/
  | holdDeferEnd (l : Nat)
  /-- FAR_BUS_LOCK_TIMEOUT (R407). -/
  | farBusLockTimeout (n : Nat)
  /-- ACCESS (R420). -/
  | access (l slot : Nat) (msg : List Byte)
  /-- BRANCH_TRANSACTION_DONE (R421). -/
  | branchTransactionDone (n status cause pieces : Nat) (data : List Byte)
  /-- CAN_FRAME_RECEIVED (R425). -/
  | canFrameReceived (n addr : Nat) (data : List Byte) (remote : Bool)
  /-- CAN_TX_PERIOD (R431). -/
  | canTxPeriod (n frame : Nat)
  /-- CAN_ERROR_STATE (R433). -/
  | canErrorState (n st tec rec_ : Nat)
  /-- I2C_POLL (R432). -/
  | i2cPoll (entry : Nat)
  /-- SIGNALS_FLUSH_TIMER (R429). -/
  | signalsFlushTimer (l slot : Nat)
  /-- SIGNAL_SET (R430). -/
  | signalSet (l slot : Nat) (msg : List Byte)
  /-- SIGNAL_ENABLE (R428). -/
  | signalEnable (ctx entry : Nat) (stores : List (Nat × Nat × Int))
  /-- GPIO_EDGE (R433). -/
  | gpioEdge (levels : Nat)
  /-- I2C_TARGET_WRITE (R434). -/
  | i2cTargetWrite (n reg : Nat) (data : List Byte)
  /-- I2C_TARGET_READ (R434). -/
  | i2cTargetRead (n reg len : Nat)
  /-- TARGET_REPLY (R434). -/
  | targetReply (l slot : Nat) (msg : List Byte)
  /-- TARGET_REPLY_TIMEOUT (R434). -/
  | targetReplyTimeout (n reg : Nat)
  /-- SPLIT_HOLD_EXPIRY (R434). -/
  | splitHoldExpiry (n reg : Nat)
  /-- I2C_RECOVERY_RETRY (R436). -/
  | i2cRecoveryRetry (n : Nat) (recovered : Bool)
  /-- BRANCH_MODE_COMMIT (R435). -/
  | branchModeCommit (ctx n : Nat) (stores : List (Nat × Nat × Int))
  /-- CAN_TX_PERIOD_COMMIT (R431). -/
  | canTxPeriodCommit (ctx n frame period : Nat)
  /-- USB_POWERED (R443). -/
  | usbPowered (n : Nat)
  /-- USB_CONNECT (R443). -/
  | usbConnect (n speed : Nat)
  /-- USB_DISCONNECT (R443). -/
  | usbDisconnect (n : Nat)
  /-- USB_BOUNCE_HOLD_END (R452). -/
  | usbBounceHoldEnd (n : Nat)
  /-- PORT_RESET (R454). -/
  | portReset (ctx n : Nat)
  /-- USB_RESET_DONE (R443). -/
  | usbResetDone (n outcome speed refusal vid pid cls : Nat)
  /-- PORT_SUSPEND (R443). -/
  | portSuspend (ctx n : Nat)
  /-- PORT_RESUME (R457). -/
  | portResume (ctx n : Nat) (deviceK : Bool)
  /-- USB_RESUME_DONE (R443). -/
  | usbResumeDone (n : Nat)
  /-- PORT_POWER (R453). -/
  | portPower (ctx n : Nat) (want : Bool)
  /-- PORT_ENABLE_CLEAR (R443). -/
  | portEnableClear (ctx n : Nat)
  /-- PORT_TEST (R441). -/
  | portTest (ctx n mode : Nat)
  /-- USB_DEVICE_WAKE (R457). -/
  | usbDeviceWake (n : Nat)
  /-- USB_BABBLE (R453). -/
  | usbBabble (n index : Nat)
  /-- USB_MODE_CHANGE (R467). -/
  | usbModeChange (ctx n mode : Nat)
  /-- TRANSFER (R450). -/
  | transfer (l slot need : Nat) (msg : List Byte)
  /-- TRANSFER_DONE (R450). -/
  | transferDone (n index status actual : Nat) (data : List Byte) (lens : List Nat)
  /-- CANCEL (R450). -/
  | cancel (l slot : Nat) (msg : List Byte)
  /-- BUS_SUSPEND (R456). -/
  | busSuspend (l slot : Nat) (msg : List Byte)
  /-- BUS_RESUME (R456). -/
  | busResume (l slot : Nat) (msg : List Byte)
  /-- BUS_RESET (R454). -/
  | busReset (l slot : Nat) (msg : List Byte)
  /-- PROXY_POINTER_REPORT (R460). -/
  | proxyPointerReport (n len : Nat) (absolute : Bool) (x y : Int) (buttons wheel pan : Nat)
  /-- PROXY_KEYBOARD_REPORT (R461). -/
  | proxyKeyboardReport (n len : Nat) (consumer : Bool) (report : List Byte)
  /-- LEGACY_BUS_RESET (R464). -/
  | legacyBusReset (l stage speed : Nat) (outCut inCut : Bool)
  /-- LEGACY_SUSPEND (R456). -/
  | legacySuspend (l : Nat)
  /-- LEGACY_RESUME (R456). -/
  | legacyResume (l : Nat)
  /-- LEGACY_WAKE_SIGNAL (R457). -/
  | legacyWakeSignal (l : Nat) (hostFirst : Bool)
  /-- LEGACY_IDLE_RESET (R465). -/
  | legacyIdleReset (l : Nat)
  /-- LEGACY_ENABLE_CHANGE (R462). -/
  | legacyEnableChange (ctx l value : Nat)
  /-- GET_STATUS (R463). -/
  | getStatus (l fn : Nat) (setup : List Byte)
  /-- CLEAR_FEATURE (R463). -/
  | clearFeature (l fn : Nat) (setup : List Byte)
  /-- SET_FEATURE (R463). -/
  | setFeature (l fn : Nat) (setup : List Byte)
  /-- SET_ADDRESS (R463). -/
  | setAddress (l fn : Nat) (setup : List Byte)
  /-- GET_DESCRIPTOR (R463). -/
  | getDescriptor (l fn : Nat) (setup : List Byte)
  /-- GET_CONFIGURATION (R463). -/
  | getConfiguration (l fn : Nat) (setup : List Byte)
  /-- SET_CONFIGURATION (R463). -/
  | setConfiguration (l fn : Nat) (setup : List Byte)
  /-- GET_INTERFACE (R463). -/
  | getInterface (l fn : Nat) (setup : List Byte)
  /-- SET_INTERFACE (R463). -/
  | setInterface (l fn : Nat) (setup : List Byte)
  /-- CLEAR_TT_BUFFER (R463). -/
  | clearTtBuffer (l fn : Nat) (setup : List Byte)
  /-- RESET_TT (R463). -/
  | resetTt (l fn : Nat) (setup : List Byte)
  /-- UNSUPPORTED_REQUEST (R463). -/
  | unsupportedRequest (l fn : Nat) (setup data : List Byte)
  /-- FEED_EVALUATION (R472). -/
  | feedEvaluation (samples : List (Int × Nat × Nat)) (vhv : Nat)
  /-- FAST_TRIP (R473). -/
  | fastTrip (n : Nat) (amps : Int)
  /-- FEED_RETRY_TIMER (R477). -/
  | feedRetryTimer (n : Nat)
  /-- FEED_RETRY_COUNT_RESET (R477). -/
  | feedRetryCountReset (n : Nat)
  /-- LATCH_CLEAR (R476). -/
  | latchClear (ctx n : Nat)
  /-- MEASUREMENT_RECORD (R478). -/
  | measurementRecord
  /-- POWER_REQ (R482). -/
  | powerReq (l : Nat) (body : List Byte)
  /-- POWER_ACK (R483). -/
  | powerAck (l : Nat) (body : List Byte)
  /-- POWER_REDUCE_TIMEOUT (R483). -/
  | powerReduceTimeout (l : Nat)
  /-- CHARGE_BUDGET_COMMIT (R483). -/
  | chargeBudgetCommit (ctx value : Nat)
  /-- RNG_FAULT (R495). -/
  | rngFault (test : Nat)
  /-- RNG_RECOVERED (R495). -/
  | rngRecovered
  /-- ATTEST_REQ (R509). -/
  | attestReq (ch : Chan) (msg : List Byte)
  /-- MGMT_SEALED_DATAGRAM (R507). -/
  | mgmtSealedDatagram (mac : Nat) (frames : List (List Byte))
  /-- MGMT_SESSION_IDLE (R507). -/
  | mgmtSessionIdle
  /-- SEALED_MESSAGE (R508). -/
  | sealedMessage (l : Nat) (msg : List Byte)
  /-- KEYSLOT_CLAIM (R512). -/
  | keyslotClaim (ctx k kind : Nat)
  /-- KEYSLOT_HMAC (R513). -/
  | keyslotHmac (ctx k : Nat) (input : List Nat)
  /-- KEYSLOT_SIGN (R513). -/
  | keyslotSign (ctx k : Nat) (input : List Nat)
  /-- KEYSLOT_OP_DONE (R513). -/
  | keyslotOpDone (k : Nat)
  /-- MEASURE_EXTEND (R497). -/
  | measureExtend (ctx : Nat) (digest : List Nat)
  /-- TAMPER_EVENT (R515). -/
  | tamperEvent (low : Bool)
  /-- TAMPER_CLEAR (R516). -/
  | tamperClear (ctx : Nat)
  /-- LC_ADVANCE (R519). -/
  | lcAdvance (ctx value : Nat)
  /-- UPDATE_PIECE (R527). -/
  | updatePiece (ch : Chan) (msg : List Byte)
  /-- UPDATE_ABORT (R527). -/
  | updateAbort (ch : Chan) (msg : List Byte)
  /-- PIECE_PROGRAMMED (R528). -/
  | pieceProgrammed (p : Nat) (ok : Bool)
  /-- UPDATE_AGE_DISCARD (R531). -/
  | updateAgeDiscard (p : Nat)
  /-- ACTIVATE (R533). -/
  | activate (ctx : Nat)
  /-- ACTIVATION_STEP_DONE (R534). -/
  | activationStepDone (us : Nat)
  /-- CONFIRM (R536). -/
  | confirm (ctx : Nat)
  /-- AUTO_CONFIRM_EXPIRY (R536). -/
  | autoConfirmExpiry
  /-- LEDGER_AUDIT (R544). -/
  | ledgerAudit (errors : List (Nat × Nat × Int))
  /-- LEDGER_REREAD (R544). -/
  | ledgerReread (n : Nat) (fails : Bool)
  /-- LEDGER_RECOUNT (R544). -/
  | ledgerRecount (n pause : Nat) (items : List (Nat × List Nat))
  /-- PORT_STALL (R550). -/
  | portStall (port : Nat)
  /-- ECC_CORRECTED_ERROR (R551). -/
  | eccCorrectedError (memory head page : Nat)
  /-- ECC_UNCORRECTABLE_ERROR (R551). -/
  | eccUncorrectableError (memory unit addr hit : Nat)
  /-- GOVERNOR_TICK (R554). -/
  | governorTick (power sense readback : Nat) (paces : List Nat)
  /-- SPRINT_DEMAND_WINDOW (R555). -/
  | sprintDemandWindow (waited : Bool)
  /-- VCORE_RAMP_DONE (R555). -/
  | vcoreRampDone
  /-- SPRINT_LIFETIME_CHARGE (R559). -/
  | sprintLifetimeCharge
  /-- THERMAL_SENSOR_SAMPLE (R558). -/
  | thermalSensorSample (k : Nat) (reading : Int)
  /-- THERMAL_SHUTDOWN (R560). -/
  | thermalShutdown (k : Nat)
  /-- POWER_TARGET_DESK_STANDBY (R567). -/
  | powerTargetDeskStandby (ctx : Nat)
  /-- POWER_TARGET_RUNNING (R569). -/
  | powerTargetRunning (ctx : Nat)
  /-- POWER_TARGET_DEEP_STANDBY (R570). -/
  | powerTargetDeepStandby (ctx : Nat)
  /-- STANDBY_IDLE_EXPIRY (R567). -/
  | standbyIdleExpiry
  /-- DESK_STANDBY_WAKE (R569). -/
  | deskStandbyWake (source : Nat)
  /-- DEEP_STANDBY_SHUTDOWN (R570). -/
  | deepStandbyShutdown
  /-- PWRBTN_PRESS (R571). -/
  | pwrbtnPress (ms : Nat)
  /-- PWRBTN_HOLD (R570). -/
  | pwrbtnHold
  /-- SIDEBAND_WAKE_PULSE (R571). -/
  | sidebandWakePulse (l : Nat)
  /-- VHV_RISE (R571). -/
  | vhvRise
  /-- VHV_LOSS (R571). -/
  | vhvLoss
  /-- RAIL_STEP_COMPLETE (R572). -/
  | railStepComplete
  /-- RAIL_STEP_TIMEOUT (R573). -/
  | railStepTimeout
  /-- RAIL_SEQUENCE_RETRY (R573). -/
  | railSequenceRetry
  /-- RAIL_LOST (R573). -/
  | railLost
  /-- START_UP (R575). -/
  | startUp (facts : StartFacts)
  /-- REFERENCE_ABSENT (R576). -/
  | referenceAbsent
  /-- RESET_N (R580). -/
  | resetN
  /-- WARM_RESET (R582). -/
  | warmReset (ctx : Nat) (same : Bool)
  /-- WATCHDOG_RESET (R582). -/
  | watchdogReset
  /-- PMF_WATCHDOG (R582). -/
  | pmfWatchdog
  /-- HELD_CONTEXT_EXPIRY (R582). -/
  | heldContextExpiry (n : Nat)
  /-- CONTEXT_RESET (R583). -/
  | contextReset (ctx n : Nat)
  /-- F15_CONFIG_STORE (R574). -/
  | f15ConfigStore (ctx elem value : Nat)
  /-- RESET_N_RELEASE (R580). -/
  | resetNRelease
  /-- VWAKE_FIRST_APPLIED (R580). -/
  | vwakeFirstApplied
  /-- VWAKE_LOSS (R615). -/
  | vwakeLoss
  /-- DEPOT_SELF_REFRESH_RETURN (R568). -/
  | depotSelfRefreshReturn
  /-- LKF_LANDING_AWAIT_EXPIRY (R535). -/
  | lkfLandingAwaitExpiry (l : Nat)
  /-- POWERED_TIME_UPDATE (R531). -/
  | poweredTimeUpdate
  /-- FOLLOW_UP_TIMEOUT (R391). -/
  | followUpTimeout (port : Nat)
  deriving DecidableEq, Repr

end Sys2Proof
end

