-- ==== Sys2Proof/Decode.lean ====
section
/-! DEFINITION. The words of Knaen instructions (R54, R57): the encoder from the spec's formats, the decoder back, total
on every 32-bit word, and the decoder the opcode table's bits would give. -/

namespace Sys2Proof

/-- Format A (R54): opcode, wd, wa, wb, func. -/
def wordA (op : BitVec 6) (wd wa wb : RegNo) (func : BitVec 14) : Word := op ++ wd ++ wa ++ wb ++ func

/-- Formats I and B (R54): opcode, wd or cond, wa, imm18 or offset. -/
def wordI (op : BitVec 6) (wd wa : RegNo) (imm : BitVec 18) : Word := op ++ wd ++ wa ++ imm

/-- Format F (R54): opcode, wv, wh, field, modifier. -/
def wordF (op : BitVec 6) (wv wh : RegNo) (field : BitVec 12) (modifier : BitVec 6) : Word :=
  op ++ wv ++ wh ++ field ++ modifier

/-- Format E (R54): opcode, wa, wb, kind, index. -/
def wordE (op : BitVec 6) (wa wb : RegNo) (kind : BitVec 4) (index : BitVec 14) : Word :=
  op ++ wa ++ wb ++ kind ++ index

/-- The program and the word of a Knaen instruction; none for a command that is not one. -/
def knaenWord : Instr → Option (ProgId × Word)
  | .halt p wd wa wb func => some (p, wordA 0x00#6 wd wa wb func)
  | .nop p wd wa wb func => some (p, wordA 0x01#6 wd wa wb func)
  | .lit p wd wa imm => some (p, wordI 0x02#6 wd wa imm)
  | .litw p wd wa imm => some (p, wordI 0x03#6 wd wa imm)
  | .mov p wd wa wb func => some (p, wordA 0x04#6 wd wa wb func)
  | .add p wd wa wb func => some (p, wordA 0x05#6 wd wa wb func)
  | .addi p wd wa imm => some (p, wordI 0x06#6 wd wa imm)
  | .sub p wd wa wb func => some (p, wordA 0x07#6 wd wa wb func)
  | .mul p wd wa wb func => some (p, wordA 0x08#6 wd wa wb func)
  | .mulh p wd wa wb func => some (p, wordA 0x09#6 wd wa wb (func ++ 0#1))
  | .mulhu p wd wa wb func => some (p, wordA 0x09#6 wd wa wb (func ++ 1#1))
  | .and p wd wa wb func => some (p, wordA 0x0a#6 wd wa wb func)
  | .or p wd wa wb func => some (p, wordA 0x0b#6 wd wa wb func)
  | .xor p wd wa wb func => some (p, wordA 0x0c#6 wd wa wb func)
  | .andi p wd wa imm => some (p, wordI 0x0d#6 wd wa imm)
  | .ori p wd wa imm => some (p, wordI 0x0e#6 wd wa imm)
  | .shl p wd wa wb func => some (p, wordA 0x0f#6 wd wa wb func)
  | .shr p wd wa wb func => some (p, wordA 0x10#6 wd wa wb func)
  | .sar p wd wa wb func => some (p, wordA 0x11#6 wd wa wb func)
  | .min p wd wa wb func => some (p, wordA 0x12#6 wd wa wb (func ++ 0#1))
  | .minu p wd wa wb func => some (p, wordA 0x12#6 wd wa wb (func ++ 1#1))
  | .max p wd wa wb func => some (p, wordA 0x13#6 wd wa wb (func ++ 0#1))
  | .maxu p wd wa wb func => some (p, wordA 0x13#6 wd wa wb (func ++ 1#1))
  | .cmp p wd wa wb func => some (p, wordA 0x14#6 wd wa wb func)
  | .br p cond wa offset => some (p, wordI 0x15#6 cond wa offset)
  | .call p cond wa offset => some (p, wordI 0x16#6 cond wa offset)
  | .ret p cond wa offset => some (p, wordI 0x17#6 cond wa offset)
  | .executeReservedOpcode p opcode rest => some (p, opcode ++ rest)
  | .openObject p wd wa imm => some (p, wordI 0x18#6 wd wa imm)
  | .get p wv wh field modifier => some (p, wordF 0x19#6 wv wh field modifier)
  | .gets p wv wh field modifier => some (p, wordF 0x1d#6 wv wh field modifier)
  | .set p wv wh field modifier => some (p, wordF 0x1a#6 wv wh field modifier)
  | .setx p wv wh field modifier => some (p, wordF 0x1b#6 wv wh field modifier)
  | .setm p wv wh field modifier => some (p, wordF 0x1c#6 wv wh field modifier)
  | .commitNow p wa wb index => some (p, wordE 0x1e#6 wa wb 0#4 index)
  | .commitRefill p wa wb index => some (p, wordE 0x1e#6 wa wb 1#4 index)
  | .commitBlanking p wa wb index => some (p, wordE 0x1e#6 wa wb 2#4 index)
  | .commitTime p wa wb index => some (p, wordE 0x1e#6 wa wb 3#4 index)
  | .commitCycle p wa wb index => some (p, wordE 0x1e#6 wa wb 4#4 index)
  | .commitQuiet p wa wb index => some (p, wordE 0x1e#6 wa wb 5#4 index)
  | .commitReservedKind p wa wb kind index => some (p, wordE 0x1e#6 wa wb kind index)
  | .abandon p wd wa wb func => some (p, wordA 0x1f#6 wd wa wb func)
  | .waitNow p wa wb index => some (p, wordE 0x20#6 wa wb 0#4 index)
  | .waitRefill p wa wb index => some (p, wordE 0x20#6 wa wb 1#4 index)
  | .waitBlanking p wa wb index => some (p, wordE 0x20#6 wa wb 2#4 index)
  | .waitTime p wa wb index => some (p, wordE 0x20#6 wa wb 3#4 index)
  | .waitCycle p wa wb index => some (p, wordE 0x20#6 wa wb 4#4 index)
  | .waitQuiet p wa wb index => some (p, wordE 0x20#6 wa wb 5#4 index)
  | .waitDelay p wa wb kind index => some (p, wordE 0x20#6 wa wb kind index)
  | .own p wd wa imm => some (p, wordI 0x21#6 wd wa (0#1 ++ imm))
  | .ownForce p wd wa imm => some (p, wordI 0x21#6 wd wa (1#1 ++ imm))
  | .yield p wd wa imm => some (p, wordI 0x22#6 wd wa (0#1 ++ imm))
  | .yieldForce p wd wa imm => some (p, wordI 0x22#6 wd wa (1#1 ++ imm))
  | .note p wd wa wb func => some (p, wordA 0x23#6 wd wa wb func)
  | .timeLocal p wd wa wb func => some (p, wordA 0x24#6 wd wa wb (func ++ 0#1))
  | .timeNetwork p wd wa wb func => some (p, wordA 0x24#6 wd wa wb (func ++ 1#1))
  | .xfer p wa wb kind index => some (p, wordE 0x25#6 wa wb kind index)
  | .release p wd wa wb func => some (p, wordA 0x26#6 wd wa wb func)
  | .ext p wd wa wb func => some (p, wordA 0x30#6 wd wa wb func)
  | .ins p wd wa wb func => some (p, wordA 0x31#6 wd wa wb func)
  | .scale p wd wa wb func => some (p, wordA 0x32#6 wd wa wb func)
  | .look p wd wa wb func => some (p, wordA 0x33#6 wd wa wb func)
  | .fwd p wa wb kind index => some (p, wordE 0x34#6 wa wb (kind ++ 0#1) index)
  | .fwdReplace p wa wb kind index => some (p, wordE 0x34#6 wa wb (kind ++ 1#1) index)
  | .drop p wd wa wb func => some (p, wordA 0x35#6 wd wa wb func)
  | .mirr p wa wb kind index => some (p, wordE 0x36#6 wa wb kind index)
  | .stamp p wa wb kind index => some (p, wordE 0x37#6 wa wb (0#1 ++ kind) index)
  | .stampEgress p wa wb kind index => some (p, wordE 0x37#6 wa wb (1#1 ++ kind) index)
  | .corr p wa wb kind index => some (p, wordE 0x38#6 wa wb kind index)
  | .csumCompute p wd wa wb func => some (p, wordA 0x39#6 wd wa wb func)
  | .csumFix p wd wa wb func => some (p, wordA 0x39#6 wd wa wb (func ++ 1#2))
  | .emit p wa wb kind index => some (p, wordE 0x3a#6 wa wb kind index)
  | .count p wa wb kind index => some (p, wordE 0x3b#6 wa wb kind index)
  | _ => none

/-- The Knaen instruction a word spells (R54, R57), executed by program p; every reserved opcode is a word of R58. -/
def knaenDecode (p : ProgId) (w : Word) : Instr :=
  let op : BitVec 6 := w.extractLsb' 26 6
  let a : RegNo := w.extractLsb' 22 4
  let b : RegNo := w.extractLsb' 18 4
  let c : RegNo := w.extractLsb' 14 4
  let func : BitVec 14 := w.extractLsb' 0 14
  let imm : BitVec 18 := w.extractLsb' 0 18
  let field : BitVec 12 := w.extractLsb' 6 12
  let modifier : BitVec 6 := w.extractLsb' 0 6
  match op.toNat with
  | 0x00 => .halt p a b c func
  | 0x01 => .nop p a b c func
  | 0x02 => .lit p a b imm
  | 0x03 => .litw p a b imm
  | 0x04 => .mov p a b c func
  | 0x05 => .add p a b c func
  | 0x06 => .addi p a b imm
  | 0x07 => .sub p a b c func
  | 0x08 => .mul p a b c func
  | 0x09 => if func.getLsbD 0 then .mulhu p a b c (func.extractLsb' 1 13) else .mulh p a b c (func.extractLsb' 1 13)
  | 0x0a => .and p a b c func
  | 0x0b => .or p a b c func
  | 0x0c => .xor p a b c func
  | 0x0d => .andi p a b imm
  | 0x0e => .ori p a b imm
  | 0x0f => .shl p a b c func
  | 0x10 => .shr p a b c func
  | 0x11 => .sar p a b c func
  | 0x12 => if func.getLsbD 0 then .minu p a b c (func.extractLsb' 1 13) else .min p a b c (func.extractLsb' 1 13)
  | 0x13 => if func.getLsbD 0 then .maxu p a b c (func.extractLsb' 1 13) else .max p a b c (func.extractLsb' 1 13)
  | 0x14 => .cmp p a b c func
  | 0x15 => .br p a b imm
  | 0x16 => .call p a b imm
  | 0x17 => .ret p a b imm
  | 0x18 => .openObject p a b imm
  | 0x19 => .get p a b field modifier
  | 0x1a => .set p a b field modifier
  | 0x1b => .setx p a b field modifier
  | 0x1c => .setm p a b field modifier
  | 0x1d => .gets p a b field modifier
  | 0x1e =>
    match c.toNat with
    | 0 => .commitNow p a b func
    | 1 => .commitRefill p a b func
    | 2 => .commitBlanking p a b func
    | 3 => .commitTime p a b func
    | 4 => .commitCycle p a b func
    | 5 => .commitQuiet p a b func
    | _ => .commitReservedKind p a b c func
  | 0x1f => .abandon p a b c func
  | 0x20 =>
    match c.toNat with
    | 0 => .waitNow p a b func
    | 1 => .waitRefill p a b func
    | 2 => .waitBlanking p a b func
    | 3 => .waitTime p a b func
    | 4 => .waitCycle p a b func
    | 5 => .waitQuiet p a b func
    | _ => .waitDelay p a b c func
  | 0x21 => if imm.getLsbD 17 then .ownForce p a b (imm.extractLsb' 0 17) else .own p a b (imm.extractLsb' 0 17)
  | 0x22 => if imm.getLsbD 17 then .yieldForce p a b (imm.extractLsb' 0 17) else .yield p a b (imm.extractLsb' 0 17)
  | 0x23 => .note p a b c func
  | 0x24 => if func.getLsbD 0 then .timeNetwork p a b c (func.extractLsb' 1 13) else .timeLocal p a b c (func.extractLsb' 1 13)
  | 0x25 => .xfer p a b c func
  | 0x26 => .release p a b c func
  | 0x30 => .ext p a b c func
  | 0x31 => .ins p a b c func
  | 0x32 => .scale p a b c func
  | 0x33 => .look p a b c func
  | 0x34 => if c.getLsbD 0 then .fwdReplace p a b (c.extractLsb' 1 3) func else .fwd p a b (c.extractLsb' 1 3) func
  | 0x35 => .drop p a b c func
  | 0x36 => .mirr p a b c func
  | 0x37 => if c.getLsbD 3 then .stampEgress p a b (c.extractLsb' 0 3) func else .stamp p a b (c.extractLsb' 0 3) func
  | 0x38 => .corr p a b c func
  | 0x39 => if func.extractLsb' 0 2 == 1#2 then .csumFix p a b c (func.extractLsb' 2 12) else .csumCompute p a b c func
  | 0x3a => .emit p a b c func
  | 0x3b => .count p a b c func
  | _ => .executeReservedOpcode p op (w.extractLsb' 0 26)

/-- The command a word of the table of operations and events spells by the table's bits. The table gives no row any
bits, so no word spells a command (log entry 1). -/
def decodeTableWord (_nbits _w : Nat) : Option Instr := none

end Sys2Proof
end

