-- ==== Sys2Proof/Config.lean ====
section
/-! DEFINITION. What an implementation fixes and the spec leaves open: the opaque constants. None of them has a body, so a
claim about the model holds whatever they are. -/

namespace Sys2Proof.Config

/-- The free values of the model: the n-th value the spec does not state, as the step that meets it draws it.
The state's counter says which n comes next (log entry 5). -/
opaque freeValue : Nat → BitVec 64

/-- SHA-384 of a byte list (R8), as a function the model leaves uninterpreted (log entry 6). -/
opaque sha384 : List Byte → BitVec 384

/-- HMAC-SHA-384 under a key (R491, R504, R513), also HKDF-Extract with its salt as key, uninterpreted (log entry 6). -/
opaque hmacSha384 : List Byte → List Byte → BitVec 384

/-- HKDF-Expand with HMAC-SHA-384 (R498): from a key, an info string and a length in bytes, the bytes as a big-endian
number, uninterpreted (log entry 6). -/
opaque hkdfExpand : List Byte → List Byte → Nat → Nat

/-- Whether an ECDSA P-384 signature r‖s over a 48-byte hash verifies under an uncompressed public key, uninterpreted
(log entry 6). -/
opaque ecdsaVerify : List Byte → List Byte → List Byte → Bool

/-- The ECDSA P-384 signature r‖s of a 48-byte hash under a private scalar (R510, R513), uninterpreted (log entry 6). -/
opaque ecdsaSign : Nat → List Byte → BitVec 768

/-- The P-384 public key X‖Y of a private scalar (R499), uninterpreted (log entry 6). -/
opaque p384Public : Nat → BitVec 768

/-- Whether a 97-byte uncompressed public key is a valid P-384 point (R504), uninterpreted (log entry 6). -/
opaque p384Valid : List Byte → Bool

/-- The x-coordinate of the ECDH point of a private scalar and a public key (R504), uninterpreted (log entry 6). -/
opaque ecdh : Nat → List Byte → BitVec 384

/-- The AES-256-GCM tag under a key and a nonce of associated data and ciphertext (R204), uninterpreted (log entry 6). -/
opaque gcmTag : Nat → Nat → List Byte → List Byte → BitVec 128

/-- The AES-256-GCM keystream byte of a key and nonce at a position (R204), uninterpreted (log entry 6). -/
opaque gcmStream : Nat → Nat → Nat → Byte

/-- What a host certificate's DER says, as R503 reads it: its public key as 97 bytes, whether it parses with a P-384 key
and an ecdsa-with-SHA384 signature, whether it carries no other critical extension, cA, the path length it allows, whether
its keyUsage allows digitalSignature, and its validity in network seconds. -/
structure Cert where
  key : List Byte
  curve : Bool
  critical : Bool
  ca : Bool
  pathLen : Option Nat
  signs : Bool
  notBefore : Int
  notAfter : Int
  deriving DecidableEq, Repr, Inhabited

/-- The reading of a certificate's DER bytes, uninterpreted (log entry 6). -/
opaque certificate : List Byte → Cert

/-- Whether a certificate's signature verifies under a 97-byte public key, uninterpreted (log entry 6). -/
opaque certSigned : List Byte → List Byte → Bool

/-- The DER bytes of the device's certificate chain for an attestation key and a number of transition certificates (R502),
uninterpreted (log entry 6): as a list of certificates. -/
opaque deviceChain : Nat → Nat → List (List Byte)

/-- What a read-only configuration register of a virtual switch function reads as where neither R398 nor PCIe fixes it
(function 0 upstream, 1 and 2 downstream), a constant of the implementation (log entry 41). -/
opaque switchConfig : Nat → Nat → BitVec 32

/-- The HID report descriptor of an interface of the proxy HID device (R458 gives its reports, not its bytes), a constant of the
implementation (log entry 42). -/
opaque hidReport : Nat → List Byte

/-- Tratum's release key, held in the boot ROM as 97 bytes (R526), a constant of the implementation (log entry 6). -/
opaque releaseKey : List Byte

/-- The codeword of 1,023 bits for 453 data bits of the key block's BCH code (R491): its generator is not in the spec (log entry 81). -/
opaque bchEncode : Nat → Nat

/-- The codeword of that code nearest to 1,023 bits (R491; log entry 81). -/
opaque nearestCodeword : Nat → Nat

/-- The SHA-384 of the boot ROM (R496), a constant of the implementation (log entry 6). -/
opaque bootRom : BitVec 384

/-- e^(−1 s/TAU) for a TAU in ms, in units of 2^−32, as the governor computes it (R554): its rounding is not stated (log entry 50). -/
opaque decay : Nat → Nat

/-- What an infinity or a NaN of a half-precision component counts as, in 1/65,535 (R327 does not say; log entry 80). -/
opaque specialHalf : Nat → BitVec 18

/-- The scaler's four-tap filter: of a phase of 64 and four samples the sample it gives, in 1/65,535. Its fixed coefficients are not in the spec (R343; log
entry 80). -/
opaque polyphase : Nat → List Int → BitVec 32

/-- Red, green and blue, in 1/65,535, of a luma sample and its two chroma samples by a CSC code: the matrices and ranges R342 names are not in the spec
(log entry 80). -/
opaque toRgb : Nat → Int → Int → Int → BitVec 32 × BitVec 32 × BitVec 32

end Sys2Proof.Config
end

