-- ==== Sys2Proof/Machine/Bits.lean ====
section
/-! DEFINITION. Bit fields, sign extension, byte order and checksums over natural numbers and byte lists:
the helpers every layout of the spec is read and written with. -/

namespace Sys2Proof.Machine

/-- Bits [lo + w − 1 : lo] of a number. -/
def bits (n lo w : Nat) : Nat := n / 2 ^ lo % 2 ^ w

/-- Bit i of a number, as 0 or 1. -/
def bitN (n i : Nat) : Nat := n / 2 ^ i % 2

/-- Bit i of a number. -/
def bitB (n i : Nat) : Bool := n / 2 ^ i % 2 == 1

/-- The number with bit i set. -/
def setBit (n i : Nat) : Nat := if bitB n i then n else n + 2 ^ i

/-- The number with bit i cleared. -/
def clrBit (n i : Nat) : Nat := if bitB n i then n - 2 ^ i else n

/-- The number with bit i made b. -/
def putBit (n i : Nat) (b : Bool) : Nat := if b then setBit n i else clrBit n i

/-- A truth value as a field value 0 or 1. -/
def ofB (b : Bool) : Nat := if b then 1 else 0

/-- The two's complement code of an integer in w bits. -/
def encInt (w : Nat) (v : Int) : Nat := (v % (2 ^ w : Nat)).toNat

/-- The integer a w-bit two's complement code stands for. -/
def decInt (w n : Nat) : Int :=
  if n % 2 ^ w < 2 ^ (w - 1) then (n % 2 ^ w : Nat) else (n % 2 ^ w : Nat) - (2 ^ w : Nat)

/-- The k low-order bytes of a number, least significant first. -/
def leBytes : Nat → Nat → List Byte
  | 0, _ => []
  | k + 1, n => BitVec.ofNat 8 n :: leBytes k (n / 256)

/-- The number a little-endian byte list spells. -/
def leNat : List Byte → Nat
  | [] => 0
  | b :: bs => b.toNat + 256 * leNat bs

/-- The k low-order bytes of a number, most significant first (network order). -/
def beBytes (k n : Nat) : List Byte := (leBytes k n).reverse

/-- The number a network-order byte list spells. -/
def beNat (bs : List Byte) : Nat := leNat bs.reverse

/-- Byte i of a list, 0 beyond its end. -/
def byteAt (bs : List Byte) (i : Nat) : Nat := (bs.getD i 0).toNat

/-- The little-endian number in the k bytes from byte i. -/
def leAt (bs : List Byte) (i k : Nat) : Nat := leNat ((bs.drop i).take k)

/-- The network-order number in the k bytes from byte i. -/
def beAt (bs : List Byte) (i k : Nat) : Nat := beNat ((bs.drop i).take k)

/-- The list with its bytes from byte i overwritten by the given ones; its length stays. -/
def putBytes (bs : List Byte) (i : Nat) (new : List Byte) : List Byte :=
  (bs.take i ++ new ++ bs.drop (i + new.length)).take bs.length

/-- One bit of the reflected CRC-32C update with polynomial 0x82F6_3B78. -/
def crcBit (c : Nat) : Nat := if c % 2 == 1 then (c / 2) ^^^ 0x82F63B78 else c / 2

/-- One byte of the CRC-32C update. -/
def crcByte (c : Nat) (b : Byte) : Nat :=
  let x := c ^^^ b.toNat
  crcBit (crcBit (crcBit (crcBit (crcBit (crcBit (crcBit (crcBit x)))))))

/-- CRC-32C (Castagnoli) of a byte list: reflected, initial value and final inversion 0xFFFF_FFFF (the CRC-32C R20, R122 and R170 name; log entry 7). -/
def crc32c (bs : List Byte) : Nat := (bs.foldl crcByte 0xFFFFFFFF) ^^^ 0xFFFFFFFF

/-- The smaller multiple of s at or below n, counted from base. -/
def floorStep (base s n : Nat) : Nat := if s == 0 then n else base + (n - base) / s * s

/-- The next multiple of s at or above n, counted from base. -/
def ceilStep (base s n : Nat) : Nat := if s == 0 then n else base + (n - base + s - 1) / s * s

/-- The integer clamped to [lo, hi]. -/
def clampInt (lo hi v : Int) : Int := if v < lo then lo else if hi < v then hi else v

/-- A saturating sum at a given largest value. -/
def satAdd (max a b : Nat) : Nat := if a + b ≤ max then a + b else max

/-- The positions 0…n−1 for which p holds. -/
def indicesWhere (n : Nat) (p : Nat → Bool) : List Nat := (List.range n).filter p

/-- The first position 0…n−1 for which p holds. -/
def firstWhere (n : Nat) (p : Nat → Bool) : Option Nat := (List.range n).find? p

end Sys2Proof.Machine
end

