-- ==== Sys2Proof/Machine/Table.lean ====
section
/-! DEFINITION. Sparse tables in one canonical form: a list of (key, value) pairs with keys strictly rising
and no value equal to what an unlisted key reads as. Every object field, timer, register file and per-object record
of the machine is held in such a table, so equal contents are equal data. -/

namespace Sys2Proof.Machine

/-- A sparse table from keys to values. -/
structure Table (α : Type) where
  cells : List (Nat × α) := []
  deriving DecidableEq, Repr

/-- The value listed for a key. -/
def lookupCell {α : Type} : List (Nat × α) → Nat → Option α
  | [], _ => none
  | (k, v) :: t, j => if j == k then some v else lookupCell t j

/-- The list with a key's entry put in (some) or taken out (none), keys kept rising. -/
def putCell {α : Type} : List (Nat × α) → Nat → Option α → List (Nat × α)
  | [], j, some v => [(j, v)]
  | [], _, none => []
  | (k, v) :: t, j, w =>
    if j < k then
      match w with
      | some x => (j, x) :: (k, v) :: t
      | none => (k, v) :: t
    else if j == k then
      match w with
      | some x => (j, x) :: t
      | none => t
    else (k, v) :: putCell t j w

/-- Reading a key: its listed value, or the default of that key. -/
def Table.read {α : Type} (dflt : Nat → α) (t : Table α) (k : Nat) : α :=
  (lookupCell t.cells k).getD (dflt k)

/-- Writing a key. Writing the default removes the entry. -/
def Table.write {α : Type} [DecidableEq α] (dflt : Nat → α) (t : Table α) (k : Nat) (v : α) : Table α :=
  ⟨putCell t.cells k (if v = dflt k then none else some v)⟩

/-- Every key is above the given one and the keys rise strictly. -/
def risingFrom {α : Type} : Option Nat → List (Nat × α) → Bool
  | _, [] => true
  | none, (k, _) :: t => risingFrom (some k) t
  | some j, (k, _) :: t => decide (j < k) && risingFrom (some k) t

/-- The canonical form: keys strictly rising, no entry equal to its default. -/
def Table.wf {α : Type} [DecidableEq α] (dflt : Nat → α) (t : Table α) : Bool :=
  risingFrom none t.cells && t.cells.all (fun c => decide (c.2 ≠ dflt c.1))

end Sys2Proof.Machine
end

