-- ==== Sys2Proof/Machine/FieldMap.lean ====
section
/-! DEFINITION. The field maps: every class of R131 and every field of R164–R166, R209–R211, R243, R244, R281–R286,
R319–R324, R365–R367, R393–R395, R415, R438–R440, R467, R468, R489, R522, R541, R563–R565, R592 and R593, in the order
of their rows (R75), with type, range, step, reset value and Apply entry (R12–R14, R132). -/

namespace Sys2Proof.Machine

/-- The name of a field: class code (R131), number within the class (R75) and width in bits. -/
structure Fld where
  cls : Nat
  num : Nat
  width : Nat
  deriving DecidableEq, Repr

/-- The Type column (R13). -/
inductive FieldType where
  | unsigned
  | signed
  | enum
  | bitset
  deriving DecidableEq, Repr

/-- The Apply column (R14). -/
inductive Apply where
  | commit
  | refill
  | blanking
  | cycle
  | quiet
  | ro
  deriving DecidableEq, Repr

/-- Toward which end rounding and limits of a protective field resolve (R132). -/
inductive Safe where
  | none
  | low
  | high
  deriving DecidableEq, Repr

/-- One row of a field map (R12, R132). codes lists an enum's defined codes; extra is a code an unsigned range names
besides its interval; elems is the number of elements (1 for a field that is not an array). -/
structure FieldInfo where
  name : String
  width : Nat
  type : FieldType
  lo : Int
  hi : Int
  codes : List Nat
  step : Nat
  reset : Nat
  apply : Apply
  elems : Nat
  isArray : Bool
  safe : Safe
  fallback : Nat
  holderOnly : Bool
  deriving DecidableEq, Repr

/-- A row for an unsigned field. -/
def fu (name : String) (width : Nat) (lo hi : Int) (codes : List Nat) (step reset : Nat) (apply : Apply)
    (elems : Nat := 1) (isArray : Bool := false) (safe : Safe := .none) (holderOnly : Bool := false) : FieldInfo :=
  ⟨name, width, .unsigned, lo, hi, codes, step, reset, apply, elems, isArray, safe, reset, holderOnly⟩

/-- A row for a signed field. -/
def fs (name : String) (width : Nat) (lo hi : Int) (step reset : Nat) (apply : Apply)
    (elems : Nat := 1) (isArray : Bool := false) : FieldInfo :=
  ⟨name, width, .signed, lo, hi, [], step, reset, apply, elems, isArray, .none, reset, false⟩

/-- A row for an enum field. -/
def fe (name : String) (width : Nat) (codes : List Nat) (reset : Nat) (apply : Apply) (fallback : Nat)
    (elems : Nat := 1) (isArray : Bool := false) : FieldInfo :=
  ⟨name, width, .enum, 0, 0, codes, 1, reset, apply, elems, isArray, .none, fallback, false⟩

/-- A row for a bitset field; hi is the set of its defined bits. -/
def fb (name : String) (width : Nat) (mask reset : Nat) (apply : Apply)
    (elems : Nat := 1) (isArray : Bool := false) : FieldInfo :=
  ⟨name, width, .bitset, 0, mask, [], 1, reset, apply, elems, isArray, .none, reset, false⟩

/-- SYSTEM (R592), class 0x00. -/
def mapSystem : List FieldInfo := [
  fe "STEPPING" 8 [2] 2 .ro 2,
  fe "START_STATE" 3 [0, 1, 2, 3, 4] 0 .ro 0,
  fe "RESET_CAUSE" 4 [0, 1, 2, 3, 4, 5, 6] 0 .ro 0,
  fb "START_FAULTS" 8 255 0 .ro,
  fu "STARTS" 32 0 4294967295 [] 1 0 .ro,
  fu "BOOT_TIME" 32 0 4294967295 [] 1 0 .ro,
  fu "FIRST_PICTURE" 32 0 4294967295 [] 1 0 .ro,
  fe "POWER_STATE" 2 [0, 1, 2] 0 .ro 0,
  fe "POWER_TARGET" 2 [0, 1, 2] 0 .commit 0,
  fu "STANDBY_IDLE" 16 0 65535 [] 1 0 .commit,
  fb "WAKE_SOURCES" 10 1023 511 .commit,
  fb "DEEP_WAKE" 4 15 15 .commit,
  fu "AUTO_START" 1 0 1 [] 1 1 .commit,
  fu "WARM_RESET" 1 0 1 [] 1 0 .commit,
  fu "WATCHDOG_TIMEOUT" 14 500 10000 [] 100 2000 .commit,
  fu "WARM_RESETS" 32 0 4294967295 [] 1 0 .ro,
  fu "WATCHDOG_RESETS" 32 0 4294967295 [] 1 0 .ro,
  fu "F15_CONFIG" 32 0 4294967295 [] 1 0 .commit 24 true,
  fu "FLASH_ID" 32 0 4294967295 [] 1 0 .ro,
  fu "FLASH_SIZE" 13 0 4096 [] 1 0 .ro,
  fu "RING_WRITES" 32 0 4294967295 [] 1 0 .ro]

/-- CONTEXT (R593), class 0x01. -/
def mapContext : List FieldInfo := [
  fe "STATE" 2 [0, 1, 2] 0 .ro 0,
  fu "GUEST" 1 0 1 [] 1 0 .ro,
  fe "CHANNEL" 3 [0, 1, 2, 3, 4] 0 .ro 0,
  fu "PARTY_TAG" 32 0 4294967295 [] 1 0 .ro,
  fu "PARTY_LEVEL" 8 0 255 [] 1 0 .ro,
  fu "COMMIT_TIMEOUT" 16 1 60000 [] 1 1000 .commit,
  fu "RESET" 1 0 1 [] 1 0 .commit,
  fu "QUEUED" 4 0 8 [] 1 0 .ro,
  fu "WAITING_SETS" 3 0 4 [] 1 0 .ro,
  fu "RECEIPTS_WAITING" 5 0 16 [] 1 0 .ro,
  fu "RING_ENTRIES" 9 0 256 [] 1 0 .ro,
  fb "TOKENS" 64 18446744073709551615 0 .ro,
  fu "MANIFESTS" 64 0 18446744073709551615 [] 1 0 .ro,
  fu "UP_SINCE" 48 0 281474976710655 [] 1 0 .ro,
  fu "RESETS" 32 0 4294967295 [] 1 0 .ro,
  fu "PFL_ENTRY_LO" 64 0 18446744073709551615 [] 1 0 .ro 64 true .none true,
  fu "PFL_ENTRY_HI" 64 0 18446744073709551615 [] 1 0 .ro 64 true .none true,
  fu "PFL_HEAD" 32 0 4294967295 [] 1 0 .ro,
  fu "PFL_ACK" 32 0 4294967295 [] 1 0 .commit,
  fu "PFL_OVERFLOW" 32 0 4294967295 [] 1 0 .ro]

/-- NOTICE (R165), class 0x02. -/
def mapNotice : List FieldInfo := [
  fu "DELIVER" 1 0 1 [] 1 0 .commit 6 true,
  fu "TO_HOLDER" 1 0 1 [] 1 1 .commit,
  fu "TO_DESK" 1 0 1 [] 1 1 .commit,
  fe "SEVERITY" 3 [0, 1, 2, 3, 4, 5] 1 .commit 1,
  fu "RAISED" 64 0 18446744073709551615 [] 1 0 .ro,
  fb "PENDING" 6 63 0 .ro,
  fu "LAST_TIME" 48 0 281474976710655 [] 1 0 .ro,
  fu "LAST_PAYLOAD" 64 0 18446744073709551615 [] 1 0 .ro]

/-- LANDING (R209), class 0x03. -/
def mapLanding : List FieldInfo := [
  fe "STATE" 4 (List.range 12) 0 .ro 0,
  fe "VERSION" 8 [0, 16, 17, 32] 0 .ro 0,
  fe "RATE" 2 [0, 1, 2] 0 .ro 0,
  fb "PAIRS_IN" 4 15 0 .ro,
  fb "PAIRS_OUT" 4 15 0 .ro,
  fb "PAIRS_FAILED" 4 15 0 .ro,
  fu "CAP_IN" 32 0 170700 [] 1 0 .ro,
  fu "CAP_OUT" 32 0 170700 [] 1 0 .ro,
  fu "ALLOT_IN" 2 1 3 [] 1 2 .quiet,
  fu "AUTO_SWAP" 1 0 1 [] 1 1 .commit,
  fu "LIDLE_ENABLE" 1 0 1 [] 1 1 .commit,
  fu "LIDLE_ENTRY" 10 8 1000 [] 8 32 .commit,
  fu "SLEEP_ENABLE" 1 0 1 [] 1 1 .commit,
  fu "WAKE_HOST" 1 0 1 [] 1 1 .commit,
  fu "CREDIT_GRANT" 13 0 4096 [] 1 0 .commit 8 true,
  fu "PARTNER_CREDITS" 16 0 65535 [] 1 0 .ro 8 true,
  fu "DETECT_ENABLE" 1 0 1 [] 1 1 .commit,
  fu "AUTH_TIMEOUT" 14 100 10000 [] 100 2000 .commit,
  fu "GUEST" 1 0 1 [] 1 0 .ro,
  fu "REKEY" 1 0 1 [] 1 0 .commit,
  fu "KEY_EPOCH" 32 0 4294967295 [] 1 0 .ro,
  fu "PARTNER_VENDOR" 16 0 65535 [] 1 0 .ro,
  fu "PARTNER_PRODUCT" 16 0 65535 [] 1 0 .ro,
  fu "FLITS_TX" 64 0 18446744073709551615 [] 1 0 .ro,
  fu "FLITS_RX" 64 0 18446744073709551615 [] 1 0 .ro,
  fu "REPLAYS" 32 0 4294967295 [] 1 0 .ro,
  fu "RETRAINS" 32 0 4294967295 [] 1 0 .ro,
  fu "SWAPS" 32 0 4294967295 [] 1 0 .ro]

/-- PAIR (R211), class 0x04. -/
def mapPair : List FieldInfo := [
  fe "DIR" 2 [0, 1, 2] 0 .ro 0,
  fe "STATE" 3 [0, 1, 2, 3, 4, 5, 6] 0 .ro 0,
  fb "SWAP_READY" 2 3 0 .ro,
  fu "ENABLE" 1 0 1 [] 1 1 .quiet,
  fu "FEC_CORRECTED" 64 0 18446744073709551615 [] 1 0 .ro,
  fu "FEC_UNCORRECTABLE" 32 0 4294967295 [] 1 0 .ro,
  fu "CRC_ERRORS" 32 0 4294967295 [] 1 0 .ro,
  fu "EYE_HEIGHT" 16 0 65535 [] 1 0 .ro,
  fu "FAILURES" 32 0 4294967295 [] 1 0 .ro,
  fu "LAST_TRAIN" 48 0 281474976710655 [] 1 0 .ro]

/-- TUNNEL (R243), class 0x05. -/
def mapTunnel : List FieldInfo := [
  fe "STATE" 1 [0, 1] 0 .quiet 0,
  fe "CLASS" 3 [0, 1, 2, 3, 4, 5, 6] 0 .quiet 0,
  fu "INDEX" 12 0 4095 [] 1 0 .quiet,
  fe "CLASS_VERSION" 4 [1] 1 .quiet 1,
  fu "BINDING" 3 0 7 [] 1 0 .quiet,
  fu "RES_IN" 18 0 153630 [] 10 0 .quiet,
  fu "RES_OUT" 18 0 153630 [] 10 0 .quiet,
  fu "CEIL_IN" 18 10 170700 [] 10 170700 .quiet,
  fu "CEIL_OUT" 18 10 170700 [] 10 170700 .quiet,
  fu "WEIGHT" 8 1 255 [] 1 16 .quiet,
  fu "PRIORITY" 3 0 7 [] 1 4 .quiet,
  fu "PROGRAM" 6 0 63 [] 1 0 .commit,
  fu "PROGRAM_EN" 1 0 1 [] 1 0 .commit,
  fu "POLICER" 10 0 1023 [] 1 0 .commit,
  fu "POLICER_EN" 1 0 1 [] 1 0 .commit,
  fu "ADMITTED_IN" 18 0 153630 [] 10 0 .ro,
  fu "ADMITTED_OUT" 18 0 153630 [] 10 0 .ro,
  fu "ROUTE_ENTRY" 14 0 8191 [16383] 1 16383 .ro,
  fu "LEAF_OUT" 12 0 2047 [4095] 1 4095 .ro,
  fu "SEQ_OUT" 16 0 65535 [] 1 0 .ro,
  fu "SEQ_IN" 16 0 65535 [] 1 0 .ro,
  fu "SEQ_GAPS" 32 0 4294967295 [] 1 0 .ro,
  fu "MSGS_IN" 64 0 18446744073709551615 [] 1 0 .ro,
  fu "MSGS_OUT" 64 0 18446744073709551615 [] 1 0 .ro,
  fu "BYTES_IN" 64 0 18446744073709551615 [] 1 0 .ro,
  fu "BYTES_OUT" 64 0 18446744073709551615 [] 1 0 .ro,
  fu "MSG_DISCARDED" 32 0 4294967295 [] 1 0 .ro,
  fu "OPENED" 48 0 281474976710655 [] 1 0 .ro]

/-- CLASSBUDGET (R244), class 0x06. -/
def mapClassbudget : List FieldInfo := [
  fu "RES_MAX_IN" 18 0 153630 [] 10 153630 .quiet,
  fu "RES_MAX_OUT" 18 0 153630 [] 10 153630 .quiet,
  fu "GUEST_ALLOW" 1 0 1 [] 1 0 .commit,
  fu "GUEST_RES_MAX" 18 0 153630 [] 10 0 .quiet,
  fu "RES_SUM_IN" 18 0 153630 [] 10 0 .ro,
  fu "RES_SUM_OUT" 18 0 153630 [] 10 0 .ro,
  fu "ADMITTED_SUM_IN" 18 0 153630 [] 10 0 .ro,
  fu "ADMITTED_SUM_OUT" 18 0 153630 [] 10 0 .ro,
  fu "TUNNELS_OPEN" 12 0 2048 [] 1 0 .ro,
  fb "VERSIONS" 16 65535 2 .ro,
  fu "UNROUTED" 32 0 4294967295 [] 1 0 .ro,
  fu "CREDIT_DELAYED" 32 0 4294967295 [] 1 0 .ro]

/-- YARDPORT (R281), class 0x07. -/
def mapYardport : List FieldInfo := [
  fb "UP" 3 7 0 .ro,
  fu "FLUSH_DELAY" 14 0 10000 [] 1 5 .commit,
  fu "AGE_LIMIT" 20 1 1000000 [] 1 1000000 .commit 8 true,
  fb "HIGH_SERVICES" 8 255 119 .commit,
  fu "SLICE_LOSSY_MAX" 13 0 4096 [] 16 3072 .commit,
  fu "INCAST_INPUTS" 5 2 16 [] 1 4 .commit,
  fu "RES_RATE" 18 0 172800 [] 10 0 .ro,
  fu "LEARN_ENABLE" 1 0 1 [] 1 1 .commit,
  fu "LEARN_LIMIT" 16 1 50000 [] 1 500 .commit,
  fu "LEARN_AGE" 12 10 3600 [] 1 300 .commit,
  fu "SLICE_CELLS" 13 0 4096 [] 1 0 .ro,
  fu "CELLS_IN" 64 0 18446744073709551615 [] 1 0 .ro,
  fu "CELLS_OUT" 64 0 18446744073709551615 [] 1 0 .ro,
  fu "AGED" 32 0 4294967295 [] 1 0 .ro,
  fu "FLUSHED" 32 0 4294967295 [] 1 0 .ro,
  fu "DOWN_DISCARDS" 32 0 4294967295 [] 1 0 .ro,
  fu "INGRESS_LOSSY_DROPS" 32 0 4294967295 [] 1 0 .ro,
  fu "RECIRC_DROPS" 32 0 4294967295 [] 1 0 .ro]

/-- POOL (R283), class 0x08. -/
def mapPool : List FieldInfo := [
  fu "RESERVE" 17 0 65536 [] 16 0 .commit 8 true,
  fu "RESERVE_USED" 17 0 65536 [] 1 0 .ro 8 true,
  fu "CELLS" 19 0 262144 [] 1 0 .ro,
  fu "THRESHOLD_DROPS" 32 0 4294967295 [] 1 0 .ro 8 true,
  fu "PEAK_CELLS" 19 0 262144 [] 1 0 .ro,
  fu "FREE_SHARED" 19 0 262144 [] 1 0 .ro,
  fu "SHARED_TOTAL" 19 131072 262144 [] 1 208896 .ro,
  fu "LOW_MARK" 19 0 262144 [] 16 16384 .commit]

/-- QUEUE (R319), class 0x09. -/
def mapQueue : List FieldInfo := [
  fs "ALPHA_K" 3 (-4) 3 1 0 .commit,
  fe "MAC" 1 [0, 1] 0 .commit 0,
  fu "TRIGGER_HOLD" 1 0 1 [] 1 0 .commit,
  fu "CELLS" 19 0 262144 [] 1 0 .ro,
  fu "HELD" 1 0 1 [] 1 0 .ro,
  fu "MESSAGES_OUT" 64 0 18446744073709551615 [] 1 0 .ro,
  fu "BYTES_OUT" 64 0 18446744073709551615 [] 1 0 .ro,
  fu "TRIGGER_MISSED" 32 0 4294967295 [] 1 0 .ro]

/-- SERVICE (R320), class 0x0a. -/
def mapService : List FieldInfo := [
  fb "GATE" 2 3 3 .ro,
  fb "PAUSED" 2 3 0 .ro,
  fu "LONGEST_RUN" 30 0 1000000000 [] 8 0 .ro,
  fu "OVERSIZE_DROPS" 32 0 4294967295 [] 1 0 .ro,
  fu "MESSAGES_OUT" 64 0 18446744073709551615 [] 1 0 .ro,
  fu "BYTES_OUT" 64 0 18446744073709551615 [] 1 0 .ro]

/-- SHAPER (R321), class 0x0b. -/
def mapShaper : List FieldInfo := [
  fu "CIR" 18 0 192000 [] 10 0 .refill,
  fu "PIR" 18 10 192000 [] 10 192000 .refill,
  fu "CBS" 21 0 1048576 [] 64 16384 .refill,
  fu "PBS" 21 0 1048576 [] 64 65536 .refill,
  fu "PRIORITY" 3 0 7 [] 1 0 .refill,
  fu "WEIGHT" 8 1 255 [] 1 16 .refill,
  fs "COMMITTED_BUCKET" 32 (-65536) 1048576 1 16384 .ro,
  fs "PEAK_BUCKET" 32 (-65536) 1048576 1 65536 .ro,
  fu "GREEN_BYTES" 64 0 18446744073709551615 [] 1 0 .ro,
  fu "YELLOW_BYTES" 64 0 18446744073709551615 [] 1 0 .ro]

/-- POLICER (R322), class 0x0c. -/
def mapPolicer : List FieldInfo := [
  fu "CIR" 28 0 192000000 [] 1 0 .commit,
  fu "PIR" 28 0 192000000 [] 1 0 .commit,
  fu "CBS" 24 0 16777215 [] 1 0 .commit,
  fu "PBS" 24 0 16777215 [] 1 0 .commit,
  fe "MODE" 1 [0, 1] 0 .commit 0,
  fe "YELLOW_ACTION" 2 [0, 1, 2] 1 .commit 2,
  fe "RED_ACTION" 2 [1, 2] 2 .commit 2,
  fu "USERS" 14 0 8192 [] 1 0 .ro,
  fu "GREEN" 64 0 18446744073709551615 [] 1 0 .ro,
  fu "YELLOW" 64 0 18446744073709551615 [] 1 0 .ro,
  fu "RED" 64 0 18446744073709551615 [] 1 0 .ro,
  fu "DROPPED" 64 0 18446744073709551615 [] 1 0 .ro]

/-- TIMETABLE (R323), class 0x0d. -/
def mapTimetable : List FieldInfo := [
  fu "ENABLE" 1 0 1 [] 1 0 .commit,
  fb "MACS" 2 3 3 .cycle,
  fu "CYCLE_TIME" 30 1000 1000000000 [] 8 1000000 .cycle,
  fu "BASE_TIME" 48 0 281474976710655 [] 1 0 .cycle,
  fu "LENGTH" 9 1 256 [] 1 1 .cycle,
  fu "ENTRY" 32 0 4294967295 [] 1 4278315080 .cycle 256 true,
  fu "ACTIVE_ENTRY" 32 0 4294967295 [] 1 4278315080 .ro 256 true,
  fu "ACTIVE_LENGTH" 9 1 256 [] 1 1 .ro,
  fu "ACTIVE_CYCLE" 30 1000 1000000000 [] 8 1000000 .ro,
  fu "ACTIVE_BASE" 48 0 281474976710655 [] 1 0 .ro,
  fu "CURRENT" 8 0 255 [] 1 0 .ro,
  fu "SWAP_PENDING" 1 0 1 [] 1 0 .ro,
  fu "SWAPS" 32 0 4294967295 [] 1 0 .ro,
  fu "CYCLES" 64 0 18446744073709551615 [] 1 0 .ro]

/-- MIRROR (R284), class 0x0e. -/
def mapMirror : List FieldInfo := [
  fu "ENABLE" 1 0 1 [] 1 0 .commit,
  fe "SOURCE" 1 [0, 1] 0 .commit 0,
  fu "SOURCE_PORT" 4 0 15 [] 1 0 .commit,
  fu "SOURCE_ENTRY" 13 0 8191 [] 1 0 .commit,
  fb "DIRECTION" 2 3 1 .commit,
  fu "SAMPLE_N" 16 1 65535 [] 1 1 .commit,
  fu "TRUNCATE" 14 0 9168 [] 16 0 .commit,
  fe "DEST" 2 [0, 1, 2] 0 .commit 0,
  fu "DEST_LANDING" 2 0 3 [] 1 0 .commit,
  fu "DEST_SLOT" 11 2 2047 [] 1 2 .commit,
  fu "DEST_MAC" 48 0 281474976710655 [] 1 0 .commit,
  fu "COPIES" 64 0 18446744073709551615 [] 1 0 .ro,
  fu "DROPPED" 32 0 4294967295 [] 1 0 .ro,
  fu "SUPPRESSED" 32 0 4294967295 [] 1 0 .ro]

/-- SHUNTER (R285), class 0x0f. -/
def mapShunter : List FieldInfo := [
  fu "ENABLE" 1 0 1 [] 1 1 .commit,
  fe "STATE" 2 [0, 1, 2, 3] 0 .ro 0,
  fu "THREADS_BUSY" 5 0 16 [] 1 0 .ro,
  fu "MESSAGES" 64 0 18446744073709551615 [] 1 0 .ro,
  fu "STEPS" 64 0 18446744073709551615 [] 1 0 .ro,
  fu "CTR_MSGS" 64 0 18446744073709551615 [] 1 0 .ro 512 true,
  fu "CTR_BYTES" 64 0 18446744073709551615 [] 1 0 .ro 512 true]

/-- PROGRAM (R286), class 0x10. -/
def mapProgram : List FieldInfo := [
  fe "STATE" 2 [0, 1, 2] 0 .commit 0,
  fe "OWNER" 4 [0, 1, 2, 3, 4, 5, 15] 15 .ro 15,
  fe "SCOPE" 4 [0, 1, 2, 3, 15] 15 .ro 15,
  fe "LEVEL" 8 [0, 16, 17] 0 .commit 0,
  fu "LENGTH" 9 1 256 [] 1 1 .commit,
  fu "CODE" 32 0 4294967295 [] 1 0 .commit 256 true,
  fu "STEP_BOUND" 8 1 128 [] 1 128 .commit,
  fu "LIB_ID" 16 0 65535 [] 1 0 .ro,
  fu "USERS" 14 0 8192 [] 1 0 .ro,
  fu "RUNS" 64 0 18446744073709551615 [] 1 0 .ro,
  fu "FAULTS" 32 0 4294967295 [] 1 0 .ro,
  fu "LAST_FAULT" 16 0 65535 [] 1 0 .ro,
  fu "DROPS" 32 0 4294967295 [] 1 0 .ro 256 true,
  fu "ISOLATED" 32 0 4294967295 [] 1 0 .ro]

/-- HEAD (R365), class 0x11. -/
def mapHead : List FieldInfo := [
  fe "STATE" 3 [0, 1, 2, 3, 4, 5] 0 .ro 0,
  fu "SCANOUT" 1 0 1 [] 1 0 .blanking,
  fu "TIMING_PIXCLK" 23 25000 4400000 [] 1 148500 .blanking,
  fu "TIMING_HACT" 14 64 8192 [] 2 1920 .blanking,
  fu "TIMING_HFP" 12 8 4095 [] 1 88 .blanking,
  fu "TIMING_HSYNC" 10 8 1023 [] 1 44 .blanking,
  fu "TIMING_HBP" 12 8 4095 [] 1 148 .blanking,
  fu "TIMING_VACT" 14 64 8192 [] 1 1080 .blanking,
  fu "TIMING_VFP" 10 1 1023 [] 1 4 .blanking,
  fu "TIMING_VSYNC" 6 1 63 [] 1 5 .blanking,
  fu "TIMING_VBP" 10 1 1023 [] 1 36 .blanking,
  fb "TIMING_FLAGS" 2 3 3 .blanking,
  fe "BPC" 4 [8, 10] 8 .blanking 8,
  fu "DSC_ENABLE" 1 0 1 [] 1 0 .blanking,
  fu "DSC_BPP" 9 128 480 [] 1 192 .blanking,
  fu "DSC_SLICES" 5 1 16 [] 1 1 .ro,
  fe "LINK_RATE" 3 [0, 1, 2, 3, 4, 5, 6] 2 .blanking 0,
  fe "LANES" 3 [1, 2, 4] 4 .blanking 1,
  fu "LINK_FALLBACK" 1 0 1 [] 1 1 .commit,
  fu "LINK_ACTIVE" 8 0 255 [] 1 0 .ro,
  fb "SINK_CAPS" 32 4294967295 0 .ro,
  fu "EDID" 32 0 4294967295 [] 1 0 .ro 128 true,
  fu "BACKGROUND" 30 0 1073741823 [] 1 0 .blanking,
  fu "GAMMA_ENABLE" 1 0 1 [] 1 0 .blanking,
  fu "GAMMA" 30 0 1073741823 [] 1 0 .blanking 1024 true,
  fu "LINE_MATCH" 13 0 8191 [] 1 0 .blanking,
  fb "EVENT_MASK" 4 15 8 .commit,
  fu "LOCK_ENABLE" 1 0 1 [] 1 0 .commit,
  fu "LOCK_PERIOD" 40 1000000000 1000000000000 [] 1 16666666667 .commit,
  fu "LOCK_BASE" 48 0 281474976710655 [] 1 0 .commit,
  fu "LOCK_SNAP" 1 0 1 [] 1 0 .commit,
  fe "LOCK_STATE" 3 [0, 1, 2, 3, 4] 0 .ro 0,
  fs "LOCK_ERROR" 32 (-2147483648) 2147483647 1 0 .ro,
  fs "TRIM" 18 (-100000) 100000 1 0 .ro,
  fu "FRAME_COUNT" 64 0 18446744073709551615 [] 1 0 .ro,
  fu "LAYER_PIXELS" 15 0 16000 [] 1 0 .ro,
  fu "READ_RATE" 17 0 96000 [] 1 0 .ro,
  fu "TURN_RATE" 14 0 10400 [] 1 0 .ro,
  fu "QUOTA" 11 0 1016 [] 1 1016 .commit 6 true,
  fu "DEPOT_FREE" 21 0 1040384 [] 1 1040384 .ro,
  fu "UNDERRUNS" 32 0 4294967295 [] 1 0 .ro,
  fu "RESTARTS" 32 0 4294967295 [] 1 0 .ro]

/-- LAYER (R366), class 0x12. -/
def mapLayer : List FieldInfo := [
  fu "ENABLE" 1 0 1 [] 1 0 .blanking,
  fe "FORMAT" 3 [0, 1, 2, 3, 4] 0 .blanking 0,
  fu "SURFACE" 11 0 1023 [2047] 1 2047 .blanking,
  fu "SRC_X" 13 0 8191 [] 1 0 .blanking,
  fu "SRC_Y" 13 0 8191 [] 1 0 .blanking,
  fu "SRC_W" 14 1 8192 [] 1 64 .blanking,
  fu "SRC_H" 14 1 8192 [] 1 64 .blanking,
  fu "POS_X" 13 0 8191 [] 1 0 .blanking,
  fu "POS_Y" 13 0 8191 [] 1 0 .blanking,
  fu "DST_W" 14 1 8192 [] 1 64 .blanking,
  fu "DST_H" 14 1 8192 [] 1 64 .blanking,
  fu "Z" 3 0 7 [] 1 0 .blanking,
  fu "ALPHA" 10 0 1023 [] 1 1023 .blanking,
  fe "BLEND" 1 [0, 1] 0 .blanking 0,
  fe "CSC" 2 [0, 1, 2, 3] 1 .blanking 1,
  fe "CLONE_OF" 8 [0, 1, 2, 3, 4, 5, 6, 7, 8, 9, 10, 11, 12, 13, 14, 15, 16, 17, 18, 19, 20, 21, 22, 23, 24, 25, 26, 27, 28, 29, 30, 31, 255] 255 .blanking 255,
  fe "CLONE_ROTATE" 2 [0, 1, 2, 3] 0 .blanking 0,
  fu "CLONE_SURF" 11 0 1023 [2047] 1 2047 .blanking 2 true,
  fu "HANDOVER" 1 0 1 [] 1 0 .commit,
  fe "SHOWN_BY" 4 [0, 1, 2, 3, 4, 5, 15] 15 .ro 15,
  fu "PENDING" 3 0 4 [] 1 0 .ro,
  fu "COST" 14 0 16000 [] 1 0 .ro,
  fu "PRESENTS" 64 0 18446744073709551615 [] 1 0 .ro,
  fu "CLONE_SKIPPED" 32 0 4294967295 [] 1 0 .ro]

/-- SURFACE (R367), class 0x13. -/
def mapSurface : List FieldInfo := [
  fe "STATE" 2 [0, 1, 2] 0 .commit 0,
  fu "HEAD" 2 0 3 [] 1 0 .commit,
  fe "FORMAT" 3 [0, 1, 2, 3, 4] 0 .commit 0,
  fu "WIDTH" 14 1 8192 [] 1 64 .commit,
  fu "HEIGHT" 14 1 8192 [] 1 64 .commit,
  fb "SHARE" 6 63 0 .commit,
  fe "OWNER" 4 [0, 1, 2, 3, 4, 5, 15] 15 .ro 15,
  fu "REFS" 12 0 4095 [] 1 0 .ro,
  fu "SIZE" 20 0 1040384 [] 64 0 .ro,
  fu "WRITES" 64 0 18446744073709551615 [] 1 0 .ro,
  fu "WRITES_REFUSED" 32 0 4294967295 [] 1 0 .ro,
  fu "ALLOCATED_AT" 48 0 281474976710655 [] 1 0 .ro]

/-- CLOCK (R393), class 0x14. -/
def mapClock : List FieldInfo := [
  fe "REF_SOURCE" 1 [0, 1] 0 .ro 0,
  fe "REF_STATE" 1 [0, 1] 0 .ro 0,
  fu "LOCAL" 64 0 18446744073709551615 [] 1 0 .ro,
  fu "NETWORK" 64 0 18446744073709551615 [] 1 0 .ro,
  fs "RATE" 40 (-549755813888) 549755813887 1 0 .commit,
  fs "STEP" 64 (-9223372036854775808) 9223372036854775807 1 0 .commit,
  fu "STEP_FORCE" 1 0 1 [] 1 0 .commit,
  fu "FORCE_NEXT" 1 0 1 [] 1 0 .commit,
  fu "JUMP_THRESHOLD" 24 1 10000000 [] 1 1000 .commit 1 false .low,
  fe "SERVO_PORT" 4 [0, 1, 2, 3, 4, 5, 15] 15 .commit 15,
  fu "SERVO_BW" 12 10 4000 [] 10 100 .commit,
  fu "SERVO_STEP_AT" 24 1 10000000 [] 1 100 .commit,
  fu "LOCK_THRESHOLD" 20 1 1000000 [] 1 100 .commit,
  fe "STATE" 3 [0, 1, 2, 3, 4] 0 .ro 0,
  fu "EVER_LOCKED" 1 0 1 [] 1 0 .ro,
  fu "HOST_LOCK" 1 0 1 [] 1 0 .commit,
  fs "OFFSET_FROM_SOURCE" 32 (-2147483648) 2147483647 1 0 .ro,
  fu "DOMAIN" 8 0 255 [] 1 0 .commit,
  fe "TC_MODE" 2 [0, 1, 2] 1 .commit 0,
  fu "CLOCK_ID" 64 0 18446744073709551615 [] 1 0 .ro,
  fu "PPS_ENABLE" 1 0 1 [] 1 0 .commit,
  fu "PPS_WIDTH" 30 8 500000000 [] 8 10000000 .commit,
  fu "PPS_LOCKED_ONLY" 1 0 1 [] 1 1 .commit,
  fb "CUE_ENABLE" 8 255 0 .commit,
  fb "CUE_STATE" 8 255 0 .ro,
  fu "STEPS" 32 0 4294967295 [] 1 0 .ro,
  fu "STEPS_REFUSED" 32 0 4294967295 [] 1 0 .ro,
  fs "LAST_STEP" 64 (-9223372036854775808) 9223372036854775807 1 0 .ro,
  fu "LAST_STEP_TIME" 48 0 281474976710655 [] 1 0 .ro]

/-- TRIGGER (R394), class 0x15. -/
def mapTrigger : List FieldInfo := [
  fu "ENABLE" 1 0 1 [] 1 0 .commit,
  fe "OWNER" 4 [0, 1, 2, 3, 4, 5, 15] 15 .ro 15,
  fu "TIME" 64 0 18446744073709551615 [] 1 0 .commit,
  fu "PERIOD" 40 0 1000000000000 [] 8 0 .commit,
  fe "ACTION" 3 [0, 1, 2, 3, 4] 0 .commit 0,
  fu "TARGET" 11 0 2047 [] 1 0 .commit,
  fe "CUE_MODE" 2 [0, 1, 2, 3] 3 .commit 3,
  fu "CUE_WIDTH" 30 8 1000000000 [] 8 1000 .commit,
  fu "NOTIFY" 1 0 1 [] 1 0 .commit,
  fu "FIRED" 64 0 18446744073709551615 [] 1 0 .ro,
  fu "LATE" 32 0 4294967295 [] 1 0 .ro,
  fu "MISSED" 32 0 4294967295 [] 1 0 .ro,
  fu "LAST_FIRE" 48 0 281474976710655 [] 1 0 .ro]

/-- PTPPORT (R395), class 0x16. -/
def mapPtpport : List FieldInfo := [
  fu "ENABLE" 1 0 1 [] 1 1 .commit,
  fe "STATE" 3 [0, 1, 2, 3, 4] 0 .ro 0,
  fe "DELAY_MECH" 1 [0, 1] 1 .commit 1,
  fe "TRANSPORT" 2 [0, 1, 2] 0 .commit 0,
  fu "TWO_STEP" 1 0 1 [] 1 0 .commit,
  fs "LOG_SYNC" 8 (-7) 4 1 253 .commit,
  fs "LOG_PDELAY" 8 (-7) 4 1 0 .commit,
  fs "LOG_ANNOUNCE" 8 (-3) 4 1 1 .commit,
  fs "INGRESS_LATENCY" 16 (-32768) 32767 1 0 .commit,
  fs "EGRESS_LATENCY" 16 (-32768) 32767 1 0 .commit,
  fs "ASYMMETRY" 32 (-2147483648) 2147483647 1 0 .commit,
  fu "MEAN_LINK_DELAY" 32 0 4294967295 [] 1 0 .ro,
  fs "NEIGHBOR_RATE_RATIO" 32 (-2147483648) 2147483647 1 0 .ro,
  fu "SYNC_RX" 64 0 18446744073709551615 [] 1 0 .ro,
  fu "SYNC_TX" 64 0 18446744073709551615 [] 1 0 .ro,
  fu "DELAY_RX" 64 0 18446744073709551615 [] 1 0 .ro,
  fu "TC_CORRECTED" 64 0 18446744073709551615 [] 1 0 .ro,
  fu "TC_SATURATED" 32 0 4294967295 [] 1 0 .ro,
  fu "DISCARDED" 32 0 4294967295 [] 1 0 .ro]

/-- ETHPORT (R324), class 0x17. -/
def mapEthport : List FieldInfo := [
  fe "IFACE" 2 [0, 1, 2, 3] 0 .commit 0,
  fe "FEC" 2 [0, 1, 2] 0 .commit 0,
  fu "LINK" 1 0 1 [] 1 0 .ro,
  fu "SPEED" 15 0 25000 [] 100 0 .ro,
  fu "MAC_ADDR" 48 0 281474976710655 [] 1 0 .commit,
  fu "MAX_FRAME" 14 1518 9216 [] 1 1522 .commit,
  fe "FLOW_MODE" 2 [0, 1, 2] 0 .commit 0,
  fb "PFC_PRIORITIES" 8 255 0 .commit,
  fu "PFC_SERVICE" 3 0 7 [] 1 3 .commit 8 true,
  fu "PAUSE_WATCHDOG" 14 0 10000 [] 1 100 .commit,
  fu "DEI_MARK" 1 0 1 [] 1 0 .commit,
  fu "STORM_BC" 20 0 1000000 [] 1 0 .commit,
  fu "STORM_MC" 20 0 1000000 [] 1 0 .commit,
  fu "STORM_UU" 20 0 1000000 [] 1 0 .commit,
  fu "HOST_SHARE" 15 0 22500 [] 10 0 .refill 4 true,
  fu "STATIC_MAC" 48 0 281474976710655 [] 1 0 .commit 16 true,
  fu "STATIC_VLAN" 12 0 4094 [] 1 0 .commit 16 true,
  fu "LAUNCH_LATE" 20 0 1000000 [] 8 1000 .commit,
  fu "LAUNCH_HORIZON" 10 1 1000 [] 1 10 .commit,
  fu "VNIC_MAC" 48 0 281474976710655 [] 1 0 .commit 32 true,
  fu "VNIC_VLAN" 12 0 4094 [] 1 0 .commit 32 true,
  fu "VNIC_FLOOD" 1 0 1 [] 1 0 .commit 32 true,
  fu "MGMT_ENABLE" 1 0 1 [] 1 0 .commit,
  fu "MGMT_MAC" 48 0 281474976710655 [] 1 0 .commit,
  fu "MGMT_IPV4" 32 0 4294967295 [] 1 0 .commit,
  fu "MGMT_UDP_PORT" 16 1 65535 [] 1 19524 .commit,
  fu "MDIO_PHY" 5 0 31 [] 1 0 .commit,
  fu "MDIO_REQ" 32 0 4294967295 [] 1 0 .commit,
  fu "MDIO_RESULT" 32 0 4294967295 [] 1 0 .ro,
  fu "FRAMES_RX" 64 0 18446744073709551615 [] 1 0 .ro,
  fu "FRAMES_TX" 64 0 18446744073709551615 [] 1 0 .ro,
  fu "OCTETS_RX" 64 0 18446744073709551615 [] 1 0 .ro,
  fu "OCTETS_TX" 64 0 18446744073709551615 [] 1 0 .ro,
  fu "RX_ERRORS" 32 0 4294967295 [] 1 0 .ro,
  fu "PAUSE_RX" 32 0 4294967295 [] 1 0 .ro,
  fu "STORM_DROPS" 32 0 4294967295 [] 1 0 .ro,
  fu "LAUNCH_DROPS" 32 0 4294967295 [] 1 0 .ro,
  fu "SPOOF_DROPS" 32 0 4294967295 [] 1 0 .ro]

/-- STORAGE (R415), class 0x18. -/
def mapStorage : List FieldInfo := [
  fe "STATE" 3 [0, 1, 2, 3, 4, 5] 0 .ro 0,
  fu "PRESENT" 1 0 1 [] 1 0 .ro,
  fe "HOLDER" 4 [0, 1, 2, 3, 4, 5, 15] 15 .ro 15,
  fu "SLOT_ENABLE" 1 0 1 [] 1 1 .commit,
  fu "MAX_GEN" 3 1 5 [] 1 5 .commit,
  fe "MAX_WIDTH" 3 [1, 2, 4] 4 .commit 1,
  fu "GEN" 3 0 5 [] 1 0 .ro,
  fe "WIDTH" 3 [0, 1, 2, 4] 0 .ro 0,
  fu "MPS" 10 0 512 [] 128 0 .ro,
  fu "ASPM_L1" 1 0 1 [] 1 1 .commit,
  fu "HANDOVER_PERST" 10 100 1000 [] 1 100 .commit 1 false .high,
  fu "WIN_BASE" 64 0 18446744073709547520 [] 4096 0 .commit 4 true,
  fu "WIN_LIMIT" 64 4095 18446744073709551615 [] 4096 4095 .commit 4 true,
  fb "WIN_ENABLE" 4 15 0 .commit,
  fu "TLPS_DOWN" 64 0 18446744073709551615 [] 1 0 .ro,
  fu "TLPS_UP" 64 0 18446744073709551615 [] 1 0 .ro,
  fu "CPL_TIMEOUTS" 32 0 4294967295 [] 1 0 .ro,
  fu "CPL_SYNTH" 32 0 4294967295 [] 1 0 .ro,
  fu "DMA_BLOCKED" 32 0 4294967295 [] 1 0 .ro,
  fu "REFUSED" 32 0 4294967295 [] 1 0 .ro,
  fu "POSTED_FAILED" 32 0 4294967295 [] 1 0 .ro,
  fu "REMOVALS" 32 0 4294967295 [] 1 0 .ro,
  fu "HANDOVERS" 32 0 4294967295 [] 1 0 .ro,
  fu "AER_COR" 32 0 4294967295 [] 1 0 .ro,
  fu "AER_UNCOR" 32 0 4294967295 [] 1 0 .ro]

/-- BRANCH (R438), class 0x19. -/
def mapBranch : List FieldInfo := [
  fe "MODE" 2 [0, 1, 2, 3] 0 .commit 0,
  fu "BIT_RATE" 16 10 50000 [] 1 0 .commit,
  fu "DATA_RATE" 13 0 8000 [] 1 2000 .commit,
  fu "SAMPLE_POINT" 10 500 900 [] 5 875 .commit,
  fu "DATA_SAMPLE" 10 500 900 [] 5 750 .commit,
  fu "AUTO_RECOVER" 1 0 1 [] 1 1 .commit,
  fu "TX_ID" 32 0 4294967295 [] 1 0 .commit 16 true,
  fu "TX_LEN" 7 0 64 [] 1 8 .commit 16 true,
  fu "TX_PERIOD" 16 0 65535 [] 1 0 .commit 16 true,
  fu "EVENT_SLOT" 11 0 2047 [] 1 0 .commit,
  fu "RAW_ENABLE" 1 0 1 [] 1 0 .commit,
  fu "POLICER" 10 0 1023 [] 1 0 .commit,
  fu "POLICER_EN" 1 0 1 [] 1 0 .commit,
  fu "TGT_ADDR" 7 8 119 [] 1 80 .commit,
  fu "TGT_DATA" 32 0 4294967295 [] 1 0 .commit 32 true,
  fu "SPLIT_HOLD" 10 10 1000 [] 1 100 .commit,
  fu "STRETCH_MAX" 7 1 100 [] 1 25 .commit 1 false .low,
  fu "I2C_PAGE" 9 0 256 [] 1 0 .commit,
  fb "GPIO_DIR" 32 4294967295 0 .commit,
  fb "GPIO_OUT" 32 4294967295 0 .commit,
  fb "GPIO_OD" 32 4294967295 0 .commit,
  fb "GPIO_PULL_UP" 32 4294967295 0 .commit,
  fb "GPIO_PULL_DOWN" 32 4294967295 0 .commit,
  fb "GPIO_RISE" 32 4294967295 0 .commit,
  fb "GPIO_FALL" 32 4294967295 0 .commit,
  fu "GPIO_DEBOUNCE" 16 0 65535 [] 1 0 .commit,
  fb "GPIO_IN" 32 4294967295 0 .ro,
  fe "CAN_STATE" 2 [0, 1, 2] 0 .ro 0,
  fu "TEC" 8 0 255 [] 1 0 .ro,
  fu "REC" 8 0 255 [] 1 0 .ro,
  fu "TX_COUNT" 64 0 18446744073709551615 [] 1 0 .ro,
  fu "RX_COUNT" 64 0 18446744073709551615 [] 1 0 .ro,
  fu "BUS_ERRORS" 32 0 4294967295 [] 1 0 .ro,
  fu "NACKS" 32 0 4294967295 [] 1 0 .ro,
  fu "TIMEOUTS" 32 0 4294967295 [] 1 0 .ro,
  fu "UNMATCHED" 32 0 4294967295 [] 1 0 .ro,
  fu "FLOOD_DROPS" 32 0 4294967295 [] 1 0 .ro,
  fu "TX_LATE" 32 0 4294967295 [] 1 0 .ro,
  fu "POLLS_MISSED" 32 0 4294967295 [] 1 0 .ro,
  fu "COALESCED" 32 0 4294967295 [] 1 0 .ro,
  fu "SET_REFUSED" 32 0 4294967295 [] 1 0 .ro]

/-- SIGNAL (R440), class 0x1a. -/
def mapSignal : List FieldInfo := [
  fu "ENABLE" 1 0 1 [] 1 0 .commit,
  fe "OWNER" 4 [0, 1, 2, 3, 4, 5, 15] 15 .ro 15,
  fe "SOURCE" 2 [0, 1, 2, 3] 0 .commit 0,
  fu "SRC_IF" 2 0 3 [] 1 0 .commit,
  fu "CAN_ID" 29 0 536870911 [] 1 0 .commit,
  fu "CAN_MASK" 29 0 536870911 [] 1 536870911 .commit,
  fu "CAN_EXT" 1 0 1 [] 1 0 .commit,
  fu "POLL_ADDR" 32 0 4294967295 [] 1 0 .commit,
  fu "POLL_LEN" 7 1 64 [] 1 1 .commit,
  fu "POLL_INTERVAL" 16 1 65535 [] 1 100 .commit,
  fu "BIT_START" 9 0 511 [] 1 0 .commit,
  fu "LENGTH" 6 1 32 [] 1 16 .commit,
  fe "ORDER" 1 [0, 1] 0 .commit 0,
  fu "SIGNED" 1 0 1 [] 1 0 .commit,
  fs "FACTOR" 32 (-2147483648) 2147483647 1 65536 .commit,
  fs "OFFSET" 32 (-2147483648) 2147483647 1 0 .commit,
  fs "MIN" 32 (-2147483648) 2147483647 1 2147483648 .commit,
  fs "MAX" 32 (-2147483648) 2147483647 1 2147483647 .commit,
  fe "DEST" 2 [0, 1, 2] 0 .commit 0,
  fu "DEST_LANDING" 2 0 3 [] 1 0 .commit,
  fu "DEST_SLOT" 11 2 2047 [] 1 2 .commit,
  fe "DEST_IF" 1 [0, 1] 0 .commit 0,
  fu "DEST_FRAME" 4 0 15 [] 1 0 .commit,
  fs "VALUE" 32 (-2147483648) 2147483647 1 0 .ro,
  fu "UPDATES" 64 0 18446744073709551615 [] 1 0 .ro,
  fu "SATURATED" 32 0 4294967295 [] 1 0 .ro,
  fu "SHORT" 32 0 4294967295 [] 1 0 .ro,
  fu "LAST_UPDATE" 48 0 281474976710655 [] 1 0 .ro]

/-- USBPORT (R467), class 0x1b. -/
def mapUsbport : List FieldInfo := [
  fe "STATE" 3 [0, 1, 2, 3, 4, 5, 6] 0 .ro 0,
  fe "SPEED" 2 [0, 1, 2, 3] 0 .ro 0,
  fe "PATH" 2 [0, 1, 2] 0 .ro 0,
  fu "PORT_ENABLE" 1 0 1 [] 1 1 .commit,
  fu "POWER" 1 0 1 [] 1 1 .commit,
  fe "MODE" 1 [0, 1] 0 .commit 0,
  fu "BOUNCE_LIMIT" 5 2 31 [] 1 8 .commit,
  fu "DEVICES" 5 0 16 [] 1 0 .ro,
  fu "VID" 16 0 65535 [] 1 0 .ro,
  fu "PID" 16 0 65535 [] 1 0 .ro,
  fu "DEV_CLASS" 8 0 255 [] 1 0 .ro,
  fu "REMOTE_WAKE" 1 0 1 [] 1 0 .ro,
  fu "CONNECTS" 32 0 4294967295 [] 1 0 .ro,
  fu "RESETS" 32 0 4294967295 [] 1 0 .ro,
  fu "BABBLES" 32 0 4294967295 [] 1 0 .ro,
  fu "OVERCURRENTS" 32 0 4294967295 [] 1 0 .ro,
  fu "WAKES" 32 0 4294967295 [] 1 0 .ro,
  fu "WAKES_ABSORBED" 32 0 4294967295 [] 1 0 .ro,
  fu "WAKES_IGNORED" 32 0 4294967295 [] 1 0 .ro,
  fu "CANCELLED" 32 0 4294967295 [] 1 0 .ro,
  fu "TRANSFERS" 64 0 18446744073709551615 [] 1 0 .ro,
  fu "BYTES" 64 0 18446744073709551615 [] 1 0 .ro,
  fb "PROXY_HOSTS" 4 15 15 .commit,
  fe "FOCUS_LOCK" 4 [0, 1, 2, 3, 15] 15 .commit 15,
  fu "POINTER_SPEED" 12 16 4095 [] 1 256 .commit,
  fu "HEAD_ORIGIN_X" 15 0 32767 [] 1 0 .commit 4 true,
  fu "HEAD_ORIGIN_Y" 15 0 32767 [] 1 0 .commit 4 true,
  fe "FOCUS" 4 [0, 1, 2, 3, 15] 15 .ro 15,
  fu "POINTER_X" 15 0 32767 [] 1 0 .ro,
  fu "POINTER_Y" 15 0 32767 [] 1 0 .ro,
  fu "CROSSINGS" 32 0 4294967295 [] 1 0 .ro,
  fu "PROXY_DEVICES" 4 0 8 [] 1 0 .ro]

/-- LEGACY (R468), class 0x1c. -/
def mapLegacy : List FieldInfo := [
  fu "ENABLE" 1 0 1 [] 1 1 .commit,
  fe "STATE" 3 [0, 1, 2, 3, 4] 0 .ro 0,
  fe "SPEED" 2 [0, 2, 3] 0 .ro 0,
  fu "ADDRESS" 7 0 127 [] 1 0 .ro,
  fb "REMOTE_WAKE" 2 3 0 .ro,
  fu "VID" 16 0 65535 [] 1 15262 .commit,
  fu "PID" 16 0 65533 [] 1 18432 .commit,
  fu "IDLE_RESET" 17 0 86400 [] 1 0 .commit,
  fu "BUS_RESETS" 32 0 4294967295 [] 1 0 .ro,
  fu "ABORTED" 32 0 4294967295 [] 1 0 .ro,
  fu "PARTIAL_DISCARDS" 32 0 4294967295 [] 1 0 .ro,
  fu "RESENT" 32 0 4294967295 [] 1 0 .ro,
  fu "SETUPS" 64 0 18446744073709551615 [] 1 0 .ro,
  fu "STALLS" 32 0 4294967295 [] 1 0 .ro,
  fu "WAKES" 32 0 4294967295 [] 1 0 .ro,
  fu "WAKES_MERGED" 32 0 4294967295 [] 1 0 .ro]

/-- FEED (R489), class 0x1d. -/
def mapFeed : List FieldInfo := [
  fe "STATE" 3 [0, 1, 2, 3, 4, 5, 6] 0 .ro 0,
  fu "REQUEST" 1 0 1 [] 1 0 .ro,
  fu "ALLOW" 1 0 1 [] 1 1 .commit,
  fu "LATCH_CLEAR" 1 0 1 [] 1 0 .commit,
  fu "SHUNT" 17 100 100000 [] 1 0 .commit,
  fu "FAST_TRIP" 17 100 100000 [] 1 0 .commit 1 false .low,
  fu "CURVE_I" 17 0 100000 [] 1 0 .commit 8 true .low,
  fu "CURVE_T" 20 0 600000 [] 1 0 .commit 8 true .low,
  fu "RAMP_TIME" 12 500 3000 [] 100 2000 .commit,
  fu "PG_WINDOW" 5 2 20 [] 1 10 .commit,
  fu "RETRY_COUNT" 8 0 255 [] 1 3 .commit,
  fu "RETRY_OFF" 16 100 60000 [] 1 1000 .commit 1 false .high,
  fe "USB_CLASS" 2 [0, 1, 2] 0 .commit 0,
  fu "HOST_MAX" 12 0 2400 [] 1 2400 .commit 1 false .low,
  fu "HOST_PRIORITY" 3 0 7 [] 1 4 .commit,
  fu "CHARGE_BUDGET" 14 0 9600 [] 1 0 .commit 1 false .low,
  fu "ALLOTTED" 14 0 9600 [] 1 0 .ro,
  fu "GRANT" 12 0 2400 [] 1 0 .ro,
  fu "REQUESTED" 12 0 4095 [] 1 0 .ro,
  fs "I_NOW" 32 (-100000) 100000 1 0 .ro,
  fu "V_NOW" 17 0 65535 [] 1 0 .ro,
  fu "VGS_NOW" 14 0 15000 [] 1 0 .ro,
  fs "P_NOW" 32 (-7000000) 7000000 1 0 .ro,
  fu "I_PEAK" 17 0 100000 [] 1 0 .ro,
  fu "VHV_NOW" 17 0 65535 [] 1 0 .ro,
  fu "ENERGY" 64 0 18446744073709551615 [] 1 0 .ro,
  fu "TRIPS" 32 0 4294967295 [] 1 0 .ro,
  fu "RETRIES" 32 0 4294967295 [] 1 0 .ro,
  fu "LAST_TRIP" 16 0 65535 [] 1 0 .ro,
  fu "PG_WITHHELD" 32 0 4294967295 [] 1 0 .ro]

/-- KEYSLOT (R522), class 0x1e. -/
def mapKeyslot : List FieldInfo := [
  fe "KIND" 3 [0, 1, 2, 3, 4, 5, 6] 0 .commit 0,
  fe "OWNER" 4 [0, 1, 2, 3, 4, 5, 15] 15 .ro 15,
  fu "LABEL" 64 0 18446744073709551615 [] 1 0 .commit,
  fb "BIND" 8 255 0 .commit,
  fb "SCOPE" 5 31 0 .commit,
  fu "PUBLIC" 64 0 18446744073709551615 [] 1 0 .commit 12 true,
  fu "INPUT" 64 0 18446744073709551615 [] 1 0 .commit 6 true,
  fu "OP" 1 0 1 [] 1 0 .commit,
  fe "STATUS" 3 [0, 1, 2, 3, 4] 0 .ro 0,
  fu "OUTPUT" 64 0 18446744073709551615 [] 1 0 .ro 12 true .none true,
  fu "OPS" 32 0 4294967295 [] 1 0 .ro,
  fe "LC_STATE" 3 [0, 1, 2, 3, 4] 0 .ro 0,
  fe "LC_ADVANCE" 3 [0, 1, 2, 3, 4] 0 .commit 0,
  fu "KEYS_READY" 1 0 1 [] 1 0 .ro,
  fu "ROOT_MARGIN" 6 0 57 [] 1 0 .ro,
  fu "DEVICE_ID" 64 0 18446744073709551615 [] 1 0 .ro 2 true,
  fu "MEASURE" 64 0 18446744073709551615 [] 1 0 .ro 48 true,
  fu "EXTEND_COUNT" 16 0 65535 [] 1 0 .ro 8 true,
  fu "EXTEND" 64 0 18446744073709551615 [] 1 0 .commit 6 true,
  fu "TAMPER_LATCH" 1 0 1 [] 1 0 .ro,
  fu "TAMPER_CLEAR" 1 0 1 [] 1 0 .commit,
  fu "TAMPER_HOLD" 1 0 1 [] 1 0 .commit 1 false .high,
  fu "TAMPER_COUNT" 32 0 4294967295 [] 1 0 .ro]

/-- UPDATE (R541), class 0x1f. -/
def mapUpdate : List FieldInfo := [
  fe "STATE" 3 [0, 1, 2, 3, 4] 0 .ro 0,
  fe "RUNNING_SLOT" 1 [0, 1] 0 .ro 0,
  fu "RUNNING_VERSION" 32 0 4294967295 [] 1 0 .ro,
  fu "STAGED_VERSION" 32 0 4294967295 [] 1 0 .ro,
  fu "PREVIOUS_VERSION" 32 0 4294967295 [] 1 0 .ro,
  fu "SEC_FLOOR" 32 0 4294967295 [] 1 0 .ro,
  fu "PIECES_HELD" 11 0 1024 [] 1 0 .ro,
  fu "PIECES_TOTAL" 11 0 1024 [] 1 0 .ro,
  fb "BITMAP" 64 18446744073709551615 0 .ro 16 true,
  fu "LAST_PIECE" 48 0 281474976710655 [] 1 0 .ro,
  fe "ARM" 2 [0, 1, 2] 0 .commit 0,
  fu "ACTIVATE" 1 0 1 [] 1 0 .commit,
  fu "CONFIRM" 1 0 1 [] 1 0 .commit,
  fu "AUTO_CONFIRM" 17 0 86400 [] 1 600 .commit,
  fu "OEM_DIGEST" 64 0 18446744073709551615 [] 1 0 .commit 6 true,
  fu "ACTIVATIONS" 32 0 4294967295 [] 1 0 .ro,
  fu "REVERTS" 32 0 4294967295 [] 1 0 .ro,
  fu "LAST_PAUSE" 32 0 4294967295 [] 1 0 .ro,
  fu "PIECES_REFUSED" 32 0 4294967295 [] 1 0 .ro]

/-- LEDGER (R563), class 0x20. -/
def mapLedger : List FieldInfo := [
  fe "STATE" 2 [0, 1, 2, 3] 1 .ro 1,
  fu "AUDITS" 64 0 18446744073709551615 [] 1 0 .ro,
  fu "MISMATCHES" 32 0 4294967295 [] 1 0 .ro,
  fu "CORRECTIONS" 32 0 4294967295 [] 1 0 .ro,
  fu "FAULTS" 32 0 4294967295 [] 1 0 .ro,
  fu "LAST_MISMATCH" 48 0 281474976710655 [] 1 0 .ro,
  fs "LAST_DELTA" 32 (-2147483648) 2147483647 1 0 .ro,
  fu "LAST_PAUSE" 10 0 1000 [] 1 0 .ro,
  fu "TERM" 64 0 18446744073709551615 [] 1 0 .ro 24 true]

/-- THERMAL (R565), class 0x21. -/
def mapThermal : List FieldInfo := [
  fs "TEMP" 16 (-550) 1500 1 0 .ro,
  fs "TEMP_MAX" 16 (-550) 1500 1 0 .ro,
  fe "SENSOR_STATE" 1 [0, 1] 0 .ro 0,
  fu "SPRINT_ENABLE" 1 0 1 [] 1 1 .commit,
  fe "SPRINT_STATE" 2 [0, 1, 2, 3] 0 .ro 0,
  fb "BARRED" 7 127 1 .ro,
  fu "TJ_LIMIT" 7 90 105 [] 1 105 .commit 1 false .low,
  fu "REENTRY_MARGIN" 5 2 20 [] 1 10 .commit 1 false .high,
  fu "RTH_FAST" 10 1 1000 [] 1 150 .commit 1 false .high,
  fu "RTH_SLOW" 13 1 5000 [] 1 800 .commit 1 false .high,
  fu "TAU_FAST" 14 10 10000 [] 1 500 .commit 1 false .low,
  fu "TAU_SLOW" 12 1 3600 [] 1 240 .commit 1 false .low,
  fs "AMBIENT_EST" 16 (-550) 1500 1 0 .ro,
  fs "PREDICTED" 16 (-550) 1500 1 0 .ro,
  fu "SPRINT_REMAINING" 32 0 4294967295 [] 1 0 .ro,
  fu "SPRINT_LIFETIME" 23 0 7200000 [] 1 0 .ro,
  fu "SPRINTS" 32 0 4294967295 [] 1 0 .ro,
  fu "VCORE_TARGET" 10 0 1000 [] 1 0 .ro,
  fu "VCORE_SENSE" 10 0 1000 [] 1 0 .ro,
  fu "VCORE_READBACK" 10 0 1000 [] 1 0 .ro,
  fu "POWER" 16 0 40000 [] 1 0 .ro,
  fu "PACE_YARD" 16 0 65535 [] 1 0 .ro 16 true,
  fu "PACE_YARD_MIN" 16 0 65535 [] 1 0 .ro,
  fu "PACE_SHUNTER" 16 0 65535 [] 1 0 .ro 8 true,
  fu "PACE_SIGNAL_BOX" 16 0 65535 [] 1 0 .ro,
  fu "PACE_COMPOSITOR" 16 0 65535 [] 1 0 .ro 4 true,
  fu "ECC_CORRECTED" 64 0 18446744073709551615 [] 1 0 .ro,
  fu "ECC_UNCORRECTABLE" 32 0 4294967295 [] 1 0 .ro,
  fu "PAGES_RETIRED" 16 0 65535 [] 1 0 .ro]

/-- TOKEN (R164), class 0x22. -/
def mapToken : List FieldInfo := [
  fe "HOLDER" 4 [0, 1, 2, 3, 4, 5, 15] 15 .ro 15,
  fu "DESK_ONLY" 1 0 1 [] 1 0 .commit,
  fu "MOVES" 32 0 4294967295 [] 1 0 .ro,
  fu "LAST_MOVE" 48 0 281474976710655 [] 1 0 .ro]

/-- STANDING (R166), class 0x23. -/
def mapStanding : List FieldInfo := [
  fe "STATE" 2 [0, 1, 2] 0 .ro 0,
  fe "OWNER" 4 [0, 1, 2, 3, 4, 5, 15] 15 .ro 15,
  fu "ENABLE" 1 0 1 [] 1 0 .commit,
  fu "CLEAR" 1 0 1 [] 1 0 .commit,
  fu "LENGTH" 13 0 4096 [] 1 0 .ro,
  fu "DIGEST" 64 0 18446744073709551615 [] 1 0 .ro,
  fe "LAST_STATUS" 8 [0, 1, 2, 3, 4, 5, 6, 7] 0 .ro 0,
  fu "LAST_DETAIL" 16 0 65535 [] 1 0 .ro,
  fu "REPLAYS" 32 0 4294967295 [] 1 0 .ro,
  fu "DESK" 1 0 1 [] 1 0 .ro]

/-- The field maps by class code (R131). -/
def classMap : Nat → List FieldInfo
  | 0 => mapSystem
  | 1 => mapContext
  | 2 => mapNotice
  | 3 => mapLanding
  | 4 => mapPair
  | 5 => mapTunnel
  | 6 => mapClassbudget
  | 7 => mapYardport
  | 8 => mapPool
  | 9 => mapQueue
  | 10 => mapService
  | 11 => mapShaper
  | 12 => mapPolicer
  | 13 => mapTimetable
  | 14 => mapMirror
  | 15 => mapShunter
  | 16 => mapProgram
  | 17 => mapHead
  | 18 => mapLayer
  | 19 => mapSurface
  | 20 => mapClock
  | 21 => mapTrigger
  | 22 => mapPtpport
  | 23 => mapEthport
  | 24 => mapStorage
  | 25 => mapBranch
  | 26 => mapSignal
  | 27 => mapUsbport
  | 28 => mapLegacy
  | 29 => mapFeed
  | 30 => mapKeyslot
  | 31 => mapUpdate
  | 32 => mapLedger
  | 33 => mapThermal
  | 34 => mapToken
  | 35 => mapStanding
  | _ => []

/-- How many instances a class has (R131); 0 for an undefined class. -/
def classInstances : Nat → Nat
  | 0 => 1
  | 1 => 6
  | 2 => 512
  | 3 => 4
  | 4 => 16
  | 5 => 8192
  | 6 => 32
  | 7 => 16
  | 8 => 16
  | 9 => 2048
  | 10 => 128
  | 11 => 2176
  | 12 => 1024
  | 13 => 16
  | 14 => 4
  | 15 => 8
  | 16 => 64
  | 17 => 4
  | 18 => 32
  | 19 => 1024
  | 20 => 1
  | 21 => 32
  | 22 => 6
  | 23 => 2
  | 24 => 2
  | 25 => 6
  | 26 => 2048
  | 27 => 8
  | 28 => 4
  | 29 => 16
  | 30 => 32
  | 31 => 5
  | 32 => 32
  | 33 => 13
  | 34 => 64
  | 35 => 16
  | _ => 0

/-- The row of a field number in a class (R75). -/
def fieldInfo (cls num : Nat) : Option FieldInfo := (classMap cls)[num]?

/-! The field names, by class and row. -/

def F.SYSTEM.STEPPING : Fld := ⟨0, 0, 8⟩
def F.SYSTEM.START_STATE : Fld := ⟨0, 1, 3⟩
def F.SYSTEM.RESET_CAUSE : Fld := ⟨0, 2, 4⟩
def F.SYSTEM.START_FAULTS : Fld := ⟨0, 3, 8⟩
def F.SYSTEM.STARTS : Fld := ⟨0, 4, 32⟩
def F.SYSTEM.BOOT_TIME : Fld := ⟨0, 5, 32⟩
def F.SYSTEM.FIRST_PICTURE : Fld := ⟨0, 6, 32⟩
def F.SYSTEM.POWER_STATE : Fld := ⟨0, 7, 2⟩
def F.SYSTEM.POWER_TARGET : Fld := ⟨0, 8, 2⟩
def F.SYSTEM.STANDBY_IDLE : Fld := ⟨0, 9, 16⟩
def F.SYSTEM.WAKE_SOURCES : Fld := ⟨0, 10, 10⟩
def F.SYSTEM.DEEP_WAKE : Fld := ⟨0, 11, 4⟩
def F.SYSTEM.AUTO_START : Fld := ⟨0, 12, 1⟩
def F.SYSTEM.WARM_RESET : Fld := ⟨0, 13, 1⟩
def F.SYSTEM.WATCHDOG_TIMEOUT : Fld := ⟨0, 14, 14⟩
def F.SYSTEM.WARM_RESETS : Fld := ⟨0, 15, 32⟩
def F.SYSTEM.WATCHDOG_RESETS : Fld := ⟨0, 16, 32⟩
def F.SYSTEM.F15_CONFIG : Fld := ⟨0, 17, 32⟩
def F.SYSTEM.FLASH_ID : Fld := ⟨0, 18, 32⟩
def F.SYSTEM.FLASH_SIZE : Fld := ⟨0, 19, 13⟩
def F.SYSTEM.RING_WRITES : Fld := ⟨0, 20, 32⟩
def F.CONTEXT.STATE : Fld := ⟨1, 0, 2⟩
def F.CONTEXT.GUEST : Fld := ⟨1, 1, 1⟩
def F.CONTEXT.CHANNEL : Fld := ⟨1, 2, 3⟩
def F.CONTEXT.PARTY_TAG : Fld := ⟨1, 3, 32⟩
def F.CONTEXT.PARTY_LEVEL : Fld := ⟨1, 4, 8⟩
def F.CONTEXT.COMMIT_TIMEOUT : Fld := ⟨1, 5, 16⟩
def F.CONTEXT.RESET : Fld := ⟨1, 6, 1⟩
def F.CONTEXT.QUEUED : Fld := ⟨1, 7, 4⟩
def F.CONTEXT.WAITING_SETS : Fld := ⟨1, 8, 3⟩
def F.CONTEXT.RECEIPTS_WAITING : Fld := ⟨1, 9, 5⟩
def F.CONTEXT.RING_ENTRIES : Fld := ⟨1, 10, 9⟩
def F.CONTEXT.TOKENS : Fld := ⟨1, 11, 64⟩
def F.CONTEXT.MANIFESTS : Fld := ⟨1, 12, 64⟩
def F.CONTEXT.UP_SINCE : Fld := ⟨1, 13, 48⟩
def F.CONTEXT.RESETS : Fld := ⟨1, 14, 32⟩
def F.CONTEXT.PFL_ENTRY_LO : Fld := ⟨1, 15, 64⟩
def F.CONTEXT.PFL_ENTRY_HI : Fld := ⟨1, 16, 64⟩
def F.CONTEXT.PFL_HEAD : Fld := ⟨1, 17, 32⟩
def F.CONTEXT.PFL_ACK : Fld := ⟨1, 18, 32⟩
def F.CONTEXT.PFL_OVERFLOW : Fld := ⟨1, 19, 32⟩
def F.NOTICE.DELIVER : Fld := ⟨2, 0, 1⟩
def F.NOTICE.TO_HOLDER : Fld := ⟨2, 1, 1⟩
def F.NOTICE.TO_DESK : Fld := ⟨2, 2, 1⟩
def F.NOTICE.SEVERITY : Fld := ⟨2, 3, 3⟩
def F.NOTICE.RAISED : Fld := ⟨2, 4, 64⟩
def F.NOTICE.PENDING : Fld := ⟨2, 5, 6⟩
def F.NOTICE.LAST_TIME : Fld := ⟨2, 6, 48⟩
def F.NOTICE.LAST_PAYLOAD : Fld := ⟨2, 7, 64⟩
def F.LANDING.STATE : Fld := ⟨3, 0, 4⟩
def F.LANDING.VERSION : Fld := ⟨3, 1, 8⟩
def F.LANDING.RATE : Fld := ⟨3, 2, 2⟩
def F.LANDING.PAIRS_IN : Fld := ⟨3, 3, 4⟩
def F.LANDING.PAIRS_OUT : Fld := ⟨3, 4, 4⟩
def F.LANDING.PAIRS_FAILED : Fld := ⟨3, 5, 4⟩
def F.LANDING.CAP_IN : Fld := ⟨3, 6, 32⟩
def F.LANDING.CAP_OUT : Fld := ⟨3, 7, 32⟩
def F.LANDING.ALLOT_IN : Fld := ⟨3, 8, 2⟩
def F.LANDING.AUTO_SWAP : Fld := ⟨3, 9, 1⟩
def F.LANDING.LIDLE_ENABLE : Fld := ⟨3, 10, 1⟩
def F.LANDING.LIDLE_ENTRY : Fld := ⟨3, 11, 10⟩
def F.LANDING.SLEEP_ENABLE : Fld := ⟨3, 12, 1⟩
def F.LANDING.WAKE_HOST : Fld := ⟨3, 13, 1⟩
def F.LANDING.CREDIT_GRANT : Fld := ⟨3, 14, 13⟩
def F.LANDING.PARTNER_CREDITS : Fld := ⟨3, 15, 16⟩
def F.LANDING.DETECT_ENABLE : Fld := ⟨3, 16, 1⟩
def F.LANDING.AUTH_TIMEOUT : Fld := ⟨3, 17, 14⟩
def F.LANDING.GUEST : Fld := ⟨3, 18, 1⟩
def F.LANDING.REKEY : Fld := ⟨3, 19, 1⟩
def F.LANDING.KEY_EPOCH : Fld := ⟨3, 20, 32⟩
def F.LANDING.PARTNER_VENDOR : Fld := ⟨3, 21, 16⟩
def F.LANDING.PARTNER_PRODUCT : Fld := ⟨3, 22, 16⟩
def F.LANDING.FLITS_TX : Fld := ⟨3, 23, 64⟩
def F.LANDING.FLITS_RX : Fld := ⟨3, 24, 64⟩
def F.LANDING.REPLAYS : Fld := ⟨3, 25, 32⟩
def F.LANDING.RETRAINS : Fld := ⟨3, 26, 32⟩
def F.LANDING.SWAPS : Fld := ⟨3, 27, 32⟩
def F.PAIR.DIR : Fld := ⟨4, 0, 2⟩
def F.PAIR.STATE : Fld := ⟨4, 1, 3⟩
def F.PAIR.SWAP_READY : Fld := ⟨4, 2, 2⟩
def F.PAIR.ENABLE : Fld := ⟨4, 3, 1⟩
def F.PAIR.FEC_CORRECTED : Fld := ⟨4, 4, 64⟩
def F.PAIR.FEC_UNCORRECTABLE : Fld := ⟨4, 5, 32⟩
def F.PAIR.CRC_ERRORS : Fld := ⟨4, 6, 32⟩
def F.PAIR.EYE_HEIGHT : Fld := ⟨4, 7, 16⟩
def F.PAIR.FAILURES : Fld := ⟨4, 8, 32⟩
def F.PAIR.LAST_TRAIN : Fld := ⟨4, 9, 48⟩
def F.TUNNEL.STATE : Fld := ⟨5, 0, 1⟩
def F.TUNNEL.CLASS : Fld := ⟨5, 1, 3⟩
def F.TUNNEL.INDEX : Fld := ⟨5, 2, 12⟩
def F.TUNNEL.CLASS_VERSION : Fld := ⟨5, 3, 4⟩
def F.TUNNEL.BINDING : Fld := ⟨5, 4, 3⟩
def F.TUNNEL.RES_IN : Fld := ⟨5, 5, 18⟩
def F.TUNNEL.RES_OUT : Fld := ⟨5, 6, 18⟩
def F.TUNNEL.CEIL_IN : Fld := ⟨5, 7, 18⟩
def F.TUNNEL.CEIL_OUT : Fld := ⟨5, 8, 18⟩
def F.TUNNEL.WEIGHT : Fld := ⟨5, 9, 8⟩
def F.TUNNEL.PRIORITY : Fld := ⟨5, 10, 3⟩
def F.TUNNEL.PROGRAM : Fld := ⟨5, 11, 6⟩
def F.TUNNEL.PROGRAM_EN : Fld := ⟨5, 12, 1⟩
def F.TUNNEL.POLICER : Fld := ⟨5, 13, 10⟩
def F.TUNNEL.POLICER_EN : Fld := ⟨5, 14, 1⟩
def F.TUNNEL.ADMITTED_IN : Fld := ⟨5, 15, 18⟩
def F.TUNNEL.ADMITTED_OUT : Fld := ⟨5, 16, 18⟩
def F.TUNNEL.ROUTE_ENTRY : Fld := ⟨5, 17, 14⟩
def F.TUNNEL.LEAF_OUT : Fld := ⟨5, 18, 12⟩
def F.TUNNEL.SEQ_OUT : Fld := ⟨5, 19, 16⟩
def F.TUNNEL.SEQ_IN : Fld := ⟨5, 20, 16⟩
def F.TUNNEL.SEQ_GAPS : Fld := ⟨5, 21, 32⟩
def F.TUNNEL.MSGS_IN : Fld := ⟨5, 22, 64⟩
def F.TUNNEL.MSGS_OUT : Fld := ⟨5, 23, 64⟩
def F.TUNNEL.BYTES_IN : Fld := ⟨5, 24, 64⟩
def F.TUNNEL.BYTES_OUT : Fld := ⟨5, 25, 64⟩
def F.TUNNEL.MSG_DISCARDED : Fld := ⟨5, 26, 32⟩
def F.TUNNEL.OPENED : Fld := ⟨5, 27, 48⟩
def F.CLASSBUDGET.RES_MAX_IN : Fld := ⟨6, 0, 18⟩
def F.CLASSBUDGET.RES_MAX_OUT : Fld := ⟨6, 1, 18⟩
def F.CLASSBUDGET.GUEST_ALLOW : Fld := ⟨6, 2, 1⟩
def F.CLASSBUDGET.GUEST_RES_MAX : Fld := ⟨6, 3, 18⟩
def F.CLASSBUDGET.RES_SUM_IN : Fld := ⟨6, 4, 18⟩
def F.CLASSBUDGET.RES_SUM_OUT : Fld := ⟨6, 5, 18⟩
def F.CLASSBUDGET.ADMITTED_SUM_IN : Fld := ⟨6, 6, 18⟩
def F.CLASSBUDGET.ADMITTED_SUM_OUT : Fld := ⟨6, 7, 18⟩
def F.CLASSBUDGET.TUNNELS_OPEN : Fld := ⟨6, 8, 12⟩
def F.CLASSBUDGET.VERSIONS : Fld := ⟨6, 9, 16⟩
def F.CLASSBUDGET.UNROUTED : Fld := ⟨6, 10, 32⟩
def F.CLASSBUDGET.CREDIT_DELAYED : Fld := ⟨6, 11, 32⟩
def F.YARDPORT.UP : Fld := ⟨7, 0, 3⟩
def F.YARDPORT.FLUSH_DELAY : Fld := ⟨7, 1, 14⟩
def F.YARDPORT.AGE_LIMIT : Fld := ⟨7, 2, 20⟩
def F.YARDPORT.HIGH_SERVICES : Fld := ⟨7, 3, 8⟩
def F.YARDPORT.SLICE_LOSSY_MAX : Fld := ⟨7, 4, 13⟩
def F.YARDPORT.INCAST_INPUTS : Fld := ⟨7, 5, 5⟩
def F.YARDPORT.RES_RATE : Fld := ⟨7, 6, 18⟩
def F.YARDPORT.LEARN_ENABLE : Fld := ⟨7, 7, 1⟩
def F.YARDPORT.LEARN_LIMIT : Fld := ⟨7, 8, 16⟩
def F.YARDPORT.LEARN_AGE : Fld := ⟨7, 9, 12⟩
def F.YARDPORT.SLICE_CELLS : Fld := ⟨7, 10, 13⟩
def F.YARDPORT.CELLS_IN : Fld := ⟨7, 11, 64⟩
def F.YARDPORT.CELLS_OUT : Fld := ⟨7, 12, 64⟩
def F.YARDPORT.AGED : Fld := ⟨7, 13, 32⟩
def F.YARDPORT.FLUSHED : Fld := ⟨7, 14, 32⟩
def F.YARDPORT.DOWN_DISCARDS : Fld := ⟨7, 15, 32⟩
def F.YARDPORT.INGRESS_LOSSY_DROPS : Fld := ⟨7, 16, 32⟩
def F.YARDPORT.RECIRC_DROPS : Fld := ⟨7, 17, 32⟩
def F.POOL.RESERVE : Fld := ⟨8, 0, 17⟩
def F.POOL.RESERVE_USED : Fld := ⟨8, 1, 17⟩
def F.POOL.CELLS : Fld := ⟨8, 2, 19⟩
def F.POOL.THRESHOLD_DROPS : Fld := ⟨8, 3, 32⟩
def F.POOL.PEAK_CELLS : Fld := ⟨8, 4, 19⟩
def F.POOL.FREE_SHARED : Fld := ⟨8, 5, 19⟩
def F.POOL.SHARED_TOTAL : Fld := ⟨8, 6, 19⟩
def F.POOL.LOW_MARK : Fld := ⟨8, 7, 19⟩
def F.QUEUE.ALPHA_K : Fld := ⟨9, 0, 3⟩
def F.QUEUE.MAC : Fld := ⟨9, 1, 1⟩
def F.QUEUE.TRIGGER_HOLD : Fld := ⟨9, 2, 1⟩
def F.QUEUE.CELLS : Fld := ⟨9, 3, 19⟩
def F.QUEUE.HELD : Fld := ⟨9, 4, 1⟩
def F.QUEUE.MESSAGES_OUT : Fld := ⟨9, 5, 64⟩
def F.QUEUE.BYTES_OUT : Fld := ⟨9, 6, 64⟩
def F.QUEUE.TRIGGER_MISSED : Fld := ⟨9, 7, 32⟩
def F.SERVICE.GATE : Fld := ⟨10, 0, 2⟩
def F.SERVICE.PAUSED : Fld := ⟨10, 1, 2⟩
def F.SERVICE.LONGEST_RUN : Fld := ⟨10, 2, 30⟩
def F.SERVICE.OVERSIZE_DROPS : Fld := ⟨10, 3, 32⟩
def F.SERVICE.MESSAGES_OUT : Fld := ⟨10, 4, 64⟩
def F.SERVICE.BYTES_OUT : Fld := ⟨10, 5, 64⟩
def F.SHAPER.CIR : Fld := ⟨11, 0, 18⟩
def F.SHAPER.PIR : Fld := ⟨11, 1, 18⟩
def F.SHAPER.CBS : Fld := ⟨11, 2, 21⟩
def F.SHAPER.PBS : Fld := ⟨11, 3, 21⟩
def F.SHAPER.PRIORITY : Fld := ⟨11, 4, 3⟩
def F.SHAPER.WEIGHT : Fld := ⟨11, 5, 8⟩
def F.SHAPER.COMMITTED_BUCKET : Fld := ⟨11, 6, 32⟩
def F.SHAPER.PEAK_BUCKET : Fld := ⟨11, 7, 32⟩
def F.SHAPER.GREEN_BYTES : Fld := ⟨11, 8, 64⟩
def F.SHAPER.YELLOW_BYTES : Fld := ⟨11, 9, 64⟩
def F.POLICER.CIR : Fld := ⟨12, 0, 28⟩
def F.POLICER.PIR : Fld := ⟨12, 1, 28⟩
def F.POLICER.CBS : Fld := ⟨12, 2, 24⟩
def F.POLICER.PBS : Fld := ⟨12, 3, 24⟩
def F.POLICER.MODE : Fld := ⟨12, 4, 1⟩
def F.POLICER.YELLOW_ACTION : Fld := ⟨12, 5, 2⟩
def F.POLICER.RED_ACTION : Fld := ⟨12, 6, 2⟩
def F.POLICER.USERS : Fld := ⟨12, 7, 14⟩
def F.POLICER.GREEN : Fld := ⟨12, 8, 64⟩
def F.POLICER.YELLOW : Fld := ⟨12, 9, 64⟩
def F.POLICER.RED : Fld := ⟨12, 10, 64⟩
def F.POLICER.DROPPED : Fld := ⟨12, 11, 64⟩
def F.TIMETABLE.ENABLE : Fld := ⟨13, 0, 1⟩
def F.TIMETABLE.MACS : Fld := ⟨13, 1, 2⟩
def F.TIMETABLE.CYCLE_TIME : Fld := ⟨13, 2, 30⟩
def F.TIMETABLE.BASE_TIME : Fld := ⟨13, 3, 48⟩
def F.TIMETABLE.LENGTH : Fld := ⟨13, 4, 9⟩
def F.TIMETABLE.ENTRY : Fld := ⟨13, 5, 32⟩
def F.TIMETABLE.ACTIVE_ENTRY : Fld := ⟨13, 6, 32⟩
def F.TIMETABLE.ACTIVE_LENGTH : Fld := ⟨13, 7, 9⟩
def F.TIMETABLE.ACTIVE_CYCLE : Fld := ⟨13, 8, 30⟩
def F.TIMETABLE.ACTIVE_BASE : Fld := ⟨13, 9, 48⟩
def F.TIMETABLE.CURRENT : Fld := ⟨13, 10, 8⟩
def F.TIMETABLE.SWAP_PENDING : Fld := ⟨13, 11, 1⟩
def F.TIMETABLE.SWAPS : Fld := ⟨13, 12, 32⟩
def F.TIMETABLE.CYCLES : Fld := ⟨13, 13, 64⟩
def F.MIRROR.ENABLE : Fld := ⟨14, 0, 1⟩
def F.MIRROR.SOURCE : Fld := ⟨14, 1, 1⟩
def F.MIRROR.SOURCE_PORT : Fld := ⟨14, 2, 4⟩
def F.MIRROR.SOURCE_ENTRY : Fld := ⟨14, 3, 13⟩
def F.MIRROR.DIRECTION : Fld := ⟨14, 4, 2⟩
def F.MIRROR.SAMPLE_N : Fld := ⟨14, 5, 16⟩
def F.MIRROR.TRUNCATE : Fld := ⟨14, 6, 14⟩
def F.MIRROR.DEST : Fld := ⟨14, 7, 2⟩
def F.MIRROR.DEST_LANDING : Fld := ⟨14, 8, 2⟩
def F.MIRROR.DEST_SLOT : Fld := ⟨14, 9, 11⟩
def F.MIRROR.DEST_MAC : Fld := ⟨14, 10, 48⟩
def F.MIRROR.COPIES : Fld := ⟨14, 11, 64⟩
def F.MIRROR.DROPPED : Fld := ⟨14, 12, 32⟩
def F.MIRROR.SUPPRESSED : Fld := ⟨14, 13, 32⟩
def F.SHUNTER.ENABLE : Fld := ⟨15, 0, 1⟩
def F.SHUNTER.STATE : Fld := ⟨15, 1, 2⟩
def F.SHUNTER.THREADS_BUSY : Fld := ⟨15, 2, 5⟩
def F.SHUNTER.MESSAGES : Fld := ⟨15, 3, 64⟩
def F.SHUNTER.STEPS : Fld := ⟨15, 4, 64⟩
def F.SHUNTER.CTR_MSGS : Fld := ⟨15, 5, 64⟩
def F.SHUNTER.CTR_BYTES : Fld := ⟨15, 6, 64⟩
def F.PROGRAM.STATE : Fld := ⟨16, 0, 2⟩
def F.PROGRAM.OWNER : Fld := ⟨16, 1, 4⟩
def F.PROGRAM.SCOPE : Fld := ⟨16, 2, 4⟩
def F.PROGRAM.LEVEL : Fld := ⟨16, 3, 8⟩
def F.PROGRAM.LENGTH : Fld := ⟨16, 4, 9⟩
def F.PROGRAM.CODE : Fld := ⟨16, 5, 32⟩
def F.PROGRAM.STEP_BOUND : Fld := ⟨16, 6, 8⟩
def F.PROGRAM.LIB_ID : Fld := ⟨16, 7, 16⟩
def F.PROGRAM.USERS : Fld := ⟨16, 8, 14⟩
def F.PROGRAM.RUNS : Fld := ⟨16, 9, 64⟩
def F.PROGRAM.FAULTS : Fld := ⟨16, 10, 32⟩
def F.PROGRAM.LAST_FAULT : Fld := ⟨16, 11, 16⟩
def F.PROGRAM.DROPS : Fld := ⟨16, 12, 32⟩
def F.PROGRAM.ISOLATED : Fld := ⟨16, 13, 32⟩
def F.HEAD.STATE : Fld := ⟨17, 0, 3⟩
def F.HEAD.SCANOUT : Fld := ⟨17, 1, 1⟩
def F.HEAD.TIMING_PIXCLK : Fld := ⟨17, 2, 23⟩
def F.HEAD.TIMING_HACT : Fld := ⟨17, 3, 14⟩
def F.HEAD.TIMING_HFP : Fld := ⟨17, 4, 12⟩
def F.HEAD.TIMING_HSYNC : Fld := ⟨17, 5, 10⟩
def F.HEAD.TIMING_HBP : Fld := ⟨17, 6, 12⟩
def F.HEAD.TIMING_VACT : Fld := ⟨17, 7, 14⟩
def F.HEAD.TIMING_VFP : Fld := ⟨17, 8, 10⟩
def F.HEAD.TIMING_VSYNC : Fld := ⟨17, 9, 6⟩
def F.HEAD.TIMING_VBP : Fld := ⟨17, 10, 10⟩
def F.HEAD.TIMING_FLAGS : Fld := ⟨17, 11, 2⟩
def F.HEAD.BPC : Fld := ⟨17, 12, 4⟩
def F.HEAD.DSC_ENABLE : Fld := ⟨17, 13, 1⟩
def F.HEAD.DSC_BPP : Fld := ⟨17, 14, 9⟩
def F.HEAD.DSC_SLICES : Fld := ⟨17, 15, 5⟩
def F.HEAD.LINK_RATE : Fld := ⟨17, 16, 3⟩
def F.HEAD.LANES : Fld := ⟨17, 17, 3⟩
def F.HEAD.LINK_FALLBACK : Fld := ⟨17, 18, 1⟩
def F.HEAD.LINK_ACTIVE : Fld := ⟨17, 19, 8⟩
def F.HEAD.SINK_CAPS : Fld := ⟨17, 20, 32⟩
def F.HEAD.EDID : Fld := ⟨17, 21, 32⟩
def F.HEAD.BACKGROUND : Fld := ⟨17, 22, 30⟩
def F.HEAD.GAMMA_ENABLE : Fld := ⟨17, 23, 1⟩
def F.HEAD.GAMMA : Fld := ⟨17, 24, 30⟩
def F.HEAD.LINE_MATCH : Fld := ⟨17, 25, 13⟩
def F.HEAD.EVENT_MASK : Fld := ⟨17, 26, 4⟩
def F.HEAD.LOCK_ENABLE : Fld := ⟨17, 27, 1⟩
def F.HEAD.LOCK_PERIOD : Fld := ⟨17, 28, 40⟩
def F.HEAD.LOCK_BASE : Fld := ⟨17, 29, 48⟩
def F.HEAD.LOCK_SNAP : Fld := ⟨17, 30, 1⟩
def F.HEAD.LOCK_STATE : Fld := ⟨17, 31, 3⟩
def F.HEAD.LOCK_ERROR : Fld := ⟨17, 32, 32⟩
def F.HEAD.TRIM : Fld := ⟨17, 33, 18⟩
def F.HEAD.FRAME_COUNT : Fld := ⟨17, 34, 64⟩
def F.HEAD.LAYER_PIXELS : Fld := ⟨17, 35, 15⟩
def F.HEAD.READ_RATE : Fld := ⟨17, 36, 17⟩
def F.HEAD.TURN_RATE : Fld := ⟨17, 37, 14⟩
def F.HEAD.QUOTA : Fld := ⟨17, 38, 11⟩
def F.HEAD.DEPOT_FREE : Fld := ⟨17, 39, 21⟩
def F.HEAD.UNDERRUNS : Fld := ⟨17, 40, 32⟩
def F.HEAD.RESTARTS : Fld := ⟨17, 41, 32⟩
def F.LAYER.ENABLE : Fld := ⟨18, 0, 1⟩
def F.LAYER.FORMAT : Fld := ⟨18, 1, 3⟩
def F.LAYER.SURFACE : Fld := ⟨18, 2, 11⟩
def F.LAYER.SRC_X : Fld := ⟨18, 3, 13⟩
def F.LAYER.SRC_Y : Fld := ⟨18, 4, 13⟩
def F.LAYER.SRC_W : Fld := ⟨18, 5, 14⟩
def F.LAYER.SRC_H : Fld := ⟨18, 6, 14⟩
def F.LAYER.POS_X : Fld := ⟨18, 7, 13⟩
def F.LAYER.POS_Y : Fld := ⟨18, 8, 13⟩
def F.LAYER.DST_W : Fld := ⟨18, 9, 14⟩
def F.LAYER.DST_H : Fld := ⟨18, 10, 14⟩
def F.LAYER.Z : Fld := ⟨18, 11, 3⟩
def F.LAYER.ALPHA : Fld := ⟨18, 12, 10⟩
def F.LAYER.BLEND : Fld := ⟨18, 13, 1⟩
def F.LAYER.CSC : Fld := ⟨18, 14, 2⟩
def F.LAYER.CLONE_OF : Fld := ⟨18, 15, 8⟩
def F.LAYER.CLONE_ROTATE : Fld := ⟨18, 16, 2⟩
def F.LAYER.CLONE_SURF : Fld := ⟨18, 17, 11⟩
def F.LAYER.HANDOVER : Fld := ⟨18, 18, 1⟩
def F.LAYER.SHOWN_BY : Fld := ⟨18, 19, 4⟩
def F.LAYER.PENDING : Fld := ⟨18, 20, 3⟩
def F.LAYER.COST : Fld := ⟨18, 21, 14⟩
def F.LAYER.PRESENTS : Fld := ⟨18, 22, 64⟩
def F.LAYER.CLONE_SKIPPED : Fld := ⟨18, 23, 32⟩
def F.SURFACE.STATE : Fld := ⟨19, 0, 2⟩
def F.SURFACE.HEAD : Fld := ⟨19, 1, 2⟩
def F.SURFACE.FORMAT : Fld := ⟨19, 2, 3⟩
def F.SURFACE.WIDTH : Fld := ⟨19, 3, 14⟩
def F.SURFACE.HEIGHT : Fld := ⟨19, 4, 14⟩
def F.SURFACE.SHARE : Fld := ⟨19, 5, 6⟩
def F.SURFACE.OWNER : Fld := ⟨19, 6, 4⟩
def F.SURFACE.REFS : Fld := ⟨19, 7, 12⟩
def F.SURFACE.SIZE : Fld := ⟨19, 8, 20⟩
def F.SURFACE.WRITES : Fld := ⟨19, 9, 64⟩
def F.SURFACE.WRITES_REFUSED : Fld := ⟨19, 10, 32⟩
def F.SURFACE.ALLOCATED_AT : Fld := ⟨19, 11, 48⟩
def F.CLOCK.REF_SOURCE : Fld := ⟨20, 0, 1⟩
def F.CLOCK.REF_STATE : Fld := ⟨20, 1, 1⟩
def F.CLOCK.LOCAL : Fld := ⟨20, 2, 64⟩
def F.CLOCK.NETWORK : Fld := ⟨20, 3, 64⟩
def F.CLOCK.RATE : Fld := ⟨20, 4, 40⟩
def F.CLOCK.STEP : Fld := ⟨20, 5, 64⟩
def F.CLOCK.STEP_FORCE : Fld := ⟨20, 6, 1⟩
def F.CLOCK.FORCE_NEXT : Fld := ⟨20, 7, 1⟩
def F.CLOCK.JUMP_THRESHOLD : Fld := ⟨20, 8, 24⟩
def F.CLOCK.SERVO_PORT : Fld := ⟨20, 9, 4⟩
def F.CLOCK.SERVO_BW : Fld := ⟨20, 10, 12⟩
def F.CLOCK.SERVO_STEP_AT : Fld := ⟨20, 11, 24⟩
def F.CLOCK.LOCK_THRESHOLD : Fld := ⟨20, 12, 20⟩
def F.CLOCK.STATE : Fld := ⟨20, 13, 3⟩
def F.CLOCK.EVER_LOCKED : Fld := ⟨20, 14, 1⟩
def F.CLOCK.HOST_LOCK : Fld := ⟨20, 15, 1⟩
def F.CLOCK.OFFSET_FROM_SOURCE : Fld := ⟨20, 16, 32⟩
def F.CLOCK.DOMAIN : Fld := ⟨20, 17, 8⟩
def F.CLOCK.TC_MODE : Fld := ⟨20, 18, 2⟩
def F.CLOCK.CLOCK_ID : Fld := ⟨20, 19, 64⟩
def F.CLOCK.PPS_ENABLE : Fld := ⟨20, 20, 1⟩
def F.CLOCK.PPS_WIDTH : Fld := ⟨20, 21, 30⟩
def F.CLOCK.PPS_LOCKED_ONLY : Fld := ⟨20, 22, 1⟩
def F.CLOCK.CUE_ENABLE : Fld := ⟨20, 23, 8⟩
def F.CLOCK.CUE_STATE : Fld := ⟨20, 24, 8⟩
def F.CLOCK.STEPS : Fld := ⟨20, 25, 32⟩
def F.CLOCK.STEPS_REFUSED : Fld := ⟨20, 26, 32⟩
def F.CLOCK.LAST_STEP : Fld := ⟨20, 27, 64⟩
def F.CLOCK.LAST_STEP_TIME : Fld := ⟨20, 28, 48⟩
def F.TRIGGER.ENABLE : Fld := ⟨21, 0, 1⟩
def F.TRIGGER.OWNER : Fld := ⟨21, 1, 4⟩
def F.TRIGGER.TIME : Fld := ⟨21, 2, 64⟩
def F.TRIGGER.PERIOD : Fld := ⟨21, 3, 40⟩
def F.TRIGGER.ACTION : Fld := ⟨21, 4, 3⟩
def F.TRIGGER.TARGET : Fld := ⟨21, 5, 11⟩
def F.TRIGGER.CUE_MODE : Fld := ⟨21, 6, 2⟩
def F.TRIGGER.CUE_WIDTH : Fld := ⟨21, 7, 30⟩
def F.TRIGGER.NOTIFY : Fld := ⟨21, 8, 1⟩
def F.TRIGGER.FIRED : Fld := ⟨21, 9, 64⟩
def F.TRIGGER.LATE : Fld := ⟨21, 10, 32⟩
def F.TRIGGER.MISSED : Fld := ⟨21, 11, 32⟩
def F.TRIGGER.LAST_FIRE : Fld := ⟨21, 12, 48⟩
def F.PTPPORT.ENABLE : Fld := ⟨22, 0, 1⟩
def F.PTPPORT.STATE : Fld := ⟨22, 1, 3⟩
def F.PTPPORT.DELAY_MECH : Fld := ⟨22, 2, 1⟩
def F.PTPPORT.TRANSPORT : Fld := ⟨22, 3, 2⟩
def F.PTPPORT.TWO_STEP : Fld := ⟨22, 4, 1⟩
def F.PTPPORT.LOG_SYNC : Fld := ⟨22, 5, 8⟩
def F.PTPPORT.LOG_PDELAY : Fld := ⟨22, 6, 8⟩
def F.PTPPORT.LOG_ANNOUNCE : Fld := ⟨22, 7, 8⟩
def F.PTPPORT.INGRESS_LATENCY : Fld := ⟨22, 8, 16⟩
def F.PTPPORT.EGRESS_LATENCY : Fld := ⟨22, 9, 16⟩
def F.PTPPORT.ASYMMETRY : Fld := ⟨22, 10, 32⟩
def F.PTPPORT.MEAN_LINK_DELAY : Fld := ⟨22, 11, 32⟩
def F.PTPPORT.NEIGHBOR_RATE_RATIO : Fld := ⟨22, 12, 32⟩
def F.PTPPORT.SYNC_RX : Fld := ⟨22, 13, 64⟩
def F.PTPPORT.SYNC_TX : Fld := ⟨22, 14, 64⟩
def F.PTPPORT.DELAY_RX : Fld := ⟨22, 15, 64⟩
def F.PTPPORT.TC_CORRECTED : Fld := ⟨22, 16, 64⟩
def F.PTPPORT.TC_SATURATED : Fld := ⟨22, 17, 32⟩
def F.PTPPORT.DISCARDED : Fld := ⟨22, 18, 32⟩
def F.ETHPORT.IFACE : Fld := ⟨23, 0, 2⟩
def F.ETHPORT.FEC : Fld := ⟨23, 1, 2⟩
def F.ETHPORT.LINK : Fld := ⟨23, 2, 1⟩
def F.ETHPORT.SPEED : Fld := ⟨23, 3, 15⟩
def F.ETHPORT.MAC_ADDR : Fld := ⟨23, 4, 48⟩
def F.ETHPORT.MAX_FRAME : Fld := ⟨23, 5, 14⟩
def F.ETHPORT.FLOW_MODE : Fld := ⟨23, 6, 2⟩
def F.ETHPORT.PFC_PRIORITIES : Fld := ⟨23, 7, 8⟩
def F.ETHPORT.PFC_SERVICE : Fld := ⟨23, 8, 3⟩
def F.ETHPORT.PAUSE_WATCHDOG : Fld := ⟨23, 9, 14⟩
def F.ETHPORT.DEI_MARK : Fld := ⟨23, 10, 1⟩
def F.ETHPORT.STORM_BC : Fld := ⟨23, 11, 20⟩
def F.ETHPORT.STORM_MC : Fld := ⟨23, 12, 20⟩
def F.ETHPORT.STORM_UU : Fld := ⟨23, 13, 20⟩
def F.ETHPORT.HOST_SHARE : Fld := ⟨23, 14, 15⟩
def F.ETHPORT.STATIC_MAC : Fld := ⟨23, 15, 48⟩
def F.ETHPORT.STATIC_VLAN : Fld := ⟨23, 16, 12⟩
def F.ETHPORT.LAUNCH_LATE : Fld := ⟨23, 17, 20⟩
def F.ETHPORT.LAUNCH_HORIZON : Fld := ⟨23, 18, 10⟩
def F.ETHPORT.VNIC_MAC : Fld := ⟨23, 19, 48⟩
def F.ETHPORT.VNIC_VLAN : Fld := ⟨23, 20, 12⟩
def F.ETHPORT.VNIC_FLOOD : Fld := ⟨23, 21, 1⟩
def F.ETHPORT.MGMT_ENABLE : Fld := ⟨23, 22, 1⟩
def F.ETHPORT.MGMT_MAC : Fld := ⟨23, 23, 48⟩
def F.ETHPORT.MGMT_IPV4 : Fld := ⟨23, 24, 32⟩
def F.ETHPORT.MGMT_UDP_PORT : Fld := ⟨23, 25, 16⟩
def F.ETHPORT.MDIO_PHY : Fld := ⟨23, 26, 5⟩
def F.ETHPORT.MDIO_REQ : Fld := ⟨23, 27, 32⟩
def F.ETHPORT.MDIO_RESULT : Fld := ⟨23, 28, 32⟩
def F.ETHPORT.FRAMES_RX : Fld := ⟨23, 29, 64⟩
def F.ETHPORT.FRAMES_TX : Fld := ⟨23, 30, 64⟩
def F.ETHPORT.OCTETS_RX : Fld := ⟨23, 31, 64⟩
def F.ETHPORT.OCTETS_TX : Fld := ⟨23, 32, 64⟩
def F.ETHPORT.RX_ERRORS : Fld := ⟨23, 33, 32⟩
def F.ETHPORT.PAUSE_RX : Fld := ⟨23, 34, 32⟩
def F.ETHPORT.STORM_DROPS : Fld := ⟨23, 35, 32⟩
def F.ETHPORT.LAUNCH_DROPS : Fld := ⟨23, 36, 32⟩
def F.ETHPORT.SPOOF_DROPS : Fld := ⟨23, 37, 32⟩
def F.STORAGE.STATE : Fld := ⟨24, 0, 3⟩
def F.STORAGE.PRESENT : Fld := ⟨24, 1, 1⟩
def F.STORAGE.HOLDER : Fld := ⟨24, 2, 4⟩
def F.STORAGE.SLOT_ENABLE : Fld := ⟨24, 3, 1⟩
def F.STORAGE.MAX_GEN : Fld := ⟨24, 4, 3⟩
def F.STORAGE.MAX_WIDTH : Fld := ⟨24, 5, 3⟩
def F.STORAGE.GEN : Fld := ⟨24, 6, 3⟩
def F.STORAGE.WIDTH : Fld := ⟨24, 7, 3⟩
def F.STORAGE.MPS : Fld := ⟨24, 8, 10⟩
def F.STORAGE.ASPM_L1 : Fld := ⟨24, 9, 1⟩
def F.STORAGE.HANDOVER_PERST : Fld := ⟨24, 10, 10⟩
def F.STORAGE.WIN_BASE : Fld := ⟨24, 11, 64⟩
def F.STORAGE.WIN_LIMIT : Fld := ⟨24, 12, 64⟩
def F.STORAGE.WIN_ENABLE : Fld := ⟨24, 13, 4⟩
def F.STORAGE.TLPS_DOWN : Fld := ⟨24, 14, 64⟩
def F.STORAGE.TLPS_UP : Fld := ⟨24, 15, 64⟩
def F.STORAGE.CPL_TIMEOUTS : Fld := ⟨24, 16, 32⟩
def F.STORAGE.CPL_SYNTH : Fld := ⟨24, 17, 32⟩
def F.STORAGE.DMA_BLOCKED : Fld := ⟨24, 18, 32⟩
def F.STORAGE.REFUSED : Fld := ⟨24, 19, 32⟩
def F.STORAGE.POSTED_FAILED : Fld := ⟨24, 20, 32⟩
def F.STORAGE.REMOVALS : Fld := ⟨24, 21, 32⟩
def F.STORAGE.HANDOVERS : Fld := ⟨24, 22, 32⟩
def F.STORAGE.AER_COR : Fld := ⟨24, 23, 32⟩
def F.STORAGE.AER_UNCOR : Fld := ⟨24, 24, 32⟩
def F.BRANCH.MODE : Fld := ⟨25, 0, 2⟩
def F.BRANCH.BIT_RATE : Fld := ⟨25, 1, 16⟩
def F.BRANCH.DATA_RATE : Fld := ⟨25, 2, 13⟩
def F.BRANCH.SAMPLE_POINT : Fld := ⟨25, 3, 10⟩
def F.BRANCH.DATA_SAMPLE : Fld := ⟨25, 4, 10⟩
def F.BRANCH.AUTO_RECOVER : Fld := ⟨25, 5, 1⟩
def F.BRANCH.TX_ID : Fld := ⟨25, 6, 32⟩
def F.BRANCH.TX_LEN : Fld := ⟨25, 7, 7⟩
def F.BRANCH.TX_PERIOD : Fld := ⟨25, 8, 16⟩
def F.BRANCH.EVENT_SLOT : Fld := ⟨25, 9, 11⟩
def F.BRANCH.RAW_ENABLE : Fld := ⟨25, 10, 1⟩
def F.BRANCH.POLICER : Fld := ⟨25, 11, 10⟩
def F.BRANCH.POLICER_EN : Fld := ⟨25, 12, 1⟩
def F.BRANCH.TGT_ADDR : Fld := ⟨25, 13, 7⟩
def F.BRANCH.TGT_DATA : Fld := ⟨25, 14, 32⟩
def F.BRANCH.SPLIT_HOLD : Fld := ⟨25, 15, 10⟩
def F.BRANCH.STRETCH_MAX : Fld := ⟨25, 16, 7⟩
def F.BRANCH.I2C_PAGE : Fld := ⟨25, 17, 9⟩
def F.BRANCH.GPIO_DIR : Fld := ⟨25, 18, 32⟩
def F.BRANCH.GPIO_OUT : Fld := ⟨25, 19, 32⟩
def F.BRANCH.GPIO_OD : Fld := ⟨25, 20, 32⟩
def F.BRANCH.GPIO_PULL_UP : Fld := ⟨25, 21, 32⟩
def F.BRANCH.GPIO_PULL_DOWN : Fld := ⟨25, 22, 32⟩
def F.BRANCH.GPIO_RISE : Fld := ⟨25, 23, 32⟩
def F.BRANCH.GPIO_FALL : Fld := ⟨25, 24, 32⟩
def F.BRANCH.GPIO_DEBOUNCE : Fld := ⟨25, 25, 16⟩
def F.BRANCH.GPIO_IN : Fld := ⟨25, 26, 32⟩
def F.BRANCH.CAN_STATE : Fld := ⟨25, 27, 2⟩
def F.BRANCH.TEC : Fld := ⟨25, 28, 8⟩
def F.BRANCH.REC : Fld := ⟨25, 29, 8⟩
def F.BRANCH.TX_COUNT : Fld := ⟨25, 30, 64⟩
def F.BRANCH.RX_COUNT : Fld := ⟨25, 31, 64⟩
def F.BRANCH.BUS_ERRORS : Fld := ⟨25, 32, 32⟩
def F.BRANCH.NACKS : Fld := ⟨25, 33, 32⟩
def F.BRANCH.TIMEOUTS : Fld := ⟨25, 34, 32⟩
def F.BRANCH.UNMATCHED : Fld := ⟨25, 35, 32⟩
def F.BRANCH.FLOOD_DROPS : Fld := ⟨25, 36, 32⟩
def F.BRANCH.TX_LATE : Fld := ⟨25, 37, 32⟩
def F.BRANCH.POLLS_MISSED : Fld := ⟨25, 38, 32⟩
def F.BRANCH.COALESCED : Fld := ⟨25, 39, 32⟩
def F.BRANCH.SET_REFUSED : Fld := ⟨25, 40, 32⟩
def F.SIGNAL.ENABLE : Fld := ⟨26, 0, 1⟩
def F.SIGNAL.OWNER : Fld := ⟨26, 1, 4⟩
def F.SIGNAL.SOURCE : Fld := ⟨26, 2, 2⟩
def F.SIGNAL.SRC_IF : Fld := ⟨26, 3, 2⟩
def F.SIGNAL.CAN_ID : Fld := ⟨26, 4, 29⟩
def F.SIGNAL.CAN_MASK : Fld := ⟨26, 5, 29⟩
def F.SIGNAL.CAN_EXT : Fld := ⟨26, 6, 1⟩
def F.SIGNAL.POLL_ADDR : Fld := ⟨26, 7, 32⟩
def F.SIGNAL.POLL_LEN : Fld := ⟨26, 8, 7⟩
def F.SIGNAL.POLL_INTERVAL : Fld := ⟨26, 9, 16⟩
def F.SIGNAL.BIT_START : Fld := ⟨26, 10, 9⟩
def F.SIGNAL.LENGTH : Fld := ⟨26, 11, 6⟩
def F.SIGNAL.ORDER : Fld := ⟨26, 12, 1⟩
def F.SIGNAL.SIGNED : Fld := ⟨26, 13, 1⟩
def F.SIGNAL.FACTOR : Fld := ⟨26, 14, 32⟩
def F.SIGNAL.OFFSET : Fld := ⟨26, 15, 32⟩
def F.SIGNAL.MIN : Fld := ⟨26, 16, 32⟩
def F.SIGNAL.MAX : Fld := ⟨26, 17, 32⟩
def F.SIGNAL.DEST : Fld := ⟨26, 18, 2⟩
def F.SIGNAL.DEST_LANDING : Fld := ⟨26, 19, 2⟩
def F.SIGNAL.DEST_SLOT : Fld := ⟨26, 20, 11⟩
def F.SIGNAL.DEST_IF : Fld := ⟨26, 21, 1⟩
def F.SIGNAL.DEST_FRAME : Fld := ⟨26, 22, 4⟩
def F.SIGNAL.VALUE : Fld := ⟨26, 23, 32⟩
def F.SIGNAL.UPDATES : Fld := ⟨26, 24, 64⟩
def F.SIGNAL.SATURATED : Fld := ⟨26, 25, 32⟩
def F.SIGNAL.SHORT : Fld := ⟨26, 26, 32⟩
def F.SIGNAL.LAST_UPDATE : Fld := ⟨26, 27, 48⟩
def F.USBPORT.STATE : Fld := ⟨27, 0, 3⟩
def F.USBPORT.SPEED : Fld := ⟨27, 1, 2⟩
def F.USBPORT.PATH : Fld := ⟨27, 2, 2⟩
def F.USBPORT.PORT_ENABLE : Fld := ⟨27, 3, 1⟩
def F.USBPORT.POWER : Fld := ⟨27, 4, 1⟩
def F.USBPORT.MODE : Fld := ⟨27, 5, 1⟩
def F.USBPORT.BOUNCE_LIMIT : Fld := ⟨27, 6, 5⟩
def F.USBPORT.DEVICES : Fld := ⟨27, 7, 5⟩
def F.USBPORT.VID : Fld := ⟨27, 8, 16⟩
def F.USBPORT.PID : Fld := ⟨27, 9, 16⟩
def F.USBPORT.DEV_CLASS : Fld := ⟨27, 10, 8⟩
def F.USBPORT.REMOTE_WAKE : Fld := ⟨27, 11, 1⟩
def F.USBPORT.CONNECTS : Fld := ⟨27, 12, 32⟩
def F.USBPORT.RESETS : Fld := ⟨27, 13, 32⟩
def F.USBPORT.BABBLES : Fld := ⟨27, 14, 32⟩
def F.USBPORT.OVERCURRENTS : Fld := ⟨27, 15, 32⟩
def F.USBPORT.WAKES : Fld := ⟨27, 16, 32⟩
def F.USBPORT.WAKES_ABSORBED : Fld := ⟨27, 17, 32⟩
def F.USBPORT.WAKES_IGNORED : Fld := ⟨27, 18, 32⟩
def F.USBPORT.CANCELLED : Fld := ⟨27, 19, 32⟩
def F.USBPORT.TRANSFERS : Fld := ⟨27, 20, 64⟩
def F.USBPORT.BYTES : Fld := ⟨27, 21, 64⟩
def F.USBPORT.PROXY_HOSTS : Fld := ⟨27, 22, 4⟩
def F.USBPORT.FOCUS_LOCK : Fld := ⟨27, 23, 4⟩
def F.USBPORT.POINTER_SPEED : Fld := ⟨27, 24, 12⟩
def F.USBPORT.HEAD_ORIGIN_X : Fld := ⟨27, 25, 15⟩
def F.USBPORT.HEAD_ORIGIN_Y : Fld := ⟨27, 26, 15⟩
def F.USBPORT.FOCUS : Fld := ⟨27, 27, 4⟩
def F.USBPORT.POINTER_X : Fld := ⟨27, 28, 15⟩
def F.USBPORT.POINTER_Y : Fld := ⟨27, 29, 15⟩
def F.USBPORT.CROSSINGS : Fld := ⟨27, 30, 32⟩
def F.USBPORT.PROXY_DEVICES : Fld := ⟨27, 31, 4⟩
def F.LEGACY.ENABLE : Fld := ⟨28, 0, 1⟩
def F.LEGACY.STATE : Fld := ⟨28, 1, 3⟩
def F.LEGACY.SPEED : Fld := ⟨28, 2, 2⟩
def F.LEGACY.ADDRESS : Fld := ⟨28, 3, 7⟩
def F.LEGACY.REMOTE_WAKE : Fld := ⟨28, 4, 2⟩
def F.LEGACY.VID : Fld := ⟨28, 5, 16⟩
def F.LEGACY.PID : Fld := ⟨28, 6, 16⟩
def F.LEGACY.IDLE_RESET : Fld := ⟨28, 7, 17⟩
def F.LEGACY.BUS_RESETS : Fld := ⟨28, 8, 32⟩
def F.LEGACY.ABORTED : Fld := ⟨28, 9, 32⟩
def F.LEGACY.PARTIAL_DISCARDS : Fld := ⟨28, 10, 32⟩
def F.LEGACY.RESENT : Fld := ⟨28, 11, 32⟩
def F.LEGACY.SETUPS : Fld := ⟨28, 12, 64⟩
def F.LEGACY.STALLS : Fld := ⟨28, 13, 32⟩
def F.LEGACY.WAKES : Fld := ⟨28, 14, 32⟩
def F.LEGACY.WAKES_MERGED : Fld := ⟨28, 15, 32⟩
def F.FEED.STATE : Fld := ⟨29, 0, 3⟩
def F.FEED.REQUEST : Fld := ⟨29, 1, 1⟩
def F.FEED.ALLOW : Fld := ⟨29, 2, 1⟩
def F.FEED.LATCH_CLEAR : Fld := ⟨29, 3, 1⟩
def F.FEED.SHUNT : Fld := ⟨29, 4, 17⟩
def F.FEED.FAST_TRIP : Fld := ⟨29, 5, 17⟩
def F.FEED.CURVE_I : Fld := ⟨29, 6, 17⟩
def F.FEED.CURVE_T : Fld := ⟨29, 7, 20⟩
def F.FEED.RAMP_TIME : Fld := ⟨29, 8, 12⟩
def F.FEED.PG_WINDOW : Fld := ⟨29, 9, 5⟩
def F.FEED.RETRY_COUNT : Fld := ⟨29, 10, 8⟩
def F.FEED.RETRY_OFF : Fld := ⟨29, 11, 16⟩
def F.FEED.USB_CLASS : Fld := ⟨29, 12, 2⟩
def F.FEED.HOST_MAX : Fld := ⟨29, 13, 12⟩
def F.FEED.HOST_PRIORITY : Fld := ⟨29, 14, 3⟩
def F.FEED.CHARGE_BUDGET : Fld := ⟨29, 15, 14⟩
def F.FEED.ALLOTTED : Fld := ⟨29, 16, 14⟩
def F.FEED.GRANT : Fld := ⟨29, 17, 12⟩
def F.FEED.REQUESTED : Fld := ⟨29, 18, 12⟩
def F.FEED.I_NOW : Fld := ⟨29, 19, 32⟩
def F.FEED.V_NOW : Fld := ⟨29, 20, 17⟩
def F.FEED.VGS_NOW : Fld := ⟨29, 21, 14⟩
def F.FEED.P_NOW : Fld := ⟨29, 22, 32⟩
def F.FEED.I_PEAK : Fld := ⟨29, 23, 17⟩
def F.FEED.VHV_NOW : Fld := ⟨29, 24, 17⟩
def F.FEED.ENERGY : Fld := ⟨29, 25, 64⟩
def F.FEED.TRIPS : Fld := ⟨29, 26, 32⟩
def F.FEED.RETRIES : Fld := ⟨29, 27, 32⟩
def F.FEED.LAST_TRIP : Fld := ⟨29, 28, 16⟩
def F.FEED.PG_WITHHELD : Fld := ⟨29, 29, 32⟩
def F.KEYSLOT.KIND : Fld := ⟨30, 0, 3⟩
def F.KEYSLOT.OWNER : Fld := ⟨30, 1, 4⟩
def F.KEYSLOT.LABEL : Fld := ⟨30, 2, 64⟩
def F.KEYSLOT.BIND : Fld := ⟨30, 3, 8⟩
def F.KEYSLOT.SCOPE : Fld := ⟨30, 4, 5⟩
def F.KEYSLOT.PUBLIC : Fld := ⟨30, 5, 64⟩
def F.KEYSLOT.INPUT : Fld := ⟨30, 6, 64⟩
def F.KEYSLOT.OP : Fld := ⟨30, 7, 1⟩
def F.KEYSLOT.STATUS : Fld := ⟨30, 8, 3⟩
def F.KEYSLOT.OUTPUT : Fld := ⟨30, 9, 64⟩
def F.KEYSLOT.OPS : Fld := ⟨30, 10, 32⟩
def F.KEYSLOT.LC_STATE : Fld := ⟨30, 11, 3⟩
def F.KEYSLOT.LC_ADVANCE : Fld := ⟨30, 12, 3⟩
def F.KEYSLOT.KEYS_READY : Fld := ⟨30, 13, 1⟩
def F.KEYSLOT.ROOT_MARGIN : Fld := ⟨30, 14, 6⟩
def F.KEYSLOT.DEVICE_ID : Fld := ⟨30, 15, 64⟩
def F.KEYSLOT.MEASURE : Fld := ⟨30, 16, 64⟩
def F.KEYSLOT.EXTEND_COUNT : Fld := ⟨30, 17, 16⟩
def F.KEYSLOT.EXTEND : Fld := ⟨30, 18, 64⟩
def F.KEYSLOT.TAMPER_LATCH : Fld := ⟨30, 19, 1⟩
def F.KEYSLOT.TAMPER_CLEAR : Fld := ⟨30, 20, 1⟩
def F.KEYSLOT.TAMPER_HOLD : Fld := ⟨30, 21, 1⟩
def F.KEYSLOT.TAMPER_COUNT : Fld := ⟨30, 22, 32⟩
def F.UPDATE.STATE : Fld := ⟨31, 0, 3⟩
def F.UPDATE.RUNNING_SLOT : Fld := ⟨31, 1, 1⟩
def F.UPDATE.RUNNING_VERSION : Fld := ⟨31, 2, 32⟩
def F.UPDATE.STAGED_VERSION : Fld := ⟨31, 3, 32⟩
def F.UPDATE.PREVIOUS_VERSION : Fld := ⟨31, 4, 32⟩
def F.UPDATE.SEC_FLOOR : Fld := ⟨31, 5, 32⟩
def F.UPDATE.PIECES_HELD : Fld := ⟨31, 6, 11⟩
def F.UPDATE.PIECES_TOTAL : Fld := ⟨31, 7, 11⟩
def F.UPDATE.BITMAP : Fld := ⟨31, 8, 64⟩
def F.UPDATE.LAST_PIECE : Fld := ⟨31, 9, 48⟩
def F.UPDATE.ARM : Fld := ⟨31, 10, 2⟩
def F.UPDATE.ACTIVATE : Fld := ⟨31, 11, 1⟩
def F.UPDATE.CONFIRM : Fld := ⟨31, 12, 1⟩
def F.UPDATE.AUTO_CONFIRM : Fld := ⟨31, 13, 17⟩
def F.UPDATE.OEM_DIGEST : Fld := ⟨31, 14, 64⟩
def F.UPDATE.ACTIVATIONS : Fld := ⟨31, 15, 32⟩
def F.UPDATE.REVERTS : Fld := ⟨31, 16, 32⟩
def F.UPDATE.LAST_PAUSE : Fld := ⟨31, 17, 32⟩
def F.UPDATE.PIECES_REFUSED : Fld := ⟨31, 18, 32⟩
def F.LEDGER.STATE : Fld := ⟨32, 0, 2⟩
def F.LEDGER.AUDITS : Fld := ⟨32, 1, 64⟩
def F.LEDGER.MISMATCHES : Fld := ⟨32, 2, 32⟩
def F.LEDGER.CORRECTIONS : Fld := ⟨32, 3, 32⟩
def F.LEDGER.FAULTS : Fld := ⟨32, 4, 32⟩
def F.LEDGER.LAST_MISMATCH : Fld := ⟨32, 5, 48⟩
def F.LEDGER.LAST_DELTA : Fld := ⟨32, 6, 32⟩
def F.LEDGER.LAST_PAUSE : Fld := ⟨32, 7, 10⟩
def F.LEDGER.TERM : Fld := ⟨32, 8, 64⟩
def F.THERMAL.TEMP : Fld := ⟨33, 0, 16⟩
def F.THERMAL.TEMP_MAX : Fld := ⟨33, 1, 16⟩
def F.THERMAL.SENSOR_STATE : Fld := ⟨33, 2, 1⟩
def F.THERMAL.SPRINT_ENABLE : Fld := ⟨33, 3, 1⟩
def F.THERMAL.SPRINT_STATE : Fld := ⟨33, 4, 2⟩
def F.THERMAL.BARRED : Fld := ⟨33, 5, 7⟩
def F.THERMAL.TJ_LIMIT : Fld := ⟨33, 6, 7⟩
def F.THERMAL.REENTRY_MARGIN : Fld := ⟨33, 7, 5⟩
def F.THERMAL.RTH_FAST : Fld := ⟨33, 8, 10⟩
def F.THERMAL.RTH_SLOW : Fld := ⟨33, 9, 13⟩
def F.THERMAL.TAU_FAST : Fld := ⟨33, 10, 14⟩
def F.THERMAL.TAU_SLOW : Fld := ⟨33, 11, 12⟩
def F.THERMAL.AMBIENT_EST : Fld := ⟨33, 12, 16⟩
def F.THERMAL.PREDICTED : Fld := ⟨33, 13, 16⟩
def F.THERMAL.SPRINT_REMAINING : Fld := ⟨33, 14, 32⟩
def F.THERMAL.SPRINT_LIFETIME : Fld := ⟨33, 15, 23⟩
def F.THERMAL.SPRINTS : Fld := ⟨33, 16, 32⟩
def F.THERMAL.VCORE_TARGET : Fld := ⟨33, 17, 10⟩
def F.THERMAL.VCORE_SENSE : Fld := ⟨33, 18, 10⟩
def F.THERMAL.VCORE_READBACK : Fld := ⟨33, 19, 10⟩
def F.THERMAL.POWER : Fld := ⟨33, 20, 16⟩
def F.THERMAL.PACE_YARD : Fld := ⟨33, 21, 16⟩
def F.THERMAL.PACE_YARD_MIN : Fld := ⟨33, 22, 16⟩
def F.THERMAL.PACE_SHUNTER : Fld := ⟨33, 23, 16⟩
def F.THERMAL.PACE_SIGNAL_BOX : Fld := ⟨33, 24, 16⟩
def F.THERMAL.PACE_COMPOSITOR : Fld := ⟨33, 25, 16⟩
def F.THERMAL.ECC_CORRECTED : Fld := ⟨33, 26, 64⟩
def F.THERMAL.ECC_UNCORRECTABLE : Fld := ⟨33, 27, 32⟩
def F.THERMAL.PAGES_RETIRED : Fld := ⟨33, 28, 16⟩
def F.TOKEN.HOLDER : Fld := ⟨34, 0, 4⟩
def F.TOKEN.DESK_ONLY : Fld := ⟨34, 1, 1⟩
def F.TOKEN.MOVES : Fld := ⟨34, 2, 32⟩
def F.TOKEN.LAST_MOVE : Fld := ⟨34, 3, 48⟩
def F.STANDING.STATE : Fld := ⟨35, 0, 2⟩
def F.STANDING.OWNER : Fld := ⟨35, 1, 4⟩
def F.STANDING.ENABLE : Fld := ⟨35, 2, 1⟩
def F.STANDING.CLEAR : Fld := ⟨35, 3, 1⟩
def F.STANDING.LENGTH : Fld := ⟨35, 4, 13⟩
def F.STANDING.DIGEST : Fld := ⟨35, 5, 64⟩
def F.STANDING.LAST_STATUS : Fld := ⟨35, 6, 8⟩
def F.STANDING.LAST_DETAIL : Fld := ⟨35, 7, 16⟩
def F.STANDING.REPLAYS : Fld := ⟨35, 8, 32⟩
def F.STANDING.DESK : Fld := ⟨35, 9, 1⟩

/-! Where a reset value is not one number for every instance and element. -/

/-- The feed groups' reset values of SHUNT, FAST_TRIP and the curve (R488). F15's protection values come from the feed
configuration record (R489), and stand at 0 here until it is loaded. -/
def feedReset (inst num elem : Nat) : Nat :=
  let pick (a b c d : Nat) : Nat := if inst < 4 then a else if inst < 12 then b else if inst < 14 then c else if inst == 14 then d else 0
  match num with
  | 4 => pick 0x1388 0x4E20 0x2710 0x2710
  | 5 => pick 0x4E20 0xBB8 0x2710 0x2EE0
  | 6 =>
    match elem with
    | 0 => pick 0x1482 0x226 0xABE 0xCE4
    | 1 => pick 0x1770 0x3E8 0xFA0 0x1388
    | 2 => pick 0x1D4C 0 0 0
    | 3 => pick 0x2710 0 0 0
    | _ => 0
  | 7 =>
    match elem with
    | 0 => pick 0x186A0 0x2710 0x2710 0x2710
    | 1 => pick 0x1388 0x64 0x1F4 0xC8
    | 2 => pick 0x3E8 0 0 0
    | 3 => pick 0x64 0 0 0
    | _ => 0
  | _ => 0

/-- The reset value of one element of one field of one instance: the field map's figure, or the rule the map refers to
(R210, R257, R282, R365 GAMMA, R439, R467 HEAD_ORIGIN_X, R488, R511, R563). -/
def resetValue (cls inst num elem : Nat) : Nat :=
  let usual := match fieldInfo cls num with
    | some f => f.reset
    | none => 0
  match cls, num with
  | 3, 14 => ([0x80, 0x600, 0x400, 0x200, 0x80, 0x80, 0x80, 0] : List Nat).getD elem 0
  | 6, 9 => if inst % 8 == 7 then 0 else 2
  | 7, 6 => ([0, 0, 0, 0, 113400, 113400, 45000, 172800, 3840, 400, 0, 1000] : List Nat).getD inst 0
  | 8, 0 => if elem == 3 || elem == 7 then 0x80 else if elem < 8 then 0x200 else 0
  | 17, 24 => elem * 0x00100401
  | 25, 1 => ([0x1F4, 0x1F4, 0x190, 0x190, 0x2710, 0] : List Nat).getD inst 0
  | 27, 25 => elem * 0x2000
  | 29, 4 => feedReset inst 4 elem
  | 29, 5 => feedReset inst 5 elem
  | 29, 6 => feedReset inst 6 elem
  | 29, 7 => feedReset inst 7 elem
  | 30, 0 => if inst == 0 then 1 else if inst == 1 then 2 else if inst < 7 then 3 else 0
  | 32, 0 => if inst == 31 then 0 else 1
  | _, _ => usual

/-- The fields of which every instance reads alike (R283, R324, R467, R489, R522, R541): they have one home, instance 0. -/
def deviceWide (cls num : Nat) : Bool :=
  match cls with
  | 8 => num == 5 || num == 6 || num == 7
  | 23 => num == 19 || num == 20 || num == 21 || num == 37
  | 27 => 22 ≤ num
  | 29 => num == 15 || num == 16 || num == 24
  | 30 => 11 ≤ num
  | 31 => num == 11 || num == 12 || num == 13 || num == 14
  | _ => false

/-- The key of one element of one field of one instance in the store of fields. -/
def fieldKey (cls inst num elem : Nat) : Nat :=
  cls * 2 ^ 38 + (if deviceWide cls num then 0 else inst) * 2 ^ 22 + num * 2 ^ 10 + elem

/-- What an unlisted key of the store of fields reads as: the field's reset value. -/
def fieldDefault (k : Nat) : Nat :=
  resetValue (k / 2 ^ 38) (k / 2 ^ 22 % 2 ^ 16) (k / 2 ^ 10 % 2 ^ 12) (k % 2 ^ 10)

end Sys2Proof.Machine
end

