-- ==== Sys2Proof/Machine/State.lean ====
section
/-! DEFINITION. The machine's state as plain data, the reasons a step can stop, and the state right after reset.
Everything but the queue of waiting commands stands in Hub. Object fields (R131) stand in one sparse store of committed
values; what the data paths act on where the Apply entry lets it lag (R14) stands in a second store of the same keys. -/

namespace Sys2Proof.Machine

/-- Why a step stops. -/
inductive Fault where
  /-- Raised by every meaning whose command names an instance the hardware does not have: landing 7, head 5, slot 3.
  Safe: nothing is claimed of a command no part of the hub can receive. -/
  | noSuchInstance
  deriving DecidableEq, Repr

/-- Why a command has no meaning here. -/
inductive Refusal where
  /-- Raised by an arm of exec for a row not modelled yet. Safe: no effect is claimed for it. -/
  | notModelled (mnemonic : String)
  deriving DecidableEq, Repr

/-! ### The control plane (R117–R166) -/

/-- A moment a COMMIT or a WAIT names (R84, R86, R136). A set of kind 1 waits for a refill of the shaper of its first SHAPER store,
or without one for a slot boundary of the fine wheel, in local ns. -/
inductive Epoch where
  | now
  | refill (shaper : Nat)
  | slot (at_ : Nat)
  | blanking (head : Nat)
  | time (target : Nat)
  | cycle (port : Nat)
  | quiet (landing : Nat)
  deriving DecidableEq, Repr

/-- A staged store: the key of a field element and the value staged for it (R80, R83). -/
structure Staged where
  cls : Nat
  inst : Nat
  num : Nat
  elem : Nat
  value : Nat
  deriving DecidableEq, Repr

/-- A clamp entry of a Receipt (R144). -/
structure Clamp where
  object : Nat
  num : Nat
  reason : Nat
  elem : Nat
  high : Bool
  requested : Nat
  applied : Nat
  deriving DecidableEq, Repr

/-- What a Manifest is known by from its message on (R119, R127, R129, R153, R155). -/
structure ManHead where
  ctx : Nat := 0
  chan : Chan := .localPort
  seq : Nat := 0
  tag : Nat := 0
  level : Nat := 0x11
  standing : Bool := false
  slotByte : Nat := 0xFF
  replay : Option Nat := none
  desk : Bool := false
  deriving DecidableEq, Repr, Inhabited

/-- A Manifest waiting in its context's queue (R128, R129). -/
structure Manifest where
  head : ManHead
  words : List Word
  deriving DecidableEq, Repr

/-- What holds a running program (R86, R94, R138). -/
inductive Block where
  | wait (e : Epoch) (deadline : Nat)
  | delay (due deadline : Nat)
  | xfer (bus readLen : Nat)
  | commitStage (e : Epoch) (kind : Nat)
  deriving DecidableEq, Repr

/-- What an egress adapter still writes into a message as it leaves (R105–R107). -/
inductive EgressMark where
  | stamp (offset format : Nat)
  | corr (offset : Nat) (residence link : Bool)
  | csum (offset : Nat)
  deriving DecidableEq, Repr

/-- The message a Shunter program runs on, and its dispositions so far (R96–R111). -/
structure ShunterJob where
  slot : Nat := 0
  msgId : Nat := 0
  bytes : List Byte := []
  dests : List (Nat × Nat) := []
  mirrors : List Nat := []
  marks : List EgressMark := []
  deriving DecidableEq, Repr, Inhabited

/-- A running Knaen program (R46–R53, R72): its words, registers, flags, call stack and steps, what it has staged and
noted (Manifest profile), the CLOCK.STEP values it asked for in vain (R376), and its message (Shunter profile). -/
structure Prog where
  shunter : Bool := false
  level : Nat := 0x11
  words : List Word := []
  pc : Nat := 0
  regs : Table Word := {}
  z : Bool := false
  n : Bool := false
  c : Bool := false
  v : Bool := false
  k : Bool := false
  stack : List Nat := []
  steps : Nat := 0
  block : Option Block := none
  head : ManHead := {}
  staged : List Staged := []
  notes : List (Word × Word) := []
  clamps : List Clamp := []
  stepsRefused : List Int := []
  job : ShunterJob := {}
  deriving DecidableEq, Repr, Inhabited

/-- A set in the commit stage (R136–R140): its stores in program order, its epoch and deadline, whether its epoch has
arrived and it waits for an earlier set of its context (R138), and what its Receipt will carry. -/
structure WaitSet where
  head : ManHead
  words : List Word
  epoch : Epoch
  kind : Nat
  deadline : Nat
  arrived : Bool := false
  /-- Its epoch has arrived before that of an earlier set of its context: it commits directly after that one (R138). -/
  held : Bool := false
  late : Bool := false
  staged : List Staged
  notes : List (Word × Word)
  clamps : List Clamp
  stepsRefused : List Int := []
  steps : Nat
  deriving DecidableEq, Repr

/-- A Control message the device sends (R117, R120): type, sequence and body, the channel it leaves on (R26), and, for a
NOTICE, how many ring entries it carries. -/
structure OutMsg where
  chan : Chan
  ctx : Nat
  type : Nat
  seq : Nat
  body : List Byte
  entries : Nat := 0
  /-- Of a NOTICE: the Yard's next message number when it was formed; data with a lower number goes before it (R27). -/
  mark : Nat := 0
  deriving DecidableEq, Repr

/-- A pending notice record or ring entry of one context and source (R157, R159). -/
structure NoticeRec where
  src : Nat := 0
  count : Nat := 0
  time : Nat := 0
  payload : Nat := 0
  deriving DecidableEq, Repr, Inhabited

/-- What one command context holds beside its CONTEXT fields: its Manifest queue, its messages not yet sent (the
Receipt ring among them), its notice ring and the collector's place in the round, its NOTICE sequence counter, the
largest body its party accepts, how far the local port has read into the first message, and the Receipts of discarded
sets kept until it is next up. inMessages are the NOTICE messages under way on its landing's pairs, by sequence with the ring entries not yet
acknowledged; inTransfer the entries of the NOTICE under way on its legacy interface (R161). -/
structure Ctx where
  queue : List Manifest := []
  out : List OutMsg := []
  readPos : Nat := 0
  ring : List NoticeRec := []
  inMessages : List (Nat × Nat) := []
  inTransfer : Nat := 0
  roundPos : Nat := 0
  noticeSeq : Nat := 0
  maxBody : Nat := 1024
  kept : List OutMsg := []
  deriving DecidableEq, Repr, Inhabited

/-- A standing slot's record in flash (R153–R155): the Manifest header fields and words it was stored with. -/
structure StandingRec where
  level : Nat := 0
  tag : Nat := 0
  words : List Word := []
  /-- The full SHA-384 of the record (R496). -/
  sum : List Byte := []
  deriving DecidableEq, Repr, Inhabited

/-! ### The Yard and its egress (R245–R305) -/

/-- A message inside the Yard: its bytes from byte 0 of R97, the Yard port it first entered by (R43), its service, its
ingress timestamp (local counter, 2^−16 ns), its landing tunnel's wire index, class and slot or the MAC it came from, the
Route entry that classified it, whether a policer marked it (R298), the launch time a FRAME carries (R304), how often it
has recirculated (R43), what the egress adapter still writes (R105–R107), the mirror sessions that marked it and those
that have copied it (R275). -/
structure Pkt where
  bytes : List Byte := []
  port : Nat := 0
  service : Nat := 0
  stamp : Nat := 0
  index : Nat := 0
  cls : Nat := 0
  slot : Nat := 0
  mac : Nat := 0
  /-- How many bytes precede the frame: common header and launch time of a FRAME message (R308). -/
  lead : Nat := 0
  /-- The VLAN a frame is bridged in (R313). -/
  vlan : Nat := 0
  entry : Nat := 0
  marked : Bool := false
  launch : Option Nat := none
  passes : Nat := 0
  marks : List EgressMark := []
  mirrors : List Nat := []
  copied : List Nat := []
  /-- The program its entry had as its SOM flit came (R243). -/
  program : Option (Nat × Bool) := none
  /-- A bridged PTP event message for the transparent-clock program (R383). -/
  tc : Bool := false
  /-- The destinations its ingress adapter supplied: leaf and tunnel slot (R264). -/
  aim : List (Nat × Nat) := []
  deriving DecidableEq, Repr, Inhabited

/-- A message in the ingress slice of a Yard port, and how many of its copies have not yet crossed or been refused
(R247, R261). -/
structure SlicePkt where
  id : Nat
  input : Nat
  pkt : Pkt
  copies : Nat
  deriving DecidableEq, Repr

/-- A descriptor in a VOQ (R261): the message, its destination leaf and the tunnel slot there, the cells still to cross,
and whether the output has admitted it (R254). -/
structure Desc where
  id : Nat
  leaf : Nat
  slot : Nat
  cellsLeft : Nat
  admitted : Bool := false
  deriving DecidableEq, Repr

/-- A message in a leaf queue: the cells charged to the reserve and to the shared part (R253), whether its last cell has
crossed, and whether a trigger has released it (R305). On Y12 slot carries a mirror copy's session + 4 × direction + 8 × egress port. -/
structure LeafPkt where
  id : Nat
  input : Nat
  pkt : Pkt
  slot : Nat
  reserve : Nat
  shared : Nat
  whole : Bool
  released : Bool := false
  deriving DecidableEq, Repr

/-- Where a programmed-path message stands (R268). -/
inductive TicketState where
  | outside
  | waiting
  | onThread
  | ended
  deriving DecidableEq, Repr

/-- A programmed-path message, in ticket order: the port and service it entered by, its Route entry and program slot, and
once its program has ended its destinations (R268, R110). -/
structure Ticket where
  id : Nat
  input : Nat
  slot : Nat
  pkt : Pkt
  state : TicketState := .waiting
  dests : List (Nat × Nat) := []
  deriving DecidableEq, Repr

/-- A policer's buckets in units of 1/8,000,000 byte and the local-counter ns they stand at (R297). -/
structure Meter where
  spentP : Nat := 0
  spentC : Nat := 0
  last : Nat := 0
  deriving DecidableEq, Repr, Inhabited

/-- A message in flight on a landing's link (R543): its number, Yard port, tunnel slot and service, and the cells charged to the reserve and to the
shared part. -/
structure Flight where
  id : Nat
  port : Nat
  slot : Nat
  service : Nat
  reserve : Nat
  shared : Nat
  deriving DecidableEq, Repr, Inhabited

/-- The Yard's own state. VOQs are numbered input × 128 + output × 8 + service, matcher pointers port × 2 + level, the
service pointers input × 16 + output, down and flushed port × 3 + unit (0 the port, 1 E0, 2 E1). -/
structure Yard where
  nextId : Nat := 0
  slices : List SlicePkt := []
  voqs : Table (List Desc) := {}
  grantPtr : Table Nat := {}
  acceptPtr : Table Nat := {}
  servicePtr : Table Nat := {}
  leaves : Table (List LeafPkt) := {}
  /-- The tunnel, plus 1, whose subscriber leaf a leaf of Y0…Y3 is (R228). -/
  leafTunnel : Table Nat := {}
  tickets : List Ticket := []
  /-- The ticket, plus 1, a thread (engine × 16 + thread) holds. -/
  threads : Table Nat := {}
  nextPort : Nat := 0
  /-- The Route table, 128 bits an entry (R223). -/
  routes : Table Nat := {}
  flushed : Table Bool := {}
  /-- Learns in the present second of a port, and the second they fall in (R266). -/
  learns : Table (Nat × Nat) := {}
  incast : Table Bool := {}
  voqRaised : Table Bool := {}
  poolLow : Bool := false
  routeLow : Bool := false
  /-- Messages a mirror session has selected since ENABLE, and copies it has made (R275, R276). -/
  selected : Table Nat := {}
  copies : Table Nat := {}
  /-- A loaded program slot: its level and words as of the load (R272). -/
  loaded : Table (Option (Nat × List Word)) := {}
  /-- Messages a landing is sending or has sent whose last flit is not yet acknowledged: their cells are in flight (R543). -/
  flight : List Flight := []
  /-- Messages that adapters hold back for want of slice room (R248): port, message, destinations. -/
  backlog : List (Nat × Pkt × List (Nat × Nat)) := []
  /-- The sessions that have selected a message as one of its copies left, by message number (R275). -/
  mirrored : Table (List Nat) := {}
  meters : Table Meter := {}
  /-- Messages delivered to the adapter of an internal Yard port and not yet taken: (ingress port, tunnel slot, bytes). -/
  inbox : Table (List (Nat × Nat × List Byte)) := {}
  /-- Deficit round robin: a child's deficit in bytes, and the last child a node served (R290). -/
  deficit : Table Nat := {}
  lastChild : Table Nat := {}
  /-- Bucket levels of a shaper in 1/8,000 byte beyond the whole bytes of its fields, and its last refill (R294). -/
  bucketFrac : Table (Nat × Nat) := {}
  lastRefill : Table Nat := {}
  /-- Timetable: the whole cycles passed, to swap banks on (R302). -/
  stagedBank : Table Bool := {}
  /-- Ports the Ledger has found stalled, and their CELLS_OUT, plus 1, when it began to watch them (R550). -/
  stalled : Table Bool := {}
  stallMark : Table Nat := {}
  /-- Storm windows: frames counted per MAC × 3 + kind, and notices already raised (R310). -/
  storm : Table Nat := {}
  stormRaised : Table Bool := {}
  /-- Whether the device's own XOFF stands on a MAC (R309). -/
  xoff : Table Bool := {}
  /-- MACs whose pause the watchdog makes the device ignore (R309), by MAC. -/
  pauseIgnored : Table Bool := {}
  deriving DecidableEq, Repr, Inhabited

/-! ### What leaves the hub, sessions, and the landings (R167–R221, R502–R508) -/

/-- Where the hub drives something out. -/
inductive Outlet where
  | mac
  | pairs
  | codewords
  | training
  | sideband
  | legacy
  | slot
  | far
  | usb
  | pin
  | phy
  | board
  | display
  | avs
  deriving DecidableEq, Repr

/-- One thing driven out: a frame on a MAC, a flit on a pair, codewords of one symbol on a pair (the symbol and how many, 16 bits each), a
training frame on a pair (pairs are numbered 4 × landing + pair), a sideband frame, a legacy transfer, a TLP to a
slot, a Branch Line transaction or frame, a USB transaction, a pin's new level, an MDIO request, a board signal, a head's frame as
sent to its sink, a VOUT command in mV to the VCORE regulator. -/
structure Emission where
  outlet : Outlet
  inst : Nat
  data : List Byte
  deriving DecidableEq, Repr

/-- An AUTH exchange and what it leaves (R202, R203, R503–R508): the host's reassembled message so far, AUTH_INIT and
AUTH_REPLY, the device's ephemeral scalar, the host's leaf key, whether the chain was empty, how far it is
(0 none, 1 AUTH_REPLY sent, 2 AUTH_DONE sent OK or GUEST, 3 AUTH_GO taken), when AUTH_INITs came within the last minute,
when a refusal or abort holds off the next, whether the attempt limit has shut it, the transcript of AUTH_PROOF
and AUTH_DONE, and for the management exchange its peer. -/
structure Exchange where
  part : List Byte := []
  partNext : Nat := 0
  partType : Nat := 0
  partCount : Nat := 0
  partTotal : Nat := 0
  init : List Byte := []
  reply : List Byte := []
  proof : List Byte := []
  done : List Byte := []
  scalar : Nat := 0
  hostKey : List Byte := []
  leafKey : List Byte := []
  empty : Bool := false
  phase : Nat := 0
  inits : List Nat := []
  notBefore : Nat := 0
  limited : Bool := false
  peer : Nat × List Byte := (0, [])
  deriving DecidableEq, Repr, Inhabited

/-- A session's traffic secrets (R204, R506–R508): whether it is up, a guest's or not, each direction's secret and
base nonce salt, its key epoch and its sequence, the largest sequence accepted and the last 64 taken (R507), when seal
checks failed, and when a valid message last came. -/
structure Session where
  up : Bool := false
  guest : Bool := false
  secretIn : List Byte := []
  secretOut : List Byte := []
  saltIn : List Byte := []
  saltOut : List Byte := []
  epochIn : Nat := 0
  epochOut : Nat := 0
  seqIn : Nat := 0
  seqOut : Nat := 0
  taken : List Nat := []
  fails : List Nat := []
  lastHeard : Nat := 0
  helloOnly : Bool := false
  deriving DecidableEq, Repr, Inhabited

/-- A message being sent on a landing's pairs: class, slot, wire index and the 128-byte payloads still to send (R217). -/
structure TxMsg where
  cls : Nat
  slot : Nat
  index : Nat
  flits : List (List Byte)
  pkt : Pkt := {}
  /-- The leaf it left, and its number in the Yard. -/
  leaf : Nat := 0
  id : Nat := 0
  deriving DecidableEq, Repr, Inhabited

/-- A sequenced flit sent and not yet acknowledged (R186, R189): its class, 8 for a control flit. -/
structure TxFlit where
  seq : Nat
  cls : Nat
  bytes : List Byte
  /-- Of a data flit: its message's number in the Yard plus 1 and tunnel slot, and whether it is the message's last. -/
  msg : Nat := 0
  slot : Nat := 0
  last : Bool := false
  /-- Of a NOTICE message: its sequence plus 1, and how many of its entries end in the flit (R161). -/
  notice : Nat × Nat := (0, 0)
  deriving DecidableEq, Repr, Inhabited

/-- A pair swap in progress (R194, R195): the pair, its new direction (1 host→dock, 2 dock→host), number, whether
automatic, its start in ns, how far it is (0 asked, 1 turning, 2 locking, 3 reversing), and whether it serves sparing. -/
structure Swap where
  pair : Nat := 0
  dir : Nat := 0
  number : Nat := 0
  auto : Bool := false
  start : Nat := 0
  phase : Nat := 0
  sparing : Bool := false
  deriving DecidableEq, Repr, Inhabited

/-- What a landing holds beside its LANDING and PAIR fields: the sideband (R172–R176), training (R178–R182), sequences,
replay and reordering (R186–R188), credits (R189), quiet points and swaps (R191–R195), solo retraining (R197), seal
groups (R204–R206). Pair-indexed lists are numbers with 4 or 2 entries of their own width. -/
structure Link where
  pongs : Nat := 0
  missed : Nat := 0
  answered : Bool := true
  /-- When the reply window of the last device frame closes, in the feed die's ns (R170). -/
  windowEnd : Nat := 0
  helloTries : Nat := 0
  hostHello : List Byte := []
  /-- CREDITS of the device's last LINK_HELLO (R174, R190). -/
  grantSent : List Nat := []
  select : List Byte := []
  features : Nat := 0
  common : Nat := 0
  /-- Whether the landing has reached ACTIVE, and completed a first ALIGN, since its last link HELLO. -/
  reached : Bool := false
  aligned : Bool := false
  trainRate : Nat := 0
  trainFull : Bool := true
  trainTries : Nat := 0
  /-- The PRBS31 register of training frames (R179), and PAIR_TRAIN as last heard with VALID for a pair (R187). -/
  prbs : Nat := 0
  trainHeard : Table Nat := {}
  /-- The pair the next flit goes out on, flits sent on each pair in its present superframe, the message bits
  that stand in its unfinished codeword (R181), and the pair a flit must take. -/
  nextPair : Nat := 0
  framePos : Table Nat := {}
  frameRest : Table Nat := {}
  onPair : Option Nat := none
  /-- When codewords of a pair were uncorrectable, within the last millisecond (R196). -/
  badCodes : Table (List Nat) := {}
  /-- 0 while no retrain runs, else its cause (R208), and when it began. -/
  retrainCause : Nat := 0
  retrainStart : Nat := 0
  txSeq : Nat := 0
  rxSeq : Nat := 0
  unacked : List TxFlit := []
  replay : List TxFlit := []
  sameReplay : Nat × Nat := (0, 0)
  reorder : List (Nat × List Byte) := []
  /-- The expected sequence a NAK was last sent for, plus 1, and when. -/
  nakSeq : Nat := 0
  nakAt : Nat := 0
  sinceAck : Nat := 0
  ackDue : Bool := false
  nakDue : Bool := false
  /-- Swapping and rejoining pairs the device reports locked (R187, R194). -/
  locked : List Nat := []
  /-- Control flits waiting for the replay window or for ACTIVE: (CTYPE, payload); held while a quiet point is worked off (R191). -/
  holdCtl : Bool := false
  ctl : List (Nat × List Byte) := []
  txMsgs : List TxMsg := []
  /-- Flits of Time and of Control sent in the present 100 µs (R229), and its start. -/
  shares : Nat × Nat := (0, 0)
  shareStart : Nat := 0
  /-- Dock→host credits: latest returns R and counts S by class. -/
  returned : Table Nat := {}
  sent : Table Nat := {}
  /-- Host→dock credits: the grants of the last LINK_HELLO and data flits accepted, by class. -/
  granted : Table Nat := {}
  taken : Table Nat := {}
  ackCount : Nat := 0
  ackHeard : Nat := 0
  /-- Whether each direction is sealed (after AUTH_DONE and AUTH_GO, R204). -/
  sealOut : Bool := false
  sealIn : Bool := false
  keyPhaseOut : Bool := false
  keyPhaseIn : Bool := false
  flitsOnKey : Nat := 0
  /-- The open outbound seal group: first sequence, flits, ciphertext and associated data so far. -/
  groupFirst : Nat := 0
  groupCount : Nat := 0
  groupText : List Byte := []
  groupAad : List Byte := []
  /-- The inbound seal group not yet closed: (sequence, flit). -/
  groupIn : List (Nat × List Byte) := []
  tagFails : List Nat := []
  /-- Whether a REKEY is owed to the partner (R206). -/
  rekeyOwed : Bool := false
  /-- Whether a stored REKEY waits for the landing to be ACTIVE (R206). -/
  rekeyAsk : Bool := false
  /-- Whether the device is working toward a committed ALLOT_IN (R237). -/
  toAllot : Bool := false
  /-- RESYNC: being exchanged, host→dock flits it discards, and why. -/
  resync : Bool := false
  /-- When RESYNC was last sent; the sequence last announced, plus 1, until the next AUTH success. -/
  resyncAt : Nat := 0
  resyncSaid : Nat := 0
  resyncLost : Nat := 0
  reauthReason : Nat := 0
  quiet : Nat := 0
  swapCount : Nat := 0
  swap : Option Swap := none
  /-- A swap that starts at the next quiet point. -/
  swapWanted : Option Swap := none
  demandSum : Nat := 0
  demandCount : Nat := 0
  loadOut : Nat := 0
  lopsided : Nat := 0
  lopsidedDir : Nat := 0
  noSwapUntil : Nat := 0
  /-- Solo attempts made and whether one runs, by pair. -/
  soloTries : Table Nat := {}
  soloRunning : Table Bool := {}
  /-- When each pair last failed. -/
  failAt : Table Nat := {}
  /-- The pairs that lost lock at the moment of the last failure (R182). -/
  lostLock : List Nat := []
  /-- Pairs rejoining in a direction, or waiting for a swap to end (direction 0); pairs failed during HOLD. -/
  rejoin : List (Nat × Nat) := []
  heldFailures : List Nat := []
  idleReqSent : Bool := false
  lastBusy : Nat := 0
  holdStart : Nat := 0
  /-- Sets, stores and changes waiting for the next quiet point: ADMITTED increases, stores taking effect, closes. -/
  increases : Bool := false
  quietStores : Bool := false
  closing : List Nat := []
  closeAll : Bool := false
  deriving DecidableEq, Repr, Inhabited

/-- A tunnel's receiving side (R216, R231): the message open since its SOM flit, or swallowed to its EOM; the bytes of
the present 100 µs window, and credits the ceiling delays. -/
structure TunnelRx where
  isOpen : Bool := false
  bad : Bool := false
  bytes : List Byte := []
  flits : Nat := 0
  need : Nat := 0
  stamp : Nat := 0
  window : Nat := 0
  /-- When the present window began, in local ns. -/
  windowAt : Nat := 0
  delayed : Nat := 0
  /-- The program of the message's Route entry as its SOM flit came (R243). -/
  program : Nat × Bool := (0, false)
  deriving DecidableEq, Repr, Inhabited

/-- What the feed die holds for a feed beside its FEED fields (R471–R483). Times are of the feed die, in ns. -/
structure FeedState where
  enabledAt : Nat := 0
  /-- Breaker timers by curve point, in 0.1 ms. -/
  breaker : Table Nat := {}
  reverse : Nat := 0
  pgCount : Nat := 0
  badCount : Nat := 0
  overCount : Nat := 0
  withheld : Bool := false
  checked : Bool := false
  tripped : Bool := false
  retries : Nat := 0
  /-- The RAMP_TIME of the present enable, in µs. -/
  ramp : Nat := 0
  /-- Samples of the last evaluation: I in mA, VOUT and VGS in mV. -/
  amps : Int := 0
  volts : Nat := 0
  gate : Nat := 0
  /-- Power samples of the last second, newest last (F0…F3), in µW. -/
  powers : List Int := []
  /-- The part of the energy below 1 µJ, in 0.1 nJ, and the samples that entered ENERGY (LEDGER.TERM, R564). -/
  remainder : Nat := 0
  samples : Nat := 0
  peak : Nat := 0
  /-- When the present off-time ends, and since when power-good has held, plus 1. -/
  retryAt : Nat := 0
  goodSince : Nat := 0
  deriving DecidableEq, Repr, Inhabited

/-- A landing's charging contract (R482, R483): request and least acceptable power, the allotment and limit in force, the
next contract number, and a reduction waiting: its new grant plus 1 and number. -/
structure Contract where
  request : Nat := 0
  least : Nat := 0
  allotted : Nat := 0
  next : Nat := 1
  reduceTo : Nat := 0
  reduceNo : Nat := 0
  /-- A POWER_REQ answered in link hold with reason 0x04. -/
  refusedHold : Bool := false
  /-- Whether the landing is past HELLO with a LINK_SELECT of STATUS 0x00 or 0x06: the feed die knows it without the main die (R482). -/
  past : Bool := false
  deriving DecidableEq, Repr, Inhabited

/-! ### Displays and the Depot (R325–R367) -/

/-- A Present accepted and neither flipped nor ended (R337–R339): who sent it and on which slot, its identifier, target and
surface, and when it was accepted (local ns). -/
structure Present where
  ctx : Nat := 0
  slot : Nat := 0
  id : Nat := 0
  kind : Nat := 0
  target : Nat := 0
  surface : Nat := 0
  at_ : Nat := 0
  deriving DecidableEq, Repr, Inhabited

/-- A Turntable job (R341): landing, slot, identifier, surfaces, rectangle, destination, quarter turns clockwise. -/
structure Job where
  l : Nat := 0
  slot : Nat := 0
  id : Nat := 0
  src : Nat := 0
  dst : Nat := 0
  sx : Nat := 0
  sy : Nat := 0
  w : Nat := 0
  hgt : Nat := 0
  dx : Nat := 0
  dy : Nat := 0
  rot : Nat := 0
  deriving DecidableEq, Repr, Inhabited

/-- A clone layer's copying (R347): the copy that runs, the element of CLONE_SURF that is shown plus 1, the element whose
copy has completed and awaits its flip plus 1, and whether the source has flipped since the copy began. -/
structure Clone where
  copy : Option Job := none
  shown : Nat := 0
  done : Nat := 0
  again : Bool := false
  deriving DecidableEq, Repr, Inhabited

/-- A head's timing generator, framelock and sink (R350–R360). Moments are of the local counter in 2^−16 ns. -/
structure HeadState where
  /-- Stopped by Desk Standby (R568). -/
  standby : Bool := false
  /-- Between a start of blanking and the next frame start. -/
  inBlank : Bool := false
  /-- Whether line LINE_MATCH of this frame has begun, and whether its last pixel has left. -/
  matched : Bool := false
  done : Bool := false
  /-- The last frame start, the start of blanking due after it, and the next frame start. -/
  frameAt : Nat := 0
  blankAt : Nat := 0
  nextAt : Nat := 0
  /-- A restart or retrain gap: 0 none, else 1 + its class; when it began; when the last one ended. -/
  gap : Nat := 0
  gapStart : Nat := 0
  gapEnd : Nat := 0
  /-- Frames in a row within and beyond half a line. -/
  good : Nat := 0
  bad : Nat := 0
  trimAt : Nat := 0
  /-- Presents shown whose PRESENT_DONE waits for the frame start: with status and layer. -/
  shown : List (Present × Nat × Nat) := []
  sink : Bool := false
  /-- Link training in progress, and the rate and lanes being tried. -/
  training : Bool := false
  rate : Nat := 0
  lanes : Nat := 0
  irqAt : Nat := 0
  /-- Lines of the present frame that were replaced (R361). -/
  late : List Nat := []
  deriving DecidableEq, Repr, Inhabited

/-! ### The Station Clock (R368–R395) -/

/-- The clock beside its fields: when holdover began (ns, plus 1), the runs of offsets within LOCK_THRESHOLD and beyond four
times it, when a refused servo step was last reported in HELD (ns, plus 1), the last Announce received, and the level of
PTP_PPS. -/
structure ClockState where
  lostAt : Nat := 0
  inside : Nat := 0
  beyond : Nat := 0
  refusedAt : Nat := 0
  announce : List Byte := []
  pps : Bool := false
  deriving DecidableEq, Repr, Inhabited

/-- A PTP port beside its PTPPORT fields. Local readings are of the counter in 2^−16 ns; times of a partner are in
2^−16 ns too. -/
structure PtpPort where
  syncSeq : Nat := 0
  announceSeq : Nat := 0
  reqSeq : Nat := 0
  /-- The delay request in progress: 0 none, else its egress reading plus 1; whether one is sent and not yet answered. -/
  reqAt : Nat := 0
  waiting : Bool := false
  /-- Source identities that have answered it, and the answer that waits for its follow-up: (t4, t2, correction). -/
  responders : List (List Byte) := []
  response : Option (Nat × Int × Int) := none
  missed : Nat := 0
  /-- The last exchange's t3 and t4, for the rate ratio. -/
  last : Option (Int × Nat) := none
  hasDelay : Bool := false
  /-- Two-step Syncs waiting for their Follow_Up: sequence, reading, correction. -/
  syncs : List (Nat × Nat × Int) := []
  /-- t2 − t1 of the last usable Sync (end-to-end). -/
  forward : Option Int := none
  /-- The one-second termination window: start in ns and messages. -/
  windowAt : Nat := 0
  windowCount : Nat := 0
  /-- When each fault cause was last reported (ns, plus 1). -/
  faultAt : Table Nat := {}
  deriving DecidableEq, Repr, Inhabited

/-! ### Storage (R396–R415) -/

/-- A host's non-posted request accepted toward a slot (R401, R409): its landing and tunnel slot, its header bytes, when it was
accepted, and when it left for the slot (ns, plus 1; 0 while it waits). -/
structure HostReq where
  l : Nat := 0
  slot : Nat := 0
  hdr : List Byte := []
  at_ : Nat := 0
  sentAt : Nat := 0
  deriving DecidableEq, Repr, Inhabited

/-- A slot's non-posted request toward its host, when it left, and how long that host's landing has been in HOLD or RETRAIN
since (R409). -/
structure SlotReq where
  l : Nat := 0
  hdr : List Byte := []
  at_ : Nat := 0
  held : Nat := 0
  deriving DecidableEq, Repr, Inhabited

/-- An accepted posted write toward a slot (R404–R406): its initiator, address, pieces once split, pieces acknowledged, and
whether it has left for the slot. -/
structure PostedWrite where
  ctx : Nat := 0
  addr : Nat := 0
  pieces : Nat := 1
  acked : Nat := 0
  sent : Bool := false
  deriving DecidableEq, Repr, Inhabited

/-- A storage slot beside its STORAGE fields: requests and writes under way, whether its feed is good and SnPERST_N released,
failed trainings, whether Max Payload Size has forced a split, the handover (0 none, 1 draining, 2 in reset) with the
holder before it, and the landing, plus 1, that sees presence. -/
structure Slot where
  down : List HostReq := []
  up : List SlotReq := []
  posted : List PostedWrite := []
  power : Bool := false
  released : Bool := false
  tries : Nat := 0
  splitSeen : Bool := false
  phase : Nat := 0
  before : Nat := 0xF
  shownTo : Nat := 0
  deriving DecidableEq, Repr, Inhabited

/-! ### The Branch Line (R416–R440) -/

/-- An access for a far bus: an XFER of a Manifest of ctx, or an ACCESS from a tunnel slot of a landing with its ACCESS_ID and flags; its
far-side address, write data and read length (R92, R420). -/
structure Access where
  xfer : Bool := false
  ctx : Nat := 0
  l : Nat := 0
  slot : Nat := 0
  id : Nat := 0
  posted : Bool := false
  lock : Bool := false
  release : Bool := false
  addr : Nat := 0
  data : List Byte := []
  readLen : Nat := 0
  deriving DecidableEq, Repr, Inhabited

/-- What an interface has on its bus (R422): an access, an outbound frame, or a poll of the group with that lowest entry. -/
inductive FarJob where
  | access (a : Access)
  | frame (f : Nat)
  | poll (entry : Nat)
  deriving DecidableEq, Repr

/-- The split of a target register (R434): its request, and the data once its reply came. -/
structure Split where
  id : Nat
  data : Option (List Byte) := none
  deriving DecidableEq, Repr, Inhabited

/-- An interface beside its BRANCH fields: accesses waiting and XFERs waiting for a place among them, the transaction in progress
and whether a CAN access now waits for the frame it reads, the bus lock's holder and those whose lock was broken (a
Manifest's context, or a landing's tunnel slot), frames due (late or not) and polls due, a restart waiting, an I2C bus
held stuck, outbound frames as packed, received frames not yet taken, splits by register, and EVENTs that wait for the
data taken before them (R27, R433): kind, data and time. -/
structure FarBus where
  queue : List Access := []
  overflow : List Access := []
  job : Option FarJob := none
  wrote : Bool := false
  lock : Option (Bool × Nat × Nat) := none
  broken : List (Bool × Nat × Nat) := []
  dueFrames : List (Nat × Bool) := []
  duePolls : List Nat := []
  restart : Bool := false
  stuck : Bool := false
  packed : Table (List Byte) := {}
  rxFifo : List (Nat × List Byte × Nat) := []
  splits : Table (Option Split) := {}
  events : List (Nat × Nat × Nat) := []
  deriving DecidableEq, Repr, Inhabited

/-- A record of a SIGNALS message (R429): entry, whether saturated, value, and its source message's time. -/
structure SigRec where
  entry : Nat
  sat : Bool
  value : Nat
  at_ : Nat
  deriving DecidableEq, Repr, Inhabited

/-- SIGNALS messages of a tunnel: those waiting for credits, and the records gathered since. -/
structure Gather where
  wait : List (List SigRec) := []
  recs : List SigRec := []
  deriving DecidableEq, Repr, Inhabited

/-! ### USB (R441–R468) -/

/-- A device behind a downstream port (R446): the address its owner assigned, its configuration, the periodic bandwidth it has
in ‰ of the port's microframe or frame, and whether its remote wakeup is enabled. -/
structure UsbDevice where
  addr : Nat := 0
  config : Nat := 0
  need : Nat := 0
  wake : Bool := false
  deriving DecidableEq, Repr, Inhabited

/-- A transfer outstanding (R450): its landing and tunnel slot, identifier, device address, endpoint, direction, type, setup packet, data
length, packet lengths, OUT data, and the bandwidth in ‰ its configuration asks for. -/
structure Transfer where
  l : Nat := 0
  slot : Nat := 0
  id : Nat := 0
  addr : Nat := 0
  ep : Nat := 0
  dirIn : Bool := false
  type : Nat := 0
  setup : List Byte := []
  len : Nat := 0
  packets : List Nat := []
  data : List Byte := []
  need : Nat := 0
  deriving DecidableEq, Repr, Inhabited

/-- A downstream port beside its USBPORT fields: devices, transfers in arrival order, connects within 10 s, whether the bus suspend
suspended it, over-current, a test mode, the one-second report window, whether a proxied device is accepted, and its
held buttons and keys. -/
structure UsbPort where
  devices : List UsbDevice := []
  transfers : List Transfer := []
  connects : List Nat := []
  byBus : Bool := false
  overCurrent : Bool := false
  test : Nat := 0
  windowAt : Nat := 0
  reports : Nat := 0
  proxied : Bool := false
  buttons : Nat := 0
  keys : List Byte := []
  usage : Nat := 0
  /-- Suspended by Desk Standby (R568). -/
  byDesk : Bool := false
  deriving DecidableEq, Repr, Inhabited

/-- A USB function a host sees: its address, configuration, alternate setting, remote wakeup, halted endpoints and test
mode, and for an embedded one whether its port is enabled and suspended. -/
structure UsbFn where
  addr : Nat := 0
  config : Nat := 0
  alt : Nat := 0
  wake : Bool := false
  halts : List Nat := []
  test : Nat := 0
  enabled : Bool := false
  suspended : Bool := false
  deriving DecidableEq, Repr, Inhabited

/-- A host's virtual hub on one path (R444): its functions (0 hub, 1 management, 2 proxy HID), change bits by port, the
downstream port, plus 1, whose device answers at address 0, addresses it lost with their ports, the bus suspend with its
start and wake, interrupt-IN transfers that wait, reports of the proxy HID waiting by endpoint, the last pointer position, and the
state of the legacy device before its suspend. -/
structure VHub where
  fns : Table UsbFn := {}
  changes : Table Nat := {}
  atZero : Nat := 0
  lost : List Nat := []
  suspended : Bool := false
  suspendedAt : Nat := 0
  wakeSent : Bool := false
  resuming : Bool := false
  waiting : List Transfer := []
  reports : Table (List (List Byte)) := {}
  lastX : Nat := 0
  lastY : Nat := 0
  before : Nat := 0
  deriving DecidableEq, Repr, Inhabited

/-! ### Firmware update (R523–R541) -/

/-- An UPDATE_PIECE that waits to be programmed: its channel and sequence, its piece index, VERSION and data (R528). -/
structure PieceMsg where
  chan : Chan
  seq : Nat
  index : Nat
  version : Nat
  data : List Byte
  deriving DecidableEq, Repr

/-- An updatable part beside its UPDATE fields, mostly in flash (R529–R532): the accepted header of the staged image, its pieces, whether it
is READY; the headers of the running image and of the previous one while its slot holds it, with the SHA-384 of each whole image; the trial
bit; SEC_FLOOR; and the piece record's times: network time of the last piece, powered ns up to the last update, and when that was. -/
structure Part where
  staged : List Byte := []
  pieces : Table (List Byte) := {}
  ready : Bool := false
  awaiting : List PieceMsg := []
  running : List Byte := []
  runDigest : List Byte := []
  previous : List Byte := []
  prevDigest : List Byte := []
  trial : Bool := false
  floor : Nat := 0
  lastNet : Option Int := none
  powered : Nat := 0
  poweredAt : Nat := 0
  deriving DecidableEq, Repr, Inhabited

/-- An activation group under way (R533–R535): the parts still to step with their ARM, the current one first; all its parts as a bit set; for
link firmware the landing and whether it loads (0), is awaited (1) or deferred (2); when this step's pause began. -/
structure Activation where
  order : List (Nat × Nat)
  group : Nat
  landing : Nat := 0
  phase : Nat := 0
  longest : Nat := 0
  deriving DecidableEq, Repr

/-- A copy of the switch record (R532): its sequence, 0 for one never written; per part the active slot, the running and the previous image's
version and SEC_VERSION, and SEC_FLOOR; the trial bits; the groups in trial; the group under way with its step; and AUTO_CONFIRM. -/
structure SwitchCopy where
  seq : Nat := 0
  slots : List Nat := []
  versions : List (Nat × Nat × Nat × Nat) := []
  floors : List Nat := []
  trial : Nat := 0
  groups : List Nat := []
  activation : Option Activation := none
  auto : Nat := 0
  deriving DecidableEq, Repr, Inhabited

/-- An entry of the record ring (R587): its sequence, 0 for none, and the record, a piece record (R531) or the Sprint lifetime (R559). -/
structure RingEntry where
  seq : Nat := 0
  header : List Byte := []
  held : List Nat := []
  lastNet : Option Int := none
  powered : Nat := 0
  life : Nat := 0
  deriving DecidableEq, Repr, Inhabited

/-! ### The governor and the Ledger (R544–R560) -/

/-- The governor beside its fields (R554–R559). Temperatures are in 2^−32 °C, moments in local ns, rebased when the counter restarts: the model's
terms and A, PREDICTED, the run of demand windows, when demand last waited, whether the last Sprint ended by temperature, when this Sprint
began, what was charged before it, the seconds charged to it, the voltage a ramp started from and when, the sensors' histories (since when beyond the
median, plus 1; since when within both bounds, plus 1; since when above 110 °C, plus 1; which were reported), AVS retries, and corrected errors of
Depot pages within a day by head × 2^14 + page. -/
structure Governor where
  fast : Int := 0
  slow : Int := 0
  ambient : Int := 0
  predicted : Int := 0
  windows : Nat := 0
  waitedAt : Int := 0
  byTemp : Bool := false
  since : Int := 0
  before : Nat := 0
  rampFrom : Nat := 800
  rampAt : Int := 0
  far : Table Nat := {}
  near : Table Nat := {}
  hot : Table Nat := {}
  reported : Table Bool := {}
  avsTries : Nat := 0
  pageErrors : Table (List Nat) := {}
  deriving DecidableEq, Repr, Inhabited

/-- The Ledger beside its fields: for each instance a failed sum waiting for its second read or its recount (element and delta), and when it was
corrected within the last 60 s. -/
structure Ledger where
  failed : Table (Option (Nat × Int)) := {}
  correcting : Table (Option (Nat × Int)) := {}
  corrected : Table (List Nat) := {}
  deriving DecidableEq, Repr, Inhabited

/-! ### Power (R566–R582) -/

/-- The wake island and the feed die's rail sequence: whether VWAKE has been applied, the step of R572 that runs (0 in Deep Standby,
9 once power-good), failed attempts in a row and whether a retry waits, whether three have failed (only a wake source other than VHV starts it
then), whether Deep Standby was entered by R570, RESET_N low, the RESET_CAUSE and START_FAULTS of the next start, and the recorded events of R579 (payloads
plus 1): F15 trip, core overvoltage, thermal shutdown; and the µs from power-good to the local counter's start. -/
structure Island where
  vwake : Bool := true
  step : Nat := 9
  tries : Nat := 0
  retrying : Bool := false
  barred : Bool := false
  byOrder : Bool := false
  resetLow : Bool := false
  cause : Nat := 0
  faults : Nat := 0
  f15 : Nat := 0
  overVolt : Nat := 0
  heat : Nat := 0
  lead : Nat := 0
  /-- Whether the feed die stays powered although no rail sequence runs: the main die alone has lost its power (R560). -/
  feedsOn : Bool := false
  deriving DecidableEq, Repr, Inhabited

/-- A copy of the helper record in flash (R491): 64 helper blocks of 1,023 bits, the check value, the copy's digest and its commit flag. -/
structure HelperCopy where
  blocks : List Nat := []
  check : List Byte := []
  digest : List Byte := []
  committed : Bool := false
  deriving DecidableEq, Repr, Inhabited

/-! ### The hub -/

/-- Everything the hub holds but its queue of waiting commands. -/
structure Hub where
  /-- Committed values of all object fields (R131, R139), by field key. -/
  fields : Table Nat := {}
  /-- Values in effect of fields whose Apply entry is not Commit (R14), by field key. -/
  effs : Table Nat := {}
  /-- Running timers: the local-counter time in ns at which each falls due, plus 1 (R24); 0 means not running. -/
  timers : Table Nat := {}
  /-- The local counter in units of 2^−16 ns (R369). -/
  clk : Nat := 0
  /-- OFFSET and ANCHOR of network time, in 2^−16 ns (R371). -/
  clockOffset : Int := 0
  clockAnchor : Int := 0
  /-- How many free values have been drawn (the model's own field, log entry 5). -/
  free : Nat := 0
  /-- The contexts C0…C5. -/
  ctxs : Table Ctx := {}
  /-- Running programs: Cn's Manifest at n, thread t of Shunter engine e at 16 + 16 e + t. -/
  progs : Table (Option Prog) := {}
  /-- Sets in the commit stage, in the order their COMMIT instructions executed (R138). -/
  sets : List WaitSet := []
  /-- The commit journal: sets whose application has begun and not ended (R141). -/
  journal : List WaitSet := []
  /-- Standing records in flash, by slot (R153–R155). -/
  standing : Table StandingRec := {}
  /-- The next standing slot replay looks at, 16 when replay is over (R155). -/
  replayPos : Nat := 16
  /-- Tokens a replayed Manifest has acquired, with the context it ran for (R156). -/
  replayTokens : List (Nat × Nat) := []
  /-- The context whose Manifest has the Signal Box's turn, and the instructions left of it (R129). -/
  turnOf : Nat := 0
  turnLeft : Nat := 0
  /-- Pending notice records, by 512 × context + source (R159). -/
  pend : Table NoticeRec := {}
  /-- Messages in the local port's inbound FIFO (R122). -/
  fifoIn : List (List Byte) := []
  /-- The data phase of the local port's last read command (R122). -/
  spiOut : List Byte := []
  /-- The landings' contexts that have been authenticated, in order of AUTH success (R36, R37). -/
  authOrder : List Nat := []
  /-- Whether the K0 start-up window of R36 is still open. -/
  k0Window : Bool := true
  /-- Whether NT_SYSTEM_START has been raised since the last start (R591). -/
  startNoted : Bool := false
  /-- The Yard. -/
  yard : Yard := {}
  /-- Everything the hub has driven out, oldest first (the model's own record). -/
  out : List Emission := []
  /-- The landings. -/
  links : Table Link := {}
  /-- The receiving side of each TUNNEL instance. -/
  tunnels : Table TunnelRx := {}
  /-- AUTH exchanges and sessions: 0…3 a landing's pairs, 4…7 its legacy interface, 8 the management session. -/
  exchanges : Table Exchange := {}
  /-- The two copies of the helper record (R491). -/
  helper : HelperCopy × HelperCopy := ({}, {})
  /-- The root secret while the key block holds it, else empty (R490–R492). -/
  rootSecret : List Byte := []
  /-- The leaf key each context's host or peer presented at its last AUTH success (R498). -/
  leafKeys : Table (List Byte) := {}
  /-- The feed die: its own time in ns less the local counter's, its feeds, its contracts, whether it is in link hold and since when, and the F15
  values in use (R574). -/
  feedTime : Nat := 0
  /-- Timers on the feed die's own oscillator (R24): when each falls due in the feed die's time, plus 1. The one at reset is the 10 ms of link
  hold (R20), landing contracts' timeouts follow (R483). -/
  feedTimers : Table Nat := ⟨[(15728640, 10000001)]⟩
  /-- How often the feed-link frame in hand has been sent again (R20). -/
  feedLinkTries : Nat := 0
  feeds : Table FeedState := {}
  /-- Evaluations the feed die has run (LEDGER.TERM, R564). -/
  feedEvals : Nat := 0
  contracts : Table Contract := {}
  linkHold : Bool := false
  holdSince : Nat := 0
  f15Request : Bool := false
  /-- A delivered F15 record that waits for the next enable of F15 (R574). -/
  f15Next : List Nat := []
  f15 : List Nat := [12000, 2000, 10000, 2000, 10, 0, 0, 0, 5000, 0, 0, 0, 0, 0, 0, 0, 10000, 0, 0, 0, 0, 0, 0, 0]
  /-- Whether the main die runs: powered and out of reset. -/
  mainUp : Bool := true
  /-- The Depot's bytes by surface × 2^30 + place (R328); the accepted Presents of each layer; the context plus 1 whose store
  of LAYER.SURFACE waits; clones; layers kept dark by HANDOVER (R349); Turntable jobs in arrival order; the heads. -/
  pixels : Table Nat := {}
  presents : Table (List Present) := {}
  storedBy : Table Nat := {}
  clones : Table Clone := {}
  hidden : Table Bool := {}
  /-- Who freed a DYING surface. -/
  freedBy : Table Nat := {}
  jobs : List Job := []
  heads : Table HeadState := {}
  /-- The Depot: 0 runs, 1 pauses for its controller's firmware (R362), 2 in self-refresh (R568); and since when. -/
  depot : Nat := 0
  depotSince : Nat := 0
  /-- Whether the entropy source has failed a health test (R495). -/
  rngFault : Bool := false
  /-- Transition certificates stored in flash (R502, R519). -/
  transitions : Nat := 0
  sessions : Table Session := {}
  /-- The Station Clock and its PTP ports. -/
  clock : ClockState := {}
  ptps : Table PtpPort := {}
  /-- The storage slots, and what hosts have written to their virtual switches, by landing × 2^16 + function × 2^10 + register. -/
  slots : Table Slot := {}
  vswitch : Table Nat := {}
  /-- The Branch Line: its interfaces, SIGNALS messages by TUNNEL instance, the next TARGET_REQ id, and the result of a context's XFER
  (status of R421 and data) until XFER_DONE takes it. -/
  farBuses : Table FarBus := {}
  gathers : Table Gather := {}
  /-- The life-cycle fuses (R518): three a state above BLANK, those of state s at bits 3(s − 1)…3(s − 1) + 2. -/
  fuses : Nat := 0
  targetId : Nat := 0
  xferDone : Table (Option (Nat × List Byte)) := {}
  /-- USB: the ports, the virtual hubs by 2 × landing + path − 1, and keys (modifier bits as 256 + bit) that a crossing keeps
  from the focus host until they are released (R460). -/
  usbPorts : Table UsbPort := {}
  vhubs : Table VHub := {}
  heldKeys : List Nat := []
  /-- Control messages a seal has let through, by exchange number (R507, R508). -/
  opened : Table (List (List Byte)) := {}
  /-- TAMPER_N, a tamper event while the main die was unpowered (R515), and the INPUT of running slot operations. -/
  tamperLow : Bool := false
  tamperUnpowered : Bool := false
  keyInputs : Table (List Byte) := {}
  /-- The management session's peer: its MAC and the headers of its last datagram (R507); datagrams its window discarded; and the last
  message sent on each legacy interface's bulk IN (R464). -/
  mgmtPeer : Nat × List Byte := (0, [])
  mgmtDiscards : Nat := 0
  lastLegacy : Table (Option OutMsg) := {}
  /-- Firmware: the parts, the activation under way, the Signal Box's pause for its own activation (R535), the groups in trial, and a warm
  reset or Deep Standby entry deferred to the group's end (R538). -/
  parts : Table Part := {}
  /-- The governor, the Ledger, and the Depot's retired pages by head. -/
  governor : Governor := {}
  ledger : Ledger := {}
  retired : Table Nat := {}
  /-- Raises delivered and posted writes completed, by context: terms of instances 26 and 27 of the Ledger (R542). -/
  delivered : Table Nat := {}
  postedDone : Table Nat := {}
  activation : Option Activation := none
  boxPaused : Bool := false
  trialGroups : List Nat := []
  /-- The switch record's two copies (R532); of each record kind in the ring (0…4 piece records, 5 the Sprint lifetime) the newest entry and the one
  before it, with the ring's last sequence (R587). -/
  switchCopies : SwitchCopy × SwitchCopy := ({}, {})
  ring : Table (RingEntry × RingEntry) := {}
  ringSeq : Nat := 0
  /-- What waits for the end of a pause (R535, R480): PEEKs with the Signal Box; POWER_REQs by landing, request and least acceptable power, or a
  changed budget (landing 4), with power-manager firmware. -/
  peeksHeld : List (Chan × List Byte) := []
  heldReqs : List (Nat × Nat × Nat) := []
  warmWanted : Bool := false
  deepWanted : Bool := false
  /-- The wake island; a warm reset under way (R577, R582); notices of the start that wait for K0's first holder (R579). -/
  island : Island := {}
  warming : Bool := false
  startRaises : List (Nat × Nat) := []
  deriving DecidableEq, Repr

/-- The machine: the hub, and the commands waiting, first in, first out. -/
structure State where
  hub : Hub
  pending : List Instr
  deriving DecidableEq, Repr

/-- Right after reset: every field at its reset value, every queue and buffer empty, no command waiting. -/
def State.reset : State := { hub := {}, pending := [] }

end Sys2Proof.Machine
end

