-- ==== Sys2Proof/Machine/Ops.lean ====
section
/-! DEFINITION. The named operations over the state: object fields, time, timers, free values, tokens held, notices raised,
Control messages sent, and how a command's effect on the hub becomes an outcome. -/

namespace Sys2Proof.Machine

/-! ### Outcomes -/

/-- A command's effect on the hub as an outcome: the queue stays as it is. A main die that is unpowered or held in reset does
nothing (R576, R580). -/
def act (s : State) (f : Hub → Hub) : Host.Outcome State Fault Refusal :=
  .next { s with hub := if s.hub.mainUp then f s.hub else s.hub }

/-- As act, for what the feed die, the wake island and the landings' sideband do with the main die down as well (R480, R484). -/
def actAny (s : State) (f : Hub → Hub) : Host.Outcome State Fault Refusal :=
  .next { s with hub := f s.hub }

/-- As act, for a command that names an instance of the hardware: one that does not exist is a fault. -/
def actIf (exists_ : Bool) (s : State) (f : Hub → Hub) : Host.Outcome State Fault Refusal :=
  if exists_ then act s f else .fault .noSuchInstance

/-- As actAny, for a command that names an instance. -/
def actAnyIf (exists_ : Bool) (s : State) (f : Hub → Hub) : Host.Outcome State Fault Refusal :=
  if exists_ then actAny s f else .fault .noSuchInstance

/-! ### Object fields (R131–R139) -/

/-- The committed value of a field element by class, instance, number and element. -/
def Hub.getN (h : Hub) (cls inst num elem : Nat) : Nat :=
  h.fields.read fieldDefault (fieldKey cls inst num elem)

/-- The committed value of a field of an instance. -/
def Hub.get (h : Hub) (f : Fld) (i : Nat) (e : Nat := 0) : Nat := h.getN f.cls i f.num e

/-- Makes a field element hold a value. -/
def Hub.setN (h : Hub) (cls inst num elem v : Nat) : Hub :=
  { h with fields := h.fields.write fieldDefault (fieldKey cls inst num elem) v }

/-- Makes a field of an instance hold a value, cut to the field's width. -/
def Hub.set (h : Hub) (f : Fld) (i v : Nat) (e : Nat := 0) : Hub :=
  h.setN f.cls i f.num e (v % 2 ^ f.width)

/-- Adds to a counter field, wrapping at its width. -/
def Hub.add (h : Hub) (f : Fld) (i n : Nat) (e : Nat := 0) : Hub := h.set f i (h.get f i e + n) e

/-- The value of a signed field as an integer. -/
def Hub.getI (h : Hub) (f : Fld) (i : Nat) (e : Nat := 0) : Int := decInt f.width (h.get f i e)

/-- Makes a signed field hold an integer, in two's complement. -/
def Hub.setI (h : Hub) (f : Fld) (i : Nat) (v : Int) (e : Nat := 0) : Hub := h.set f i (encInt f.width v) e

/-- Whether a one-bit field reads 1. -/
def Hub.on (h : Hub) (f : Fld) (i : Nat) (e : Nat := 0) : Bool := h.get f i e == 1

/-- The value in effect of a field whose Apply entry lets it lag behind its committed value (R14). -/
def Hub.use (h : Hub) (f : Fld) (i : Nat) (e : Nat := 0) : Nat :=
  h.effs.read fieldDefault (fieldKey f.cls i f.num e)

/-- Takes a lagging field element's committed value into effect (R14). -/
def Hub.takeN (h : Hub) (cls inst num elem : Nat) : Hub :=
  { h with effs := h.effs.write fieldDefault (fieldKey cls inst num elem) (h.getN cls inst num elem) }

/-- Takes a lagging field's committed value into effect. -/
def Hub.take (h : Hub) (f : Fld) (i : Nat) (e : Nat := 0) : Hub := h.takeN f.cls i f.num e

/-- A signed field's value in effect. -/
def Hub.useI (h : Hub) (f : Fld) (i : Nat) (e : Nat := 0) : Int := decInt f.width (h.use f i e)

/-- Takes every lagging element of an object's fields with a given Apply entry into effect (R14, R139). -/
def Hub.takeAll (h : Hub) (cls inst : Nat) (a : Apply) : Hub :=
  ((classMap cls).zipIdx.filter (fun p => p.1.apply == a)).foldl
    (fun h p => (List.range p.1.elems).foldl (fun h e => h.takeN cls inst p.2 e) h) h

/-! ### Time and timers (R24, R369, R371) -/

/-- The local counter in whole nanoseconds. -/
def Hub.now (h : Hub) : Nat := h.clk / 65536

/-- Bits [47:0] of the local counter's integer nanoseconds. -/
def Hub.now48 (h : Hub) : Nat := h.now % 2 ^ 48

/-- The local counter carried forward to a moment in ns, never back. -/
def Hub.advanceTo (h : Hub) (t : Nat) : Hub := { h with clk := max h.clk (t * 65536) }

/-- One tick of the 500 MHz local counter: 2 ns (R369). -/
def Hub.tick (h : Hub) : Hub := { h with clk := h.clk + 131072 }

/-- The timers of the hub, by kind and object. -/
def timerKey (kind inst : Nat) : Nat := kind * 2 ^ 20 + inst

/-- When a timer falls due, in local-counter ns; none when it does not run. -/
def Hub.due (h : Hub) (kind inst : Nat) : Option Nat :=
  match h.timers.read (fun _ => 0) (timerKey kind inst) with
  | 0 => none
  | t + 1 => some t

/-- Starts a timer at a moment in ns. -/
def Hub.armAt (h : Hub) (kind inst t : Nat) : Hub :=
  { h with timers := h.timers.write (fun _ => 0) (timerKey kind inst) (t + 1) }

/-- Starts a timer a number of ns from now. -/
def Hub.arm (h : Hub) (kind inst delay : Nat) : Hub := h.armAt kind inst (h.now + delay)

/-- Starts a timer only if it does not run. -/
def Hub.armOnce (h : Hub) (kind inst delay : Nat) : Hub :=
  if (h.due kind inst).isSome then h else h.arm kind inst delay

/-- Stops a timer. -/
def Hub.disarm (h : Hub) (kind inst : Nat) : Hub :=
  { h with timers := h.timers.write (fun _ => 0) (timerKey kind inst) 0 }

/-- A timer's expiry: when it runs, time comes forward to its due moment, it stops, and the given effect takes place.
A timer that does not run has no expiry, and nothing happens (log entry 3). -/
def Hub.expire (h : Hub) (kind inst : Nat) (f : Hub → Hub) : Hub :=
  match h.due kind inst with
  | none => h
  | some t => f ((h.advanceTo t).disarm kind inst)

/-- One microsecond, millisecond and second in ns. -/
abbrev usec : Nat := 1000
abbrev msec : Nat := 1000000
abbrev sec : Nat := 1000000000

/-- Network time in ns at a reading of the local counter: L + OFFSET + RATE × (L − ANCHOR) / 2^48 in 2^−16 ns, rounded
toward minus infinity, then its integer nanoseconds (R371). -/
def Hub.networkAt (h : Hub) (clk : Nat) : Int :=
  ((clk : Int) + h.clockOffset + ((clk : Int) - h.clockAnchor) * h.getI F.CLOCK.RATE 0 / (2 ^ 48 : Int)) / 65536

/-- Network time in ns now. -/
def Hub.networkInt (h : Hub) : Int := h.networkAt h.clk

/-- Network time as a 64-bit count of ns. -/
def Hub.network (h : Hub) : Nat := encInt 64 h.networkInt

/-- Network-time integer ns, bits [47:0]. -/
def Hub.network48 (h : Hub) : Nat := h.network % 2 ^ 48

/-- The signed difference a − b over the 48 integer-nanosecond bits (R136). -/
def diff48 (a b : Nat) : Int := decInt 48 (a + 2 ^ 48 - b % 2 ^ 48)

/-- The local counter carried forward by a number of ns of network time: to the first local nanosecond at which network
time has advanced that far. -/
def Hub.advanceNetwork (h : Hub) (gap : Int) : Hub :=
  if gap ≤ 0 then h
  else
    let scale : Int := 2 ^ 48 + h.getI F.CLOCK.RATE 0
    let scaled := (gap * (2 ^ 48 : Int) + scale - 1) / scale
    let h1 := h.advanceTo (h.now + scaled.toNat)
    if h1.networkInt < h.networkInt + gap then h1.advanceTo (h1.now + 1) else h1

/-- The local counter carried forward until network time reaches a 48-bit target (R136, R371). -/
def Hub.advanceToNetwork (h : Hub) (target : Nat) : Hub := h.advanceNetwork (diff48 target h.network48)

/-! ### Free values -/

/-- The next free value (log entry 5). -/
def Hub.freeVal (h : Hub) : Nat := (Config.freeValue h.free).toNat

/-- The state after a free value is drawn. -/
def Hub.drawn (h : Hub) : Hub := { h with free := h.free + 1 }

/-! ### Contexts and tokens held (R33, R124) -/

/-- The record of a context. -/
def Hub.ctx (h : Hub) (n : Nat) : Ctx := h.ctxs.read (fun _ => {}) n

/-- Changes the record of a context. -/
def Hub.modCtx (h : Hub) (n : Nat) (f : Ctx → Ctx) : Hub :=
  { h with ctxs := h.ctxs.write (fun _ => {}) n (f (h.ctx n)) }

/-- Whether a context is up (R126). -/
def Hub.up (h : Hub) (n : Nat) : Bool := h.get F.CONTEXT.STATE n == 1

/-- Whether a context was admitted under the guest policy. -/
def Hub.guest (h : Hub) (n : Nat) : Bool := h.on F.CONTEXT.GUEST n

/-- The holder code of a token: 0…5 for C0…C5, 0xF for the free pool (R33, R89). -/
def Hub.holder (h : Hub) (k : Nat) : Nat := h.get F.TOKEN.HOLDER k

/-- Whether a context holds a token. -/
def Hub.holds (h : Hub) (n k : Nat) : Bool := h.holder k == n

/-- The holder of a token as a list of at most one context. -/
def Hub.holderCtx (h : Hub) (k : Nat) : List Nat := if h.holder k < 6 then [h.holder k] else []

/-- A code that names a context, as a list of at most one context. -/
def ctxCode (c : Nat) : List Nat := if c < 6 then [c] else []

/-! ### Control messages sent (R117–R119) -/

/-- A Receipt's body with as many fewer clamp entries as its party's limit needs (R125, R142). -/
def recutReceipt (maxBody : Nat) (b : List Byte) : List Byte :=
  if b.length ≤ maxBody then b
  else
    let keep := (maxBody - 32 - 8 * byteAt b 14) / 16
    let left := min 65535 (leAt b 18 2 + (leAt b 16 2 - keep))
    (putBytes b 1 (leBytes 1 (setBit (byteAt b 1) 3) ++ (b.drop 2).take 14 ++ leBytes 2 keep ++ leBytes 2 left)).take (32 + 8 * byteAt b 14 + 16 * keep)

/-- A message as its party's limit allows it (R125): a Receipt with fewer clamp entries; what cannot be cut and is larger is not sent (DESIGN CHOICE,
log entry 85). -/
def OutMsg.within (m : OutMsg) (maxBody : Nat) : Option OutMsg :=
  if m.body.length ≤ maxBody then some m else if m.type == 3 then some { m with body := recutReceipt maxBody m.body } else none

/-- Puts a Control message behind those its context still has to send. -/
def Hub.send (h : Hub) (ch : Chan) (type seq : Nat) (body : List Byte) (entries : Nat := 0) : Hub :=
  let m : OutMsg := { chan := ch, ctx := ch.ctx, type := type, seq := seq % 65536, body := body, entries := entries, mark := h.yard.nextId }
  h.modCtx ch.ctx (fun c => { c with out := c.out ++ (m.within c.maxBody).toList })

/-- The bytes of a Control message: the 8-byte header of R117 and the body. -/
def OutMsg.bytes (m : OutMsg) : List Byte :=
  leBytes 1 m.type ++ leBytes 1 1 ++ leBytes 1 m.ctx ++ leBytes 1 0 ++ leBytes 2 m.seq ++ leBytes 2 m.body.length ++ m.body

/-- The channel of a context's Notices (R26): on a landing the LDL Control tunnel while it is ACTIVE, and otherwise the interrupt-IN endpoint of a host that
uses the legacy interface too. -/
def Hub.noticeChan (h : Hub) (n : Nat) : Chan :=
  if n < 4 then
    (if h.get F.LANDING.STATE n != 5 && h.get F.LEGACY.STATE n == 3 && (h.sessions.read (fun _ => {}) (4 + n)).up then .legacy n else .ldl n)
  else if n == 4 then .localPort else .mgmt

/-! ### Notices (R157–R163, R616, R617) -/

/-- The count fields of an accumulating source's payload, as (lowest bit, width) (R617 and the notice tables). -/
def accFields (src : Nat) : List (Nat × Nat) :=
  if src < 96 then
    match src % 24 with
    | 12 => [(0, 32), (32, 32)]
    | 15 => [(32, 32)]
    | 16 => [(32, 32)]
    | 20 => [(0, 32)]
    | _ => []
  else if src < 144 then
    if src == 99 || src == 100 || src == 104 || src == 105 || src == 107 || src == 113 then [(32, 32)] else []
  else if src < 160 then
    if src == 145 || src == 147 || src == 148 || src == 149 || src == 153 || src == 155 then [(32, 32)] else []
  else if src < 224 then
    match (src - 160) % 16 with
    | 3 => [(0, 32)]
    | 9 => [(48, 16)]
    | 10 => [(32, 32)]
    | 12 => [(32, 32)]
    | _ => []
  else if src == 230 || src == 232 || src == 275 || src == 276 || src == 278 || src == 282 then [(32, 32)]
  else if src == 305 || src == 307 || src == 308 || src == 309 || src == 312 || src == 313 || src == 314 then [(32, 32)]
  else if src == 386 || src == 387 || src == 490 then [(32, 32)]
  else []

/-- The payload of a coalesced record: count fields summed with saturation, every other field from the latest raise (R617). -/
def mergePayload (src old new : Nat) : Nat :=
  (accFields src).foldl
    (fun p f => p - bits p f.1 f.2 * 2 ^ f.1 + satAdd (2 ^ f.2 - 1) (bits old f.1 f.2) (bits new f.1 f.2) * 2 ^ f.1) new

/-- A record with one more raise in it (R159). -/
def NoticeRec.raised (r : NoticeRec) (src t payload : Nat) : NoticeRec :=
  { src := src, count := satAdd 4095 r.count 1, time := t,
    payload := if r.count == 0 then payload else mergePayload src r.payload payload }

/-- The pending record of a context and source; count 0 when none is pending. -/
def Hub.pendRec (h : Hub) (n src : Nat) : NoticeRec := h.pend.read (fun _ => {}) (n * 512 + src)

/-- Makes the pending record of a context and source. -/
def Hub.setPend (h : Hub) (n src : Nat) (r : NoticeRec) : Hub :=
  { h with pend := h.pend.write (fun _ => {}) (n * 512 + src) r }

/-- Whether a raise of a source is addressed to a context (R158); who lists the contexts R616 names, and always is set
for the two token notices, NT_POSTED_FAULT (R406) and NT_KEYSLOT_DONE (R513). -/
def Hub.addressed (h : Hub) (src : Nat) (who : List Nat) (n : Nat) : Bool :=
  h.on F.NOTICE.DELIVER src n || (h.on F.NOTICE.TO_HOLDER src && who.contains n) ||
    (h.on F.NOTICE.TO_DESK src && h.holder 0 == n) || ((src == 504 || src == 505 || src == 280 || src == 469) && who.contains n)

/-- Raises a notice (R158, R159): RAISED, LAST_TIME and LAST_PAYLOAD, and a pending record for every context addressed. A main die
that is down raises none. skip names a context the raise does not reach (R149). -/
def Hub.raise (h : Hub) (src payload : Nat) (who : List Nat) (skip : Option Nat := none) : Hub :=
  if !h.mainUp then h else
  let h1 := ((h.add F.NOTICE.RAISED src 1).set F.NOTICE.LAST_TIME src h.now48).set F.NOTICE.LAST_PAYLOAD src payload
  (List.range 6).foldl
    (fun g n => if h.addressed src who n && skip != some n then g.setPend n src ((g.pendRec n src).raised src h.now48 payload) else g) h1

/-- The contexts R616 names for a source that its number alone decides. -/
def Hub.noticeHolder (h : Hub) (src : Nat) : List Nat :=
  if src < 96 then [src / 24]
  else if src == 109 then []
  else if src < 144 then h.holderCtx 0
  else if src == 149 then h.holderCtx 0
  else if 160 ≤ src && src < 224 then h.holderCtx (51 + (src - 160) / 16)
  else if 224 ≤ src && src ≤ 230 then (if h.holder 1 < 6 then [h.holder 1] else h.holderCtx 0)
  else if 336 ≤ src && src < 368 then h.holderCtx (3 + (src - 336) / 4)
  else if 368 ≤ src && src < 384 then [(src - 368) / 4]
  else if 384 ≤ src && src ≤ 386 then h.holderCtx 0
  else if 400 ≤ src && src < 464 then
    (if (src - 400) % 4 == 2 && src < 416 then [(src - 400) / 4] else h.holderCtx 0)
  else if 464 ≤ src && src ≤ 475 then h.holderCtx 0
  else if 480 ≤ src && src ≤ 487 then h.holderCtx 2
  else if 488 ≤ src && src ≤ 510 then h.holderCtx 0
  else []

/-- Raises a notice addressed under TO_HOLDER as its number decides. -/
def Hub.notify (h : Hub) (src payload : Nat) : Hub := h.raise src payload (h.noticeHolder src)

/-! ### Ring entries taken (R161) -/

/-- A number of entries leaves a context's ring, behind some that stay. -/
def Hub.ringTakenFrom (h : Hub) (n off k : Nat) : Hub :=
  let took := ((((h.ctx n).ring.drop off).take k).map (fun r => r.count)).sum
  { h.modCtx n (fun c => { c with ring := c.ring.take off ++ c.ring.drop (off + k) }) with
    delivered := h.delivered.write (fun _ => 0) n (h.delivered.read (fun _ => 0) n + took) }

/-- A number of entries has left a context's ring with its transport. -/
def Hub.ringTaken (h : Hub) (n k : Nat) : Hub := h.ringTakenFrom n 0 k

/-- Entries of a NOTICE message have been acknowledged on a landing's pairs; done with the message's last flit. -/
def Hub.noticeAcked (h : Hub) (n seq k : Nat) (done : Bool) : Hub :=
  let ms := (h.ctx n).inMessages
  match ms.find? (fun m => m.1 == seq) with
  | none => h
  | some r =>
    let ahead := ms.takeWhile (fun m => m.1 != seq)
    let t := min k r.2
    (h.modCtx n (fun c => { c with inMessages := ahead ++ (if done then [] else [(seq, r.2 - t)]) ++ ms.drop (ahead.length + 1) })).ringTakenFrom n
      (ahead.map (fun m => m.2)).sum t

/-- The number of landing Ll's k-th notice (R162). -/
abbrev nLanding (l k : Nat) : Nat := 24 * l + k
/-- The number of head Hn's k-th notice (R162). -/
abbrev nHead (n k : Nat) : Nat := 160 + 16 * n + k

end Sys2Proof.Machine
end

