-- ==== Sys2Proof/Machine/Timers.lean ====
section
/-! DEFINITION. The hub's timers by kind (R24): each abbreviation numbers one interval the spec measures; its instances are
the objects named. -/

namespace Sys2Proof.Machine.T

/-- FLUSH_DELAY of a down port or MAC (R260), by port × 3 + unit. -/
abbrev flush : Nat := 1
/-- Requests from INCAST_INPUTS inputs held for 10 µs (R262), by output. -/
abbrev incast : Nat := 2
/-- The count below that figure for 1 ms (R262), by output. -/
abbrev incastClear : Nat := 3
/-- A lossless VOQ ineligible for 1 ms (R280), by VOQ. -/
abbrev backpressure : Nat := 4
/-- LEARN_AGE since a learned entry last served a frame (R266), by Route entry. -/
abbrev learnAge : Nat := 5
/-- A shaper's next refill (R294), by shaper. -/
abbrev refill : Nat := 6
/-- The calendar-wheel slot a shaper is entered in (R293), by shaper. -/
abbrev wheel : Nat := 7
/-- A port or MAC sending (R289), by port × 3 + unit. -/
abbrev portBusy : Nat := 8
/-- A pause held without a break for PAUSE_WATCHDOG (R309), by MAC. -/
abbrev pauseWatch : Nat := 9
/-- 1 s without a pause (R309), by MAC. -/
abbrev pauseQuiet : Nat := 10
/-- The time a received pause asked for (R309), by MAC × 8 + service; PFC and pause alike. -/
abbrev pauseEnd : Nat := 11
/-- The one-second storm window (R310), by MAC. -/
abbrev storm : Nat := 12
/-- An MDIO transaction in progress (R311), by MAC. -/
abbrev mdio : Nat := 13
/-- 100 ms for a POWER_ACK (R483), by landing -/
abbrev powerReduce : Nat := 14
/-- 10 ms without a valid feed-link frame (R20), instance 0 -/
abbrev feedLink : Nat := 15
/-- The next sideband poll (R172), by landing -/
abbrev sbPoll : Nat := 16
/-- 20 ms for a LINK_HELLO (R173), by landing -/
abbrev hello : Nat := 17
/-- 200 µs from the end of the LINK_SELECT echo to training (R175), by landing -/
abbrev trainStart : Nat := 18
/-- The next full training after a failed one (R180), by landing -/
abbrev trainRetry : Nat := 19
/-- 1 ms for alignment (R173), by landing -/
abbrev align : Nat := 20
/-- AUTH_TIMEOUT of an exchange (R203, R507, R508), by exchange -/
abbrev auth : Nat := 21
/-- The next ACK (R187), by landing -/
abbrev ack : Nat := 22
/-- 2 µs with the expected flit missing (R188), by landing -/
abbrev nak : Nat := 23
/-- 10 µs without an advancing ACK (R188), by landing -/
abbrev replay : Nat := 24
/-- 1 µs for an open seal group (R204), by landing -/
abbrev sealGroup : Nat := 25
/-- 4 µs for a SWAP_ACK (R194), by landing -/
abbrev swapAck : Nat := 26
/-- 16 µs after EOS for lock (R195), by landing -/
abbrev swapLock : Nat := 27
/-- The next solo retraining of a pair (R197), by pair -/
abbrev solo : Nat := 28
/-- LIDLE_ENTRY without traffic (R198), by landing -/
abbrev lidle : Nat := 29
/-- 100 ms of a flit waiting without credit (R207), by landing × 8 + class -/
abbrev creditStall : Nat := 30
/-- 1 s to the next try toward ALLOT_IN (R237), by landing -/
abbrev allotRetry : Nat := 31
/-- The 1 ms demand window (R193), by landing -/
abbrev demand : Nat := 32
/-- 100 µs to answer a REKEY that asks for one (R206), by landing -/
abbrev rekeyAnswer : Nat := 33
/-- The 100 µs window of an inbound tunnel (R231), by TUNNEL instance -/
abbrev ceiling : Nat := 34
/-- The next try at a failed DisplayPort link (R360), by head -/
abbrev dpRetry : Nat := 35
/-- 1 ms without Depot work in Desk Standby (R568), instance 0 -/
abbrev selfRefresh : Nat := 36
/-- The next Sync sent (R381), by PTP port -/
abbrev syncTx : Nat := 37
/-- The next Pdelay_Req or Delay_Req (R385), by PTP port -/
abbrev pdelayTx : Nat := 38
/-- The next Announce (R381), by PTP port -/
abbrev announceTx : Nat := 39
/-- 1 s for a Follow_Up (R375), by PTP port -/
abbrev followUp : Nat := 40
/-- 3 s or 8 sync intervals without a usable Sync (R374), instance 0 -/
abbrev syncLoss : Nat := 41
/-- The end of a cue's pulse (R389), by cue -/
abbrev cueEnd : Nat := 42
/-- The end of a PTP_PPS pulse (R389), instance 0 -/
abbrev ppsEnd : Nat := 43
/-- 100 ms from power-good, or 1 s to the next try, to the release of SnPERST_N (R403), by slot -/
abbrev slotPerst : Nat := 44
/-- 1 s for a slot's training (R403), by slot -/
abbrev slotTrain : Nat := 45
/-- 1 ms of a handover (R412), by slot -/
abbrev handDrain : Nat := 46
/-- HANDOVER_PERST of a handover (R412), by slot -/
abbrev handPerst : Nat := 47
/-- 50 ms of a Branch transaction (R409, R421), by BRANCH instance -/
abbrev farTimeout : Nat := 48
/-- 100 ms of a far-bus lock (R407), by BRANCH instance -/
abbrev busLock : Nat := 49
/-- The next time an outbound CAN frame falls due (R431), by interface × 16 + frame -/
abbrev canTx : Nat := 50
/-- The next poll of a group (R432), by its lowest entry -/
abbrev farPoll : Nat := 51
/-- 100 µs of a SIGNALS message (R429), by TUNNEL instance -/
abbrev signals : Nat := 52
/-- 50 ms for a TARGET_REPLY (R434), by interface × 256 + register -/
abbrev targetReply : Nat := 53
/-- SPLIT_HOLD of split data (R434), by interface × 256 + register -/
abbrev splitHold : Nat := 54
/-- The next recovery of a stuck I2C bus (R436), by BRANCH instance -/
abbrev busRecovery : Nat := 55
/-- 10 ms from a port's power-good (R443), by USB port -/
abbrev usbPower : Nat := 56
/-- 10 s of a bouncing port (R452), by USB port -/
abbrev usbBounce : Nat := 57
/-- 50 ms of a port reset (R443), by USB port -/
abbrev usbReset : Nat := 58
/-- 20 ms of a resume (R443), by USB port -/
abbrev usbResume : Nat := 59
/-- 10 ms of recovery after a resume (R443), by USB port -/
abbrev usbRecover : Nat := 60
/-- 5 ms of suspend before a remote wake (R457), by landing -/
abbrev legacyWake : Nat := 61
/-- IDLE_RESET of a legacy interface (R465), by landing -/
abbrev legacyIdle : Nat := 62
/-- A running slot operation (R513), by key slot -/
abbrev keyOp : Nat := 63
/-- 120 s without a valid datagram (R507), instance 0 -/
abbrev mgmtIdle : Nat := 64
/-- 30 days of inactivity of a staged image (R531), by part -/
abbrev updateAge : Nat := 65
/-- The next hourly update of powered times (R531), instance 0 -/
abbrev poweredTime : Nat := 66
/-- 30 ms of a deferred HOLD (R410), by landing -/
abbrev holdDefer : Nat := 67
/-- 2 s for a landing awaited in link firmware activation (R535), by landing -/
abbrev lkfAwait : Nat := 68
/-- AUTO_CONFIRM after a group's end (R536), instance 0 -/
abbrev autoConfirm : Nat := 69
/-- 100 ms without progress of a port (R550), by port -/
abbrev portStall : Nat := 70
/-- The governor's next evaluation (R554), instance 0 -/
abbrev governor : Nat := 71
/-- The next 100 µs demand window (R555), instance 0 -/
abbrev sprintWindow : Nat := 72
/-- The end of a VCORE ramp (R555), instance 0 -/
abbrev vcoreRamp : Nat := 73
/-- 60 s of Sprint charged (R559), instance 0 -/
abbrev sprintCharge : Nat := 74
/-- 10 s from power-good (R557), instance 0 -/
abbrev coldStart : Nat := 75
/-- 1 ms of a Yard lane below 937 (R31), instance 0 -/
abbrev paceLow : Nat := 76
/-- 1 s of every lane at 937 or more (R557), instance 0 -/
abbrev paceGood : Nat := 77
/-- 10 ms of a sensor at 125 °C (R560), by sensor -/
abbrev shutdown : Nat := 78
/-- The Ledger's next audit (R544), instance 0 -/
abbrev ledger : Nat := 79
/-- 10 µs to the second read of a failed sum (R544), by instance -/
abbrev ledgerReread : Nat := 80
/-- 250 ms of the K0 start-up window (R36), instance 0 -/
abbrev k0Window : Nat := 81
/-- 60 s of a context held after a warm reset (R582), by context -/
abbrev heldContext : Nat := 82
/-- 60 s from power-good for tokens of replay (R156), instance 0 -/
abbrev standingToken : Nat := 83
/-- 100 ms from Deep Standby entry to the shutdown (R570), instance 0 -/
abbrev deepEntry : Nat := 84
/-- STANDBY_IDLE of idleness (R567), instance 0 -/
abbrev standbyIdle : Nat := 85

end Sys2Proof.Machine.T
end

