-- ==== Sys2Proof/Machine/SlotCore.lean ====
section
/-! DEFINITION. What the storage ports need before the Yard: PCIe TLPs by their header fields (R400; the layout is PCIe's, log
entry 41), the posted fault log (R406), and what becomes of a Storage message the Yard loses (R405 rule 5). -/

namespace Sys2Proof.Machine

/-! ### TLPs -/

/-- Double word k of a TLP. -/
def dw (t : List Byte) (k : Nat) : Nat := leAt t (4 * k) 4

def tlpFmt (t : List Byte) : Nat := bits (dw t 0) 29 3
def tlpType (t : List Byte) : Nat := bits (dw t 0) 24 5
/-- The Length field in double words; 0 stands for 1,024. -/
def tlpLen (t : List Byte) : Nat := let n := bits (dw t 0) 0 10; if n == 0 then 1024 else n
def tlpWide (t : List Byte) : Bool := bitB (tlpFmt t) 0
def tlpHasData (t : List Byte) : Bool := bitB (tlpFmt t) 1
/-- The header's length in bytes. -/
def tlpHead (t : List Byte) : Nat := if tlpWide t then 16 else 12
/-- Requester, tag and the tag's two upper bits, as one key, in a request and in the completion that answers it. -/
def tagBits (t : List Byte) : Nat := bitN (dw t 0) 19 * 2 ^ 24 + bitN (dw t 0) 23 * 2 ^ 25
def reqKey (t : List Byte) : Nat := bits (dw t 1) 8 24 + tagBits t
def cplKey (t : List Byte) : Nat := bits (dw t 2) 8 24 + tagBits t
/-- The address of a memory request. -/
def tlpAddr (t : List Byte) : Nat := if tlpWide t then dw t 2 * 2 ^ 32 + dw t 3 / 4 * 4 else dw t 2 / 4 * 4

/-- The kinds of TLP the rules tell apart. -/
inductive TlpKind where
  | memRead
  | memWrite
  | cfg0
  | cfg1
  | completion
  /-- A locked, I/O or AtomicOp request, or one with address translation asked for: non-posted, unsupported. -/
  | otherNonPosted
  /-- A write with address translation: posted, unsupported. -/
  | otherPosted
  | message
  deriving DecidableEq, Repr

/-- A TLP's kind, none where its header is malformed: a prefix, an unknown type, an ECRC, or a length that is not the
body's. -/
def tlpKind (t : List Byte) : Option TlpKind :=
  let ty := tlpType t
  let f := tlpFmt t
  let sized := t.length == tlpHead t + (if tlpHasData t then 4 * tlpLen t else 0) && t.length ≤ 528
  if 4 ≤ f || bitB (dw t 0) 15 || t.length < 12 || !sized then none
  else if 16 ≤ ty then (if bitB f 0 then some .message else none)
  else match ty with
    | 0 => some (match bits (dw t 0) 10 2 != 0, bitB f 1 with | true, true => .otherPosted | true, false => .otherNonPosted | false, true => .memWrite | false, false => .memRead)
    | 1 => some .otherNonPosted
    | 2 => if bitB f 0 then none else some .otherNonPosted
    | 4 => if bitB f 0 then none else some .cfg0
    | 5 => if bitB f 0 then none else some .cfg1
    | 10 => if bitB f 0 then none else some .completion
    | 11 => if bitB f 0 then none else some .completion
    | 12 => some .otherNonPosted
    | 13 => some .otherNonPosted
    | 14 => some .otherNonPosted
    | _ => none

/-- A completion made by the device for a request's header: status 0 successful, 1 Unsupported Request, 4 Completer Abort. -/
def makeCpl (hdr : List Byte) (completer status : Nat) (data : List Byte) : List Byte :=
  let d0 := dw hdr 0
  let kind := if data.isEmpty then 0x0A else 0x4A
  leBytes 4 (kind * 2 ^ 24 + bits d0 20 3 * 2 ^ 20 + bitN d0 19 * 2 ^ 19 + bitN d0 23 * 2 ^ 23 + bits d0 12 2 * 2 ^ 12 + data.length / 4) ++
    leBytes 4 (completer * 2 ^ 16 + status * 2 ^ 13 + 4) ++ leBytes 4 (bits (dw hdr 1) 8 24 * 2 ^ 8) ++ data

/-- The pieces of a TLP whose data exceed a Max Payload Size (rule 3 of R405): lowest address first. -/
def splitTlp (fuel mps : Nat) (t : List Byte) : List (List Byte) :=
  match fuel with
  | 0 => [t]
  | fuel + 1 =>
    let h := tlpHead t
    let data := t.drop h
    if data.length ≤ mps then [t]
    else
      let n := mps / 4
      let d0 := dw t 0 / 1024 * 1024
      if tlpType t == 10 || tlpType t == 11 then
        let count := bits (dw t 1) 0 12
        let low := bits (dw t 2) 0 7
        let sent := mps - low % 4
        let left := (if count == 0 then 4096 else count) - sent
        (leBytes 4 (d0 + n % 1024) ++ (t.drop 4).take (h - 4) ++ data.take mps) ::
          splitTlp fuel mps (leBytes 4 (d0 + (data.length - mps) / 4 % 1024) ++ leBytes 4 (dw t 1 / 4096 * 4096 + left % 4096) ++
            leBytes 4 (dw t 2 / 128 * 128 + (low / 4 * 4 + mps) % 128) ++ data.drop mps)
      else
        let be := bits (dw t 1) 0 8
        let d1 := dw t 1 / 256 * 256
        let rest := (data.length - mps) / 4
        let a := tlpAddr t + mps
        let addr := if tlpWide t then leBytes 4 (a / 2 ^ 32) ++ leBytes 4 a else leBytes 4 a
        let firstBe := if n == 1 then be % 16 else be % 16 + 0xF0
        let restBe := if rest == 1 then be / 16 else 0xF + be / 16 * 16
        (leBytes 4 (d0 + n % 1024) ++ leBytes 4 (d1 + firstBe) ++ (t.drop 8).take (h - 8) ++ data.take mps) ::
          splitTlp fuel mps (leBytes 4 (d0 + rest % 1024) ++ leBytes 4 (d1 + restBe) ++ addr ++ data.drop mps)

/-! ### The posted fault log (R406) -/

/-- A posted write fails: an entry of its initiator's log, or PFL_OVERFLOW when the log is full, and NT_POSTED_FAULT. -/
def Hub.postedFault (h : Hub) (ctx cause target piece addr : Nat) : Hub :=
  let head := h.get F.CONTEXT.PFL_HEAD ctx
  let used := (head + 2 ^ 32 - h.get F.CONTEXT.PFL_ACK ctx) % 2 ^ 32
  let h1 := if 64 ≤ used then h.add F.CONTEXT.PFL_OVERFLOW ctx 1
    else
      let lo := cause + target * 2 ^ 8 + (if cause == 4 then piece % 256 else 0) * 2 ^ 16 + h.now % 2 ^ 32 * 2 ^ 32
      let g := ((h.set F.CONTEXT.PFL_ENTRY_LO ctx lo (head % 64)).set F.CONTEXT.PFL_ENTRY_HI ctx addr (head % 64)).add F.CONTEXT.PFL_HEAD ctx 1
      if target < 2 then g.add F.STORAGE.POSTED_FAILED target 1 else g
  h1.raise 280 (cause + target * 2 ^ 8 + h1.get F.CONTEXT.PFL_HEAD ctx * 2 ^ 16) [ctx]

/-! ### Slots -/

def Hub.slot (h : Hub) (s : Nat) : Slot := h.slots.read (fun _ => {}) s

def Hub.modSlot (h : Hub) (s : Nat) (f : Slot → Slot) : Hub := { h with slots := h.slots.write (fun _ => {}) s (f (h.slot s)) }

/-- The TLP inside a Storage tunnel message. -/
def storageTlp (msg : List Byte) : List Byte := (msg.drop 8).take (leAt msg 2 2)

/-- A Storage message toward a slot is lost inside the Yard: an accepted posted write is logged with cause 0x03; a non-posted
request meets R409 from this moment. -/
def Hub.storageLost (h : Hub) (s : Nat) (p : Pkt) : Hub :=
  let t := storageTlp p.bytes
  match tlpKind t with
  | some .memWrite =>
    match (h.slot s).posted.find? (fun w => w.ctx == p.port && w.addr == tlpAddr t && !w.sent) with
    | some w => (h.modSlot s (fun k => { k with posted := k.posted.erase w })).postedFault p.port 3 s 0 w.addr
    | none => h
  | _ => h.modSlot s (fun k => { k with down := k.down.map (fun r =>
      if r.l == p.port && r.sentAt == 0 && reqKey r.hdr == reqKey t then { r with sentAt := h.now + 1 } else r) })

/-- A landing leaves HOLD or RETRAIN: the time spent does not count toward the 50 ms of the slots' requests. -/
def Hub.storageHeld (h : Hub) (l ns : Nat) : Hub :=
  [0, 1].foldl (fun g s => g.modSlot s (fun k => { k with up := k.up.map (fun r => if r.l == l then { r with held := r.held + ns } else r) })) h

/-- The storage port a Storage message of a landing is bound for. -/
def storagePort (leaf service : Nat) : Option Nat :=
  if service == 2 && (leaf / 128 == 4 || leaf / 128 == 5) then some (leaf / 128 - 4) else none

end Sys2Proof.Machine
end

