-- ==== Sys2Proof/Machine/Yard.lean ====
section
/-! DEFINITION. The Yard's buffers (R245–R262, R275–R278): services, leaves, slices and VOQs, the egress pool and its
admission, mirror copies, ports going down and flushing. -/

namespace Sys2Proof.Machine

/-- The cells a message takes (R247). -/
def cellsOf (p : Pkt) : Nat := (p.bytes.length + 127) / 128

/-- Whether a service is lossy (R245): Network and Copy. -/
def lossy (service : Nat) : Bool := service == 3 || service == 7

/-- Changes the Yard. -/
def Hub.modYard (h : Hub) (f : Yard → Yard) : Hub := { h with yard := f h.yard }

/-- A VOQ's number. -/
def voqKey (input output service : Nat) : Nat := input * 128 + output * 8 + service

def Yard.voq (y : Yard) (k : Nat) : List Desc := y.voqs.read (fun _ => []) k
def Yard.leaf (y : Yard) (q : Nat) : List LeafPkt := y.leaves.read (fun _ => []) q

def Hub.setVoq (h : Hub) (k : Nat) (l : List Desc) : Hub :=
  h.modYard (fun y => { y with voqs := y.voqs.write (fun _ => []) k l })
def Hub.setLeaf (h : Hub) (q : Nat) (l : List LeafPkt) : Hub :=
  h.modYard (fun y => { y with leaves := y.leaves.write (fun _ => []) q l })

/-- Whether a tunnel is open: it holds a Route entry from the quiet point of its opening to that of its closing (R219, R220). -/
def Hub.tunnelOpen (h : Hub) (t : Nat) : Bool := h.get F.TUNNEL.ROUTE_ENTRY t != 0x3FFF

/-- The service of a leaf (R246, R228, R287): a subscriber leaf of Y0…Y3 has its tunnel's class. -/
def Hub.leafService (h : Hub) (q : Nat) : Nat :=
  if q < 512 && q % 128 < 120 then
    match h.yard.leafTunnel.read (fun _ => 0) q with
    | 0 => q % 8
    | t + 1 => h.use F.TUNNEL.CLASS t
  else q % 8

/-- The MAC a leaf of Y6 is bound to (R288). -/
def Hub.leafMac (h : Hub) (q : Nat) : Nat :=
  let u := (q - 768) / 8
  if u < 4 then 0 else if u < 8 then 1
  else if u == 8 || u == 10 || u == 12 then 0
  else if u == 9 || u == 11 || u == 13 then 1
  else h.get F.QUEUE.MAC q

/-! ### Cells held -/

/-- The cells of the messages of a port's slice that pass a test: those in its VOQs, and those on the programmed path (R247). -/
def Yard.cellsWhere (y : Yard) (input : Nat) (p : Pkt → Bool) : Nat :=
  ((y.slices.filter (fun s => s.input == input && p s.pkt)).map (fun s => cellsOf s.pkt)).sum +
    ((y.tickets.filter (fun t => t.input == input && p t.pkt)).map (fun t => cellsOf t.pkt)).sum

/-- The cells now in a slice (YARDPORT.SLICE_CELLS). -/
def Yard.sliceCells (y : Yard) (input : Nat) : Nat := y.cellsWhere input (fun _ => true)

/-- The lossy cells now in a slice (R248). -/
def Yard.lossyCells (y : Yard) (input : Nat) : Nat := y.cellsWhere input (fun p => lossy p.service)

/-- The reserve cells a port's service has in use (POOL.RESERVE_USED): in its leaves, and in flight on a link (R543). -/
def Hub.reserveUsed (h : Hub) (port service : Nat) : Nat :=
  (h.yard.leaves.cells.map (fun c =>
    if c.1 / 128 == port then ((c.2.filter (fun p => p.pkt.service == service)).map (fun p => p.reserve)).sum else 0)).sum +
  ((h.yard.flight.filter (fun f => f.port == port && f.service == service)).map (fun f => f.reserve)).sum

/-- The shared cells a leaf holds. -/
def Yard.leafShared (y : Yard) (q : Nat) : Nat := ((y.leaf q).map (fun p => p.shared)).sum

/-- All cells a leaf holds (QUEUE.CELLS). -/
def Yard.leafCells (y : Yard) (q : Nat) : Nat := ((y.leaf q).map (fun p => p.reserve + p.shared)).sum

/-- The cells of a port's leaves (POOL.CELLS). -/
def Yard.portCells (y : Yard) (port : Nat) : Nat :=
  (y.leaves.cells.map (fun c => if c.1 / 128 == port then (c.2.map (fun p => p.reserve + p.shared)).sum else 0)).sum

/-- The sum of all reserves (R256). -/
def Hub.reserveSum (h : Hub) : Nat :=
  ((List.range 16).map (fun y => ((List.range 8).map (fun s => h.get F.POOL.RESERVE y s)).sum)).sum

/-- The size of the shared part (R253). -/
def Hub.sharedTotal (h : Hub) : Nat := 262144 - h.reserveSum

/-- The shared cells in use, in leaves and in flight. -/
def Hub.sharedUsed (h : Hub) : Nat :=
  (h.yard.leaves.cells.map (fun c => (c.2.map (fun p => p.shared)).sum)).sum + (h.yard.flight.map (fun f => f.shared)).sum

/-- A leaf's messages of a service with up to n reserve cells moved to the shared part, and how many are still to move. -/
def moveCells (service : Nat) : Nat → List LeafPkt → Nat × List LeafPkt
  | n, [] => (n, [])
  | n, e :: t =>
    let k := if e.pkt.service == service then min n e.reserve else 0
    let x := moveCells service (n - k) t
    (x.1, { e with reserve := e.reserve - k, shared := e.shared + k } :: x.2)

/-- A lowered reserve: the cells charged beyond it move to the shared part, even above a threshold (R256). Those in flight move last. -/
def Hub.trimReserve (h : Hub) (port service : Nat) : Hub :=
  let over_ := h.reserveUsed port service - h.get F.POOL.RESERVE port service
  let qs := (h.yard.leaves.cells.map (fun c => c.1)).filter (fun q => q / 128 == port)
  let x := qs.foldl (fun (x : Nat × Hub) q =>
    let y := moveCells service x.1 (x.2.yard.leaf q)
    (y.1, x.2.setLeaf q y.2)) (over_, h)
  let z := x.2.yard.flight.foldl (fun (z : Nat × List Flight) f =>
    let k := if f.port == port && f.service == service then min z.1 f.reserve else 0
    (z.1 - k, z.2 ++ [{ f with reserve := f.reserve - k, shared := f.shared + k }])) (x.1, [])
  if over_ == 0 then h else x.2.modYard (fun y => { y with flight := z.2 })

/-- The messages of a landing whose last flit is acknowledged, as (number plus 1, tunnel slot): their cells are back in the pool (R543). -/
def Hub.landed (h : Hub) (l : Nat) (done : List (Nat × Nat)) : Hub :=
  if done.isEmpty then h
  else h.modYard (fun y => { y with flight := y.flight.filter (fun f => !(f.port == l && done.contains (f.id + 1, f.slot))) })

/-- Nothing of a landing stays in flight. -/
def Hub.flightsEnd (h : Hub) (l : Nat) : Hub := h.modYard (fun y => { y with flight := y.flight.filter (fun f => f.port != l) })

/-- free_shared of R253. -/
def Hub.freeShared (h : Hub) : Nat := h.sharedTotal - h.sharedUsed

/-! ### Admission to the egress pool (R253, R254, R298) -/

/-- The α exponent a message meets: the leaf's k, halved once more (never below −5) for a marked message of a lossy
service. -/
def Hub.alphaExp (h : Hub) (q : Nat) (p : Pkt) (service : Nat) : Int :=
  let k := h.getI F.QUEUE.ALPHA_K q
  if p.marked && lossy service then (if k - 1 < -5 then -5 else k - 1) else k

/-- Whether x ≤ 2^k × free. -/
def leAlpha (x : Nat) (k : Int) (free : Nat) : Bool :=
  match k with
  | .ofNat n => decide (x ≤ 2 ^ n * free)
  | .negSucc n => decide (x * 2 ^ (n + 1) ≤ free)

/-- The reserve and shared cells a leaf would charge for a message, or none when it cannot take it in (R253). -/
def Hub.leafCharge (h : Hub) (q : Nat) (p : Pkt) : Option (Nat × Nat) :=
  let s := h.leafService q
  let need := cellsOf p
  let r := min need (h.get F.POOL.RESERVE (q / 128) s - h.reserveUsed (q / 128) s)
  let sh := need - r
  if sh == 0 then some (r, 0)
  else if sh ≤ h.freeShared && leAlpha (h.yard.leafShared q + need) (h.alphaExp q p s) h.freeShared then some (r, sh)
  else none

/-- NT_YARD_POOL_LOW (R280): raised as free_shared falls below LOW_MARK, again only after it has risen above twice it. -/
def Hub.poolWatch (h : Hub) : Hub :=
  let f := h.freeShared
  let m := h.get F.POOL.LOW_MARK 0
  if h.yard.poolLow then (if 2 * m < f then h.modYard (fun y => { y with poolLow := false }) else h)
  else if f < m then (h.modYard (fun y => { y with poolLow := true })).notify 102 f else h

/-- A message put at the end of a leaf queue with its cells charged, its service now the leaf's (R246). -/
def Hub.enqueue (h : Hub) (q : Nat) (e : LeafPkt) : Hub :=
  let e' := { e with pkt := { e.pkt with service := h.leafService q } }
  let h1 := h.setLeaf q (h.yard.leaf q ++ [e'])
  let peak := h1.yard.portCells (q / 128)
  (if h1.get F.POOL.PEAK_CELLS (q / 128) < peak then h1.set F.POOL.PEAK_CELLS (q / 128) peak else h1).poolWatch

/-! ### Mirror sessions (R275–R277) -/

/-- The mirror copy of a message as Y12 sends it: the 16-byte header of R276 and the truncated bytes. The copy's cls is the message's service. -/
def mirrorBytes (session dir egressPort seq clk trunc : Nat) (p : Pkt) : List Byte :=
  let limit := if trunc == 0 then 9168 else min trunc 9168
  let cut := p.bytes.take limit
  [BitVec.ofNat 8 (session + 4 * dir + 8 * ofB (decide (cut.length < p.bytes.length)) + 16 * p.cls),
   BitVec.ofNat 8 (p.port + 16 * egressPort)] ++ leBytes 2 p.bytes.length ++ leBytes 4 seq ++ leBytes 8 clk ++ cut

/-- Whether a session selects a message on the given side (R275): by port as DIRECTION sets, by Route entry, or by a MIRR mark. dir is 0 for ingress
and 1 for egress. A message selected by entry is copied at ingress unless DIRECTION names egress alone (DESIGN CHOICE, log entry 33), one that is
marked always at ingress. -/
def Hub.mirrorSelects (h : Hub) (m dir port : Nat) (p : Pkt) : Bool :=
  h.on F.MIRROR.ENABLE m && !p.copied.contains m &&
  ((h.get F.MIRROR.SOURCE m == 0 && h.get F.MIRROR.SOURCE_PORT m == port && bitB (h.get F.MIRROR.DIRECTION m) dir) ||
   (h.get F.MIRROR.SOURCE m == 1 && h.get F.MIRROR.SOURCE_ENTRY m == p.entry && (if dir == 1 then true else h.get F.MIRROR.DIRECTION m != 2)) ||
   p.mirrors.contains m)

/-- One session's copy of a selected message (R275–R277): a host-tunnel session copies only what entered from its landing or leaves to it; of what is
selected every SAMPLE_N-th is copied; and Y12's threshold may refuse. Y12 truncates the copy as it sends it. -/
def Hub.mirrorOne (h : Hub) (m dir egressPort : Nat) (toward : List Nat) (p : Pkt) : Hub :=
  let n := h.yard.selected.read (fun _ => 0) m + 1
  let h1 := h.modYard (fun y => { y with selected := y.selected.write (fun _ => 0) m n })
  let l := h.get F.MIRROR.DEST_LANDING m
  if h.get F.MIRROR.DEST m == 2 && p.port != l && !toward.contains l then h1.add F.MIRROR.SUPPRESSED m 1
  else if n % h.get F.MIRROR.SAMPLE_N m != 0 then h1
  else
    let seq := h.yard.copies.read (fun _ => 0) m
    let copy : Pkt := { bytes := p.bytes, port := p.port, service := 7, cls := p.service, index := seq, stamp := h.clk, entry := p.entry }
    let leaf := 1536 + 8 * (p.port % 14) + 7
    match h1.leafCharge leaf copy with
    | none => (h1.add F.MIRROR.DROPPED m 1).notify 105 (m + 2 ^ 32)
    | some (r, s) =>
      let h2 := (h1.modYard (fun y => { y with copies := y.copies.write (fun _ => 0) m (seq + 1), nextId := y.nextId + 1 })).add
        F.MIRROR.COPIES m 1
      h2.enqueue leaf { id := h.yard.nextId, input := 12, pkt := copy, slot := m + 4 * dir + 8 * egressPort, reserve := r, shared := s, whole := true }

/-- The copies a message yields on one side: one per session that selects it, toward the ports it goes to. Copies of copies are never made. -/
def Hub.mirrorCopies (h : Hub) (dir port egressPort : Nat) (toward : List Nat) (p : Pkt) : Hub × Pkt :=
  if p.service == 7 then (h, p)
  else
    (List.range 4).foldl
      (fun (x : Hub × Pkt) m =>
        if x.1.mirrorSelects m dir port x.2 then
          (x.1.mirrorOne m dir egressPort toward x.2, { x.2 with copied := x.2.copied ++ [m] })
        else x) (h, p)

/-- The copies a message yields as one of its own copies leaves: a session that has selected another of them selects none (R275). -/
def Hub.mirrorLeaving (h : Hub) (port id : Nat) (p : Pkt) : Hub :=
  let seen := h.yard.mirrored.read (fun _ => []) id
  let x := h.mirrorCopies 1 port port [port] { p with copied := p.copied ++ seen }
  let more := h.yard.slices.any (fun s => s.id == id) || h.yard.leaves.cells.any (fun c => c.2.any (fun e => e.id == id))
  if more then x.1.modYard (fun y => { y with mirrored := y.mirrored.write (fun _ => []) id x.2.copied })
  else if seen.isEmpty then x.1
  else x.1.modYard (fun y => { y with mirrored := y.mirrored.write (fun _ => []) id [] })

/-! ### Ingress (R247–R249, R261) -/

/-- A message's descriptors placed in the VOQs of its destinations (R249, R261). A destination port that is down after its
flush discards on arrival (R260). -/
def Hub.place (h : Hub) (input : Nat) (p : Pkt) (dests : List (Nat × Nat)) : Hub :=
  let (h0, p0) := h.mirrorCopies 0 input 15 (dests.map (fun d => d.1 / 128)) p
  let unit (q : Nat) : Nat := if q / 128 == 6 then 18 + 1 + h.leafMac q else q / 128 * 3
  let dead (q : Nat) : Bool := h.yard.flushed.read (fun _ => false) (unit q)
  let gone := dests.filter (fun d => dead d.1)
  let live := (dests.filter (fun d => !dead d.1)).take 16
  let h1 := gone.foldl (fun g d =>
    let g1 := match storagePort d.1 p.cls with
      | some s => g.storageLost s p
      | none => g
    (g1.add F.YARDPORT.DOWN_DISCARDS (d.1 / 128) 1).notify 113 (d.1 / 128 + 2 ^ 32)) h0
  if live.isEmpty then h1
  else
    let id := h1.yard.nextId
    let h2 := h1.modYard (fun y => { y with nextId := id + 1, slices := y.slices ++ [{ id := id, input := input, pkt := p0, copies := live.length }] })
    live.foldl (fun g d =>
      let k := voqKey input (d.1 / 128) (g.leafService d.1)
      g.setVoq k (g.yard.voq k ++ [{ id := id, leaf := d.1, slot := d.2, cellsLeft := max 1 (cellsOf p0) }])) h2

/-- Whether the slice has room for a message; an adapter stops taking messages when it has none (R248). -/
def Hub.sliceRoom (h : Hub) (input : Nat) (p : Pkt) : Bool := h.yard.sliceCells input + cellsOf p ≤ 4096

/-- Whether a lossy message would exceed SLICE_LOSSY_MAX and is discarded whole on arrival (R248). -/
def Hub.lossyFull (h : Hub) (input : Nat) (p : Pkt) : Bool :=
  lossy p.service && h.get F.YARDPORT.SLICE_LOSSY_MAX input < h.yard.lossyCells input + cellsOf p

/-- The leaf of a port a message of a service takes (R287, R288, R228): by its original ingress port on most ports, by
origin and MAC on Y6, the shared leaf of the service on a landing. -/
def sharedLeaf (port service : Nat) : Nat := 128 * port + 120 + service

def portLeaf (port origin service : Nat) : Nat := 128 * port + 8 * (origin % 14) + service

/-! ### The matcher (R250–R252, R262) -/

/-- The message of a slice by its number. -/
def Yard.slicePkt (y : Yard) (id : Nat) : Pkt :=
  match y.slices.find? (fun s => s.id == id) with
  | some s => s.pkt
  | none => {}

/-- Whether a VOQ is eligible toward its output (R254). -/
def Hub.voqEligible (h : Hub) (input output service : Nat) : Bool :=
  match h.yard.voq (voqKey input output service) with
  | [] => false
  | d :: _ => d.admitted || lossy service || (h.leafCharge d.leaf (h.yard.slicePkt d.id)).isSome

/-- Whether a service is at the High level at an input. -/
def Hub.highService (h : Hub) (input service : Nat) : Bool := bitB (h.get F.YARDPORT.HIGH_SERVICES input) service

/-- The matcher level an input requests an output at: 2 High, 1 Low, 0 none (R250). -/
def Hub.requestLevel (h : Hub) (input output : Nat) : Nat :=
  let es := (List.range 8).filter (fun s => h.voqEligible input output s)
  if es.any (h.highService input) then 2 else if es.isEmpty then 0 else 1

/-- The first of the candidates at or after a pointer, counted round the sixteen ports. -/
def firstFrom (ptr : Nat) (cands : List Nat) : Option Nat :=
  ((List.range 16).map (fun i => (ptr + i) % 16)).find? (fun p => cands.contains p)

/-- A match: input, output, level (2 High, 1 Low) and whether it was made in the first round. -/
abbrev Match := Nat × Nat × Nat × Bool

/-- The request levels of one cell time, input × 16 + output. -/
def Hub.requests (h : Hub) : List Nat :=
  (List.range 256).map (fun i => h.requestLevel (i / 16) (i % 16))

/-- The grant of an unmatched output (R250): the highest level first, then the first input at or after its pointer. -/
def grantOf (y : Yard) (reqs : List Nat) (freeIn : List Nat) (out : Nat) : Option (Nat × Nat) :=
  let at_ (lvl : Nat) := freeIn.filter (fun i => reqs.getD (i * 16 + out) 0 == lvl)
  match firstFrom (y.grantPtr.read (fun _ => 0) (out * 2 + 1)) (at_ 2) with
  | some i => some (i, 2)
  | none =>
    match firstFrom (y.grantPtr.read (fun _ => 0) (out * 2)) (at_ 1) with
    | some i => some (i, 1)
    | none => none

/-- The accept of an unmatched input among the outputs that granted it. -/
def acceptOf (y : Yard) (grants : List (Nat × Nat × Nat)) (inp : Nat) : Option (Nat × Nat) :=
  let at_ (lvl : Nat) := (grants.filter (fun g => g.2.1 == inp && g.2.2 == lvl)).map (fun g => g.1)
  match firstFrom (y.acceptPtr.read (fun _ => 0) (inp * 2 + 1)) (at_ 2) with
  | some o => some (o, 2)
  | none =>
    match firstFrom (y.acceptPtr.read (fun _ => 0) (inp * 2)) (at_ 1) with
    | some o => some (o, 1)
    | none => none

/-- One round over the ports still unmatched. -/
def matchRound (y : Yard) (reqs : List Nat) (first : Bool) (ms : List Match) : List Match :=
  let freeIn := (List.range 16).filter (fun i => !ms.any (fun m => m.1 == i))
  let freeOut := (List.range 16).filter (fun o => !ms.any (fun m => m.2.1 == o))
  let grants := freeOut.filterMap (fun o => (grantOf y reqs freeIn o).map (fun g => (o, g.1, g.2)))
  ms ++ freeIn.filterMap (fun i => (acceptOf y grants i).map (fun a => (i, a.1, a.2, first)))

/-- The three rounds of a cell time (R250). -/
def Hub.matches (h : Hub) : List Match :=
  let r := h.requests
  matchRound h.yard r false (matchRound h.yard r false (matchRound h.yard r true []))

/-- The pointers move on accepts of the first round only: one past the accepted input, one past the accepted output. -/
def Hub.movePointers (h : Hub) (m : Match) : Hub :=
  if m.2.2.2 then
    h.modYard (fun y => { y with
      grantPtr := y.grantPtr.write (fun _ => 0) (m.2.1 * 2 + (m.2.2.1 - 1)) ((m.1 + 1) % 16),
      acceptPtr := y.acceptPtr.write (fun _ => 0) (m.1 * 2 + (m.2.2.1 - 1)) ((m.2.1 + 1) % 16) })
  else h

/-- One copy of a message has crossed or been refused: its slice cells leave with the last (R261). -/
def Hub.copyGone (h : Hub) (id : Nat) : Hub :=
  let one (s : SlicePkt) : Option SlicePkt :=
    if s.id == id then (if s.copies ≤ 1 then none else some { s with copies := s.copies - 1 }) else some s
  h.modYard (fun y => { y with slices := y.slices.filterMap one })

/-- A message's last cell has crossed to its leaf. -/
def Hub.markWhole (h : Hub) (q id : Nat) : Hub :=
  h.setLeaf q ((h.yard.leaf q).map (fun e => if e.id == id && !e.whole then { e with whole := true } else e))

/-- The matched input sends one cell of the accepted level (R251): the service by the round-robin pointer of that input
and output, the whole message admitted and charged at its first cell, a lossy message refused whole (R254). -/
def Hub.sendCell (h : Hub) (m : Match) : Hub :=
  let i := m.1
  let o := m.2.1
  let ptr := h.yard.servicePtr.read (fun _ => 0) (i * 16 + o)
  let svcs := ((List.range 8).map (fun k => (ptr + k) % 8)).filter
    (fun s => h.voqEligible i o s && h.highService i s == (m.2.2.1 == 2))
  match svcs with
  | [] => h
  | s :: _ =>
    let k := voqKey i o s
    match h.yard.voq k with
    | [] => h
    | d :: rest =>
      let p := h.yard.slicePkt d.id
      let moved (g : Hub) : Hub := g.modYard (fun y => { y with servicePtr := y.servicePtr.write (fun _ => 0) (i * 16 + o) ((s + 1) % 8) })
      let cross (g : Hub) : Hub :=
        if d.cellsLeft ≤ 1 then moved (((g.setVoq k rest).markWhole d.leaf d.id).copyGone d.id)
        else g.setVoq k ({ d with cellsLeft := d.cellsLeft - 1, admitted := true } :: rest)
      if d.admitted then cross h
      else
        match h.leafCharge d.leaf p with
        | some (r, sh) => cross (h.enqueue d.leaf { id := d.id, input := i, pkt := p, slot := d.slot, reserve := r, shared := sh, whole := false })
        | none =>
          (moved (((h.setVoq k rest).copyGone d.id).add F.POOL.THRESHOLD_DROPS o 1 s)).notify 100 (o + s * 16 + 2 ^ 32)

/-- The incast watch of one output (R262): the inputs requesting it, held at INCAST_INPUTS or more for 10 µs. -/
def Hub.incastWatch (h : Hub) (reqs : List Nat) (o : Nat) : Hub :=
  let n := ((List.range 16).filter (fun i => reqs.getD (i * 16 + o) 0 != 0)).length
  if h.get F.YARDPORT.INCAST_INPUTS o ≤ n then
    let h1 := match h.due T.incastClear o with
      | some t => (if t ≤ h.now then h.modYard (fun y => { y with incast := y.incast.write (fun _ => false) o false }) else h).disarm T.incastClear o
      | none => h
    if h1.yard.incast.read (fun _ => false) o then h1 else h1.armOnce T.incast o (10 * usec)
  else
    let h1 := h.disarm T.incast o
    if h1.yard.incast.read (fun _ => false) o then h1.armOnce T.incastClear o msec else h1

/-- The back-pressure watch of one lossless VOQ (R280, N103). -/
def Hub.voqWatch (h : Hub) (k : Nat) : Hub :=
  let i := k / 128
  let o := k / 8 % 16
  let s := k % 8
  if (h.yard.voq k).isEmpty || lossy s || h.voqEligible i o s then
    (h.disarm T.backpressure k).modYard (fun y => { y with voqRaised := y.voqRaised.write (fun _ => false) k false })
  else if h.yard.voqRaised.read (fun _ => false) k then h
  else h.armOnce T.backpressure k msec

/-! ### Ports down, up and flushed (R258–R260) -/

/-- The number of a port or of a MAC of Y6: port × 3 + unit. -/
def unitKey (port unit : Nat) : Nat := port * 3 + unit

/-- The bit of YARDPORT.UP a unit shows in. -/
def Hub.unitUp (h : Hub) (port unit : Nat) : Bool := bitB (h.get F.YARDPORT.UP port) unit

/-- Whether a leaf belongs to a port, or to a MAC of Y6. -/
def Hub.leafOf (h : Hub) (port unit q : Nat) : Bool := q / 128 == port && (unit == 0 || h.leafMac q + 1 == unit)

/-- The payload of the port notices: port and unit. -/
def unitPayload (port unit : Nat) : Nat := port + unit * 16

/-- The flush (R260): every message in the unit's leaves and every VOQ descriptor toward it is discarded. -/
def Hub.flushUnit (h : Hub) (port unit : Nat) : Hub :=
  let leafN := (h.yard.leaves.cells.map (fun c => if h.leafOf port unit c.1 then c.2.length else 0)).sum
  let gone := (h.yard.voqs.cells.map (fun c => c.2.filter (fun d => h.leafOf port unit d.leaf && !d.admitted))).flatten
  let admittedGone := (h.yard.voqs.cells.map (fun c => c.2.filter (fun d => h.leafOf port unit d.leaf))).flatten
  let n := leafN + gone.length
  let lost := (if port == 4 || port == 5 then
      (h.yard.leaves.cells.map (fun c => if h.leafOf port unit c.1 then c.2.map (fun e => e.pkt) else [])).flatten ++
        gone.map (fun d => h.yard.slicePkt d.id)
    else []).filter (fun p => p.cls == 2)
  let h0 := lost.foldl (fun g p => g.storageLost (port - 4) p) h
  let h1 := h0.modYard (fun y => { y with
    leaves := ⟨y.leaves.cells.filter (fun c => !h.leafOf port unit c.1)⟩,
    voqs := ⟨(y.voqs.cells.map (fun c => (c.1, c.2.filter (fun d => !h.leafOf port unit d.leaf)))).filter (fun c => !c.2.isEmpty)⟩,
    flushed := y.flushed.write (fun _ => false) (unitKey port unit) true })
  let h2 := admittedGone.foldl (fun g d => g.copyGone d.id) h1
  (h2.add F.YARDPORT.FLUSHED port n).notify 98 (unitPayload port unit + n * 2 ^ 32)

/-- A unit goes down (R260): scheduling stops, and the flush is due FLUSH_DELAY later, at once when that is 0. -/
def Hub.unitDown (h : Hub) (port unit : Nat) : Hub :=
  if h.unitUp port unit then
    let h1 := (h.set F.YARDPORT.UP port (clrBit (h.get F.YARDPORT.UP port) unit)).notify 96 (unitPayload port unit)
    let ms := h.get F.YARDPORT.FLUSH_DELAY port
    if ms == 0 then h1.flushUnit port unit else h1.arm T.flush (unitKey port unit) (ms * msec)
  else h

/-- A unit comes up (R260): scheduling resumes; [6] of the notice tells that a flush came before. -/
def Hub.unitUpNow (h : Hub) (port unit : Nat) : Hub :=
  if h.unitUp port unit then h
  else
    let was := h.yard.flushed.read (fun _ => false) (unitKey port unit)
    let h0 := if h.yard.stalled.read (fun _ => false) port then
        (h.modYard (fun y => { y with stalled := y.stalled.write (fun _ => false) port false })).notify 492 port else h
    (((h0.set F.YARDPORT.UP port (setBit (h.get F.YARDPORT.UP port) unit)).disarm T.flush (unitKey port unit)).modYard
      (fun y => { y with flushed := y.flushed.write (fun _ => false) (unitKey port unit) false })).notify 97
      (unitPayload port unit + 64 * ofB was)

/-- A message delivered to the adapter of an internal port. -/
def Hub.deliver (h : Hub) (port from_ slot : Nat) (bytes : List Byte) : Hub :=
  h.modYard (fun y => { y with inbox := y.inbox.write (fun _ => []) port (y.inbox.read (fun _ => []) port ++ [(from_, slot, bytes)]) })

/-- An adapter takes a message: the one that stands in its port's inbox leaves it. -/
def Hub.takeInbox (h : Hub) (port from_ slot : Nat) (bytes : List Byte) : Hub :=
  h.modYard (fun y => { y with inbox := y.inbox.write (fun _ => []) port ((y.inbox.read (fun _ => []) port).erase (from_, slot, bytes)) })

end Sys2Proof.Machine
end

