-- ==== Sys2Proof/Machine/Route.lean ====
section
/-! DEFINITION. The Route table (R223–R226, R263–R266), policers (R297, R298), the internal bridge (R312–R314) and the
programmed path's tickets (R267, R268). -/

namespace Sys2Proof.Machine

/-! ### Entries -/

/-- A tunnel entry (R224). -/
def tunnelEntry (l cls index slot dest program programEn policer policerEn leaf binding : Nat) : Nat :=
  1 + l * 2 ^ 4 + cls * 2 ^ 6 + index * 2 ^ 9 + slot * 2 ^ 21 + dest * 2 ^ 32 + cls * 2 ^ 36 +
    ofB (!lossy cls) * 2 ^ 39 + program * 2 ^ 40 + programEn * 2 ^ 46 + policer * 2 ^ 47 + policerEn * 2 ^ 57 +
    leaf * 2 ^ 58 + binding * 2 ^ 70

/-- A bridge entry (R225). dest is Y0…Y3 with slot a tunnel slot, or Y6 with slot the MAC. -/
def bridgeEntry (static vlan mac dest slot : Nat) : Nat :=
  2 + static * 2 ^ 4 + vlan * 2 ^ 8 + mac * 2 ^ 20 + dest * 2 ^ 68 + slot * 2 ^ 72

/-- A flow entry (R264). -/
def flowEntry (table key object dest program programEn policer policerEn : Nat) : Nat :=
  3 + table * 2 ^ 4 + key * 2 ^ 8 + object * 2 ^ 72 + dest * 2 ^ 96 + program * 2 ^ 100 + programEn * 2 ^ 106 +
    policer * 2 ^ 107 + policerEn * 2 ^ 117

def entryType (e : Nat) : Nat := bits e 0 4

/-- The table of a flow entry. -/
def flowTable (e : Nat) : Option Nat := if entryType e == 3 then some (bits e 4 3) else none

/-- The program slot and whether it runs (R224, R225, R264). -/
def entryProgram (e : Nat) : Nat × Bool :=
  match entryType e with
  | 1 => (bits e 40 6, bitB e 46)
  | 2 => (bits e 94 6, bitB e 100)
  | 3 => (bits e 100 6, bitB e 106)
  | _ => (0, false)

/-- The policer and whether it meters. -/
def entryPolicer (e : Nat) : Nat × Bool :=
  match entryType e with
  | 1 => (bits e 47 10, bitB e 57)
  | 2 => (bits e 83 10, bitB e 93)
  | 3 => (bits e 107 10, bitB e 117)
  | _ => (0, false)

/-- A Route table entry. The default flow entry of port y stands in table 7 at 8,176 + y from start-up on (R264). -/
def Hub.route (h : Hub) (i : Nat) : Nat :=
  if 8176 ≤ i && i < 8192 then flowEntry 7 (i - 8176) 0 15 0 0 0 0 else h.yard.routes.read (fun _ => 0) i

/-- The first entry that satisfies a test. -/
def Hub.findRoute (h : Hub) (p : Nat → Bool) : Option Nat :=
  (h.yard.routes.cells.find? (fun c => p c.2)).map (fun c => c.1)

/-- The free entries of 0…8,175 (R226, R264). -/
def Hub.freeRoutes (h : Hub) : Nat := 8176 - (h.yard.routes.cells.filter (fun c => c.1 < 8176)).length

/-- The lowest free entry of 0…8,175. -/
def lowestFree : Nat → List (Nat × Nat) → Nat
  | n, [] => n
  | n, (k, _) :: t => if k == n then lowestFree (n + 1) t else n

def Hub.freeRoute (h : Hub) : Option Nat :=
  let i := lowestFree 0 h.yard.routes.cells
  if i < 8176 then some i else none

/-- NT_ROUTE_TABLE_LOW (R280): raised as the free entries fall below 1,024. -/
def Hub.routeWatch (h : Hub) : Hub :=
  let f := h.freeRoutes
  if f < 1024 then
    (if h.yard.routeLow then h else (h.modYard (fun y => { y with routeLow := true })).notify 112 f)
  else h.modYard (fun y => { y with routeLow := false })

/-- Writes an entry. -/
def Hub.writeRoute (h : Hub) (i v : Nat) : Hub :=
  (h.modYard (fun y => { y with routes := y.routes.write (fun _ => 0) i v })).routeWatch

/-- Frees an entry: a mirror session that selects by it is disabled (R275). -/
def Hub.clearRoute (h : Hub) (i : Nat) : Hub :=
  (List.range 4).foldl (fun g m =>
    if g.on F.MIRROR.ENABLE m && g.get F.MIRROR.SOURCE m == 1 && g.get F.MIRROR.SOURCE_ENTRY m == i then g.set F.MIRROR.ENABLE m 0 else g)
    ((h.writeRoute i 0).disarm T.learnAge i)

/-- Route entries with PROGRAM_EN naming a slot (PROGRAM.USERS). -/
def Hub.programUsers (h : Hub) (slot : Nat) : Nat :=
  (h.yard.routes.cells.filter (fun c => entryProgram c.2 == (slot, true))).length

/-- Route entries naming a policer (POLICER.USERS). -/
def Hub.policerUsers (h : Hub) (p : Nat) : Nat :=
  (h.yard.routes.cells.filter (fun c => entryPolicer c.2 == (p, true))).length

/-- The tunnel entry of a landing's wire index. -/
def Hub.tunnelRoute (h : Hub) (l index : Nat) : Option Nat :=
  h.findRoute (fun e => entryType e == 1 && bits e 4 2 == l && bits e 9 12 == index)

/-- The bridge entry of an address and VLAN. -/
def Hub.bridgeRoute (h : Hub) (mac vlan : Nat) : Option Nat :=
  h.findRoute (fun e => entryType e == 2 && bits e 20 48 == mac && bits e 8 12 == vlan)

/-- The flow entry of a key in a table; table 7 is keyed by port. -/
def Hub.flowRoute (h : Hub) (table key : Nat) : Option Nat :=
  if table == 7 then (if key < 16 then some (8176 + key) else none)
  else h.findRoute (fun e => entryType e == 3 && bits e 4 3 == table && bits e 8 64 == key)

/-- LOOK's search (R265): none for a key type it does not have; the inner option tells a hit from a miss. -/
def Hub.look (h : Hub) (keyType a b : Nat) : Option (Option Nat) :=
  if keyType == 0 then
    some (if a / 2 ^ 14 == 0 then h.tunnelRoute (bits a 12 2) (bits a 0 12) else none)
  else if keyType == 1 then
    some (if bits b 12 4 == 0 then h.bridgeRoute (a * 65536 + bits b 16 16) (bits b 0 12) else none)
  else if 8 ≤ keyType then some (h.flowRoute (keyType - 8) (a + b * 2 ^ 32))
  else none

/-! ### Policers (R297, R298) -/

/-- A policer's spent credit after refilling to now: what each bucket lacks of being full, in 1/8,000,000 byte. -/
def Hub.meterNow (h : Hub) (p : Nat) : Nat × Nat :=
  let m := h.yard.meters.read (fun _ => {}) p
  let dt := h.now - m.last
  let full (b : Nat) : Nat := b * 8000000
  (min (full (h.get F.POLICER.PBS p)) (m.spentP - dt * h.get F.POLICER.PIR p),
   min (full (h.get F.POLICER.CBS p)) (m.spentC - dt * h.get F.POLICER.CIR p))

/-- The colour of a message of B bytes (R297), 0 green, 1 yellow, 2 red, with the meter charged. -/
def Hub.meter (h : Hub) (p b : Nat) (arrivesYellow : Bool) : Hub × Nat :=
  let s := h.meterNow p
  let unit := b * 8000000
  let tp := h.get F.POLICER.PBS p * 8000000 - s.1
  let tc := h.get F.POLICER.CBS p * 8000000 - s.2
  let aware := h.get F.POLICER.MODE p == 1
  let put (sp sc : Nat) : Hub :=
    h.modYard (fun y => { y with meters := y.meters.write (fun _ => {}) p { spentP := sp, spentC := sc, last := h.now } })
  if tp < unit then (put s.1 s.2, 2)
  else if (aware && arrivesYellow) || tc < unit then (put (s.1 + unit) s.2, 1)
  else (put (s.1 + unit) (s.2 + unit), 0)

/-- Metering at classification: the message passes, is marked, or is dropped (none), each counted (R298). -/
def Hub.police (h : Hub) (entry b : Nat) (arrivesYellow : Bool) (p : Pkt) : Hub × Option Pkt :=
  let pol := entryPolicer entry
  if !pol.2 then (h, some p)
  else
    let (h1, c) := h.meter pol.1 b arrivesYellow
    match c with
    | 0 => (h1.add F.POLICER.GREEN pol.1 1, some p)
    | 1 =>
      let h2 := h1.add F.POLICER.YELLOW pol.1 1
      match h.get F.POLICER.YELLOW_ACTION pol.1 with
      | 0 => (h2, some p)
      | 1 => (h2, some { p with marked := true })
      | _ => (h2.add F.POLICER.DROPPED pol.1 1, none)
    | _ =>
      let h2 := h1.add F.POLICER.RED pol.1 1
      if h.get F.POLICER.RED_ACTION pol.1 == 1 then (h2, some { p with marked := true })
      else ((h2.add F.POLICER.DROPPED pol.1 1).notify 149 (pol.1 + 2 ^ 32), none)

/-! ### Frames and the internal bridge (R312–R314) -/

/-- Fields of a frame from its destination MAC address on. -/
def frameDst (f : List Byte) : Nat := beAt f 0 6
def frameSrc (f : List Byte) : Nat := beAt f 6 6
def frameTagged (f : List Byte) : Bool := beAt f 12 2 == 0x8100 || beAt f 12 2 == 0x88A8
def frameVlan (f : List Byte) : Nat := if frameTagged f then beAt f 14 2 % 4096 else 0
def frameDei (f : List Byte) : Bool := frameTagged f && bitB (beAt f 14 2) 12
def frameType (f : List Byte) : Nat := if frameTagged f then beAt f 16 2 else beAt f 12 2
def multicast (mac : Nat) : Bool := bitB mac 40

/-- A station address from a field whose Notes place no octet: its first octet on the wire is in [7:0] (R8). -/
def wireMac (field : Nat) : Nat := beAt (leBytes 6 field) 0 6
def Hub.mgmtMac (h : Hub) : Nat := wireMac (h.get F.ETHPORT.MGMT_MAC 0)

/-- A frame with its outer tag taken off, and with a C-tag of a VLAN put in. -/
def untag (f : List Byte) : List Byte := if frameTagged f then f.take 12 ++ f.drop 16 else f
def tagWith (f : List Byte) (vlan : Nat) : List Byte := f.take 12 ++ beBytes 2 0x8100 ++ beBytes 2 vlan ++ f.drop 12

/-- The frame as it leaves in a VLAN on a trunk or MAC: tagged unless its VLAN is 0 (R313). -/
def trunkFrame (f : List Byte) (vlan : Nat) : List Byte := if vlan != 0 && !frameTagged f then tagWith f vlan else f

/-- The tunnel slot of a landing's virtual NIC b, when one is open: the Network tunnel with that BINDING (R313). -/
def Hub.vnicSlot (h : Hub) (l b : Nat) : Option Nat :=
  (h.findRoute (fun e => entryType e == 1 && bits e 4 2 == l && bits e 6 3 == 3 && bits e 70 16 == b)).map
    (fun i => bits (h.route i) 21 11)

/-- The leaf a message for a tunnel slot of a landing takes (R228): the tunnel's own or its class's shared leaf. -/
def Hub.tunnelLeaf (h : Hub) (l slot : Nat) : Nat :=
  let q := h.get F.TUNNEL.LEAF_OUT (2048 * l + slot)
  if q == 0xFFF then sharedLeaf l (h.use F.TUNNEL.CLASS (2048 * l + slot)) else q

/-- The leaf of Y6 a bridged frame takes toward a MAC (R288): by landing from a virtual NIC, 8 or 9 from a MAC. -/
def ethLeaf (fromPort mac service : Nat) : Nat :=
  768 + 8 * (if fromPort < 4 then 4 * mac + fromPort else 8 + mac) + service

/-- Where the bridge floods a frame (R314): every MAC and every flooding virtual NIC in its VLAN but the one it came from. -/
def Hub.floodDests (h : Hub) (fromPort fromUnit service vlan : Nat) : List (Nat × Nat) :=
  let macs := ((List.range 2).filter (fun m => !(fromPort == 6 && fromUnit == m))).map (fun m => (ethLeaf fromPort m service, 0))
  let vnics := (List.range 32).filterMap (fun e =>
    match h.vnicSlot (e / 8) (e % 8) with
    | none => none
    | some slot =>
      let v := h.get F.ETHPORT.VNIC_VLAN 0 e
      if h.on F.ETHPORT.VNIC_FLOOD 0 e && (v == 0 || v == vlan) && !(fromPort == e / 8 && fromUnit == slot) then
        some (h.tunnelLeaf (e / 8) slot, slot)
      else none)
  macs ++ vnics

/-- The destination of a bridge entry. -/
def Hub.bridgeDest (h : Hub) (entry fromPort service : Nat) : Nat × Nat :=
  let d := bits entry 68 4
  let slot := bits entry 72 11
  if d == 6 then (ethLeaf fromPort (slot % 2) service, 0) else (h.tunnelLeaf d slot, slot)

/-- Whether a launch time lies beyond the horizon of a frame's destination MAC (R304). -/
def Hub.launchEarly (h : Hub) (mac t : Nat) : Bool :=
  ((h.get F.ETHPORT.LAUNCH_HORIZON mac * msec : Nat) : Int) < diff48 t h.network48

/-- Bridge learning (R266) of a frame's source address and VLAN at its ingress: dest and slot as R225 names them. -/
def Hub.learn (h : Hub) (port dest slot mac vlan : Nat) : Hub :=
  if !h.on F.YARDPORT.LEARN_ENABLE port || multicast mac then h
  else
    let age := h.get F.YARDPORT.LEARN_AGE port * sec
    match h.bridgeRoute mac vlan with
    | some i =>
      let e := h.route i
      if bitB e 4 then h
      else if bits e 68 4 == dest && bits e 72 11 == slot then h.arm T.learnAge i age
      else if bits e 68 4 == dest then
        ((h.writeRoute i (bridgeEntry 0 vlan mac dest slot)).arm T.learnAge i age).notify 111 (mac + vlan * 2 ^ 48)
      else h.notify 111 (mac + vlan * 2 ^ 48 + 2 ^ 63)
    | none =>
      let s := h.now / sec
      let l := h.yard.learns.read (fun _ => (0, 0)) port
      let n := if l.2 == s then l.1 else 0
      if h.get F.YARDPORT.LEARN_LIMIT port ≤ n then
        (h.modYard (fun y => { y with learns := y.learns.write (fun _ => (0, 0)) port (n + 1, s) })).notify 110 (port + 2 ^ 32)
      else if h.freeRoutes ≤ 1024 then h
      else
        match h.freeRoute with
        | none => h
        | some i =>
          ((h.modYard (fun y => { y with learns := y.learns.write (fun _ => (0, 0)) port (n + 1, s) })).writeRoute i
            (bridgeEntry 0 vlan mac dest slot)).arm T.learnAge i age

/-! ### The programmed path (R267, R268) -/

/-- Whether a program slot can run: a message classified by an entry with PROGRAM_EN takes it (R267). -/
def Hub.programmed (h : Hub) (entry : Nat) : Bool := (entryProgram (h.route entry)).2

/-- Messages of an ingress port that wait for a thread. -/
def Yard.waitingAt (y : Yard) (input : Nat) : Nat :=
  (y.tickets.filter (fun t => t.input == input && t.state == .waiting)).length

/-- The program a message runs, if it takes the programmed path (R243, R267). -/
def Hub.programOf (h : Hub) (p : Pkt) : Nat × Bool :=
  if p.tc then (1, true) else match p.program with | some x => x | none => entryProgram (h.route p.entry)

/-- A message is written into its slice, and goes to its VOQs or takes a ticket. When the 256 places of its port are full a lossless one waits in its
slice, and a lossy one is dropped (R249, R268). -/
def Hub.takeIn (h0 : Hub) (input : Nat) (p0 : Pkt) (dests : List (Nat × Nat)) : Hub :=
  let p := if p0.passes == 0 then { p0 with aim := dests } else p0
  let h := h0.add F.YARDPORT.CELLS_IN input (cellsOf p)
  let prog := h.programOf p
  let full := 256 ≤ h.yard.waitingAt input || h.yard.tickets.any (fun t => t.input == input && t.state == .outside)
  if !prog.2 then h.place input p dests
  else if full && lossy p.service then h.notify 107 (input + 2 ^ 32)
  else h.modYard (fun y => { y with nextId := y.nextId + 1, tickets := y.tickets ++ [{ id := y.nextId, input := input, slot := prog.1, pkt := p, state := if full then .outside else .waiting, dests := dests }] })

/-- A lossless message that waited in its slice gets the place of a port that has come free (R268). -/
def Hub.fillPlaces (h : Hub) (input : Nat) : Hub :=
  match h.yard.tickets.find? (fun t => t.input == input && t.state == .outside) with
  | some t =>
    if h.yard.waitingAt input < 256 then
      h.modYard (fun y => { y with tickets := y.tickets.map (fun x => if x.id == t.id then { x with state := .waiting } else x) })
    else h
  | none => h

/-- A classified message arrives: discarded as a lossy one beyond its share of the slice; held back by its adapter while the slice has no room, which the
Ethernet engine cannot do; else taken in (R248). -/
def Hub.admitMessage (h : Hub) (input : Nat) (p : Pkt) (dests : List (Nat × Nat)) : Hub :=
  if h.lossyFull input p then h.add F.YARDPORT.INGRESS_LOSSY_DROPS input 1
  else if h.sliceRoom input p && !h.yard.backlog.any (fun b => b.1 == input) then h.takeIn input p dests
  else if input == 6 then (if lossy p.service then h.add F.YARDPORT.INGRESS_LOSSY_DROPS input 1 else h)
  else h.modYard (fun y => { y with backlog := y.backlog ++ [(input, p, dests)] })

/-- What adapters held back enters, in order, as far as their slices have room. -/
def Hub.drainBacklog (h : Hub) : Hub :=
  if h.yard.backlog.isEmpty then h
  else
    h.yard.backlog.foldl (fun g b => g.admitMessage b.1 b.2.1 b.2.2) (h.modYard (fun y => { y with backlog := [] }))

/-- A message a block of the hub originates toward leaves of other ports, under its port's default entry. -/
def Hub.originate (h : Hub) (input service : Nat) (bytes : List Byte) (dests : List (Nat × Nat)) : Hub :=
  h.admitMessage input { bytes := bytes, port := input, service := service, stamp := h.clk, entry := 8176 + input } dests

/-- Ended tickets leave for their VOQs in ticket order of their port and service (R268). -/
def releaseTickets : List Ticket → List Ticket → List Ticket × List Ticket
  | held, [] => (held, [])
  | held, t :: ts =>
    if t.state == .ended && !held.any (fun o => o.input == t.input && o.pkt.service == t.pkt.service) then
      let (k, r) := releaseTickets held ts
      (k, t :: r)
    else releaseTickets (held ++ [t]) ts

def Hub.drainTickets (h : Hub) : Hub :=
  let (keep, go) := releaseTickets [] h.yard.tickets
  go.foldl (fun g t => g.place t.input t.pkt t.dests) (h.modYard (fun y => { y with tickets := keep }))

/-! ### Classification of messages from outside (R263, R297) -/

/-- A frame enters the bridge from a virtual NIC (fromPort 0…3, unit its slot) or a MAC (fromPort 6, unit the MAC):
source learned, destination found or flooded, launch horizon checked, metered, and admitted. -/
def Hub.bridge (h : Hub) (fromPort unit : Nat) (p : Pkt) (arrivesYellow : Bool) : Hub :=
  let f := p.bytes.drop p.lead
  let h1 := h.learn fromPort fromPort unit (frameSrc f) p.vlan
  let hit := if multicast (frameDst f) then none else h1.bridgeRoute (frameDst f) p.vlan
  let dests := match hit with
    | some i => [h1.bridgeDest (h1.route i) fromPort p.service]
    | none => h1.floodDests fromPort unit p.service p.vlan
  let entry := if fromPort < 4 || flowTable (h1.route p.entry) == some 1 then p.entry else hit.getD p.entry
  let counted := if fromPort == 6 then p.bytes.length + 4 else 128 * ((p.bytes.length + 127) / 128)
  let early := match p.launch with
    | none => false
    | some t => dests.any (fun d => d.1 / 128 == 6 && h1.launchEarly (h1.leafMac d.1) t)
  if early then h1.raise 148 (fromPort + 2 ^ 32) [fromPort]
  else
    match h1.police (h1.route entry) counted arrivesYellow { p with entry := entry } with
    | (h2, none) => h2
    | (h2, some q) => h2.admitMessage fromPort q dests

end Sys2Proof.Machine
end

