-- ==== Sys2Proof/Machine/Egress.lean ====
section
/-! DEFINITION. Egress scheduling (R287–R305): shapers and calendar wheels, eligibility and selection, Timetables, held
messages, what a port adapter writes as a message leaves, and the sending of one message. -/

namespace Sys2Proof.Machine

/-! ### Shapers (R291–R294) -/

/-- The shaper of a service node. -/
def nodeShaper (port service : Nat) : Nat := 2048 + 8 * port + service

/-- The committed rate a shaper runs at: a leaf's CIR, or for a service node the larger of its CIR and the sum of its
leaves' CIR (R295). -/
def Hub.leafCirSum (h : Hub) (port service : Nat) : Nat :=
  ((List.range 128).map (fun i =>
    if h.leafService (128 * port + i) == service then h.use F.SHAPER.CIR (128 * port + i) else 0)).sum

def Hub.cirOf (h : Hub) (n : Nat) : Nat :=
  if n < 2048 then h.use F.SHAPER.CIR n
  else max (h.use F.SHAPER.CIR n) (h.leafCirSum ((n - 2048) / 8) (n % 8))

/-- The peak rate a shaper runs at (R295). -/
def Hub.pirOf (h : Hub) (n : Nat) : Nat :=
  if n < 2048 then h.use F.SHAPER.PIR n else max (h.use F.SHAPER.PIR n) (h.cirOf n)

/-- A bucket credited with rate × elapsed time up to its burst; levels in 1/8,000 byte (R294). -/
def creditBucket (level : Int) (rate elapsed burst : Nat) : Int :=
  let v := level + (rate * elapsed : Nat)
  if (burst * 8000 : Nat) < v then (burst * 8000 : Nat) else v

/-- A shaper's bucket level in 1/8,000 byte. -/
def Hub.bucketC (h : Hub) (n : Nat) : Int :=
  h.getI F.SHAPER.COMMITTED_BUCKET n * 8000 + ((h.yard.bucketFrac.read (fun _ => (0, 0)) n).1 : Int)
def Hub.bucketP (h : Hub) (n : Nat) : Int :=
  h.getI F.SHAPER.PEAK_BUCKET n * 8000 + ((h.yard.bucketFrac.read (fun _ => (0, 0)) n).2 : Int)

/-- Makes a shaper's bucket levels. -/
def Hub.setBuckets (h : Hub) (n : Nat) (c p : Int) : Hub :=
  ((h.setI F.SHAPER.COMMITTED_BUCKET n (c / 8000)).setI F.SHAPER.PEAK_BUCKET n (p / 8000)).modYard
    (fun y => { y with bucketFrac := y.bucketFrac.write (fun _ => (0, 0)) n ((c % 8000).toNat, (p % 8000).toNat) })

/-- The next 64 ns boundary of the fine wheel at or after a moment (R294). -/
def slot64 (t : Nat) : Nat := (t + 63) / 64 * 64

/-- When a shaper refills next: at its wheel slot or after a charge, and at the latest 16 µs after its last refill (R294). -/
def Hub.refillDue (h : Hub) (n : Nat) : Nat :=
  let base := slot64 (h.yard.lastRefill.read (fun _ => 0) n + 16 * usec)
  match h.due T.refill n with
  | some t => min t base
  | none => base

/-- The wheel slot in which a bucket below 0 returns to 0 at its rate (R293): on the fine wheel within its horizon, else on
the coarse one. -/
def wheelSlot (now : Nat) (level : Int) (rate : Nat) : Nat :=
  let d := ((-level).toNat + rate - 1) / rate
  if d ≤ 262144 then slot64 (now + d) else (now + d + 15999) / 16000 * 16000

/-- Enters a shaper whose bucket stands below 0 on a calendar wheel (R293). -/
def Hub.enterWheel (h : Hub) (n : Nat) : Hub :=
  let cir := h.cirOf n
  let pir := h.pirOf n
  let c := if h.bucketC n < 0 && 0 < cir then [wheelSlot h.now (h.bucketC n) cir] else []
  let p := if h.bucketP n < 0 && 0 < pir then [wheelSlot h.now (h.bucketP n) pir] else []
  match c ++ p with
  | [] => h.disarm T.wheel n
  | a :: t => h.armAt T.wheel n (t.foldl min a)

/-- A refill (R294): each bucket is credited at the parameters in force, then committed changes of the Refill fields take
effect, and a bucket above its new burst is cut to it. -/
def Hub.refillShaper (h : Hub) (n : Nat) : Hub :=
  let dt := h.now - h.yard.lastRefill.read (fun _ => 0) n
  let c := creditBucket (h.bucketC n) (h.cirOf n) dt (h.use F.SHAPER.CBS n)
  let p := creditBucket (h.bucketP n) (h.pirOf n) dt (h.use F.SHAPER.PBS n)
  let h1 := (h.disarm T.refill n).modYard (fun y => { y with lastRefill := y.lastRefill.write (fun _ => 0) n h.now })
  let h2 := h1.takeAll 0x0B n .refill
  let cut (v : Int) (b : Nat) : Int := if (b * 8000 : Nat) < v then (b * 8000 : Nat) else v
  (h2.setBuckets n (cut c (h2.use F.SHAPER.CBS n)) (cut p (h2.use F.SHAPER.PBS n))).enterWheel n

/-- A charge (R292): green takes from both buckets, yellow from the peak bucket; the shaper refills at the next boundary. -/
def Hub.charge (h : Hub) (n b : Nat) (green : Bool) : Hub :=
  let c := if green then h.bucketC n - (b * 8000 : Nat) else h.bucketC n
  let h1 := (h.setBuckets n c (h.bucketP n - (b * 8000 : Nat))).add (if green then F.SHAPER.GREEN_BYTES else F.SHAPER.YELLOW_BYTES) n b
  (h1.armAt T.refill n (slot64 (h.now + 1))).enterWheel n

/-! ### Timetables (R299–R303) -/

/-- The phase of a Timetable's cycle at present network time: the whole cycles are counted from its base (R299). -/
def Hub.ttPhase (h : Hub) (y : Nat) : Nat :=
  ((h.networkInt - (h.get F.TIMETABLE.ACTIVE_BASE y : Int)) % (h.get F.TIMETABLE.ACTIVE_CYCLE y : Int)).toNat

/-- The active list's entries as (mask, start within the cycle), cut at the cycle's end (R299). -/
def Hub.ttStarts (h : Hub) (y : Nat) : List (Nat × Nat) :=
  let cyc := h.get F.TIMETABLE.ACTIVE_CYCLE y
  let es := (List.range (h.get F.TIMETABLE.ACTIVE_LENGTH y)).map (fun i => h.get F.TIMETABLE.ACTIVE_ENTRY y i)
  ((es.foldl (fun (acc : List (Nat × Nat) × Nat) e => (acc.1 ++ [(bits e 24 8, acc.2)], acc.2 + bits e 0 24 * 8)) ([], 0)).1).filter
    (fun p => p.2 < cyc)

/-- The entry in effect at a phase, as (number, mask). -/
def entryAt (starts : List (Nat × Nat)) (phase : Nat) : Nat × Nat :=
  (starts.zipIdx.foldl (fun (acc : Nat × Nat) p => if p.1.2 ≤ phase then (p.2, p.1.1) else acc) (0, 0))

/-- When a service's gate, open at a phase, closes: the first later boundary where its bit is 0, or the cycle's end (R300). -/
def closeAt (starts : List (Nat × Nat)) (cyc phase service : Nat) : Nat :=
  match starts.find? (fun p => phase < p.2 && !bitB p.1 service) with
  | some p => p.2
  | none => cyc

/-- Whether the Timetable of a port gates a unit: TIMETABLE 6 gates the MACs it selects (R299). -/
def Hub.gated (h : Hub) (port mac : Nat) : Bool :=
  h.on F.TIMETABLE.ENABLE port && (port != 6 || bitB (h.use F.TIMETABLE.MACS 6) mac)

/-- Whether a service's gate is open now (SERVICE.GATE). -/
def Hub.gateOpen (h : Hub) (port mac service : Nat) : Bool :=
  !h.gated port mac || bitB (entryAt (h.ttStarts port) (h.ttPhase port)).2 service

/-- The part of a nanosecond network time is beyond its integer, in 2^−16 ns. -/
def Hub.networkPart (h : Hub) : Nat :=
  (((h.clk : Int) + h.clockOffset + ((h.clk : Int) - h.clockAnchor) * h.getI F.CLOCK.RATE 0 / (2 ^ 48 : Int)) % 65536).toNat

/-- How long a service's open gate stays open, in 2^−16 ns; none when no Timetable gates it. -/
def Hub.gateLeft (h : Hub) (port mac service : Nat) : Option Nat :=
  if h.gated port mac then
    some ((closeAt (h.ttStarts port) (h.get F.TIMETABLE.ACTIVE_CYCLE port) (h.ttPhase port) service - h.ttPhase port) * 65536 - h.networkPart)
  else none

/-- The longest run of a service's open gate within one cycle of the active list (R301). -/
def Hub.longestRun (h : Hub) (y service : Nat) : Nat :=
  let st := h.ttStarts y
  let cyc := h.get F.TIMETABLE.ACTIVE_CYCLE y
  (st.map (fun p => if bitB p.1 service then closeAt st cyc p.2 service - p.2 else 0)).foldl max 0

/-- A swap (R302): the staged bank becomes the active one, LONGEST_RUN is computed, NT_TIMETABLE_SWAP is raised. -/
def Hub.ttSwap (h : Hub) (y : Nat) : Hub :=
  let h1 := h.takeAll 0x0D y .cycle
  let n := h1.use F.TIMETABLE.LENGTH y
  let h2 := (List.range 256).foldl (fun g i => g.set F.TIMETABLE.ACTIVE_ENTRY y (g.use F.TIMETABLE.ENTRY y i) i) h1
  let h3 := (((h2.set F.TIMETABLE.ACTIVE_LENGTH y n).set F.TIMETABLE.ACTIVE_CYCLE y (h2.use F.TIMETABLE.CYCLE_TIME y)).set
    F.TIMETABLE.ACTIVE_BASE y (h2.use F.TIMETABLE.BASE_TIME y)).set F.TIMETABLE.SWAP_PENDING y 0
  let h4 := (List.range 8).foldl (fun g s => g.set F.SERVICE.LONGEST_RUN (8 * y + s) (g.longestRun y s)) (h3.add F.TIMETABLE.SWAPS y 1)
  let cur := (entryAt (h4.ttStarts y) (h4.ttPhase y)).1
  h4.raise 144 (y + cur * 256 + h4.network48 * 2 ^ 16) (h4.holderCtx (if y == 6 then 55 else 0))

/-- The next entry boundary after now, as time from now, and the next cycle boundary. -/
def Hub.ttToEntry (h : Hub) (y : Nat) : Nat :=
  let ph := h.ttPhase y
  match (h.ttStarts y).find? (fun p => ph < p.2) with
  | some p => p.2 - ph
  | none => h.get F.TIMETABLE.ACTIVE_CYCLE y - ph

def Hub.ttToCycle (h : Hub) (y : Nat) : Nat := h.get F.TIMETABLE.ACTIVE_CYCLE y - h.ttPhase y

/-- The local counter carried forward by a number of ns of network time. -/
def Hub.advanceNetworkBy (h : Hub) (d : Nat) : Hub := h.advanceNetwork d

/-! ### What leaves (R105–R107, R291, R308, R313) -/

/-- The bytes of a message as its port sends it: on a MAC the frame tagged for its VLAN, padded and with its FCS; toward a virtual NIC the message with
the frame tagged or untagged as the NIC's VLAN asks (R227, R291, R313). -/
def Hub.sentBytes (h : Hub) (port slot : Nat) (p : Pkt) : Nat :=
  let f := p.bytes.drop p.lead
  if port == 6 then max 60 (trunkFrame f p.vlan).length + 4
  else if port < 4 && h.use F.TUNNEL.CLASS (2048 * port + slot) == 3 then
    8 + (if h.get F.ETHPORT.VNIC_VLAN 0 (8 * port + h.use F.TUNNEL.BINDING (2048 * port + slot)) != 0 then untag f else trunkFrame f p.vlan).length
  else p.bytes.length

/-- The message bytes counted for a message in a leaf (R291). -/
def Hub.countedBytes (h : Hub) (port slot : Nat) (p : Pkt) : Nat :=
  let n := h.sentBytes port slot p
  if port < 4 then 128 * ((n + 127) / 128) else n

/-- The send time of a message (R300), in bits × 1,000 over a rate in Mbit/s: ns without rounding. -/
def Hub.sendBits (h : Hub) (port slot : Nat) (p : Pkt) : Nat :=
  let b := h.countedBytes port slot p
  (if port == 6 then (8 + b) * 8 else if port < 4 then b / 128 * 1024 else cellsOf p * 1024) * 1000
def Hub.sendRate (h : Hub) (port mac : Nat) : Nat :=
  if port == 6 then max 1 (h.get F.ETHPORT.SPEED mac) else if port < 4 then max 1 (h.get F.LANDING.CAP_OUT port) else 192000

/-- The send time in whole ns, rounded up. -/
def Hub.sendTime (h : Hub) (port mac slot : Nat) (p : Pkt) : Nat :=
  (h.sendBits port slot p + h.sendRate port mac - 1) / h.sendRate port mac

/-- Whether a message's send time is within a time given in 2^−16 ns. -/
def Hub.sendFits (h : Hub) (port mac slot : Nat) (p : Pkt) (left : Nat) : Bool :=
  decide (h.sendBits port slot p * 65536 ≤ left * h.sendRate port mac)

/-- A residence time in 2^−16 ns: the local interval × (1 + RATE / 2^48) (R377). -/
def Hub.residence (h : Hub) (stamp : Nat) : Int :=
  let d : Int := (h.clk : Int) - stamp
  d + d * h.getI F.CLOCK.RATE 0 / (2 ^ 48 : Int)

/-- The PTP port a message came in by: landing Ll is instance l, E0 and E1 are 4 and 5 (R395). -/
def ptpPortOf (p : Pkt) : Option Nat :=
  if p.port < 4 then some p.port else if p.port == 6 then some (4 + p.mac) else none

/-- Adds to the signed 64-bit correction field at a byte, in network order; a sum beyond the range becomes the largest
(R106). The flag tells saturation. -/
def addCorrection (bs : List Byte) (off : Nat) (v : Int) : List Byte × Bool :=
  let s := decInt 64 (beAt bs off 8) + v
  if s < -(2 ^ 63 : Int) || (2 ^ 63 : Int) ≤ s then (putBytes bs off (beBytes 8 (2 ^ 63 - 1)), true)
  else (putBytes bs off (beBytes 8 (encInt 64 s)), false)

/-- A time stamp in a format of R105: local counter, IEEE 1588 Timestamp, network ns in 64 and 32 bits. -/
def stampBytes (format localClk : Nat) (nt : Int) : List Byte :=
  match format with
  | 0 => leBytes 8 (localClk % 2 ^ 64)
  | 1 => beBytes 6 (encInt 48 (nt / (sec : Int))) ++ beBytes 4 (nt % (sec : Int)).toNat
  | 2 => leBytes 8 (encInt 48 nt)
  | _ => leBytes 4 (encInt 32 nt)

def stampLen (format : Nat) : Nat := match format with | 0 => 8 | 1 => 10 | 2 => 8 | _ => 4

/-- The folded ones' complement sum of network-order 16-bit words, an odd last byte padded with zero (R107). -/
def fold16 (n : Nat) : Nat := let m := n % 65536 + n / 65536; m % 65536 + m / 65536
def onesSum : List Byte → Nat
  | [] => 0
  | [a] => a.toNat * 256
  | a :: b :: t => a.toNat * 256 + b.toNat + onesSum t

/-- The incremental update of RFC 1624 at a checksum for what changed between two versions of a message: ~(~HC + ~m + m'),
over the words on the checksum's own alignment; a checksum of 0x0000 is left (R107). -/
def fixChecksum (before after : List Byte) (off : Nat) : List Byte :=
  let hc := beAt after off 2
  if hc == 0 then after
  else
    let start := off % 2
    let blank (bs : List Byte) : List Byte := (putBytes bs off [0, 0]).drop start
    let m := fold16 (fold16 (onesSum (blank before)))
    let m' := fold16 (fold16 (onesSum (blank after)))
    let s := fold16 (fold16 ((65535 - hc) + (65535 - m) + m'))
    putBytes after off (beBytes 2 (65535 - s))

/-- What the egress adapter writes as a message leaves; latency is EGRESS_LATENCY of a PTP message's port in 2^−16 ns (R378): stamps and corrections first, then marked checksums (R105–R107).
The flag tells that a correction saturated (R384). -/
def Hub.egressAdjust (h : Hub) (latency : Int) (p : Pkt) : List Byte × Bool :=
  let step (x : List Byte × Bool) (m : EgressMark) : List Byte × Bool :=
    match m with
    | .stamp off f => (putBytes x.1 off (stampBytes f (h.clk + latency).toNat (h.networkAt (h.clk + latency).toNat)), x.2)
    | .corr off res link =>
      let r := if res then h.residence p.stamp + latency else 0
      let d : Int := if link then match ptpPortOf p with
          | some i => (h.get F.PTPPORT.MEAN_LINK_DELAY i * 65536 / 1000 : Nat)
          | none => 0
        else 0
      let y := addCorrection x.1 off (r + d)
      (y.1, x.2 || y.2)
    | .csum _ => x
  let done := p.marks.foldl step (p.bytes, false)
  (p.marks.foldl (fun bs m => match m with | .csum off => fixChecksum p.bytes bs off | _ => bs) done.1, done.2)

/-- The reflected CRC-32 of IEEE 802.3 as the FCS. -/
def fcsBit (c : Nat) : Nat := if c % 2 == 1 then (c / 2) ^^^ 0xEDB88320 else c / 2
def fcsByte (c : Nat) (b : Byte) : Nat :=
  fcsBit (fcsBit (fcsBit (fcsBit (fcsBit (fcsBit (fcsBit (fcsBit (c ^^^ b.toNat))))))))
def fcs (bs : List Byte) : List Byte := leBytes 4 ((bs.foldl fcsByte 0xFFFFFFFF) ^^^ 0xFFFFFFFF)

/-- A frame as a MAC sends it: header and launch time removed, tagged for its VLAN, DEI set on a marked frame when the
port marks it, padded to 64 bytes with its FCS (R298, R308, R312, R313). -/
def Hub.macFrame (h : Hub) (mac : Nat) (p : Pkt) (bytes : List Byte) : List Byte :=
  let f := trunkFrame (bytes.drop p.lead) p.vlan
  let f1 := if p.marked && frameTagged f && h.on F.ETHPORT.DEI_MARK mac then
      putBytes f 14 (beBytes 2 (setBit (beAt f 14 2) 12)) else f
  let f2 := f1 ++ List.replicate (60 - f1.length) 0
  f2 ++ fcs f2

/-! ### Heads of leaves (R258, R290, R301, R304, R305, R220) -/

/-- Why a message at the head of a leaf does not stay. -/
inductive HeadFate where
  | stays
  | aged
  | closed
  | oversize
  | late
  deriving DecidableEq, Repr

/-- Whether a head message is held for a launch time or a trigger (QUEUE.HELD). -/
def Hub.headHeld (h : Hub) (q : Nat) (e : LeafPkt) : Bool :=
  (h.on F.QUEUE.TRIGGER_HOLD q && !e.released) ||
    (q / 128 == 6 && match e.pkt.launch with
      | some t => decide (0 < diff48 t h.network48)
      | none => false)

/-- What becomes of a message that reaches the head of its leaf; served tells that the leaf is the one to send from, where alone a message ages or finds
its tunnel closed (R220, R258). -/
def Hub.headFate (h : Hub) (q : Nat) (served : Bool) (e : LeafPkt) : HeadFate :=
  let port := q / 128
  let s := h.leafService q
  let mac := h.leafMac q
  if !e.whole then .stays
  else if served && h.get F.YARDPORT.AGE_LIMIT port s * usec < (h.clk - e.pkt.stamp) / 65536 then .aged
  else if served && port < 4 && s != 7 && e.slot != 0 && !h.tunnelOpen (2048 * port + e.slot) then .closed
  else if h.gated port mac && !h.sendFits port mac e.slot e.pkt (h.get F.SERVICE.LONGEST_RUN (8 * port + s) * 65536) then .oversize
  else if port == 6 && !h.headHeld q e && (match e.pkt.launch with
      | some t => decide ((h.get F.ETHPORT.LAUNCH_LATE mac : Int) < diff48 h.network48 t)
      | none => false) then .late
  else .stays

/-- A head that does not stay is discarded where its rule says it is counted. -/
def Hub.discardHead (h : Hub) (q : Nat) (e : LeafPkt) : HeadFate → Hub
  | .stays => h
  | .aged =>
    ((match storagePort q e.pkt.cls with
      | some s => h.storageLost s e.pkt
      | none => h).add F.YARDPORT.AGED (q / 128) 1).notify 99 (q / 128 + h.leafService q * 16 + 2 ^ 32)
  | .closed => h.add F.TUNNEL.MSG_DISCARDED (2048 * (q / 128) + e.slot) 1
  | .oversize =>
    (h.add F.SERVICE.OVERSIZE_DROPS (8 * (q / 128) + h.leafService q) 1).raise 145
      (q / 128 + h.leafService q * 16 + 2 ^ 32) (h.holderCtx (if q / 128 == 6 then 55 else 0))
  | .late =>
    (h.add F.ETHPORT.LAUNCH_DROPS (h.leafMac q) 1).raise 147 (q + 2 ^ 32) [e.pkt.port]

/-- Discards the heads that do not stay, one after the other. -/
def Hub.purgeList (h : Hub) (q : Nat) : List LeafPkt → Hub × List LeafPkt
  | [] => (h, [])
  | e :: t =>
    match h.headFate q false e with
    | .stays => (h, e :: t)
    | f => (h.discardHead q e f).purgeList q t

def Hub.purgeLeaf (h : Hub) (q : Nat) : Hub :=
  let (h1, l) := h.purgeList q (h.yard.leaf q)
  h1.setLeaf q l

/-- A subscriber leaf that its tunnel has given up is free once it is empty (R228). -/
def Hub.releaseLeaf (h : Hub) (q : Nat) : Hub :=
  match h.yard.leafTunnel.read (fun _ => 0) q with
  | 0 => h
  | t + 1 =>
    if (h.yard.leaf q).isEmpty && h.get F.TUNNEL.LEAF_OUT t != q then h.modYard (fun y => { y with leafTunnel := y.leafTunnel.write (fun _ => 0) q 0 })
    else h

/-! ### Selection (R290) -/

/-- A child of a node that may send: its number, the message bytes its head counts, whether it is green, its priority and
its weight. -/
structure Child where
  id : Nat
  bytes : Nat
  green : Bool
  priority : Nat
  weight : Nat
  deriving DecidableEq, Repr

/-- A leaf as an eligible child of its service node, when it is one: a whole message, not held, in a window it fits, and
a peak bucket of at least 0. -/
def Hub.leafChild (h : Hub) (q : Nat) : Option Child :=
  match h.yard.leaf q with
  | [] => none
  | e :: _ =>
    let port := q / 128
    let mac := h.leafMac q
    let s := h.leafService q
    let fits := match h.gateLeft port mac s with
      | some left => h.gateOpen port mac s && h.sendFits port mac e.slot e.pkt left
      | none => true
    if e.whole && !h.headHeld q e && fits && 0 ≤ h.bucketP q then
      some { id := q, bytes := h.countedBytes port e.slot e.pkt, green := 0 < h.use F.SHAPER.CIR q && 0 ≤ h.bucketC q,
             priority := h.use F.SHAPER.PRIORITY q, weight := h.use F.SHAPER.WEIGHT q }
    else none

/-- The eligible leaves of a service on a unit of a port. -/
def Hub.eligibleLeaves (h : Hub) (port unit service : Nat) : List Child :=
  ((List.range 128).map (fun i => 128 * port + i)).filterMap (fun q =>
    if h.leafService q == service && (port != 6 || h.leafMac q + 1 == unit) then h.leafChild q else none)

/-- Deficit round robin among equals (R290): visiting the children in turn from the one after the last served, each visit
adding its quantum of WEIGHT × 128 bytes, the first whose deficit covers its message. Gives the child and every child's
new deficit. -/
def drr (deficit : Nat → Nat) (last : Nat) (cs : List Child) : Option (Child × List (Nat × Nat)) :=
  let after := cs.filter (fun c => last < c.id)
  let order := after ++ cs.filter (fun c => c.id ≤ last)
  let visits (c : Child) : Nat := (c.bytes - deficit c.id + (c.weight * 128 - 1)) / (c.weight * 128)
  let held := cs.find? (fun c => c.id == last && c.bytes ≤ deficit c.id)
  match held with
  | some c => some (c, [(c.id, deficit c.id - c.bytes)])
  | none =>
    match order with
    | [] => none
    | a :: t =>
      let best := t.foldl (fun b c => if max 1 (visits c) < max 1 (visits b) then c else b) a
      let k := max 1 (visits best)
      let pos (c : Child) : Nat := (order.map (fun x => x.id)).idxOf c.id
      some (best, order.map (fun c =>
        let v := if pos c ≤ pos best then k else k - 1
        let d := deficit c.id + v * (c.weight * 128)
        (c.id, if c.id == best.id then d - c.bytes else d)))

/-- The pick of a node among its eligible children: green before yellow, then the highest priority, then deficit round
robin (R290). -/
def pickChild (deficit : Nat → Nat) (last : Nat) (cs : List Child) : Option (Child × List (Nat × Nat)) :=
  let tier := if cs.any (fun c => c.green) then cs.filter (fun c => c.green) else cs
  let top := tier.foldl (fun m c => max m c.priority) 0
  drr deficit last (tier.filter (fun c => c.priority == top))

/-- Whether a pause the device honours stops a service on a MAC now (R309, SERVICE.PAUSED). -/
def Hub.pausedNow (h : Hub) (mac service : Nat) : Bool :=
  !h.yard.pauseIgnored.read (fun _ => false) mac &&
    (match h.due T.pauseEnd (mac * 8 + service) with
     | some t => decide (h.now < t)
     | none => false)

/-- A service node's number for deficits and turns: each MAC of Y6 runs its own selection (R289). -/
def nodeKey (port unit service : Nat) : Nat := nodeShaper port service + (if port == 6 then 8192 * unit else 0)

/-- The pick of a service node among its eligible leaves. -/
def Hub.pickLeaf (h : Hub) (port unit service : Nat) (leaves : List Child) : Option (Child × List (Nat × Nat)) :=
  pickChild (fun n => h.yard.deficit.read (fun _ => 0) n) (h.yard.lastChild.read (fun _ => 0) (nodeKey port unit service)) leaves

/-- The eligible service nodes of a unit of a port, each with the message it would send. A node is green only with an eligible green leaf (R290).
may restricts the leaves. -/
def Hub.eligibleNodes (h : Hub) (port unit : Nat) (may : Nat → Bool) : List Child :=
  (List.range 8).filterMap (fun s =>
    let ls := (h.eligibleLeaves port unit s).filter (fun c => may c.id)
    let n := nodeShaper port s
    match h.pickLeaf port unit s ls with
    | none => none
    | some (leaf, _) =>
      if h.bucketP n < 0 || (port == 6 && h.pausedNow (unit - 1) s) then none
      else some { id := nodeKey port unit s, bytes := leaf.bytes, green := 0 < h.cirOf n && 0 ≤ h.bucketC n && ls.any (fun c => c.green),
                  priority := h.use F.SHAPER.PRIORITY n, weight := h.use F.SHAPER.WEIGHT n })

def Hub.setDeficits (h : Hub) (node child : Nat) (ds : List (Nat × Nat)) : Hub :=
  h.modYard (fun y => { y with
    deficit := ds.foldl (fun t d => t.write (fun _ => 0) d.1 d.2) y.deficit,
    lastChild := y.lastChild.write (fun _ => 0) node child })

/-- The choice of one message for a unit of a port among the leaves that may send: the leaf, the service node, and whether it is sent green. -/
def Hub.selectLeaf (h : Hub) (port unit : Nat) (may : Nat → Bool) : Option (Nat × Nat × Bool × Hub) :=
  let deficit (n : Nat) : Nat := h.yard.deficit.read (fun _ => 0) n
  let last (n : Nat) : Nat := h.yard.lastChild.read (fun _ => 0) n
  match pickChild deficit (last (4096 + unitKey port unit)) (h.eligibleNodes port unit may) with
  | none => none
  | some (node, ds) =>
    let s := node.id % 8
    match h.pickLeaf port unit s ((h.eligibleLeaves port unit s).filter (fun c => may c.id)) with
    | none => none
    | some (leaf, ls) =>
      some (leaf.id, nodeShaper port s, node.green && leaf.green,
        (h.setDeficits (4096 + unitKey port unit) node.id ds).setDeficits node.id leaf.id ls)

/-- A message leaves its leaf: counted and charged (R292). On a landing's port its cells are in flight from here on (R543). A subscriber leaf that a tunnel
has given up is free once it is empty (R228). -/
def Hub.dequeue (h : Hub) (q node : Nat) (green : Bool) (e : LeafPkt) : Hub :=
  let port := q / 128
  let p := e.pkt
  let b := h.countedBytes port e.slot p
  let s := node - 2048
  let rest := (h.yard.leaf q).drop 1
  let h0 := if port < 4 then h.modYard (fun y => { y with
      flight := y.flight ++ [{ id := e.id, port := port, slot := e.slot, service := p.service, reserve := e.reserve, shared := e.shared }] }) else h
  let h1 := (h0.setLeaf q rest).releaseLeaf q
  let h2 := (((h1.add F.QUEUE.MESSAGES_OUT q 1).add F.QUEUE.BYTES_OUT q b).add F.SERVICE.MESSAGES_OUT s 1).add F.SERVICE.BYTES_OUT s b
  ((h2.add F.YARDPORT.CELLS_OUT port (cellsOf p)).charge q b green).charge node b green

end Sys2Proof.Machine
end

