-- ==== Sys2Proof/Machine/Far.lean ====
section
/-! DEFINITION. The Branch Line's buses and groups (R418, R422–R428): taking the next transaction, locks, signal-map groups with their
table-0 entries and polls, disabling entries, and what a tunnel's closing ends. -/

namespace Sys2Proof.Machine

/-- The state of a landing's link beside its fields. -/
def Hub.link (h : Hub) (l : Nat) : Link := h.links.read (fun _ => {}) l

/-- Changes the state of a landing's link. -/
def Hub.modLink (h : Hub) (l : Nat) (f : Link → Link) : Hub :=
  { h with links := h.links.write (fun _ => {}) l (f (h.link l)) }

/-- Records something driven out of the hub. -/
def Hub.emit (h : Hub) (o : Outlet) (i : Nat) (bs : List Byte) : Hub :=
  { h with out := h.out ++ [{ outlet := o, inst := i, data := bs }] }

/-- The TUNNEL instance of a landing's slot (R213). -/
def tunnelOf (l slot : Nat) : Nat := 2048 * l + slot

/-- The data flits of a class the hub may still send a landing (R189): initial credits and returns, less those sent. -/
def Hub.avail (h : Hub) (l cls : Nat) : Int :=
  let k := h.link l
  decInt 32 (h.get F.LANDING.PARTNER_CREDITS l cls + k.returned.read (fun _ => 0) cls + 2 ^ 32 - k.sent.read (fun _ => 0) cls)

/-- Instances whose value of a field is listed and not 0, in rising order. -/
def Hub.nonzero (h : Hub) (f : Fld) : List Nat :=
  h.fields.cells.filterMap (fun c =>
    if c.1 / 2 ^ 38 == f.cls && c.1 / 2 ^ 10 % 2 ^ 12 == f.num && c.2 != 0 then some (c.1 / 2 ^ 22 % 2 ^ 16) else none)

/-- Instances of a class of which some field is listed. -/
def Hub.listed (h : Hub) (cls : Nat) : List Nat :=
  (h.fields.cells.filterMap (fun c => if c.1 / 2 ^ 38 == cls then some (c.1 / 2 ^ 22 % 2 ^ 16) else none)).eraseDups

/-! ### Interfaces -/

def Hub.farBus (h : Hub) (n : Nat) : FarBus := h.farBuses.read (fun _ => {}) n
def Hub.modFar (h : Hub) (n : Nat) (f : FarBus → FarBus) : Hub :=
  { h with farBuses := h.farBuses.write (fun _ => {}) n (f (h.farBus n)) }

/-- Who an access acts for, as locks name it: a Manifest by its context, or a tunnel by landing and slot. -/
def Access.owner (a : Access) : Bool × Nat × Nat := if a.xfer then (true, a.ctx, 0) else (false, a.l, a.slot)

/-- Whether an interface has a lock: I2C and SPI (R95). -/
def farLocks (n : Nat) : Bool := 2 ≤ n && n < 5

/-- Whether a far-side address goes with its lengths (R418). -/
def farAddrOk (n addr w r : Nat) : Bool :=
  if w == 0 && r == 0 then false
  else if n < 2 then (bitB addr 29 || bits addr 0 29 ≤ 0x7FF) && (bitB addr 30 || !bitB addr 31)
  else if n < 4 then bits addr 13 3 == 0 && bits addr 11 2 < 3 && (bitB addr 10 || bits addr 0 10 < 128)
  else if n == 4 then addr / 32 == 0 && (!bitB addr 4 || w == r)
  else addr / 16 == 0 && (if addr == 0 then w == 0 && r == 4 else addr ≤ 4 && w == 4 && r == 0)

/-- How many pieces a write is split into (R405, R418). -/
def Hub.farPieces (h : Hub) (n : Nat) (a : Access) : Nat :=
  let w := a.data.length
  if n < 2 then (let m := if bitB a.addr 30 then 64 else 8; (w + m - 1) / m)
  else if n < 4 then
    let page := h.get F.BRANCH.I2C_PAGE n
    let reg := if bits a.addr 11 2 == 0 then 0 else bits a.addr 16 16
    if page == 0 || w == 0 then 1 else (reg % page + w + page - 1) / page
  else 1

/-- The far-side address of a piece of a write. -/
def Hub.pieceAddr (h : Hub) (n : Nat) (a : Access) (piece : Nat) : Nat :=
  let page := h.get F.BRANCH.I2C_PAGE n
  if n < 2 || 4 ≤ n || page == 0 || piece == 0 || bits a.addr 11 2 == 0 then a.addr
  else bits a.addr 0 16 + (bits a.addr 16 16 / page * page + piece * page) % 65536 * 65536

/-- Drives the start of a transaction: its kind (0 access, 1 outbound frame, 2 poll), address, read length and write data. -/
def Hub.driveFar (h : Hub) (n kind addr readLen : Nat) (data : List Byte) : Hub :=
  (h.emit .far n (leBytes 1 kind ++ leBytes 4 addr ++ leBytes 1 readLen ++ data)).arm T.farTimeout n (50 * msec)

/-- An outbound frame's data: what its entries last packed, zero elsewhere (R431). -/
def Hub.frameData (h : Hub) (n f : Nat) : List Byte :=
  ((h.farBus n).packed.read (fun _ => []) f ++ List.replicate 64 0).take (h.get F.BRANCH.TX_LEN n f)

/-- An access begins; one with LOCK takes the bus unless its owner's lock was broken (R407, R423). -/
def Hub.startAccess (h : Hub) (n : Nat) (a : Access) : Hub :=
  let b := h.farBus n
  let q := b.queue.erase a ++ b.overflow.take 1
  let locks := a.lock && farLocks n && !b.broken.contains a.owner
  let h1 := h.modFar n (fun b => { b with queue := q, overflow := b.overflow.drop 1, job := some (.access a), wrote := a.data.isEmpty,
                                          lock := if locks then some a.owner else b.lock })
  (if locks && b.lock.isNone then h1.arm T.busLock n (100 * msec) else h1).driveFar n 0 a.addr a.readLen a.data

/-- The next transaction of an idle interface (R422). -/
def Hub.farNext (h : Hub) (n : Nat) : Hub :=
  let b := h.farBus n
  let mode := h.get F.BRANCH.MODE n
  if b.job.isSome || b.stuck || mode == 0 || (n < 2 && h.get F.BRANCH.CAN_STATE n == 2) then h
  else
    match b.lock with
    | some k =>
      match b.queue.find? (fun a => a.owner == k) with
      | some a => h.startAccess n a
      | none => h
    | none =>
      match b.dueFrames, b.duePolls, n < 2 && mode == 1, 2 ≤ n && n < 4 && mode != 2 with
      | (f, late) :: rest, _, true, _ =>
        let h1 := h.modFar n (fun b => { b with dueFrames := rest, job := some (.frame f) })
        let h2 := if late then h1.arm T.canTx (16 * n + f) (h.get F.BRANCH.TX_PERIOD n f * msec) else h1
        h2.driveFar n 1 (h.get F.BRANCH.TX_ID n f) 0 (h.frameData n f)
      | _, e :: rest, _, true =>
        (h.modFar n (fun b => { b with duePolls := rest, job := some (.poll e) })).driveFar n 2 (h.get F.SIGNAL.POLL_ADDR e)
          (h.get F.SIGNAL.POLL_LEN e) []
      | _, _, _, _ =>
        match b.queue.find? (fun a => a.posted), b.queue with
        | some a, _ => h.startAccess n a
        | none, a :: _ => h.startAccess n a
        | none, [] => h

/-- An access joins the queue behind those that wait; an XFER that finds 32 waits for a place (R421). -/
def Hub.farSubmit (h : Hub) (n : Nat) (a : Access) : Hub :=
  (h.modFar n (fun b =>
    if 32 ≤ b.queue.length then { b with overflow := b.overflow ++ [a] } else { b with queue := b.queue ++ [a] })).farNext n

/-- A lock ends, and other initiators' accesses go on. -/
def Hub.farUnlock (h : Hub) (n : Nat) : Hub :=
  ((h.modFar n (fun b => { b with lock := none })).disarm T.busLock n).farNext n

/-- RELEASE by a Manifest (R95): whether it held the lock. -/
def Hub.farRelease (h : Hub) (n ctx : Nat) : Hub × Bool :=
  if (h.farBus n).lock == some (true, ctx, 0) then (h.farUnlock n, true) else (h, false)

/-- A Manifest ends: its locks are released, and broken ones forgotten (R95, R407). -/
def Hub.farManifestEnd (h : Hub) (ctx : Nat) : Hub :=
  [2, 3, 4].foldl (fun g n =>
    let g1 := if (g.farBus n).broken.contains (true, ctx, 0) then
        g.modFar n (fun b => { b with broken := b.broken.filter (fun k => k != (true, ctx, 0)) }) else g
    (g1.farRelease n ctx).1) h

/-! ### Groups (R425–R428) -/

/-- What makes two entries one group: interface, and CAN filter or poll. -/
def Hub.groupKey (h : Hub) (e : Nat) : Nat × Nat × Nat × Nat × Nat :=
  let src := h.get F.SIGNAL.SOURCE e
  if src == 1 then
    (1, h.get F.SIGNAL.SRC_IF e, h.get F.SIGNAL.CAN_ID e, h.get F.SIGNAL.CAN_MASK e, h.get F.SIGNAL.CAN_EXT e)
  else if src == 2 then
    (2, h.get F.SIGNAL.SRC_IF e, h.get F.SIGNAL.POLL_ADDR e, h.get F.SIGNAL.POLL_LEN e, h.get F.SIGNAL.POLL_INTERVAL e)
  else (src, 0, 0, 0, 0)

/-- Enabled entries with a CAN or poll source, in rising order. -/
def Hub.sourced (h : Hub) : List Nat :=
  (h.nonzero F.SIGNAL.ENABLE).filter (fun e => h.get F.SIGNAL.SOURCE e == 1 || h.get F.SIGNAL.SOURCE e == 2)

/-- The enabled entries of an entry's group. -/
def Hub.groupOf (h : Hub) (e : Nat) : List Nat := h.sourced.filter (fun x => h.groupKey x == h.groupKey e)

/-- The lowest entry of every group. -/
def Hub.groupHeads (h : Hub) : List Nat := h.sourced.filter (fun e => (h.groupOf e).head? == some e)

/-- The table-0 entry of a group by its lowest entry (R264, R427). -/
def Hub.groupEntry (h : Hub) (e : Nat) : Nat :=
  let n := h.get F.SIGNAL.SRC_IF e
  let mask := h.get F.SIGNAL.CAN_MASK e
  let key := if h.get F.SIGNAL.SOURCE e == 1 then n + (h.get F.SIGNAL.CAN_ID e &&& mask) * 8 + mask * 2 ^ 32 else n + 4 + e * 8
  flowEntry 0 key (F.SIGNAL.ENABLE.cls % 256 * 65536 + e) 15 2 1 (h.get F.BRANCH.POLICER n) (h.get F.BRANCH.POLICER_EN n)

/-- The Route entry a group's messages are classified by. -/
def Hub.groupRoute (h : Hub) (e : Nat) : Option Nat :=
  let v := h.groupEntry e
  h.findRoute (fun x => x == v)

/-- Table 0 brought in line with the groups. -/
def Hub.syncTable0 (h : Hub) : Hub :=
  let want := h.groupHeads.map h.groupEntry
  let stale := (h.yard.routes.cells.filter (fun c => entryType c.2 == 3 && bits c.2 4 3 == 0 && !want.contains c.2)).map (fun c => c.1)
  let h1 := stale.foldl (fun g i => g.clearRoute i) h
  want.foldl (fun g v =>
    if (g.findRoute (fun x => x == v)).isSome then g
    else match g.freeRoute with
      | some i => g.writeRoute i v
      | none => g) h1

/-- Entries whose poll timer runs. -/
def Hub.polling (h : Hub) : List Nat :=
  h.timers.cells.filterMap (fun c => if c.1 / 2 ^ 20 == T.farPoll then some (c.1 % 2 ^ 20) else none)

/-- Poll timers brought in line with the groups: a new group starts its interval, one whose lowest entry changes keeps its own. -/
def Hub.syncPolls (h : Hub) : Hub :=
  let want := h.groupHeads.filter (fun e => h.get F.SIGNAL.SOURCE e == 2)
  let run := h.polling
  let h1 := want.foldl (fun g w =>
    if run.contains w then g
    else match (run.find? (fun r => !want.contains r && h.groupKey r == h.groupKey w)).bind (fun r => h.due T.farPoll r) with
      | some t => g.armAt T.farPoll w t
      | none => g.arm T.farPoll w (h.get F.SIGNAL.POLL_INTERVAL w * msec)) h
  (run.filter (fun r => !want.contains r)).foldl (fun g r => g.disarm T.farPoll r) h1

def Hub.syncGroups (h : Hub) : Hub := h.syncTable0.syncPolls

/-- Entries disable (R428): NT_SIGNAL_DISABLED to each one's owner, and their groups follow. -/
def Hub.disableSignals (h : Hub) (es : List Nat) (cause : Nat) : Hub :=
  if es.isEmpty then h
  else (es.foldl (fun g e =>
    (((g.raise 310 (e + cause * 2 ^ 8) (ctxCode (g.get F.SIGNAL.OWNER e))).set F.SIGNAL.ENABLE e 0).set F.SIGNAL.OWNER e 0xF)) h).syncGroups

/-- What the Branch Line ends when a tunnel closes (R423, R428, R435): its lock, the records gathered for it, and the entries
it is the destination of. -/
def Hub.farTunnelClosed (h : Hub) (t : Nat) : Hub :=
  let l := t / 2048
  let slot := t % 2048
  let h1 := [2, 3, 4].foldl (fun g n =>
    let g1 := if (g.farBus n).broken.contains (false, l, slot) then
        g.modFar n (fun b => { b with broken := b.broken.filter (fun k => k != (false, l, slot)) }) else g
    if (g1.farBus n).lock == some (false, l, slot) then g1.farUnlock n else g1) h
  let h2 := ({ h1 with gathers := h1.gathers.write (fun _ => {}) t {} }).disarm T.signals t
  h2.disableSignals ((h2.nonzero F.SIGNAL.ENABLE).filter (fun e => h2.get F.SIGNAL.DEST e == 1 &&
    h2.get F.SIGNAL.DEST_LANDING e == l && h2.get F.SIGNAL.DEST_SLOT e == slot)) 2

end Sys2Proof.Machine
end

