-- ==== Sys2Proof/Machine/UsbCore.lean ====
section
/-! DEFINITION. USB ports and virtual hubs (R443–R448): the path a host reaches its ports by, change bits, and a port that moves to
another host or path. -/

namespace Sys2Proof.Machine

def Hub.usb (h : Hub) (n : Nat) : UsbPort := h.usbPorts.read (fun _ => {}) n
def Hub.modUsb (h : Hub) (n : Nat) (f : UsbPort → UsbPort) : Hub := { h with usbPorts := h.usbPorts.write (fun _ => {}) n (f (h.usb n)) }
/-- The virtual hub of a landing on a path: 1 the Peripheral tunnel, 2 the legacy hub. -/
def Hub.vhub (h : Hub) (l path : Nat) : VHub := h.vhubs.read (fun _ => {}) (2 * l + (path - 1))
def Hub.modVhub (h : Hub) (l path : Nat) (f : VHub → VHub) : Hub :=
  { h with vhubs := h.vhubs.write (fun _ => {}) (2 * l + (path - 1)) (f (h.vhub l path)) }
def VHub.fn (v : VHub) (k : Nat) : UsbFn := v.fns.read (fun _ => {}) k
def Hub.modFn (h : Hub) (l path k : Nat) (f : UsbFn → UsbFn) : Hub :=
  h.modVhub l path (fun v => { v with fns := v.fns.write (fun _ => {}) k (f (v.fn k)) })

/-- The open Peripheral tunnel of a landing. -/
def Hub.usbTunnel (h : Hub) (l : Nat) : Option Nat :=
  (h.findRoute (fun e => entryType e == 1 && bits e 4 2 == l && bits e 6 3 == 4)).map (fun i => bits (h.route i) 21 11)

/-- The path on which a context's ports appear (R445): 1, 2 or none. -/
def Hub.usbPath (h : Hub) (ctx : Nat) : Nat :=
  if 4 ≤ ctx then 0
  else if (h.usbTunnel ctx).isSome then 1
  else if ((h.vhub ctx 2).fn 0).config != 0 then 2 else 0

/-- A change bit of a hub's port: 0 connection, 1 enable, 2 suspend, 3 over-current, 4 reset. -/
def Hub.portChange (h : Hub) (l path port bit : Nat) : Hub :=
  if l < 4 && path != 0 then
    h.modVhub l path (fun v => { v with changes := v.changes.write (fun _ => 0) port (setBit (v.changes.read (fun _ => 0) port) bit) })
  else h

/-- A change of Un shown to its owner; a port in proxy mode shows none. -/
def Hub.usbChange (h : Hub) (n bit : Nat) : Hub :=
  if h.get F.USBPORT.MODE n == 1 then h else h.portChange (h.holder (3 + n)) (h.get F.USBPORT.PATH n) (n + 1) bit

/-- What the port knew of its devices is gone. -/
def Hub.forgetDevices (h : Hub) (n : Nat) : Hub :=
  let owner := h.holder (3 + n)
  let path := h.get F.USBPORT.PATH n
  let h1 := h.modUsb n (fun u => { u with devices := [], byBus := false, test := 0 })
  let h2 := if owner < 4 && path != 0 && (h.vhub owner path).atZero == n + 1 then h1.modVhub owner path (fun v => { v with atZero := 0 }) else h1
  h2.set F.USBPORT.REMOTE_WAKE n 0

/-- A reset is driven on a port (kind 1), or another signal: 2 resume, 3 suspend, 4 a test mode. -/
def Hub.usbSignal (h : Hub) (n kind arg : Nat) : Hub := h.emit .usb n [1, BitVec.ofNat 8 kind, BitVec.ofNat 8 arg]

/-- A port whose transfers have been ended goes to another host or path (R445, R448): reset and disabled, a disconnect on
the old hub, a connect on the new one. -/
def Hub.portMoved (h : Hub) (n before after path : Nat) : Hub :=
  let old := h.get F.USBPORT.PATH n
  let addrs := (h.usb n).devices.map (fun d => d.addr)
  let connected := 2 ≤ h.get F.USBPORT.STATE n
  let h1 := (h.forgetDevices n).modUsb n (fun u => { u with transfers := [], proxied := u.proxied && before == after })
  let h2 := if connected then (((((h1.usbSignal n 1 0).set F.USBPORT.STATE n 2).disarm T.usbReset n).disarm T.usbResume n).disarm T.usbRecover n).add
      F.USBPORT.RESETS n 1 else h1
  let h3 := if before < 4 && old != 0 then
      (if connected then h2.portChange before old (n + 1) 0 else h2).modVhub before old (fun v => { v with lost := v.lost ++ addrs }) else h2
  let h4 := if connected then h3.portChange after path (n + 1) 0 else h3
  (h4.set F.USBPORT.PATH n path).notify (339 + 4 * n) (before + after * 2 ^ 4 + path * 2 ^ 8)

/-- The path of a landing's ports is looked at again (R445). -/
def Hub.usbPathCheck (h : Hub) (l : Nat) : Hub :=
  let p := h.usbPath l
  (List.range 8).foldl (fun g n =>
    if g.holder (3 + n) == l && g.get F.USBPORT.PATH n != p then g.portMoved n l l p else g) h

/-- A Peripheral tunnel of a landing opens or closes: its virtual bus is in reset, its hub at address 0 (R449). -/
def Hub.usbTunnelChanged (h : Hub) (l : Nat) : Hub := (h.modVhub l 1 (fun _ => {})).usbPathCheck l

end Sys2Proof.Machine
end

