-- ==== Sys2Proof/Machine/Tunnel.lean ====
section
/-! DEFINITION. Tunnels (R212–R242): opening and closing, the leaves and shapers the device sets (R228, R296), admission
and re-admission (R232–R236), bridge entries kept from configuration (R313), inbound flits and messages (R214–R216, R231),
and messages the hub's blocks send toward a landing. -/

namespace Sys2Proof.Machine

/-- The receiving side of a tunnel. -/
def Hub.tunnelRx (h : Hub) (t : Nat) : TunnelRx := h.tunnels.read (fun _ => {}) t

/-- Changes the receiving side of a tunnel. -/
def Hub.modTunnelRx (h : Hub) (t : Nat) (f : TunnelRx → TunnelRx) : Hub :=
  { h with tunnels := h.tunnels.write (fun _ => {}) t (f (h.tunnelRx t)) }

/-- Puts a number into a rising list. -/
def insertNat (n : Nat) : List Nat → List Nat
  | [] => [n]
  | a :: t => if n ≤ a then n :: a :: t else a :: insertNat n t

/-- A list of numbers in rising order. -/
def sortNat : List Nat → List Nat
  | [] => []
  | a :: t => insertNat a (sortNat t)

/-- The open slots of a landing, from low to high: those a tunnel entry names. -/
def Hub.openSlots (h : Hub) (l : Nat) : List Nat :=
  sortNat ((h.yard.routes.cells.filter (fun c => entryType c.2 == 1 && bits c.2 4 2 == l)).map (fun c => bits c.2 21 11))

/-! ### Capacity (R169, R232) -/

/-- The figure of one pair at the landing's rate. -/
def Hub.pairFigure (h : Hub) (l : Nat) : Nat :=
  match h.get F.LANDING.RATE l with
  | 1 => 28450
  | 2 => 56900
  | _ => 0

/-- The pairs of a direction (1 host→dock, 2 dock→host) as PAIRS_IN and PAIRS_OUT hold them, through retrains and low power too. -/
def Hub.heldPairs (h : Hub) (l dir : Nat) : List Nat :=
  (List.range 4).filter (fun m => bitB (h.get (if dir == 1 then F.LANDING.PAIRS_IN else F.LANDING.PAIRS_OUT) l) m)

/-- How many of the four pairs a bit set names. -/
def pairCount (s : Nat) : Nat := bitN s 0 + bitN s 1 + bitN s 2 + bitN s 3

/-- The landing's pairs neither FAILED nor disabled: of the common pairs once a link HELLO has found them. -/
def Hub.usableBy (h : Hub) (l : Nat) (enabled : Nat → Bool) : Nat :=
  let common := (h.link l).common
  ((List.range 4).filter (fun m => !bitB (h.get F.LANDING.PAIRS_FAILED l) m && (common == 0 || bitB common m) && enabled m)).length

/-- Those with PAIR.ENABLE in effect. -/
def Hub.usablePairs (h : Hub) (l : Nat) : Nat := h.usableBy l (fun m => h.use F.PAIR.ENABLE (4 * l + m) == 1)

/-- The present capacity of a direction, in Mbit/s. -/
def Hub.capacity (h : Hub) (l : Nat) (inward : Bool) : Nat :=
  pairCount (h.get (if inward then F.LANDING.PAIRS_IN else F.LANDING.PAIRS_OUT) l) * h.pairFigure l

/-- The largest multiple of 10 not above 0.9 of a capacity. -/
def limitOf (cap : Nat) : Nat := cap * 9 / 100 * 10

/-- The limit admission uses in a direction for an allotment (R232). -/
def Hub.limitFor (h : Hub) (l usable : Nat) (inward : Bool) (allotIn : Nat) : Nat :=
  let inPairs := min allotIn (usable - 1)
  limitOf ((if inward then inPairs else usable - inPairs) * h.pairFigure l)

def Hub.allotLimit (h : Hub) (l : Nat) (inward : Bool) (allotIn : Nat) : Nat := h.limitFor l (h.usablePairs l) inward allotIn

/-- The fields of a direction. -/
def resF (inward : Bool) : Fld := if inward then F.TUNNEL.RES_IN else F.TUNNEL.RES_OUT
def admF (inward : Bool) : Fld := if inward then F.TUNNEL.ADMITTED_IN else F.TUNNEL.ADMITTED_OUT
def ceilF (inward : Bool) : Fld := if inward then F.TUNNEL.CEIL_IN else F.TUNNEL.CEIL_OUT
def resMaxF (inward : Bool) : Fld := if inward then F.CLASSBUDGET.RES_MAX_IN else F.CLASSBUDGET.RES_MAX_OUT

/-! ### What the device sets for admission (R228, R231, R296) -/

/-- The fixed Yard port of a class's inbound messages (R212). -/
def classDest (cls : Nat) : Nat :=
  match cls with
  | 0 => 10
  | 1 => 7
  | 4 => 8
  | 5 => 9
  | 6 => 11
  | _ => 15

/-- Whether a class is resolved per message. -/
def perMessage (cls : Nat) : Bool := cls == 2 || cls == 3

/-- Sum of a field over the open slots of a class on a landing. -/
def Hub.sumOpen (h : Hub) (l cls : Nat) (f : Fld) : Nat :=
  (((h.openSlots l).filter (fun s => h.use F.TUNNEL.CLASS (tunnelOf l s) == cls)).map (fun s => if f.num < 11 then h.use f (tunnelOf l s) else h.get f (tunnelOf l s))).sum

/-- The CLASSBUDGET sums and counts of a landing. -/
def Hub.syncBudget (h : Hub) (l : Nat) : Hub :=
  (List.range 8).foldl (fun g c =>
    let i := 8 * l + c
    let put (g : Hub) (f ft : Fld) : Hub := g.set f i (h.sumOpen l c ft)
    (put (put (put (put g F.CLASSBUDGET.RES_SUM_IN F.TUNNEL.RES_IN) F.CLASSBUDGET.RES_SUM_OUT F.TUNNEL.RES_OUT)
      F.CLASSBUDGET.ADMITTED_SUM_IN F.TUNNEL.ADMITTED_IN) F.CLASSBUDGET.ADMITTED_SUM_OUT F.TUNNEL.ADMITTED_OUT).set
      F.CLASSBUDGET.TUNNELS_OPEN i (((h.openSlots l).filter (fun s => h.use F.TUNNEL.CLASS (tunnelOf l s) == c)).length)) h

/-- The shapers the device sets itself (R296): tunnel leaves, the leaves at fixed destinations, at the storage ports and at
the MACs. They take effect at each shaper's next refill. -/
def Hub.syncShapers (h : Hub) (l : Nat) : Hub :=
  let h1 := (h.openSlots l).foldl (fun g s =>
    let t := tunnelOf l s
    let q := g.get F.TUNNEL.LEAF_OUT t
    if q == 0xFFF then g
    else ((g.set F.SHAPER.CIR q (g.get F.TUNNEL.ADMITTED_OUT t)).set F.SHAPER.PIR q (g.use F.TUNNEL.CEIL_OUT t)).set
      F.SHAPER.WEIGHT q (g.use F.TUNNEL.WEIGHT t)) h
  let h2 := [0, 1, 4, 5, 6].foldl (fun g c =>
    g.set F.SHAPER.CIR (128 * classDest c + 8 * l + c) (g.sumOpen l c F.TUNNEL.ADMITTED_IN)) h1
  let h3 := [0, 1].foldl (fun g p =>
    g.set F.SHAPER.CIR (128 * (4 + p) + 8 * l + 2)
      (if g.holder (11 + p) == l && g.get F.STORAGE.STATE p == 4 then min (g.sumOpen l 2 F.TUNNEL.ADMITTED_IN) 113400 else 0)) h2
  [0, 1].foldl (fun g m => (List.range 8).foldl (fun g s => g.set F.SHAPER.CIR (768 + 8 * (4 * m + l) + s) (g.get F.ETHPORT.HOST_SHARE m l)) g) h3

/-! ### Re-admission (R235, R236) -/

/-- The open slots of a landing in order of PRIORITY from 7 down, then of slot. -/
def Hub.admissionOrder (h : Hub) (l : Nat) : List Nat :=
  let ss := h.openSlots l
  ((List.range 8).map (fun k => ss.filter (fun s => h.use F.TUNNEL.PRIORITY (tunnelOf l s) == 7 - k))).flatten

/-- What each open tunnel is admitted in a direction: (slot, ADMITTED). -/
def admitWalk (res cls : Nat → Nat) : Nat → (Nat → Nat) → List Nat → List (Nat × Nat)
  | _, _, [] => []
  | left, cleft, s :: t =>
    let a := min (res s) (min left (cleft (cls s)))
    (s, a) :: admitWalk res cls (left - a) (fun c => if c == cls s then cleft c - a else cleft c) t

def Hub.admissions (h : Hub) (l : Nat) (inward : Bool) : List (Nat × Nat) :=
  admitWalk (fun s => h.use (resF inward) (tunnelOf l s)) (fun s => h.use F.TUNNEL.CLASS (tunnelOf l s))
    (limitOf (h.capacity l inward)) (fun c => h.use (resMaxF inward) (8 * l + c)) (h.admissionOrder l)

/-- Recomputes ADMITTED of both directions in one step: decreases at once, increases now only at a quiet point, else at
the next one. -/
def Hub.readmit (h : Hub) (l : Nat) (atQuiet : Bool) : Hub :=
  let dir (g : Hub) (inward : Bool) : Hub :=
    (g.admissions l inward).foldl (fun g x =>
      let t := tunnelOf l x.1
      if x.2 < g.get (admF inward) t || atQuiet then g.set (admF inward) t x.2
      else if g.get (admF inward) t < x.2 then g.modLink l (fun k => { k with increases := true }) else g) g
  let h1 := dir (dir (if atQuiet then h.modLink l (fun k => { k with increases := false }) else h) true) false
  (h1.syncBudget l).syncShapers l

/-- The open tunnels whose ADMITTED differs from RES: (slot, inward). -/
def Hub.shortfalls (h : Hub) (l : Nat) : List (Nat × Bool) :=
  ((h.openSlots l).map (fun s => [(s, true), (s, false)])).flatten.filter (fun x =>
    h.get (admF x.2) (tunnelOf l x.1) != h.use (resF x.2) (tunnelOf l x.1))

/-- The payload of NT_LDL_ALLOTMENT (R208). -/
def Hub.allotPayload (h : Hub) (l : Nat) (plain : Bool) : Nat :=
  h.get F.LANDING.PAIRS_IN l + h.get F.LANDING.PAIRS_OUT l * 16 + h.capacity l true * 2 ^ 8 + h.capacity l false * 2 ^ 32 +
    ofB plain * 2 ^ 56

/-! ### Bridge entries from configuration (R226, R313) -/

/-- The static bridge entries configuration asks for: (MAC, VLAN, DEST, SLOT). -/
def Hub.staticWanted (h : Hub) : List (Nat × Nat × Nat × Nat) :=
  ((List.range 32).filterMap (fun e =>
    let m := wireMac (h.get F.ETHPORT.VNIC_MAC 0 e)
    if m == 0 then none
    else match h.vnicSlot (e / 8) (e % 8) with
      | some slot => some (m, h.get F.ETHPORT.VNIC_VLAN 0 e, e / 8, slot)
      | none => none)) ++
  ((List.range 32).filterMap (fun e =>
    let m := wireMac (h.get F.ETHPORT.STATIC_MAC (e / 16) (e % 16))
    if m == 0 then none else some (m, h.get F.ETHPORT.STATIC_VLAN (e / 16) (e % 16), 6, e / 16)))

/-- Static entries brought in line with configuration: those no longer wanted are freed, those missing are written, over
a learned entry of the same address and VLAN. -/
def Hub.syncStatics (h : Hub) : Hub :=
  let want := h.staticWanted
  let entries := want.map (fun w => bridgeEntry 1 w.2.1 w.1 w.2.2.1 w.2.2.2)
  let stale := (h.yard.routes.cells.filter (fun c => entryType c.2 == 2 && bitB c.2 4 && !entries.contains c.2)).map (fun c => c.1)
  let h1 := stale.foldl (fun g i => g.clearRoute i) h
  want.foldl (fun g w =>
    let e := bridgeEntry 1 w.2.1 w.1 w.2.2.1 w.2.2.2
    match g.bridgeRoute w.1 w.2.1 with
    | some i => if g.route i == e then g else (g.disarm T.learnAge i).writeRoute i e
    | none => match g.freeRoute with
      | some i => g.writeRoute i e
      | none => g) h1

/-! ### Opening and closing (R218–R221, R228) -/

/-- Whether a tunnel's figures make it a subscriber with a leaf of its own. -/
def ownLeaf (resOut ceilOut : Nat) : Bool := 0 < resOut || ceilOut < 170700

/-- The first free subscriber leaf of a landing's port. -/
def Hub.freeLeaf (h : Hub) (l : Nat) : Option Nat :=
  (firstWhere 120 (fun i => h.yard.leafTunnel.read (fun _ => 0) (128 * l + i) == 0)).map (fun i => 128 * l + i)

/-- Gives a tunnel a subscriber leaf or takes it away, as its figures ask (R228): what the leaf still holds is sent from there. -/
def Hub.syncLeaf (h : Hub) (l slot : Nat) : Hub :=
  let t := tunnelOf l slot
  let q := h.get F.TUNNEL.LEAF_OUT t
  let want := h.use F.TUNNEL.STATE t == 1 && ownLeaf (h.use F.TUNNEL.RES_OUT t) (h.use F.TUNNEL.CEIL_OUT t)
  if want && q == 0xFFF then
    match h.freeLeaf l with
    | some n => (h.set F.TUNNEL.LEAF_OUT t n).modYard (fun y => { y with leafTunnel := y.leafTunnel.write (fun _ => 0) n (t + 1) })
    | none => h
  else if !want && q != 0xFFF then (h.set F.TUNNEL.LEAF_OUT t 0xFFF).releaseLeaf q
  else h

/-- The tunnel entry of an instance from its fields (R224). -/
def Hub.tunnelEntryNow (h : Hub) (t : Nat) : Nat :=
  let cls := h.use F.TUNNEL.CLASS t
  tunnelEntry (t / 2048) cls (h.use F.TUNNEL.INDEX t) (t % 2048) (if perMessage cls then 15 else classDest cls)
    (h.get F.TUNNEL.PROGRAM t) (h.get F.TUNNEL.PROGRAM_EN t) (h.get F.TUNNEL.POLICER t) (h.get F.TUNNEL.POLICER_EN t)
    (h.get F.TUNNEL.LEAF_OUT t) (h.use F.TUNNEL.BINDING t)

/-- Writes an open tunnel's entry again after a change of its fields. -/
def Hub.rewriteTunnel (h : Hub) (t : Nat) : Hub :=
  if h.get F.TUNNEL.ROUTE_ENTRY t == 0x3FFF then h else h.writeRoute (h.get F.TUNNEL.ROUTE_ENTRY t) (h.tunnelEntryNow t)

/-- An open takes effect (R219). -/
def Hub.openTunnel (h : Hub) (l slot : Nat) : Hub :=
  let t := tunnelOf l slot
  match h.freeRoute with
  | none => h
  | some i =>
    let h1 := ((((h.set F.TUNNEL.STATE t 1).take F.TUNNEL.STATE t).set F.TUNNEL.ROUTE_ENTRY t i).set F.TUNNEL.SEQ_IN t 0).set F.TUNNEL.SEQ_OUT t 0
    let h2 := ((h1.set F.TUNNEL.OPENED t h.now48).modTunnelRx t (fun _ => { windowAt := h.now })).syncLeaf l slot
    let h3 := (h2.writeRoute i (h2.tunnelEntryNow t)).syncStatics
    if h3.use F.TUNNEL.CLASS t == 4 && (h.usbTunnel l).isNone then h3.usbTunnelChanged l else h3

/-- A close takes effect (R220): a partial inbound message is discarded, the entry and leaf are freed, ADMITTED reads 0.
Messages still queued are dropped as they reach the head of their leaf. -/
def Hub.closeTunnel (h : Hub) (l slot : Nat) : Hub :=
  let t := tunnelOf l slot
  let i := h.get F.TUNNEL.ROUTE_ENTRY t
  if i == 0x3FFF then (h.set F.TUNNEL.STATE t 0).take F.TUNNEL.STATE t
  else
    let partial_ := h.tunnelRx t
    let h1 := if partial_.isOpen && !partial_.bad then h.add F.TUNNEL.MSG_DISCARDED t 1 else h
    let q := h.get F.TUNNEL.LEAF_OUT t
    let h2 := (((((h1.set F.TUNNEL.STATE t 0).take F.TUNNEL.STATE t).set F.TUNNEL.ROUTE_ENTRY t 0x3FFF).set F.TUNNEL.ADMITTED_IN t 0).set
      F.TUNNEL.ADMITTED_OUT t 0).modTunnelRx t (fun _ => {})
    let drop := (h2.yard.leaf q).length
    let h3 := if q == 0xFFF then h2
      else ((h2.add F.TUNNEL.MSG_DISCARDED t drop).setLeaf q []).modYard
        (fun y => { y with leafTunnel := y.leafTunnel.write (fun _ => 0) q 0 })
    let h4 := (h3.set F.TUNNEL.LEAF_OUT t 0xFFF).clearRoute i
    (List.range 4).foldl (fun g m =>
      if g.on F.MIRROR.ENABLE m && g.get F.MIRROR.DEST m == 2 && g.get F.MIRROR.DEST_LANDING m == l && g.get F.MIRROR.DEST_SLOT m == slot
      then g.set F.MIRROR.ENABLE m 0 else g) (if h.use F.TUNNEL.CLASS t == 4 && (h4.usbTunnel l).isNone then (h4.syncStatics.farTunnelClosed t).usbTunnelChanged l
        else h4.syncStatics.farTunnelClosed t)

/-- The device opens the Control and Time tunnels when the landing first reaches ACTIVE (R213). -/
def Hub.openOwnTunnels (h : Hub) (l : Nat) : Hub :=
  let one (g : Hub) (slot cls : Nat) : Hub :=
    if g.get F.TUNNEL.ROUTE_ENTRY (tunnelOf l slot) != 0x3FFF then g
    else ((((g.set F.TUNNEL.CLASS (tunnelOf l slot) cls).set F.TUNNEL.INDEX (tunnelOf l slot) slot).take F.TUNNEL.CLASS
      (tunnelOf l slot)).take F.TUNNEL.INDEX (tunnelOf l slot)).openTunnel l slot
  (one (one h 0 0) 1 6).syncBudget l

/-- The TUNNEL instances of a landing of which anything is stored. -/
def Hub.tunnelsListed (h : Hub) (l : Nat) : List Nat :=
  ((h.fields.cells ++ h.effs.cells).filterMap (fun c => if c.1 / 2 ^ 38 == 5 && c.1 / 2 ^ 33 % 32 == l then some (c.1 / 2 ^ 22 % 2 ^ 16) else none)).eraseDups

/-- Every tunnel of a landing but those kept closes at once (R221). -/
def Hub.closeTunnels (h : Hub) (l from_ : Nat) : Hub :=
  (((h.openSlots l).filter (fun s => from_ ≤ s)).foldl (fun g s => g.closeTunnel l s) h).readmit l true

/-! ### Messages toward a landing -/

/-- A tunnel message: the common header of R214, SEQUENCE to be written as it leaves, and the body. -/
def tunnelMsg (type flags : Nat) (body : List Byte) : List Byte :=
  leBytes 8 (1 + type * 2 ^ 4 + flags * 2 ^ 12 + body.length * 2 ^ 16) ++ body

/-- A block of the hub sends a message on a slot of a landing, if it is open. -/
def Hub.sendTunnel (h : Hub) (input l slot type : Nat) (body : List Byte) : Hub :=
  if h.tunnelOpen (tunnelOf l slot) then
    h.originate input (h.use F.TUNNEL.CLASS (tunnelOf l slot)) (tunnelMsg type 0 body) [(h.tunnelLeaf l slot, slot)]
  else h

/-- The first open slot of a class on a landing. -/
def Hub.classSlot (h : Hub) (l cls : Nat) : Option Nat :=
  (h.openSlots l).find? (fun s => h.use F.TUNNEL.CLASS (tunnelOf l s) == cls)

/-- Sends on the first open tunnel of a class. -/
def Hub.sendClass (h : Hub) (input l cls type : Nat) (body : List Byte) : Hub :=
  match h.classSlot l cls with
  | some slot => h.sendTunnel input l slot type body
  | none => h

/-! ### Inbound messages (R212, R214–R216, R231) -/

/-- The largest body of a class. -/
def classBody (cls : Nat) : Nat :=
  match cls with
  | 0 => 16680
  | 1 => 65528
  | 2 => 544
  | 3 => 9216
  | 4 => 3136
  | 5 => 256
  | 6 => 128
  | _ => 0

/-- The message types of a class in the host→dock direction. -/
def hostTypes (cls : Nat) : List Nat :=
  match cls with
  | 1 => [1, 2, 3, 5]
  | 4 => [1, 3, 4]
  | 5 => [1, 4, 8]
  | 7 => []
  | _ => [1]

/-- Whether a PCIe message's header is malformed (R400): shorter than its format says, or not a whole TLP. -/
def tlpBad (b : List Byte) : Bool :=
  let fmt := byteAt b 0 / 32
  let hdr := if fmt % 2 == 1 then 16 else 12
  let dws := (byteAt b 2 % 4) * 256 + byteAt b 3
  let data := if 2 ≤ fmt then (if dws == 0 then 1024 else dws) * 4 else 0
  b.length < 12 || 528 < b.length || 3 < fmt || b.length != hdr + data

/-- Condition 4 of R216 on a message's first payload. -/
def badHeader (cls : Nat) (p : List Byte) : Bool :=
  let w := leAt p 0 8
  bits w 0 4 != 1 || !(hostTypes cls).contains (bits w 4 8) || bits w 12 4 / (if cls == 3 then 2 else 1) != 0 ||
    bits w 48 16 != 0 || classBody cls < bits w 16 16

/-- Windows of 100 µs that have passed: delayed credits return as far as each leaves room at the ceiling rate (R231). -/
def rollWindows (ceil now : Nat) (r : TunnelRx) : TunnelRx :=
  let n := (now - r.windowAt) / (100 * usec)
  if n == 0 then r
  else
    let room := ceil * 25 / 2 / 128
    let before := min r.delayed ((n - 1) * room)
    let last := min (r.delayed - before) room
    { r with delayed := r.delayed - before - last, window := last * 128, windowAt := r.windowAt + n * (100 * usec) }

/-- Bytes a tunnel may carry in 100 µs at its ceiling (R231). -/
def ceilBytes (mbit : Nat) : Nat := mbit * 25 / 2

/-- A whole inbound message is delivered (R215): its sequence followed, its counters advanced, and it enters the Yard by its
tunnel entry. Storage and Network messages wait at the landing's front end, which resolves each (R399, R312). -/
def Hub.deliverIn (h : Hub) (l slot : Nat) (msg : List Byte) (stamp : Nat) : Hub :=
  let t := tunnelOf l slot
  let cls := h.use F.TUNNEL.CLASS t
  let seq := leAt msg 4 2
  let h1 := if seq == h.get F.TUNNEL.SEQ_IN t then h else h.add F.TUNNEL.SEQ_GAPS t 1
  let h2 := ((h1.set F.TUNNEL.SEQ_IN t (seq + 1)).add F.TUNNEL.MSGS_IN t 1).add F.TUNNEL.BYTES_IN t (128 * ((msg.length + 127) / 128))
  if perMessage cls then h2.deliver l l slot msg
  else
    let entry := h2.get F.TUNNEL.ROUTE_ENTRY t
    let stamp1 := if cls == 6 then ((stamp : Int) - h.getI F.PTPPORT.INGRESS_LATENCY l * 65536).toNat else stamp
    let p : Pkt := { bytes := msg, port := l, service := cls, stamp := stamp1, index := h2.use F.TUNNEL.INDEX t, cls := cls,
                     slot := slot, entry := entry, program := some (h2.tunnelRx t).program }
    match h2.police (h2.route entry) (128 * ((msg.length + 127) / 128)) false p with
    | (h3, none) => h3
    | (h3, some q) => h3.admitMessage l q [(portLeaf (classDest cls) l cls, 0)]

/-- A message of a tunnel is discarded and the rest of it swallowed. -/
def Hub.discardMsg (h : Hub) (t : Nat) (atEnd : Bool) : Hub :=
  (h.add F.TUNNEL.MSG_DISCARDED t 1).modTunnelRx t (fun r => { r with isOpen := !atEnd, bad := !atEnd, bytes := [], flits := 0 })

/-- An accepted data flit meets the checks of R216 and R231, in order. -/
def Hub.tunnelFlit (h : Hub) (l : Nat) (header : Nat) (payload : List Byte) : Hub :=
  let cls := bits header 28 3
  let som := bitB header 15
  let eom := bitB header 14
  match h.tunnelRoute l (bits header 16 12) with
  | none => h.add F.CLASSBUDGET.UNROUTED (8 * l + cls) 1
  | some i =>
    let slot := bits (h.route i) 21 11
    let t := tunnelOf l slot
    if bits (h.route i) 6 3 != cls then h.add F.CLASSBUDGET.UNROUTED (8 * l + cls) 1
    else
      let r := h.tunnelRx t
      if !som && !r.isOpen then h.add F.TUNNEL.MSG_DISCARDED t 1
      else
        let r := rollWindows (h.use F.TUNNEL.CEIL_IN t) h.now r
        let limit := ceilBytes (h.use F.TUNNEL.CEIL_IN t)
        -- Bytes beyond the ceiling delay the credits of further lossless flits; a lossy message that passes it is discarded whole.
        let excess := if lossy cls then decide (limit < r.window + 128) else decide (limit < r.window)
        let h1 := h.modTunnelRx t (fun _ => { r with window := r.window + 128, program := if som then entryProgram (h.route i) else r.program })
        let h2 := if excess && !lossy cls then
            ((h1.modTunnelRx t (fun x => { x with delayed := x.delayed + 1 })).add F.CLASSBUDGET.CREDIT_DELAYED (8 * l + cls) 1) else h1
        let h3 := if som && r.isOpen && !r.bad then h2.add F.TUNNEL.MSG_DISCARDED t 1 else h2
        if som then
          if badHeader cls payload || (excess && lossy cls) then h3.discardMsg t eom
          else
            let need := (8 + leAt payload 2 2 + 127) / 128
            if (need == 1) != eom then h3.discardMsg t eom
            else if eom then
              let msg := payload.take (8 + leAt payload 2 2)
              let g := h3.modTunnelRx t (fun x => { x with isOpen := false, bad := false, bytes := [], flits := 0 })
              if cls == 2 && tlpBad (msg.drop 8) then g.add F.TUNNEL.MSG_DISCARDED t 1 else g.deliverIn l slot msg h.clk
            else h3.modTunnelRx t (fun x => { x with isOpen := true, bad := false, bytes := payload, flits := 1, need := need, stamp := h.clk })
        else if r.bad then (if eom then h3.modTunnelRx t (fun x => { x with isOpen := false, bad := false }) else h3)
        else if (excess && lossy cls) || ((r.flits + 1 == r.need) != eom) then h3.discardMsg t eom
        else if eom then
          let msg := (r.bytes ++ payload).take (8 + leAt r.bytes 2 2)
          let g := h3.modTunnelRx t (fun x => { x with isOpen := false, bytes := [], flits := 0 })
          if cls == 2 && tlpBad (msg.drop 8) then g.add F.TUNNEL.MSG_DISCARDED t 1 else g.deliverIn l slot msg r.stamp
        else h3.modTunnelRx t (fun x => { x with bytes := x.bytes ++ payload, flits := x.flits + 1 })

/-- A 100 µs window of an inbound tunnel ends (R231): time comes forward to its end, and delayed credits return as the new one leaves room. -/
def Hub.ceilingWindow (h : Hub) (t : Nat) : Hub :=
  let g := h.advanceTo ((h.tunnelRx t).windowAt + 100 * usec)
  g.modTunnelRx t (fun r => rollWindows (g.use F.TUNNEL.CEIL_IN t) g.now r)

/-- Data flits of a class and tunnel slot inside a landing: the open message, its ingress slice, the programmed path, its adapter and front end. -/
def Hub.insideFlits (h : Hub) (l cls slot : Nat) : Nat :=
  let r := h.tunnelRx (tunnelOf l slot)
  let mine (p : Pkt) : Bool := p.cls == cls && p.slot == slot
  let front := ((h.yard.inbox.read (fun _ => []) l).map (fun m => if m.2.1 == slot then (m.2.2.length + 127) / 128 else 0)).sum
  let back := (h.yard.backlog.map (fun b => if b.1 == l && mine b.2.1 then cellsOf b.2.1 else 0)).sum
  (if r.isOpen && !r.bad then r.flits else 0) + h.yard.cellsWhere l mine + front + back

/-- Data flits of a class a landing still holds: in seal groups not yet verified, inside it, and those whose credits a ceiling delays, which are the last
of their tunnel to have come and may still be inside. What is not held has been returned (R189, R231). -/
def Hub.heldFlits (h : Hub) (l cls : Nat) : Nat :=
  let rx : List Nat := (h.tunnels.cells.filter (fun c => c.1 / 2048 == l && h.use F.TUNNEL.CLASS c.1 == cls)).map (fun c => c.1 % 2048)
  let voq : List Nat := (h.yard.slices.filter (fun s => s.input == l && s.pkt.cls == cls)).map (fun s => s.pkt.slot)
  let shunter : List Nat := (h.yard.tickets.filter (fun s => s.input == l && s.pkt.cls == cls)).map (fun s => s.pkt.slot)
  let front : List Nat := ((h.yard.inbox.read (fun _ => []) l).filter (fun m => h.use F.TUNNEL.CLASS (tunnelOf l m.2.1) == cls)).map (fun m => m.2.1)
  let back : List Nat := (h.yard.backlog.filter (fun b => b.1 == l && b.2.1.cls == cls)).map (fun b => b.2.1.slot)
  let slots := (rx ++ voq ++ shunter ++ front ++ back).eraseDups
  let groups := ((h.link l).groupIn.filter (fun f => leAt f.2 0 4 < 2 ^ 31 && bits (leAt f.2 0 4) 28 3 == cls)).length
  (slots.map (fun s => max (h.tunnelRx (tunnelOf l s)).delayed (h.insideFlits l cls s))).sum + groups

end Sys2Proof.Machine
end

