-- ==== Sys2Proof/Machine/Ptp.lean ====
section
/-! DEFINITION. The PTP engine's messages (R378–R385): headers, transports, what it sends, and the egress timestamps of its
own event messages. The layouts are those of IEEE 1588-2019 (log entry 40). -/

namespace Sys2Proof.Machine

/-- Network time in 2^−16 ns at a reading of the local counter (R371). -/
def Hub.networkFine (h : Hub) (clk : Int) : Int :=
  clk + h.clockOffset + (clk - h.clockAnchor) * h.getI F.CLOCK.RATE 0 / (2 ^ 48 : Int)

def Hub.ptp (h : Hub) (i : Nat) : PtpPort := h.ptps.read (fun _ => {}) i

def Hub.modPtp (h : Hub) (i : Nat) (f : PtpPort → PtpPort) : Hub := { h with ptps := h.ptps.write (fun _ => {}) i (f (h.ptp i)) }

/-- clockIdentity (R393): from E0's MAC_ADDR once that is not zero, as an EUI-64, else from the device identity. -/
def Hub.clockId (h : Hub) : Nat :=
  let mac := h.get F.ETHPORT.MAC_ADDR 0
  if mac == 0 then beNat (leBytes 8 (h.get F.KEYSLOT.DEVICE_ID 0)) else mac / 2 ^ 24 * 2 ^ 40 + 0xFFFE * 2 ^ 24 + mac % 2 ^ 24

/-- The source port identity of a PTP port. -/
def Hub.portIdentity (h : Hub) (i : Nat) : List Byte := beBytes 8 h.clockId ++ beBytes 2 (i + 1)

/-- An interval 2^k seconds in ns. -/
def powerSec (k : Int) : Nat := match k with | .ofNat n => 2 ^ n * sec | .negSucc n => sec / 2 ^ (n + 1)

/-- A timestamp as 6 bytes of seconds and 4 of nanoseconds, and the fraction of a nanosecond it leaves out (2^−16 ns). -/
def timestamp (t : Int) : List Byte := stampBytes 1 0 (t / 65536)

/-- The 2^−16 ns value of a timestamp at a byte of a message. -/
def timestampAt (m : List Byte) (o : Nat) : Int := (beAt m o 6 * sec + beAt m (o + 6) 4 : Nat) * 65536

/-- The correctionField of a message, signed 2^−16 ns. -/
def correction (m : List Byte) : Int := decInt 64 (beAt m 8 8)

/-- A PTP message: header and body. -/
def Hub.ptpMsg (h : Hub) (i kind flags : Nat) (corr : Int) (seq : Nat) (interval : Int) (body : List Byte) : List Byte :=
  [BitVec.ofNat 8 kind, 2] ++ beBytes 2 (34 + body.length) ++ [BitVec.ofNat 8 (h.get F.CLOCK.DOMAIN 0), 0] ++ beBytes 2 flags ++
    beBytes 8 (encInt 64 corr) ++ beBytes 4 0 ++ h.portIdentity i ++ beBytes 2 seq ++
    [BitVec.ofNat 8 (match kind with | 0 => 0 | 1 => 1 | 8 => 2 | 9 => 3 | _ => 5), BitVec.ofNat 8 (encInt 8 interval)] ++ body

/-- Whether a PTP message type is an event message. -/
def ptpEvent (kind : Nat) : Bool := kind < 4

/-- The IPv4 header of a PTP datagram with its checksum. -/
def ipv4Header (src dst len : Nat) : List Byte :=
  let hd := [0x45, 0] ++ beBytes 2 (20 + len) ++ beBytes 4 0 ++ [1, 17, 0, 0] ++ beBytes 4 src ++ beBytes 4 dst
  putBytes hd 10 (beBytes 2 (65535 - fold16 (fold16 (onesSum hd))))

/-- The frame of a PTP message on a MAC by its TRANSPORT (R381), and where the message and a UDP/IPv6 checksum stand in it. -/
def Hub.ptpFrame (h : Hub) (mac kind : Nat) (m : List Byte) : List Byte × Nat × Option Nat :=
  let peer := kind == 2 || kind == 3 || kind == 10
  let src := h.get F.ETHPORT.MAC_ADDR mac
  let udpPort := if ptpEvent kind then 319 else 320
  match h.get F.PTPPORT.TRANSPORT (4 + mac) with
  | 1 =>
    let dst := if peer then 0xE000006B else 0xE0000181
    let udp := beBytes 2 udpPort ++ beBytes 2 udpPort ++ beBytes 2 (8 + m.length) ++ [0, 0] ++ m
    (beBytes 6 (0x01005E000000 + dst % 2 ^ 23) ++ beBytes 6 src ++ beBytes 2 0x0800 ++
      ipv4Header (h.get F.ETHPORT.MGMT_IPV4 0) dst (8 + m.length) ++ udp, 42, none)
  | 2 =>
    let eui := (src / 2 ^ 24 ^^^ 0x020000) * 2 ^ 40 + 0xFFFE * 2 ^ 24 + src % 2 ^ 24
    let from_ := beBytes 8 0xFE80000000000000 ++ beBytes 8 eui
    let to_ := if peer then beBytes 2 0xFF02 ++ beBytes 14 0x6B else beBytes 2 0xFF0E ++ beBytes 14 0x181
    let udp := beBytes 2 udpPort ++ beBytes 2 udpPort ++ beBytes 2 (8 + m.length) ++ [0, 0] ++ m
    let sum := 65535 - fold16 (fold16 (onesSum (from_ ++ to_ ++ beBytes 4 udp.length ++ beBytes 4 17 ++ udp)))
    let udp1 := putBytes udp 6 (beBytes 2 (if sum == 0 then 65535 else sum))
    (beBytes 6 (0x333300000000 + (if peer then 0x6B else 0x181)) ++ beBytes 6 src ++ beBytes 2 0x86DD ++
      beBytes 4 0x60000000 ++ beBytes 2 udp.length ++ [17, 1] ++ from_ ++ to_ ++ udp1, 62, some 60)
  | _ => (beBytes 6 (if peer then 0x0180C200000E else 0x011B19000000) ++ beBytes 6 src ++ beBytes 2 0x88F7 ++ m, 14, none)

/-! ### Route table 1 (R264, R383) -/

/-- The key of Route table 1 (R383). -/
def ptpKey (port mac kind domain : Nat) : Nat := port + mac * 16 + kind * 256 + domain * 4096

/-- The entries PTPPORT and CLOCK ask for, by port (DESIGN CHOICE, log entry 79): of every enabled port, one for each message type of the domain that its
own messages have at Y11, and on a MAC one that terminates such a message at Y11; on a MAC that is not enabled, while TC_MODE is not 0, one for
each event message of the domain, with the transparent-clock program. -/
def Hub.table1Wanted (h : Hub) : List Nat :=
  let domain := h.get F.CLOCK.DOMAIN 0
  let kinds := [0, 1, 2, 3, 8, 9, 10, 11, 12, 13]
  ((List.range 6).map (fun i =>
    let object := F.PTPPORT.ENABLE.cls % 256 * 65536 + i
    let entry (port kind dest program en : Nat) : Nat := flowEntry 1 (ptpKey port (i - 4) kind domain) object dest program en 0 0
    if h.on F.PTPPORT.ENABLE i then
      kinds.map (fun k => entry 11 k 15 0 0) ++ (if i < 4 then [] else kinds.map (fun k => entry 6 k 11 0 0))
    else if 4 ≤ i && h.get F.CLOCK.TC_MODE 0 != 0 then [0, 1, 2, 3].map (fun k => entry 6 k 15 1 1)
    else [])).flatten

/-- Whether two flow entries have one table and key. -/
def sameKey (a b : Nat) : Bool := bits a 0 72 == bits b 0 72

/-- Table 1 brought in line with PTPPORT and CLOCK: entries no longer wanted are freed, those missing are written. One key has one entry. -/
def Hub.syncTable1 (h : Hub) : Hub :=
  let want := h.table1Wanted.foldl (fun (es : List Nat) e => if es.any (sameKey e) then es else es ++ [e]) []
  let held := h.yard.routes.cells.filter (fun c => flowTable c.2 == some 1)
  let h1 := (held.filter (fun c => !want.contains c.2)).foldl (fun g c => g.clearRoute c.1) h
  (want.filter (fun e => !held.any (fun c => c.2 == e))).foldl (fun g e =>
    match g.freeRoute with
    | some i => g.writeRoute i e
    | none => g) h1

/-! ### Ports -/

/-- Whether a PTP port has a link to send on. -/
def Hub.ptpLinked (h : Hub) (i : Nat) : Bool := if i < 4 then h.tunnelOpen (tunnelOf i 1) else h.on F.ETHPORT.LINK (i - 4)

/-- STATE of a PTP port (R381, R395): disabled, listening while it has no link, time receiver, time transmitter; a faulty port
stays so until a measurement succeeds. -/
def Hub.ptpState (h : Hub) (i : Nat) : Hub :=
  let st := if !h.on F.PTPPORT.ENABLE i then 0 else if h.get F.PTPPORT.STATE i == 4 then 4 else if !h.ptpLinked i then 1
    else if h.get F.CLOCK.SERVO_PORT 0 == i then 2 else 3
  h.set F.PTPPORT.STATE i st

/-- A port's timers and STATE follow its ENABLE. -/
def Hub.ptpEnable (h : Hub) (i : Nat) : Hub :=
  let on_ := h.on F.PTPPORT.ENABLE i
  let run (g : Hub) (k d : Nat) : Hub := if on_ then g.armOnce k i d else g.disarm k i
  let h1 := run (run (run h T.syncTx (powerSec (h.getI F.PTPPORT.LOG_SYNC i))) T.pdelayTx (powerSec (h.getI F.PTPPORT.LOG_PDELAY i)))
    T.announceTx (powerSec (h.getI F.PTPPORT.LOG_ANNOUNCE i))
  let h2 := if on_ then h1 else ((h1.disarm T.followUp i).modPtp i (fun _ => {})).set F.PTPPORT.STATE i 0
  h2.ptpState i

/-- The engine sends a message on a port; marks are relative to the message, and stamp is what a residence counts from. -/
def Hub.sendPtp (h : Hub) (i : Nat) (m : List Byte) (marks : List EgressMark) (stamp : Nat) : Hub :=
  let shift (o : Nat) : List EgressMark := marks.map (fun k => match k with
    | .stamp a f => .stamp (a + o) f
    | .corr a r l => .corr (a + o) r l
    | .csum a => .csum (a + o))
  let send (bytes : List Byte) (ms : List EgressMark) (leaf slot : Nat) : Hub :=
    let entry := (h.flowRoute 1 (ptpKey 11 (i - 4) (byteAt m 0 % 16) (byteAt m 4))).getD 8187
    h.admitMessage 11 { bytes := bytes, port := 11, service := 6, stamp := stamp, mac := i - 4, entry := entry, marks := ms } [(leaf, slot)]
  if !h.ptpLinked i then h
  else if i < 4 then send (tunnelMsg 1 0 m) (shift 8) (h.tunnelLeaf i 1) 1
  else
    let (f, o, c) := h.ptpFrame (i - 4) (byteAt m 0 % 16) m
    let fix : List EgressMark := match c with | some k => [.csum k] | none => []
    send f (shift o ++ (if marks.isEmpty then [] else fix)) (768 + 8 * (10 + (i - 4)) + 6) 0

/-- The engine's own event message leaves a port: its egress timestamp is taken (R378), and what waits for it is sent: a
Follow_Up or Pdelay_Resp_Follow_Up of a two-step port (R381). -/
def Hub.ptpLeaves (h : Hub) (i : Nat) (p : Pkt) : Hub :=
  if p.port != 11 then h
  else
    let m := if i < 4 then p.bytes.drop 8 else
      match h.get F.PTPPORT.TRANSPORT i with
      | 1 => p.bytes.drop 42
      | 2 => p.bytes.drop 62
      | _ => p.bytes.drop 14
    let at_ := ((h.clk : Int) + h.getI F.PTPPORT.EGRESS_LATENCY i * 65536).toNat
    let nt := h.networkFine at_
    let twoStep := bitB (beAt m 6 2) 9
    match byteAt m 0 % 16 with
    | 0 =>
      let h1 := h.add F.PTPPORT.SYNC_TX i 1
      if twoStep then h1.sendPtp i (h.ptpMsg i 8 0 (nt % 65536) (beAt m 30 2) (h.getI F.PTPPORT.LOG_SYNC i) (timestamp nt)) [] h.clk else h1
    | 1 => if beAt m 30 2 == (h.ptp i).reqSeq then h.modPtp i (fun k => { k with reqAt := at_ + 1 }) else h
    | 2 => if beAt m 30 2 == (h.ptp i).reqSeq then h.modPtp i (fun k => { k with reqAt := at_ + 1 }) else h
    | 3 =>
      if twoStep then h.sendPtp i (h.ptpMsg i 10 0 (nt % 65536) (beAt m 30 2) 0x7F (timestamp nt ++ (m.drop 44).take 10)) [] h.clk else h
    | _ => h

/-- The delay measurement in progress on a port is discarded and a new one starts (R379). -/
def Hub.ptpRestart (h : Hub) (i : Nat) : Hub :=
  let h1 := h.modPtp i (fun k => { k with reqAt := 0, waiting := false, responders := [], response := none })
  if h1.on F.PTPPORT.ENABLE i then h1.arm T.pdelayTx i 0 else h1

end Sys2Proof.Machine
end

