-- ==== Sys2Proof/Machine/Pcie.lean ====
section
/-! DEFINITION. The landings' storage front ends and virtual switches (R398–R402), and how TLPs reach a slot and come from it
(R399, R405). Where R398 gives a configuration register no place, the model places it (log entry 41). -/

namespace Sys2Proof.Machine

/-! ### The virtual switch (R398) -/

def switchKey (l fn reg : Nat) : Nat := l * 2 ^ 16 + fn * 2 ^ 10 + reg

/-- What the host has written to a configuration register of a function (0 upstream, 1 and 2 the downstream ports). -/
def Hub.written (h : Hub) (l fn reg : Nat) : Nat := h.vswitch.read (fun _ => 0) (switchKey l fn reg)

def Hub.setWritten (h : Hub) (l fn reg v : Nat) : Hub := { h with vswitch := h.vswitch.write (fun _ => 0) (switchKey l fn reg) v }

/-- Whether a landing's host sees presence at a slot. -/
def Hub.seesSlot (h : Hub) (l s : Nat) : Bool := (h.slot s).shownTo == l + 1

/-- The bits of a configuration register a host can write. -/
def writable (reg : Nat) : Nat :=
  match reg with
  | 1 => 0x0547
  | 3 => 0xFF
  | 6 => 0xFFFFFF
  | 8 => 0xFFF0FFF0
  | 9 => 0xFFF0FFF0
  | 10 => 0xFFFFFFFF
  | 11 => 0xFFFFFFFF
  | 15 => 0x005F00FF
  | 18 => 0xFFFF
  | 20 => 0xFFFF
  | 22 => 0x1FFF
  | 32 => 0x710000
  | 33 => 0xFFFFFFFC
  | 34 => 0xFFFFFFFF
  | 35 => 0xFFFF
  | _ => 0

/-- A configuration register as a host reads it. Registers 1,022 hold the changed bits of a downstream port's Slot Status. -/
def Hub.cfgRead (h : Hub) (l fn reg : Nat) : Nat :=
  let w := h.written l fn reg &&& writable reg
  let s := fn - 1
  let down := 0 < fn
  let here := down && h.seesSlot l s
  match reg with
  | 0 => (Config.switchConfig fn 0).toNat
  | 1 => w + 0x100000
  | 2 => 0x06040000 + (Config.switchConfig fn 2).toNat % 256
  | 3 => w + 0x10000
  | 9 => w + 0x10001
  | 13 => 0x40
  | 16 => 0x10 + 0x80 * 2 ^ 8 + (2 + (if down then 0x160 else 0x50)) * 2 ^ 16
  | 17 => 0x8022
  | 19 => 5 + 4 * 16 + (if down then 2 ^ 20 else 0) + fn * 2 ^ 24
  | 20 => w + (if here then (h.get F.STORAGE.GEN s + h.get F.STORAGE.WIDTH s * 16 + 2 ^ 13) * 2 ^ 16 else 0)
  | 21 => if down then 0x60 + 2 ^ 18 + s * 2 ^ 19 else 0
  | 22 => w + (if down then (h.written l fn 1022 + ofB here * 64) * 2 ^ 16 else 0)
  | 32 => w + 5 + 2 ^ 23
  | 64 => if down then 0x1000D else 0
  | 65 => if down then 0xD000D else 0
  | _ => w

/-- A write of a configuration register under its byte enables. Slot Status bits clear by writing 1. -/
def Hub.cfgWrite (h : Hub) (l fn reg v be : Nat) : Hub :=
  let mask := (List.range 4).foldl (fun m i => if bitB be i then m + 255 * 2 ^ (8 * i) else m) 0
  let old := h.written l fn reg
  let new := old - (old &&& mask) + (v &&& mask)
  let h1 := h.setWritten l fn reg (new &&& writable reg)
  if reg == 22 && 0 < fn then h1.setWritten l fn 1022 (h.written l fn 1022 - (h.written l fn 1022 &&& ((v &&& mask) / 2 ^ 16))) else h1

/-- The bus on which the two downstream ports stand, and the buses behind one of them. -/
def Hub.busOf (h : Hub) (l fn : Nat) : Nat × Nat :=
  let w := h.written l fn 6
  (bits w 8 8, bits w 16 8)

/-- The downstream port whose memory window holds an address range, with Memory Space enabled. -/
def Hub.windowOf (h : Hub) (l a last : Nat) : Option Nat :=
  firstWhere 2 (fun s =>
    let m := h.written l (s + 1) 8
    let p := h.written l (s + 1) 9
    let lo := bits m 4 12 * 2 ^ 20
    let hi := bits m 20 12 * 2 ^ 20 + 0xFFFFF
    let plo := bits p 4 12 * 2 ^ 20 + h.written l (s + 1) 10 * 2 ^ 32
    let phi := bits p 20 12 * 2 ^ 20 + 0xFFFFF + h.written l (s + 1) 11 * 2 ^ 32
    bitB (h.written l (s + 1) 1) 1 && ((lo ≤ a && last ≤ hi) || (plo ≤ a && last ≤ phi)))

/-- The completer the virtual switch answers as: its upstream function's bus, device 0. -/
def Hub.switchId (h : Hub) (l : Nat) : Nat := h.written l 0 6 % 256 * 2 ^ 8

/-! ### Answers -/

/-- A TLP goes out to a host on a Storage slot. -/
def Hub.tlpToHost (h : Hub) (input l slot : Nat) (t : List Byte) : Hub := h.sendTunnel input l slot 1 t

/-- The front end answers a host's non-posted request. -/
def Hub.answerHost (h : Hub) (l slot : Nat) (t : List Byte) (status : Nat) (data : List Byte) : Hub :=
  h.tlpToHost l l slot (makeCpl (t.take 16) (h.switchId l) status data)

/-- The front end refuses a host's non-posted request with a status: a completion the device makes, counted on the slot the request is for. -/
def Hub.rejectHost (h : Hub) (l slot s : Nat) (t : List Byte) (status : Nat) : Hub :=
  (h.answerHost l slot t status []).add F.STORAGE.CPL_SYNTH s 1

/-- The storage adapter answers a host's request with Completer Abort. -/
def Hub.abortReq (h : Hub) (s : Nat) (r : HostReq) : Hub :=
  ((h.modSlot s (fun k => { k with down := k.down.erase r })).add F.STORAGE.CPL_SYNTH s 1).tlpToHost (4 + s) r.l r.slot
    (makeCpl r.hdr (h.switchId r.l) 4 [])

/-- Non-posted requests of a slot answered with Completer Abort: all, or those sent to it. -/
def Hub.abortAll (h : Hub) (s : Nat) (sentOnly : Bool) : Hub :=
  ((h.slot s).down.filter (fun r => !sentOnly || r.sentAt != 0)).foldl (fun g r => g.abortReq s r) h

/-- The device drives a TLP to a slot, in pieces where Max Payload Size asks for it (rule 3 of R405, NT_STORAGE_MPS_SPLIT). -/
def Hub.driveSlot (h : Hub) (s : Nat) (t : List Byte) : Hub × Nat :=
  let mps := max 128 (h.get F.STORAGE.MPS s)
  let ps := splitTlp 4 mps t
  let h1 := if 1 < ps.length && !(h.slot s).splitSeen then
      (h.modSlot s (fun k => { k with splitSeen := true })).raise 284 (s + mps * 16) (h.holderCtx (11 + s))
    else h
  (ps.foldl (fun g p => (g.add F.STORAGE.TLPS_DOWN s 1).emit .slot s p) h1, ps.length)

/-- The device answers a slot's request itself. -/
def Hub.answerSlot (h : Hub) (s : Nat) (hdr : List Byte) (status : Nat) : Hub :=
  ((h.add F.STORAGE.CPL_SYNTH s 1).driveSlot s (makeCpl hdr 0 status [])).1

/-- A refusal is counted on a slot (R399, R401): from the host (0) or from the slot (1). -/
def Hub.refusedTlp (h : Hub) (s side : Nat) : Hub :=
  (h.add F.STORAGE.REFUSED s 1).raise 278 (s + side * 2 + 2 ^ 32) (h.holderCtx (11 + s))

/-! ### From a host (R399, R401) -/

/-- A type 1 configuration request becomes type 0 on the bus right behind the port. -/
def toType0 (t : List Byte) (direct : Bool) : List Byte :=
  if direct then putBytes t 0 (leBytes 4 (dw t 0 - 2 ^ 24)) else t

/-- An accepted TLP enters the Yard toward its slot. -/
def Hub.forwardTlp (h : Hub) (l slot s : Nat) (msg : List Byte) : Hub :=
  let t := tunnelOf l slot
  let entry := h.get F.TUNNEL.ROUTE_ENTRY t
  let p : Pkt := { bytes := msg, port := l, service := 2, stamp := h.clk, index := h.use F.TUNNEL.INDEX t, cls := 2, slot := slot, entry := entry }
  match h.police (h.route entry) (128 * ((msg.length + 127) / 128)) false p with
  | (h1, none) => h1
  | (h1, some q) =>
    let tlp := storageTlp msg
    let h2 := match tlpKind tlp with
      | some .memWrite => h1.modSlot s (fun k => { k with posted := k.posted ++ [({ ctx := l, addr := tlpAddr tlp } : PostedWrite)] })
      | some .completion => h1
      | _ => h1.modSlot s (fun k => { k with down := k.down ++ [({ l := l, slot := slot, hdr := tlp.take 16, at_ := h1.now } : HostReq)] })
    h2.admitMessage l q [(portLeaf (4 + s) l 2, slot)]

/-- A non-posted request toward a slot: within 1,024 outstanding it goes on, else it meets Completer Abort. -/
def Hub.forwardNonPosted (h : Hub) (l slot s : Nat) (msg : List Byte) : Hub :=
  if 1024 ≤ (h.slot s).down.length then
    (h.rejectHost l slot s (storageTlp msg) 4).refusedTlp s 0
  else h.forwardTlp l slot s msg

/-- The slot a refusal of a request that reached neither is counted on: the first the host's context owns, else S0. -/
def Hub.countSlot (h : Hub) (l : Nat) : Nat := if h.holder 11 != l && h.holder 12 == l then 1 else 0

/-- A configuration request: answered by the virtual switch, forwarded behind a port that shows presence, or unsupported. -/
def Hub.cfgRequest (h : Hub) (l slot : Nat) (t msg : List Byte) (type1 : Bool) : Hub :=
  let target := dw t 2
  let bus := bits target 24 8
  let dev := bits target 19 5
  let reg := bits target 2 10
  let (sec, sub) := h.busOf l 0
  let local_ (fn : Nat) : Hub :=
    if tlpHasData t then (h.cfgWrite l fn reg (leAt t 12 4) (bits (dw t 1) 0 4)).answerHost l slot t 0 []
    else h.answerHost l slot t 0 (leBytes 4 (h.cfgRead l fn reg))
  let behind := firstWhere 2 (fun s => let (a, b) := h.busOf l (s + 1); a ≤ bus && bus ≤ b && a != 0)
  if !type1 then
    if dev == 0 && bits target 16 3 == 0 then local_ 0 else h.rejectHost l slot (h.countSlot l) t 1
  else if bus == sec && sec != 0 then
    if dev < 2 && bits target 16 3 == 0 then local_ (dev + 1) else h.rejectHost l slot (h.countSlot l) t 1
  else match behind with
    | some s =>
      if h.seesSlot l s && bus ≤ sub then
        let direct := bus == (h.busOf l (s + 1)).1
        h.forwardNonPosted l slot s (msg.take 8 ++ toType0 t direct)
      else h.rejectHost l slot s t 1
    | none => h.rejectHost l slot (h.countSlot l) t 1

/-- One Storage message of a host, as the front end decodes it (R399). -/
def Hub.fromHost (h : Hub) (l slot : Nat) (msg : List Byte) : Hub :=
  let t := storageTlp msg
  let memory (posted : Bool) : Hub :=
    match h.windowOf l (tlpAddr t) (tlpAddr t + 4 * tlpLen t - 1) with
    | some s =>
      if h.seesSlot l s then (if posted then h.forwardTlp l slot s msg else h.forwardNonPosted l slot s msg)
      else if posted then h else h.rejectHost l slot s t 1
    | none => if posted then h.refusedTlp (h.countSlot l) 0 else (h.rejectHost l slot (h.countSlot l) t 1).refusedTlp (h.countSlot l) 0
  match tlpKind t with
  | none => h.add F.TUNNEL.MSG_DISCARDED (tunnelOf l slot) 1
  | some .memRead => memory false
  | some .memWrite => memory true
  | some .cfg0 => h.cfgRequest l slot t msg false
  | some .cfg1 => h.cfgRequest l slot t msg true
  | some .otherNonPosted => (h.rejectHost l slot (h.countSlot l) t 1).refusedTlp (h.countSlot l) 0
  | some .otherPosted => h.refusedTlp (h.countSlot l) 0
  | some .message => h.refusedTlp (h.countSlot l) 0
  | some .completion =>
    match firstWhere 2 (fun s => (h.slot s).up.any (fun r => r.l == l && reqKey r.hdr == cplKey t)) with
    | some s => h.forwardTlp l slot s msg
    | none => h

def execStorageTlpFromHost (l slot : Nat) (msg : List Byte) (s : State) : Host.Outcome State Fault Refusal :=
  actIf (decide (l < 4 ∧ slot < 2048)) s (fun h =>
    if (h.yard.inbox.read (fun _ => []) l).contains (l, slot, msg) && h.use F.TUNNEL.CLASS (tunnelOf l slot) == 2 then
      (h.takeInbox l l slot msg).fromHost l slot msg
    else h)

/-! ### Out of the Yard to a slot -/

/-- Whether a completion is a request's last: an error, or its data reach its Byte Count. -/
def lastCpl (t : List Byte) : Bool :=
  let count := let n := bits (dw t 1) 0 12; if n == 0 then 4096 else n
  bits (dw t 1) 13 3 != 0 || !tlpHasData t || count + bits (dw t 2) 0 2 ≤ 4 * tlpLen t

/-- A Storage message leaves the Yard for its slot. While a handover drains, posted writes and completions still go (R412). -/
def Hub.toSlot (h : Hub) (s l : Nat) (bytes : List Byte) : Hub :=
  let t := storageTlp bytes
  match tlpKind t with
  | some .memWrite =>
    match (h.slot s).posted.find? (fun w => w.ctx == l && w.addr == tlpAddr t && !w.sent) with
    | none => h
    | some w =>
      let (h1, n) := h.driveSlot s t
      h1.modSlot s (fun k => { k with posted := k.posted.map (fun x => if x == w then { w with sent := true, pieces := n } else x) })
  | some .completion =>
    match (h.slot s).up.find? (fun r => r.l == l && reqKey r.hdr == cplKey t) with
    | none => h
    | some r => ((if lastCpl t then h.modSlot s (fun k => { k with up := k.up.erase r }) else h).driveSlot s t).1
  | _ =>
    match (h.slot s).down.find? (fun r => r.l == l && r.sentAt == 0 && reqKey r.hdr == reqKey t) with
    | none => h
    | some r =>
      if (h.slot s).phase != 0 then h
      else ((h.modSlot s (fun k => { k with down := k.down.map (fun x => if x == r then { r with sentAt := h.now + 1 } else x) })).driveSlot s t).1

/-! ### From a slot (R399) -/

/-- The Storage slot of a landing the slot's traffic leaves on. -/
def Hub.ownerSlot (h : Hub) (s : Nat) : Option (Nat × Nat) :=
  if h.holder (11 + s) < 4 then (h.classSlot (h.holder (11 + s)) 2).map (fun k => (h.holder (11 + s), k)) else none

/-- Whether a range lies wholly inside an enabled window. -/
def Hub.inWindow (h : Hub) (s a last : Nat) : Bool :=
  (List.range 4).any (fun w => bitB (h.get F.STORAGE.WIN_ENABLE s) w && h.get F.STORAGE.WIN_BASE s w ≤ a && last ≤ h.get F.STORAGE.WIN_LIMIT s w)

/-- A memory request of a slot: through a window to its owner, or blocked. -/
def Hub.slotMemory (h : Hub) (s : Nat) (t : List Byte) (write : Bool) : Hub :=
  match h.ownerSlot s, h.inWindow s (tlpAddr t) (tlpAddr t + 4 * tlpLen t - 1) with
  | some (l, k), true =>
    let h1 := if write then h else h.modSlot s (fun x => { x with up := x.up ++ [{ l := l, hdr := t.take 16, at_ := h.now }] })
    h1.tlpToHost (4 + s) l k t
  | _, _ =>
    let h1 := (h.add F.STORAGE.DMA_BLOCKED s 1).raise 276 (s + ofB write * 2 + 2 ^ 32) (h.holderCtx (11 + s))
    if write then h1 else h1.answerSlot s (t.take 16) 4

/-- A message TLP of a slot: errors go to the host, anything else is refused. -/
def Hub.slotMessage (h : Hub) (s : Nat) (t : List Byte) : Hub :=
  let code := bits (dw t 1) 0 8
  if code == 0x30 || code == 0x31 || code == 0x33 then
    let sev := if code == 0x30 then 0 else if code == 0x31 then 1 else 2
    let h1 := (h.add (if sev == 0 then F.STORAGE.AER_COR else F.STORAGE.AER_UNCOR) s 1).raise 279 (s + sev * 256) (h.holderCtx (11 + s))
    match h1.ownerSlot s with
    | some (l, k) =>
      let id := (h1.busOf l 0).1 * 2 ^ 8 + s * 8
      h1.tlpToHost (4 + s) l k (putBytes t 4 (leBytes 4 (id * 2 ^ 16 + bits (dw t 1) 0 16)))
    | none => h1
  else h.refusedTlp s 1

/-- One TLP received from a slot whose link is up. -/
def Hub.fromSlot (h : Hub) (s : Nat) (t : List Byte) : Hub :=
  if h.get F.STORAGE.STATE s != 4 then h
  else
    let h1 := h.add F.STORAGE.TLPS_UP s 1
    match tlpKind t with
    | none => h1
    | some .memRead => h1.slotMemory s t false
    | some .memWrite => h1.slotMemory s t true
    | some .message => h1.slotMessage s t
    | some .otherPosted => h1.refusedTlp s 1
    | some .completion =>
      match (h1.slot s).down.find? (fun r => r.sentAt != 0 && reqKey r.hdr == cplKey t) with
      | none => h1
      | some r => (if lastCpl t then h1.modSlot s (fun k => { k with down := k.down.erase r }) else h1).tlpToHost (4 + s) r.l r.slot t
    | some .cfg0 => (h1.answerSlot s (t.take 16) 1).refusedTlp s 1
    | some .cfg1 => (h1.answerSlot s (t.take 16) 1).refusedTlp s 1
    | some .otherNonPosted => (h1.answerSlot s (t.take 16) 1).refusedTlp s 1

def execStorageTlpFromSlot (n : Nat) (tlp : List Byte) (s : State) : Host.Outcome State Fault Refusal :=
  actIf (decide (n < 2)) s (fun h => h.fromSlot n tlp)

end Sys2Proof.Machine
end

