-- ==== Sys2Proof/Machine/Network.lean ====
section
/-! DEFINITION. The Ethernet MACs (R306–R311), virtual NICs (R312, R313), sending from every Yard port (R290, R276, R278),
and the commands of the Yard and of egress that fall outside a commit boundary. -/

namespace Sys2Proof.Machine

/-! ### Ports going down and coming up (R259) -/

/-- Whether R259 keeps a unit of a port down. An internal block is held in a warm reset, those on the Depot while its controller's firmware is
activated (R362). -/
def Hub.mustBeDown (h : Hub) (port unit : Nat) : Bool :=
  if port < 4 then
    let s := h.get F.LANDING.STATE port
    s < 5 || s == 8 || 9 < s
  else if port < 6 then h.get F.STORAGE.STATE (port - 4) != 4
  else if port == 6 then !h.on F.ETHPORT.LINK (unit - 1)
  else if port == 7 || port == 13 then h.warming || h.depot == 1
  else port < 14 && h.warming

/-- A unit of a port follows its adapter's state. -/
def Hub.syncPort (h : Hub) (port unit : Nat) : Hub :=
  if h.mustBeDown port unit then h.unitDown port unit else h.unitUpNow port unit

/-- A flush that FLUSH_DELAY put off. At a storage port the requests that were queued are answered with Completer Abort (R404). -/
def Hub.lateFlush (h : Hub) (port unit : Nat) : Hub :=
  let h1 := h.flushUnit port unit
  if port == 4 || port == 5 then h1.abortAll (port - 4) false else h1

/-- Whether a port and unit exist. -/
def unitExists (port unit : Nat) : Bool := if port == 6 then unit == 1 || unit == 2 else port < 16 && unit == 0

def execYardPortDown (port unit : Nat) (s : State) : Host.Outcome State Fault Refusal :=
  actIf (unitExists port unit) s (fun h =>
    if port < 14 && (h.mustBeDown port unit || 6 < port) then h.unitDown port unit else h)

def execYardPortUp (port unit : Nat) (s : State) : Host.Outcome State Fault Refusal :=
  actIf (unitExists port unit) s (fun h => if h.mustBeDown port unit then h else h.unitUpNow port unit)

def execYardFlush (port unit : Nat) (s : State) : Host.Outcome State Fault Refusal :=
  actIf (unitExists port unit) s (fun h =>
    h.expire T.flush (unitKey port unit) (fun g => if g.unitUp port unit then g else g.lateFlush port unit))

/-! ### Flow control on the MACs (R309) -/

/-- A MAC control frame as sent, without FCS: pause of a time, or PFC of the enabled priorities. -/
def pauseFrame (src opcode vector time : Nat) : List Byte :=
  beBytes 6 0x0180C2000001 ++ beBytes 6 src ++ beBytes 2 0x8808 ++ beBytes 2 opcode ++
    (if opcode == 1 then beBytes 2 time
     else beBytes 2 vector ++ ((List.range 8).map (fun p => beBytes 2 (if bitB vector p then time else 0))).flatten) 

/-- Pads a frame and appends its FCS. -/
def sealFrame (f : List Byte) : List Byte := let p := f ++ List.replicate (60 - f.length) 0; p ++ fcs p

/-- Sends XOFF above SLICE_LOSSY_MAX − 512 lossy cells of Y6 and XON below half of it, as FLOW_MODE selects. -/
def Hub.flowWatch (h : Hub) : Hub :=
  [0, 1].foldl (fun g m =>
    let mode := g.get F.ETHPORT.FLOW_MODE m
    let cells := g.yard.lossyCells 6
    let max_ := g.get F.YARDPORT.SLICE_LOSSY_MAX 6
    let is := g.yard.xoff.read (fun _ => false) m
    let sendIt (g : Hub) (v : Bool) : Hub :=
      (g.modYard (fun y => { y with xoff := y.xoff.write (fun _ => false) m v })).emit .mac m
        (sealFrame (pauseFrame (g.get F.ETHPORT.MAC_ADDR m) (if mode == 1 then 1 else 0x101) (g.get F.ETHPORT.PFC_PRIORITIES m)
          (if v then 0xFFFF else 0)))
    if mode == 0 || !g.on F.ETHPORT.LINK m then g
    else if !is && max_ < cells + 512 then sendIt g true
    else if is && cells < max_ / 2 then sendIt g false
    else g) h

/-! ### The matcher's commands -/

/-- One cell time (R250–R252, R262): requests, three rounds, and one cell across for each match. -/
def Hub.cellTime (h : Hub) : Hub :=
  let reqs := h.requests
  let h1 := (List.range 16).foldl (fun g o => g.incastWatch reqs o) h
  let before := h1.yard.voqs.cells.map (fun c => c.1)
  let h2 := h1.matches.foldl (fun g m => (g.movePointers m).sendCell m) h1
  (before.foldl (fun g k => g.voqWatch k) h2).drainBacklog.flowWatch

def execIncastTimer (output : Nat) (s : State) : Host.Outcome State Fault Refusal :=
  actIf (decide (output < 16)) s (fun h => h.expire T.incast output (fun g =>
    let ins := indicesWhere 16 (fun i => g.requestLevel i output != 0)
    let map := (ins.map (fun i => 2 ^ i)).sum
    (g.modYard (fun y => { y with incast := y.incast.write (fun _ => false) output true })).notify 101
      (output + map * 16 + ins.length * 2 ^ 20)))

def execBackpressureTimer (voq : Nat) (s : State) : Host.Outcome State Fault Refusal :=
  actIf (decide (voq < 2048)) s (fun h => h.expire T.backpressure voq (fun g =>
    if (g.yard.voq voq).isEmpty || g.voqEligible (voq / 128) (voq / 8 % 16) (voq % 8) then g
    else (g.modYard (fun y => { y with voqRaised := y.voqRaised.write (fun _ => false) voq true })).notify 103
      (voq / 128 + (voq / 8 % 16) * 16 + (voq % 8) * 256)))

def execLearnAgeExpiry (entry : Nat) (s : State) : Host.Outcome State Fault Refusal :=
  actIf (decide (entry < 8192)) s (fun h => h.expire T.learnAge entry (fun g =>
    if entryType (g.route entry) == 2 && !bitB (g.route entry) 4 then g.clearRoute entry else g))

/-! ### Shunter threads (R268, R270) -/

def Hub.threadOf (h : Hub) (engine thread : Nat) : Nat := h.yard.threads.read (fun _ => 0) (engine * 16 + thread)

def Hub.setThread (h : Hub) (engine thread v : Nat) : Hub :=
  h.modYard (fun y => { y with threads := y.threads.write (fun _ => 0) (engine * 16 + thread) v })

def Hub.busyThreads (h : Hub) (engine : Nat) : Nat := ((List.range 16).filter (fun t => h.threadOf engine t != 0)).length

/-- An engine's STATE and THREADS_BUSY, and its leaving once it is disabled and idle (R270). -/
def Hub.syncEngine (h : Hub) (engine : Nat) : Hub :=
  let n := h.busyThreads engine
  let was := h.get F.SHUNTER.STATE engine
  let now_ := if was == 3 then 3 else if 0 < n then 1 else if h.on F.SHUNTER.ENABLE engine then 0 else 2
  let h1 := (h.set F.SHUNTER.THREADS_BUSY engine n).set F.SHUNTER.STATE engine now_
  if now_ == 2 && was != 2 then h1.notify 108 engine else h1

/-- Whether a ticket is served first: classified by table 1, or of a tunnel within its ADMITTED_IN. -/
def Hub.servedFirst (h : Hub) (t : Ticket) : Bool :=
  let e := h.route t.pkt.entry
  flowTable e == some 1 ||
    (entryType e == 1 && (h.tunnelRx (tunnelOf (bits e 4 2) (bits e 21 11))).window ≤
      ceilBytes (h.get F.TUNNEL.ADMITTED_IN (tunnelOf (bits e 4 2) (bits e 21 11))))

/-- The waiting message dispatched next (R268): those served first, then round robin over ingress ports. -/
def Hub.nextTicket (h : Hub) : Option Ticket :=
  let w := h.yard.tickets.filter (fun t => t.state == .waiting)
  match w.find? h.servedFirst with
  | some t => some t
  | none =>
    match firstFrom h.yard.nextPort (w.map (fun t => t.input)) with
    | some p => w.find? (fun t => t.input == p)
    | none => none

/-- The least busy enabled engine with a free thread. -/
def Hub.freeEngine (h : Hub) : Option Nat :=
  let es := (List.range 8).filter (fun e => h.on F.SHUNTER.ENABLE e && h.get F.SHUNTER.STATE e != 3 && h.busyThreads e < 16)
  match es with
  | [] => none
  | e :: t => some (t.foldl (fun b x => if h.busyThreads x < h.busyThreads b then x else b) e)

def Hub.setTicket (h : Hub) (id : Nat) (f : Ticket → Ticket) : Hub :=
  h.modYard (fun y => { y with tickets := y.tickets.map (fun t => if t.id == id then f t else t) })

def execShunterDispatch (s : State) : Host.Outcome State Fault Refusal :=
  act s (fun h =>
    match h.nextTicket, h.freeEngine with
    | some t, some e =>
      match firstWhere 16 (fun k => h.threadOf e k == 0) with
      | some k =>
        ((((h.setThread e k (t.id + 1)).setTicket t.id (fun x => { x with state := .onThread })).modYard
          (fun y => { y with nextPort := (t.input + 1) % 16 })).syncEngine e).fillPlaces t.input
      | none => h
    | _, _ => h)

/-- A thread's message leaves it: with destinations, its ticket has ended and leaves in order; with none it was dropped. -/
def Hub.threadDone (h : Hub) (engine thread : Nat) (keep : Bool) (f : Ticket → Ticket) : Hub :=
  let id := h.threadOf engine thread - 1
  let h1 := (h.setThread engine thread 0).syncEngine engine
  let gone : List (Nat × Pkt) := match h.yard.tickets.find? (fun t => t.id == id && !keep) with
    | some t => (t.dests.filterMap (fun d => (storagePort d.1 t.pkt.cls).map (fun s => (s, t.pkt)))).take 1
    | none => []
  (if keep then h1.setTicket id (fun t => { f t with state := .ended })
   else (gone.foldl (fun g x => g.storageLost x.1 x.2) h1).modYard (fun y => { y with tickets := y.tickets.filter (fun t => t.id != id) })).drainTickets

/-- An engine fails (R270): its running messages are dropped as faults of their programs, and it is taken out. -/
def Hub.engineFault (h : Hub) (engine : Nat) : Hub :=
  let h1 := (List.range 16).foldl (fun g k =>
    let id := g.threadOf engine k
    if id == 0 then g
    else
      let slot := match g.yard.tickets.find? (fun t => t.id + 1 == id) with
        | some t => t.slot
        | none => 0
      ({ g with progs := g.progs.write (fun _ => none) (16 + 16 * engine + k) none }.add F.PROGRAM.FAULTS slot 1).threadDone engine k false (fun t => t)) h
  (h1.set F.SHUNTER.STATE engine 3).notify 108 (engine + 256)

def execShunterEngineFault (engine : Nat) (s : State) : Host.Outcome State Fault Refusal :=
  actIf (decide (engine < 8)) s (fun h => h.engineFault engine)

/-! ### Pauses received (R309) -/

/-- The time a pause quantum count lasts on a MAC, in ns. -/
def Hub.pauseTime (h : Hub) (mac quanta : Nat) : Nat := quanta * 512 * 1000 / max 1 (h.get F.ETHPORT.SPEED mac)

/-- A received pause of a service for a number of quanta. -/
def Hub.holdService (h : Hub) (mac service quanta : Nat) : Hub :=
  let k := mac * 8 + service
  let held := match h.due T.pauseEnd k with
    | some t => decide (h.now ≤ t)
    | none => false
  if quanta == 0 then (h.disarm T.pauseEnd k).disarm T.pauseWatch k
  else
    let ms := h.get F.ETHPORT.PAUSE_WATCHDOG mac
    let h1 := if held then h else if ms == 0 then h.disarm T.pauseWatch k else h.arm T.pauseWatch k (ms * msec)
    h1.arm T.pauseEnd k (h.pauseTime mac quanta)

/-- A pause or PFC frame is counted and honoured as FLOW_MODE says (R309). -/
def Hub.takePause (h : Hub) (mac : Nat) (f : List Byte) : Hub :=
  let h1 := h.add F.ETHPORT.PAUSE_RX mac 1
  let h2 := if h1.yard.pauseIgnored.read (fun _ => false) mac then h1.arm T.pauseQuiet mac sec else h1
  match h.get F.ETHPORT.FLOW_MODE mac, beAt f 14 2 with
  | 1, 1 => (List.range 8).foldl (fun g s => g.holdService mac s (beAt f 16 2)) h2
  | 2, 0x101 =>
    (List.range 8).foldl (fun g p =>
      if bitB (beAt f 16 2) p then g.holdService mac (g.get F.ETHPORT.PFC_SERVICE mac p) (beAt f (18 + 2 * p) 2) else g) h2
  | _, _ => h2

def isPause (f : List Byte) : Bool := beAt f 12 2 == 0x8808

/-- The service of a MAC whose pause has been watched longest, numbered mac × 8 + service: the first to reach PAUSE_WATCHDOG. -/
def Hub.watchedFirst (h : Hub) (mac : Nat) : Nat :=
  let due (k : Nat) : Nat := (h.due T.pauseWatch k).getD (2 ^ 64)
  ((List.range 8).map (fun v => mac * 8 + v)).foldl (fun b k => if due k < due b then k else b) (mac * 8)

/-- A pause has held one of a MAC's services, or the MAC, for PAUSE_WATCHDOG without a break (R309). -/
def execPauseWatchdogExpiry (mac : Nat) (s : State) : Host.Outcome State Fault Refusal :=
  actIf (decide (mac < 2)) s (fun h => h.expire T.pauseWatch (h.watchedFirst mac) (fun g =>
    if !g.yard.pauseIgnored.read (fun _ => false) mac && (match g.due T.pauseEnd (h.watchedFirst mac) with | some t => decide (g.now ≤ t) | none => false) then
      ((g.modYard (fun y => { y with pauseIgnored := y.pauseIgnored.write (fun _ => false) mac true })).arm T.pauseQuiet mac sec).raise 151
        (mac + 2) (g.holderCtx (55 + mac))
    else g))

def execPauseHonourResume (mac : Nat) (s : State) : Host.Outcome State Fault Refusal :=
  actIf (decide (mac < 2)) s (fun h => h.expire T.pauseQuiet mac (fun g =>
    (g.modYard (fun y => { y with pauseIgnored := y.pauseIgnored.write (fun _ => false) mac false })).raise 151 mac (g.holderCtx (55 + mac))))

/-! ### Frames received (R308, R310) -/

/-- Byte offset of the IP header or other payload behind the tags. -/
def payloadAt (f : List Byte) : Nat := if frameTagged f then 18 else 14

/-- UDP destination port of an IPv4 or IPv6 frame carrying UDP, with the offset of the UDP header. -/
def udpOf (f : List Byte) : Option (Nat × Nat) :=
  let o := payloadAt f
  if frameType f == 0x0800 && byteAt f (o + 9) == 17 then
    let u := o + 4 * (byteAt f o % 16)
    some (beAt f (u + 2) 2, u)
  else if frameType f == 0x86DD && byteAt f (o + 6) == 17 then some (beAt f (o + 42) 2, o + 40)
  else none

/-- Where a frame's PTP message begins, when it is a PTP frame. -/
def ptpAt (f : List Byte) : Option Nat :=
  if frameType f == 0x88F7 then some (payloadAt f)
  else match udpOf f with
    | some (319, u) => some (u + 8)
    | some (320, u) => some (u + 8)
    | _ => none

/-- Whether a frame is a PTP event message that, bridged, runs the transparent-clock program (R383). -/
def Hub.tcFrame (h : Hub) (f : List Byte) : Bool :=
  h.get F.CLOCK.TC_MODE 0 != 0 && (match ptpAt f with | some o => decide (byteAt f o % 16 < 4) | none => false)

/-- Whether a frame is addressed to the management address (R308), a later IPv4 fragment of a datagram among them (R507). -/
def Hub.forManagement (h : Hub) (f : List Byte) : Bool :=
  h.on F.ETHPORT.MGMT_ENABLE 0 && frameDst f == h.mgmtMac && frameType f == 0x0800 &&
    beAt f (payloadAt f + 16) 4 == h.get F.ETHPORT.MGMT_IPV4 0 &&
    (if beAt f (payloadAt f + 6) 2 % 0x2000 != 0 then byteAt f (payloadAt f + 9) == 17
     else match udpOf f with | some (p, _) => p == h.get F.ETHPORT.MGMT_UDP_PORT 0 | none => false)

/-- An ARP request for the management address. -/
def Hub.isMgmtArp (h : Hub) (f : List Byte) : Bool :=
  let o := payloadAt f
  h.on F.ETHPORT.MGMT_ENABLE 0 && frameType f == 0x0806 && beAt f (o + 6) 2 == 1 && beAt f (o + 24) 4 == h.get F.ETHPORT.MGMT_IPV4 0

/-- The answer to it. -/
def Hub.arpReply (h : Hub) (f : List Byte) : List Byte :=
  let o := payloadAt f
  let mac := h.mgmtMac
  beBytes 6 (frameSrc f) ++ beBytes 6 mac ++ beBytes 2 0x0806 ++ (f.drop o).take 6 ++ beBytes 2 2 ++ beBytes 6 mac ++
    beBytes 4 (h.get F.ETHPORT.MGMT_IPV4 0) ++ (f.drop (o + 8)).take 10

/-- Storm control: the kind of a frame, 0 broadcast, 1 multicast, 2 unknown unicast, and its limit. -/
def Hub.stormKind (h : Hub) (f : List Byte) : Option Nat :=
  if frameDst f == 0xFFFFFFFFFFFF then some 0
  else if multicast (frameDst f) then some 1
  else if (h.bridgeRoute (frameDst f) (frameVlan f)).isNone then some 2
  else none

def Hub.stormLimit (h : Hub) (mac kind : Nat) : Nat :=
  match kind with
  | 0 => h.get F.ETHPORT.STORM_BC mac
  | 1 => h.get F.ETHPORT.STORM_MC mac
  | _ => h.get F.ETHPORT.STORM_UU mac

/-- Counts a frame in its storm window; false when it is beyond the limit and discarded (R310). -/
def Hub.stormPass (h : Hub) (mac : Nat) (f : List Byte) : Hub × Bool :=
  match h.stormKind f with
  | none => (h, true)
  | some k =>
    let lim := h.stormLimit mac k
    let i := mac * 3 + k
    let n := h.yard.storm.read (fun _ => 0) i
    if lim == 0 then (h, true)
    else if n < lim then
      ((h.armOnce T.storm mac sec).modYard (fun y => { y with storm := y.storm.write (fun _ => 0) i (n + 1) }), true)
    else
      let h1 := h.add F.ETHPORT.STORM_DROPS mac 1
      if h1.yard.stormRaised.read (fun _ => false) i then (h1, false)
      else ((h1.modYard (fun y => { y with stormRaised := y.stormRaised.write (fun _ => false) i true })).raise 152
        (mac + k * 2 + 2 ^ 32) (h.holderCtx (55 + mac)), false)

def execStormWindow (mac : Nat) (s : State) : Host.Outcome State Fault Refusal :=
  actIf (decide (mac < 2)) s (fun h => h.expire T.storm mac (fun g =>
    g.modYard (fun y => { y with
      storm := [0, 1, 2].foldl (fun t k => t.write (fun _ => 0) (mac * 3 + k) 0) y.storm,
      stormRaised := [0, 1, 2].foldl (fun t k => t.write (fun _ => false) (mac * 3 + k) false) y.stormRaised })))

/-- What the PTP engine does with a PTP frame from a MAC (R383): terminated at Y11 on an enabled port and its domain or
when addressed to the link-local address, discarded, or bridged. 0 bridge, 1 terminate, 2 discard. -/
def Hub.ptpFate (h : Hub) (port : Nat) (f : List Byte) (o : Nat) : Nat :=
  let kind := byteAt f o % 16
  let enabled := h.on F.PTPPORT.ENABLE port
  if frameDst f == 0x0180C200000E then (if enabled then 1 else 2)
  else if enabled && byteAt f (o + 4) == h.get F.CLOCK.DOMAIN 0 then 1
  else if (kind == 2 || kind == 3 || kind == 10 || (kind == 1 && h.get F.CLOCK.TC_MODE 0 == 2)) && h.get F.PTPPORT.DELAY_MECH port == 1 then 2
  else 0

/-- The table-1 entry a bridged PTP message is classified by, when one stands. -/
def Hub.ptpEntry (h : Hub) (mac : Nat) (f : List Byte) (o : Nat) : Option Nat :=
  h.flowRoute 1 (ptpKey 6 mac (byteAt f o % 16) (byteAt f (o + 4)))

/-- A frame received by a MAC is checked and sorted (R308). -/
def Hub.rxFrame (h : Hub) (mac : Nat) (raw : List Byte) : Hub :=
  let f := raw.take (raw.length - 4)
  if raw.length < 64 || h.get F.ETHPORT.MAX_FRAME mac < raw.length || fcs f != raw.drop (raw.length - 4) then
    (h.add F.ETHPORT.RX_ERRORS mac 1).raise 153 (mac + 2 ^ 32) (h.holderCtx (55 + mac))
  else
    let h1 := (h.add F.ETHPORT.FRAMES_RX mac 1).add F.ETHPORT.OCTETS_RX mac raw.length
    if isPause f then h1.takePause mac f
    else
      let stamp := ((h1.clk : Int) - h1.getI F.PTPPORT.INGRESS_LATENCY (4 + mac) * 65536).toNat
      let base : Pkt := { bytes := f, port := 6, service := 3, stamp := h1.clk, mac := mac, vlan := frameVlan f, entry := 8182 }
      let bridged (g : Hub) (p : Pkt) : Hub :=
        match g.stormPass mac f with
        | (g1, false) => g1
        | (g1, true) => (g1.bridge 6 mac p (frameDei f)).flowWatch
      match ptpAt f with
      | some o =>
        match h1.ptpFate (4 + mac) f o with
        | 1 => h1.admitMessage 6 { base with service := 6, stamp := stamp, entry := (h1.ptpEntry mac f o).getD 8182 } [(portLeaf 11 6 6, mac)]
        | 2 => h1
        | _ => bridged h1 { base with service := 6, stamp := stamp, entry := (h1.ptpEntry mac f o).getD 8182, tc := h1.tcFrame f }
      | none =>
        if h1.forManagement f then h1.admitMessage 6 { base with service := 0 } [(portLeaf 10 6 0, mac)]
        else if h1.isMgmtArp f then
          h1.originate 10 0 (h1.arpReply f) [(768 + 8 * (10 + mac), 0)]
        else bridged h1 base

def execPauseReceived (mac : Nat) (frame : List Byte) (s : State) : Host.Outcome State Fault Refusal :=
  actIf (decide (mac < 2)) s (fun h => if h.on F.ETHPORT.LINK mac && isPause frame then h.rxFrame mac frame else h)

/-- A MAC's link state changes (R311): up with a speed, or down with the fault that took it down (0 none, 2 high bit error
ratio, 3 remote fault). USXGMII runs at the speeds of R306. -/
def Hub.macLink (h : Hub) (mac : Nat) (isUp : Bool) (speed fault : Nat) : Hub :=
  let iface := h.get F.ETHPORT.IFACE mac
  let up_ := isUp && iface != 0
  if up_ == h.on F.ETHPORT.LINK mac || (up_ && iface == 3 && !([100, 1000, 2500, 5000, 10000] : List Nat).contains speed) then h
  else
    let sp := if !up_ then 0 else match iface with
      | 1 => 25000
      | 2 => 10000
      | _ => speed
    let h1 := (h.set F.ETHPORT.LINK mac (ofB up_)).set F.ETHPORT.SPEED mac sp
    let who := h.holderCtx (55 + mac)
    let h2 := h1.raise 150 (mac + ofB up_ * 2 + iface * 4 + h.get F.ETHPORT.FEC mac * 64 + sp * 256) who
    let h3 := if fault == 2 || fault == 3 then h2.raise 154 (mac + fault * 16) who else h2
    (h3.syncPort 6 (1 + mac)).ptpState (4 + mac)

def execEthLinkChange (mac : Nat) (isUp : Bool) (speed fault : Nat) (s : State) : Host.Outcome State Fault Refusal :=
  -- In Desk Standby only a MAC with MGMT_ENABLE is up (R566).
  actIf (decide (mac < 2)) s (fun h =>
    if isUp && h.get F.SYSTEM.POWER_STATE 0 == 1 && !h.on F.ETHPORT.MGMT_ENABLE mac then h else h.macLink mac isUp speed fault)

/-- An MDIO transaction starts (R311): the request goes to the PHY, and the result is not yet done. -/
def Hub.startMdio (h : Hub) (mac : Nat) : Hub :=
  ((h.set F.ETHPORT.MDIO_RESULT mac 0).arm T.mdio mac (100 * usec)).emit .phy mac
    (leBytes 1 (h.get F.ETHPORT.MDIO_PHY mac) ++ leBytes 4 (h.get F.ETHPORT.MDIO_REQ mac))

def execMdioDone (mac : Nat) (answered : Bool) (data : Nat) (s : State) : Host.Outcome State Fault Refusal :=
  actIf (decide (mac < 2)) s (fun h =>
    match h.due T.mdio mac with
    | none => h
    | some t =>
      let h0 := (if answered then h else h.advanceTo t).disarm T.mdio mac
      let d := data % 65536
      let who := h.holderCtx (55 + mac)
      let h1 := (h0.set F.ETHPORT.MDIO_RESULT mac (2 ^ 31 + ofB (!answered) * 2 ^ 30 + (if answered then d else 0))).raise 156
        (mac + ofB (!answered) * 2 + (if answered then d else 0) * 2 ^ 16) who
      if answered then h1 else h1.raise 154 (mac + 16) who)

/-! ### Virtual NICs (R304, R312, R313) -/

/-- A FRAME message of a virtual NIC: checked, its launch time taken off, and bridged. Its ingress timestamp is the moment the landing's front end resolves
it (DESIGN CHOICE, log entry 74). -/
def Hub.vnicFrame (h : Hub) (l slot : Nat) (msg : List Byte) : Hub :=
  let t := tunnelOf l slot
  let launch := bitB (leAt msg 0 8) 12
  let lead := if launch then 16 else 8
  let f := msg.drop lead
  let e := 8 * l + h.use F.TUNNEL.BINDING t
  let mac := wireMac (h.get F.ETHPORT.VNIC_MAC 0 e)
  let vlan := h.get F.ETHPORT.VNIC_VLAN 0 e
  if f.length < 14 || 9212 < f.length then h.add F.TUNNEL.MSG_DISCARDED t 1
  else if mac != 0 && frameSrc f != mac then (h.add F.ETHPORT.SPOOF_DROPS 0 1).raise 155 (e + 2 ^ 32) [l]
  else if vlan != 0 && frameTagged f then h
  else
    let p : Pkt := { bytes := msg, port := l, service := 3, stamp := h.clk, index := h.use F.TUNNEL.INDEX t, cls := 3, slot := slot,
                     lead := lead, vlan := if vlan != 0 then vlan else frameVlan f, entry := h.get F.TUNNEL.ROUTE_ENTRY t,
                     launch := if launch then some (leAt msg 8 6) else none, tc := h.tcFrame f }
    h.bridge l slot p false

def execNetworkFrame (l slot : Nat) (msg : List Byte) (s : State) : Host.Outcome State Fault Refusal :=
  actIf (decide (l < 4 ∧ slot < 2048)) s (fun h =>
    if (h.yard.inbox.read (fun _ => []) l).contains (l, slot, msg) && h.use F.TUNNEL.CLASS (tunnelOf l slot) == 3 then
      (h.takeInbox l l slot msg).vnicFrame l slot msg
    else h)

/-- A frame as it reaches a virtual NIC: launch time removed, tagged on a trunk, untagged on an access port (R304, R313). -/
def Hub.vnicMsg (h : Hub) (l slot : Nat) (p : Pkt) (bytes : List Byte) : List Byte :=
  let e := 8 * l + h.use F.TUNNEL.BINDING (tunnelOf l slot)
  let f := bytes.drop p.lead
  tunnelMsg 1 0 (if h.get F.ETHPORT.VNIC_VLAN 0 e != 0 then untag f else trunkFrame f p.vlan)

/-! ### Sending (R289, R290, R276, R278) -/

/-- Splits a message into 128-byte payloads, the last padded with zeros (R184). -/
def payloads : Nat → List Byte → List (List Byte)
  | 0, _ => []
  | n + 1, bs => (bs.take 128 ++ List.replicate (128 - (bs.take 128).length) 0) :: payloads n (bs.drop 128)

/-- A message for a landing's pairs as it begins to leave: its SEQUENCE is written, it is counted, and its flits are cut (R215, R217). -/
def Hub.toLanding (h : Hub) (l q : Nat) (e : LeafPkt) (p : Pkt) : Hub × TxMsg :=
  let t := tunnelOf l e.slot
  let cls := h.use F.TUNNEL.CLASS t
  let raw := if cls == 3 then h.vnicMsg l e.slot p p.bytes else p.bytes
  let msg := putBytes raw 4 (leBytes 2 (h.get F.TUNNEL.SEQ_OUT t))
  let n := (msg.length + 127) / 128
  (((h.add F.TUNNEL.SEQ_OUT t 1).add F.TUNNEL.MSGS_OUT t 1).add F.TUNNEL.BYTES_OUT t (128 * n),
    { cls := cls, slot := e.slot, index := h.use F.TUNNEL.INDEX t, flits := payloads n msg, pkt := p, leaf := q, id := e.id })

/-- A mirror copy leaves Y12 (R276): truncated behind its header, as an Ethernet frame for its session's destination. -/
def Hub.mirrorFrame (h : Hub) (e : LeafPkt) : Hub :=
  let m := e.slot % 4
  let copy := mirrorBytes m (e.slot / 4 % 2) (e.slot / 8) e.pkt.index e.pkt.stamp (h.get F.MIRROR.TRUNCATE m) e.pkt
  let dest := h.get F.MIRROR.DEST m
  let eth := if dest == 2 then 0 else dest
  let f := beBytes 6 (h.get F.MIRROR.DEST_MAC m) ++ beBytes 6 (h.get F.ETHPORT.MAC_ADDR eth) ++ beBytes 2 0x88B5 ++ copy
  if dest == 2 then
    let l := h.get F.MIRROR.DEST_LANDING m
    let slot := h.get F.MIRROR.DEST_SLOT m
    if h.tunnelOpen (tunnelOf l slot) then h.originate 12 7 f [(h.tunnelLeaf l slot, slot)] else h
  else h.originate 12 7 f [(768 + 8 * (12 + eth) + 7, 0)]

/-- The Route entry and destinations of a message classified again as on its original ingress port (R263), and the bytes it counts there: none when a
tunnel message's entry is gone. -/
def Hub.reclassify (h : Hub) (q : Pkt) : Option (Nat × List (Nat × Nat) × Nat) :=
  let f := q.bytes.drop q.lead
  let hit := if multicast (frameDst f) then none else h.bridgeRoute (frameDst f) q.vlan
  let bridged := match hit with
    | some i => [h.bridgeDest (h.route i) q.port q.service]
    | none => h.floodDests q.port (if q.port == 6 then q.mac else q.slot) q.service q.vlan
  let units := 128 * ((q.bytes.length + 127) / 128)
  if q.port == 6 && q.service != 0 then
    match (if q.service == 6 then (ptpAt f).bind (fun o => h.ptpEntry q.mac f o) else none) with
    | some i => some (i, if bits (h.route i) 96 4 == 11 then [(portLeaf 11 6 6, q.mac)] else bridged, q.bytes.length + 4)
    | none => some (hit.getD 8182, bridged, q.bytes.length + 4)
  else if q.port < 4 then
    (h.tunnelRoute q.port q.index).map (fun i =>
      (i, if q.cls == 3 then bridged else if q.cls == 2 then q.aim else [(portLeaf (classDest q.cls) q.port q.cls, 0)], units))
  else some (if (flowTable (h.route q.entry)).isSome then q.entry else 8176 + q.port, q.aim, units)

/-- A message leaves Y14 or Y15 and is classified and metered again as on its original ingress port; a third time it is dropped (R43, R263, R278). One
whose tunnel entry is gone is lost with its tunnel (R255). What the egress adapter writes has been written, and its marks are cleared (DESIGN CHOICE, log
entry 74). -/
def Hub.recirculate (h : Hub) (port : Nat) (p : Pkt) : Hub :=
  let q : Pkt := { p with passes := p.passes + 1, marks := [], program := none }
  if 2 < q.passes then (h.add F.YARDPORT.RECIRC_DROPS p.port 1).notify 104 (p.port + 2 ^ 32)
  else match h.reclassify q with
    | none => h.add F.TUNNEL.MSG_DISCARDED (tunnelOf p.port p.slot) 1
    | some (entry, dests, count) =>
      match h.police (h.route entry) count (p.port == 6 && frameDei (q.bytes.drop q.lead)) { q with entry := entry } with
      | (h1, none) => h1
      | (h1, some m) => h1.admitMessage port m dests

/-- When a unit that is still sending can send again: time comes forward to it. -/
def Hub.whenFree (h : Hub) (port unit : Nat) : Hub :=
  match h.due T.portBusy (unitKey port unit) with
  | some t => (h.advanceTo t).disarm T.portBusy (unitKey port unit)
  | none => h

/-- A message as it leaves a port (R105–R107, R275): what the egress adapter writes is written, and mirror copies are made. EGRESS_LATENCY enters
the stamps and corrections of PTP messages alone, those of service 6 (DESIGN CHOICE, log entry 74). -/
def Hub.leaving (h : Hub) (port unit : Nat) (e : LeafPkt) : Hub × Pkt :=
  let ptpPort := if port < 4 then some port else if port == 6 then some (3 + unit) else none
  let latency := match ptpPort with
    | some i => if e.pkt.service == 6 then h.getI F.PTPPORT.EGRESS_LATENCY i * 65536 else 0
    | none => 0
  let (bytes, saturated) := h.egressAdjust latency e.pkt
  let tc := e.pkt.marks.any (fun m => match m with | .corr _ _ _ => true | _ => false)
  let h1 := match ptpPortOf e.pkt with
    | some i =>
      let g := if tc then h.add F.PTPPORT.TC_CORRECTED i 1 else h
      if saturated then (g.add F.PTPPORT.TC_SATURATED i 1).notify 230 (i + 2 ^ 32) else g
    | none => h
  let p := { e.pkt with bytes := bytes }
  (h1.mirrorLeaving port e.id p, p)

/-- One message leaves a port other than a landing's and is handed to its adapter (R290). -/
def Hub.sendOut (h : Hub) (port unit leaf : Nat) (e : LeafPkt) : Hub :=
  let x := h.leaving port unit e
  let p := x.2
  let h3 := x.1.arm T.portBusy (unitKey port unit) (x.1.sendTime port (x.1.leafMac leaf) e.slot p)
  if port == 6 then
    let mac := unit - 1
    let f := h3.macFrame mac p p.bytes
    (((h3.add F.ETHPORT.FRAMES_TX mac 1).add F.ETHPORT.OCTETS_TX mac f.length).emit .mac mac f).ptpLeaves (4 + mac) p
  else if port == 4 || port == 5 then h3.toSlot (port - 4) e.pkt.port p.bytes
  else if port == 12 then h3.mirrorFrame { e with pkt := p }
  else if port == 14 || port == 15 then h3.recirculate port p
  else h3.deliver port e.pkt.port (if e.pkt.port < 4 then e.pkt.slot else e.slot)
    (if port == 11 then leBytes 10 e.pkt.stamp ++ p.bytes else p.bytes)

/-- Selects a message of a unit of a port (R290), discarding one after the other what does not stay at the head of the leaf served (R220, R258). -/
def Hub.pick : Nat → Nat → Nat → (Hub → Nat → Bool) → Hub → Hub × Option (Nat × Nat × Bool × LeafPkt)
  | 0, _, _, _, h => (h, none)
  | n + 1, port, unit, may, h =>
    match h.selectLeaf port unit (may h) with
    | none => (h, none)
    | some (q, node, green, h1) =>
      match h1.yard.leaf q with
      | [] => (h, none)
      | e :: rest =>
        match h1.headFate q true e with
        | .stays => (h1, some (q, node, green, e))
        | f => Hub.pick n port unit may (((h.discardHead q e f).setLeaf q rest).releaseLeaf q)

/-- The messages in a port's leaves, and one more: what a selection goes through at most. -/
def Yard.portMessages (y : Yard) (port : Nat) : Nat := (y.leaves.cells.map (fun c => if c.1 / 128 == port then c.2.length else 0)).sum + 1

/-- A port other than a landing's picks a message and sends it (R290). What is too large for its gate or too late goes first. Y14 and Y15 send only what
their slice has room for (R248). -/
def Hub.portSelect (h : Hub) (port unit : Nat) : Hub :=
  let h0 := h.whenFree port unit
  if !h0.unitUp port unit then h0
  else
    let leaves := (h0.yard.leaves.cells.map (fun c => c.1)).filter (fun q => h0.leafOf port unit q)
    let h1 := leaves.foldl (fun g q => g.purgeLeaf q) h0
    let room (g : Hub) (q : Nat) : Bool := port < 14 || (match g.yard.leaf q with | e :: _ => g.sliceRoom port e.pkt | [] => false)
    match h1.pick (h1.yard.portMessages port) port unit room with
    | (h2, none) => h2.poolWatch
    | (h2, some (q, node, green, e)) => ((h2.dequeue q node green e).poolWatch).sendOut port unit q e

/-- A Timetable's next entry boundary (R300): time comes forward to it. The gates follow from network time. -/
def execTimetableEntryBoundary (port : Nat) (s : State) : Host.Outcome State Fault Refusal :=
  actIf (decide (port < 16)) s (fun h => if h.on F.TIMETABLE.ENABLE port then h.advanceNetworkBy (h.ttToEntry port) else h)

/-- A launch time is reached (R304): the head of the leaf is released, or discarded when the start is late. -/
def execLaunchTimeReached (leaf : Nat) (s : State) : Host.Outcome State Fault Refusal :=
  actIf (decide (leaf < 2048)) s (fun h =>
    match h.yard.leaf leaf with
    | [] => h
    | e :: _ =>
      match e.pkt.launch with
      | some t => if leaf / 128 == 6 then (h.advanceToNetwork t).purgeLeaf leaf else h
      | none => h)

end Sys2Proof.Machine
end

