-- ==== Sys2Proof/Machine/Keys.lean ====
section
/-! DEFINITION. Keys and sessions (R495–R514): derivation, measurement registers, the attestation statement, the AUTH
exchange as a computation, and the sealing of flits, datagrams and messages. -/

namespace Sys2Proof.Machine

/-! ### Cryptographic helpers (R8, R498, R504) -/

def digest (b : List Byte) : List Byte := beBytes 48 (Config.sha384 b).toNat
def hmac (key m : List Byte) : List Byte := beBytes 48 (Config.hmacSha384 key m).toNat
def expand (prk info : List Byte) (n : Nat) : List Byte := beBytes n (Config.hkdfExpand prk info n)

/-- The bytes of an ASCII label. -/
def ascii (s : String) : List Byte := s.toList.map (fun c => BitVec.ofNat 8 c.toNat)

/-- AES-GCM encryption and decryption: the text XOR the keystream from a position on. -/
def gcmXor (key nonce from_ : Nat) : List Byte → List Byte
  | [] => []
  | b :: t => (b ^^^ Config.gcmStream key nonce from_) :: gcmXor key nonce (from_ + 1) t

def gcmTag (key nonce : Nat) (aad text : List Byte) : List Byte := beBytes 16 (Config.gcmTag key nonce aad text).toNat

/-- The nonce of R204, R205, R507, R508: the salt XOR [95:64] kind, [63:32] epoch, [31:0] sequence. -/
def sessionNonce (salt : List Byte) (kind epoch seq : Nat) : Nat :=
  beNat salt ^^^ (kind * 2 ^ 64 + (epoch % 2 ^ 32) * 2 ^ 32 + seq % 2 ^ 32)

/-- n random bytes (R495), as free values. -/
def Hub.random (h : Hub) : Nat → Hub × List Byte
  | 0 => (h, [])
  | n + 1 => let (g, t) := h.drawn.random n; (g, leBytes 8 h.freeVal ++ t)

/-! ### Sessions (R506) -/

def Hub.session (h : Hub) (k : Nat) : Session := h.sessions.read (fun _ => {}) k
def Hub.setSession (h : Hub) (k : Nat) (v : Session) : Hub := { h with sessions := h.sessions.write (fun _ => {}) k v }
def Hub.exchange (h : Hub) (k : Nat) : Exchange := h.exchanges.read (fun _ => {}) k
def Hub.setExchange (h : Hub) (k : Nat) (v : Exchange) : Hub := { h with exchanges := h.exchanges.write (fun _ => {}) k v }

/-- The AES key of a direction's traffic secret. -/
def secretKey (ts : List Byte) : Nat := beNat (expand ts (ascii "key") 32)

/-- The secret of the next key epoch. -/
def nextSecret (ts : List Byte) : List Byte := expand ts (ascii "next") 48

/-! ### Derivation (R496–R500) -/

/-- Measurement register Mr. -/
def Hub.measure (h : Hub) (r : Nat) : List Byte :=
  ((List.range 6).map (fun k => leBytes 8 (h.get F.KEYSLOT.MEASURE 0 (6 * r + k)))).flatten

/-- Extends Mr with d: M = SHA-384(M ‖ d), and its count saturates. -/
def Hub.extend (h : Hub) (r : Nat) (d : List Byte) : Hub :=
  let m := digest (h.measure r ++ d)
  let h1 := (List.range 6).foldl (fun g k => g.set F.KEYSLOT.MEASURE 0 (leAt m (8 * k) 8) (6 * r + k)) h
  h1.set F.KEYSLOT.EXTEND_COUNT 0 (satAdd 65535 (h.get F.KEYSLOT.EXTEND_COUNT 0 r) 1) r

/-- The root PRK: HKDF-Extract salted by the life-cycle state. -/
def Hub.rootPrk (h : Hub) : List Byte :=
  hmac (digest (ascii "BJ4800 lc" ++ leBytes 1 (h.get F.KEYSLOT.LC_STATE 0))) h.rootSecret

/-- The order of P-384. -/
def p384Order : Nat :=
  0xffffffffffffffffffffffffffffffffffffffffffffffffc7634d81f4372ddf581a0db248b0a77aecec196accc52973

/-- A private scalar (R499): expansion is repeated with one byte 0x01, 0x02, … until it is valid. -/
def scalarFrom (prk info : List Byte) : Nat → Nat → Nat
  | 0, _ => 1
  | fuel + 1, k =>
    let d := beNat (expand prk (if k == 0 then info else info ++ leBytes 1 k) 48)
    if d == 0 || p384Order ≤ d then scalarFrom prk info fuel (k + 1) else d

def Hub.identityScalar (h : Hub) : Nat := scalarFrom h.rootPrk (ascii "identity" ++ h.measure 0) 256 0
def Hub.attestScalar (h : Hub) : Nat :=
  scalarFrom h.rootPrk (ascii "attest" ++ ((List.range 8).map h.measure).flatten) 256 0

/-- A public key as 97 uncompressed bytes. -/
def publicBytes (scalar : Nat) : List Byte := 4 :: beBytes 96 (Config.p384Public scalar).toNat

/-- The owner identity of a context (R498). -/
def Hub.ownerIdentity (h : Hub) (n : Nat) : List Byte :=
  if n == 4 then digest (ascii "local") else digest (h.leafKeys.read (fun _ => []) n)

/-- The info string of a general slot's key. -/
def Hub.slotInfo (h : Hub) (k : Nat) : List Byte :=
  ascii "slot" ++ leBytes 1 k ++ leBytes 1 (h.get F.KEYSLOT.KIND k) ++ h.ownerIdentity (h.get F.KEYSLOT.OWNER k) ++
    leBytes 8 (h.get F.KEYSLOT.LABEL k) ++
    ((List.range 8).map (fun r => if bitB (h.get F.KEYSLOT.BIND k) r then h.measure r else [])).flatten

def Hub.slotKey (h : Hub) (k : Nat) : List Byte := expand h.rootPrk (h.slotInfo k) 48
def Hub.slotScalar (h : Hub) (k : Nat) : Nat := scalarFrom h.rootPrk (h.slotInfo k) 256 0

/-- Writes an array field of 64-bit elements from bytes (R8, R513). -/
def Hub.setBytes (h : Hub) (f : Fld) (i : Nat) (n : Nat) (bs : List Byte) : Hub :=
  (List.range n).foldl (fun g k => g.set f i (leAt bs (8 * k) 8) k) h

def Hub.getBytes (h : Hub) (f : Fld) (i n : Nat) : List Byte :=
  ((List.range n).map (fun k => leBytes 8 (h.get f i k))).flatten

/-- PUBLIC of the device's own slots follows its keys (R502, R514, R522). -/
def Hub.syncPublic (h : Hub) : Hub :=
  if h.on F.KEYSLOT.KEYS_READY 0 then
    let put (g : Hub) (k s : Nat) : Hub := g.setBytes F.KEYSLOT.PUBLIC k 12 (beBytes 96 (Config.p384Public s).toNat)
    let h1 := put (put h 0 h.identityScalar) 1 h.attestScalar
    (List.range 24).foldl (fun g i =>
      if g.get F.KEYSLOT.KIND (8 + i) == 6 then put g (8 + i) (g.slotScalar (8 + i)) else g) h1
  else h

/-- The identity key signs an alias certificate for the attestation key in force (R502), which its slot counts (R522). -/
def Hub.aliasIssued (h : Hub) : Hub := if h.on F.KEYSLOT.KEYS_READY 0 then h.add F.KEYSLOT.OPS 0 1 else h

/-- The attestation key signs a statement. -/
def Hub.statementSigned (h : Hub) : Hub := if h.on F.KEYSLOT.KEYS_READY 0 then h.add F.KEYSLOT.OPS 1 1 else h

/-- A session's directions enter n key epochs, which its slot counts (log entry 91): KS3…KS6 of the landings' pairs, KS2 of the management session. -/
def Hub.epochsEntered (h : Hub) (k n : Nat) : Hub := if k < 4 then h.add F.KEYSLOT.OPS (3 + k) n else if k == 8 then h.add F.KEYSLOT.OPS 2 n else h

/-- An extension after start-up (R496, R514): NT_MEASURE_EXTENDED, keys derived again, and NT_KEYSLOT_REBOUND to the owners
of slots bound to the register. cause is 1 activation or 2 EXTEND. -/
def Hub.extendNow (h : Hub) (r cause : Nat) (d : List Byte) : Hub :=
  let h1 := h.extend r d
  let h2 := (h1.notify 468 (r + cause * 256 + h1.get F.KEYSLOT.EXTEND_COUNT 0 r * 65536)).syncPublic.aliasIssued
  (List.range 24).foldl (fun g i =>
    let k := 8 + i
    if g.get F.KEYSLOT.KIND k != 0 && bitB (g.get F.KEYSLOT.BIND k) r then g.raise 470 (k + r * 256) (ctxCode (g.get F.KEYSLOT.OWNER k)) else g) h2

/-! ### Attestation (R502, R509, R510) -/

/-- The device's chain: a 16-bit length, then each certificate behind its 16-bit length; empty without keys. -/
def Hub.deviceChain (h : Hub) : List Byte :=
  if h.on F.KEYSLOT.KEYS_READY 0 && h.get F.KEYSLOT.LC_STATE 0 != 0 then
    let c := ((Config.deviceChain h.attestScalar h.transitions).map (fun x => leBytes 2 x.length ++ x)).flatten
    leBytes 2 c.length ++ c
  else leBytes 2 0

/-- The statement of R510 over a caller nonce; empty without keys. -/
def Hub.statement (h : Hub) (nonce : List Byte) : List Byte :=
  if h.on F.KEYSLOT.KEYS_READY 0 then
    let flags := h.get F.KEYSLOT.TAMPER_LATCH 0 + 2 * ofB (!h.on F.CLOCK.EVER_LOCKED 0) +
      4 * ofB (40 ≤ h.get F.KEYSLOT.ROOT_MARGIN 0)
    let body := leBytes 2 1 ++ leBytes 1 (h.get F.KEYSLOT.LC_STATE 0) ++ leBytes 1 flags ++ leBytes 1 2 ++ leBytes 3 0 ++
      h.getBytes F.KEYSLOT.DEVICE_ID 0 2 ++ nonce.take 32 ++ ((List.range 8).map h.measure).flatten ++
      ((List.range 8).map (fun r => leBytes 2 (h.get F.KEYSLOT.EXTEND_COUNT 0 r))).flatten ++
      ((List.range 5).map (fun p => leBytes 4 (h.get F.UPDATE.RUNNING_VERSION p))).flatten ++ leBytes 6 h.now48 ++ leBytes 2 0
    body ++ beBytes 96 (Config.ecdsaSign h.attestScalar (digest body)).toNat
  else []

/-! ### Host chains (R503) -/

/-- Splits the certificates behind their 16-bit lengths; none when a length runs past the end. -/
def splitChain : Nat → List Byte → Option (List (List Byte))
  | 0, _ => none
  | _ + 1, [] => some []
  | fuel + 1, bs =>
    let n := leAt bs 0 2
    if bs.length < 2 + n || n == 0 then none
    else (splitChain fuel (bs.drop (2 + n))).map (fun t => bs.drop 2 |>.take n |> (· :: t))

/-- Whether each certificate is signed by the next. -/
def chainSigned : List (List Byte) → Bool
  | a :: b :: t => Config.certSigned a (Config.certificate b).key && chainSigned (b :: t)
  | _ => true

/-- The anchors that sign a certificate. -/
def Hub.anchorsOf (h : Hub) (cert : List Byte) : List Nat :=
  ((List.range 24).map (fun i => 8 + i)).filter (fun k =>
    h.get F.KEYSLOT.KIND k == 4 && Config.certSigned cert (4 :: h.getBytes F.KEYSLOT.PUBLIC k 12))

/-- A host chain's refusal cause and certificate index, none when it is accepted (R503). who is the landing, 4 for the
management session. -/
def Hub.chainFault (h : Hub) (who : Nat) (certs : List (List Byte)) : Option (Nat × Nat) :=
  let idx (p : Nat → List Byte → Bool) : Option Nat := (certs.zipIdx.find? (fun c => p c.2 c.1)).map (fun c => c.2)
  let last := certs.length - 1
  let anchors := h.anchorsOf (certs.getLastD [])
  let secs := h.networkInt / (sec : Int)
  if 4 < certs.length || certs.any (fun c => 2048 < c.length) then some (6, ((idx (fun i c => 3 < i || 2048 < c.length)).getD 0))
  else if anchors.isEmpty then some (1, last)
  else if !anchors.any (fun k => bitB (h.get F.KEYSLOT.SCOPE k) who) then some (7, last)
  else if !chainSigned certs then some (2, 0)
  else match idx (fun _ c => !(Config.certificate c).curve || (Config.certificate c).critical) with
    | some i => some (5, i)
    | none =>
      match idx (fun i c =>
        let v := Config.certificate c
        if i == 0 then !v.signs else !v.ca || (match v.pathLen with | some n => decide (n < i - 1) | none => false)) with
      | some i => some (4, i)
      | none =>
        if h.on F.CLOCK.EVER_LOCKED 0 then
          (idx (fun _ c => secs < (Config.certificate c).notBefore || (Config.certificate c).notAfter < secs)).map (fun i => (3, i))
        else none

/-! ### The AUTH exchange (R202, R203, R504, R505). k is 0…3 a landing's pairs, 4…7 its legacy interface, 8 management. -/

/-- The landing of an exchange, 4 for management. -/
def exchangeWho (k : Nat) : Nat := if k == 8 then 4 else k % 4

/-- NT_LDL_AUTH_FAILED of a landing's exchange; the management exchange has no landing to raise it. -/
def Hub.authFailed (h : Hub) (k reason : Nat) : Hub :=
  if k == 8 then h else h.notify (nLanding (k % 4) 6) (reason + ofB (4 ≤ k) * 256)

/-- A refusal or abort: the exchange is over, and the host may try again after 1 s. -/
def Hub.endExchange (h : Hub) (k : Nat) : Hub :=
  let x := h.exchange k
  h.setExchange k { inits := x.inits, limited := x.limited, notBefore := h.now + sec }

/-- AUTH messages to send: type and content. -/
abbrev AuthOut := List (Nat × List Byte)

/-- Takes an AUTH_INIT (R203, R504): AUTH_REPLY answers it, whatever its chain is. -/
def Hub.authInit (h : Hub) (k : Nat) (msg : List Byte) : Hub × AuthOut :=
  let x := h.exchange k
  let recent := x.inits.filter (fun t => h.now < t + 60 * sec)
  if x.limited then (h, [])
  else if 8 ≤ recent.length then ((h.setExchange k { x with limited := true, inits := recent ++ [h.now] }).authFailed k 4, [])
  else
    let h0 := h.setExchange k { x with inits := recent ++ [h.now] }
    if h.now < x.notBefore then (h0, [])
    else if h.rngFault then ((h0.endExchange k).authFailed k 7, [(5, leBytes 1 7)])
    else
      let key := (msg.drop 32).take 97
      if msg.length < 129 || !Config.p384Valid key then ((h0.endExchange k).authFailed k 2, [(5, leBytes 1 2)])
      else
        let certs := splitChain 9 (msg.drop 129)
        let leaf := match certs with | some (c :: _) => (Config.certificate c).key | _ => []
        let (h1, nonce) := h0.random 4
        let (h2, sc) := h1.random 6
        let scalar := beNat sc
        let pub := publicBytes scalar
        let st := h2.statement ((digest (msg.take 32 ++ key ++ pub)).take 32)
        let reply := nonce ++ pub ++ st ++ h2.deviceChain
        let y := h2.exchange k
        (h2.statementSigned.setExchange k { inits := y.inits, init := msg, reply := reply, scalar := scalar, hostKey := key, leafKey := leaf, empty := certs == some [], phase := 1 }, [(2, reply)])

/-- Why the chain of an AUTH_INIT is refused, as NT_LDL_AUTH_FAILED and NT_CERT_REFUSED say: an empty one where no guest is admitted, another
by R503 (R203). -/
def Hub.chainVerdict (h : Hub) (k : Nat) (msg : List Byte) : Option (Nat × Option (Nat × Nat)) :=
  match splitChain 9 (msg.drop 129) with
  | some [] => if k != 8 && h.on F.CLASSBUDGET.GUEST_ALLOW (8 * exchangeWho k) then none else some (9, none)
  | some cs => (h.chainFault (exchangeWho k) cs).map (fun c => (1, some c))
  | none => some (1, some (2, 0))

/-- The PRK of an exchange. -/
def Exchange.prk (x : Exchange) : List Byte :=
  hmac (digest (x.init ++ x.reply)) (beBytes 48 (Config.ecdh x.scalar x.hostKey).toNat)

/-- The content of AUTH_DONE with a status, after an AUTH_PROOF: the device finished value covers both (R202, R505). -/
def Exchange.doneWith (x : Exchange) (proof : List Byte) (status : Nat) : List Byte :=
  leBytes 1 status ++ hmac (expand x.prk (ascii "dock fin") 48) (digest (x.init ++ x.reply ++ proof ++ leBytes 1 status))

/-- Takes an AUTH_PROOF (R203, R503, R505): the flag tells success. -/
def Hub.authProof (h : Hub) (k : Nat) (msg : List Byte) : Hub × AuthOut × Bool :=
  let x := h.exchange k
  if x.phase != 1 then (h, [], false)
  else
    let refuse (g : Hub) (reason : Nat) : Hub × AuthOut × Bool := (g.authFailed k reason, [(4, x.doneWith msg 2)], false)
    match h.chainVerdict k x.init with
    | some (reason, some (cause, i)) => refuse ((h.endExchange k).notify 471 (exchangeWho k + cause * 256 + i * 65536)) reason
    | some (reason, none) => refuse (h.endExchange k) reason
    | none =>
      let sig := msg.take 96
      let th := digest (x.init ++ x.reply)
      let fin := hmac (expand x.prk (ascii "host fin") 48) (digest (x.init ++ x.reply ++ sig))
      let sigOk := if x.empty then sig == List.replicate 96 0 else Config.ecdsaVerify x.leafKey th sig
      if msg.length == 144 && sigOk && msg.drop 96 == fin then
        let done := x.doneWith msg (ofB x.empty)
        (h.setExchange k { x with proof := msg, done := done, phase := 2 }, [(4, done)], true)
      else refuse (h.endExchange k) 2

/-- The session an exchange leaves once AUTH_DONE is sent (R506, R508). -/
def Exchange.session (x : Exchange) (legacy : Bool) (now : Nat) : Session :=
  let prk := x.prk
  let th3 := digest (x.init ++ x.reply ++ x.proof ++ x.done)
  let tsIn := expand prk (ascii (if legacy then "h2d lg" else "h2d ts") ++ th3) 48
  let tsOut := expand prk (ascii (if legacy then "d2h lg" else "d2h ts") ++ th3) 48
  { up := true, guest := x.empty, secretIn := tsIn, secretOut := tsOut, saltIn := expand tsIn (ascii "salt") 12,
    saltOut := expand tsOut (ascii "salt") 12, lastHeard := now }

/-- The host's AUTH_GO: the session is up (R204, R508). -/
def Hub.authGo (h : Hub) (k : Nat) : Hub × Bool :=
  let x := h.exchange k
  if x.phase == 2 then ((h.setExchange k { x with phase := 3 }).setSession k (x.session (4 ≤ k && k < 8) h.now) |>.epochsEntered k 2, true) else (h, false)

/-- A legacy interface's session ends (R508). -/
def Hub.endLegacySession (h : Hub) (l : Nat) : Hub :=
  { (h.setSession (4 + l) {}) with opened := h.opened.write (fun _ => []) (4 + l) [] }

end Sys2Proof.Machine
end

