-- ==== Sys2Proof/Machine/Feed.lean ====
section
/-! DEFINITION. The feed die (R469–R484): feeds, breakers, power-good, retries, energy, and the charging contracts. -/

namespace Sys2Proof.Machine

def Hub.feed (h : Hub) (n : Nat) : FeedState := h.feeds.read (fun _ => {}) n
def Hub.modFeed (h : Hub) (n : Nat) (f : FeedState → FeedState) : Hub :=
  { h with feeds := h.feeds.write (fun _ => {}) n (f (h.feed n)) }
def Hub.contract (h : Hub) (l : Nat) : Contract := h.contracts.read (fun _ => {}) l
def Hub.modContract (h : Hub) (l : Nat) (f : Contract → Contract) : Hub :=
  { h with contracts := h.contracts.write (fun _ => {}) l (f (h.contract l)) }

/-! ### The feed die's time (R24) -/

/-- The feed die's time in ns. It runs on while the main die is down, and with the local counter while it runs. -/
def Hub.feedNow (h : Hub) : Nat := h.feedTime + h.now

/-- Whether the feed die is powered: in Deep Standby it is not (R22). -/
def Hub.feedPowered (h : Hub) : Bool := h.island.step != 0 || h.island.retrying || h.island.barred || h.island.feedsOn

/-- Whether power-manager firmware is being replaced (R480): measurement, retries and contract frames wait. -/
def Hub.pmfPaused (h : Hub) : Bool :=
  h.mainUp && h.get F.SYSTEM.START_STATE 0 == 3 && (match h.activation with | some a => a.order.head?.map (fun o => o.1) == some 3 | none => false)

/-- Time on the feed die brought forward to a moment of its own, local time with it while the main die runs. -/
def Hub.feedAdvance (h : Hub) (t : Nat) : Hub :=
  if h.mainUp then h.advanceTo (h.now + (t - h.feedNow)) else { h with feedTime := max h.feedTime (t - h.now) }

/-- When a timer of the feed die falls due in its time; none when it does not run. -/
def Hub.feedDue (h : Hub) (kind inst : Nat) : Option Nat :=
  match h.feedTimers.read (fun _ => 0) (timerKey kind inst) with
  | 0 => none
  | t + 1 => some t

def Hub.feedArm (h : Hub) (kind inst delay : Nat) : Hub :=
  { h with feedTimers := h.feedTimers.write (fun _ => 0) (timerKey kind inst) (h.feedNow + delay + 1) }

def Hub.feedDisarm (h : Hub) (kind inst : Nat) : Hub :=
  { h with feedTimers := h.feedTimers.write (fun _ => 0) (timerKey kind inst) 0 }

/-- The hub when a timer of the feed die has run out. -/
def Hub.feedExpired (h : Hub) (kind inst t : Nat) : Hub := (h.feedAdvance t).feedDisarm kind inst

/-- The expiry of a timer of the feed die; one that does not run has none (log entry 3). -/
def Hub.feedExpire (h : Hub) (kind inst : Nat) (f : Hub → Hub) : Hub :=
  match h.feedDue kind inst with
  | none => h
  | some t => f (h.feedExpired kind inst t)

/-! ### Figures of a feed (R469, R574) -/

/-- Element i of the F15 record in use. -/
def Hub.f15At (h : Hub) (i : Nat) : Nat := h.f15.getD i 0

/-- Nominal output in mV. -/
def Hub.nominal (h : Hub) (n : Nat) : Nat :=
  if n < 4 then 48000 else if n < 12 then 5000 else if n < 15 then 12000 else h.f15At 0

def Hub.fastTrip (h : Hub) (n : Nat) : Nat := if n == 15 then h.f15At 2 else h.get F.FEED.FAST_TRIP n
def Hub.rampTime (h : Hub) (n : Nat) : Nat := if n == 15 then h.f15At 3 else h.get F.FEED.RAMP_TIME n
def Hub.pgWindow (h : Hub) (n : Nat) : Nat := if n == 15 then h.f15At 4 else h.get F.FEED.PG_WINDOW n
def Hub.curveI (h : Hub) (n k : Nat) : Nat := if n == 15 then h.f15At (8 + k) else h.get F.FEED.CURVE_I n k
def Hub.curveT (h : Hub) (n k : Nat) : Nat := if n == 15 then h.f15At (16 + k) else h.get F.FEED.CURVE_T n k

/-- A current or voltage in a notice, saturating at 65,535. -/
def sat16 (n : Nat) : Nat := min n 65535

/-! ### States, trips and retries (R470, R473, R477) -/

/-- A STATE change, with NT_FEED_STATE except into RETRY_WAIT, LATCHED and FET_DAMAGED (R487). -/
def Hub.feedState (h : Hub) (n new : Nat) : Hub :=
  let old := h.get F.FEED.STATE n
  let r := h.feed n
  let h1 := h.set F.FEED.STATE n new
  if old == new || 4 ≤ new then h1
  else h1.notify (400 + 4 * n) (new + old * 16 + sat16 r.amps.natAbs * 2 ^ 16 + sat16 r.volts * 2 ^ 32)

/-- The lowest breaker point running. -/
def Hub.lowestPoint (h : Hub) (n : Nat) : Nat :=
  (firstWhere 8 (fun k => 0 < (h.feed n).breaker.read (fun _ => 0) k)).getD 0

/-- NT_FEED_FAULT (R487). That of F15 is recorded for the next start (R477, R579). -/
def Hub.feedFault (h : Hub) (n cause point : Nat) : Hub :=
  let r := h.feed n
  let p := cause + point * 256 + sat16 r.amps.natAbs * 2 ^ 16 + sat16 r.volts * 2 ^ 32 + sat16 ((h.feedNow - r.enabledAt) / 100000) * 2 ^ 48
  if n == 15 then { h with island := { h.island with f15 := p + 1 } } else h.notify (401 + 4 * n) p

/-- A trip (R477): the gate is down, the off-time runs or the feed latches. F4…F11 always latch, and F15 goes off. -/
def Hub.tripFeed (h : Hub) (n cause point onTime : Nat) : Hub :=
  let h1 := ((h.add F.FEED.TRIPS n 1).set F.FEED.LAST_TRIP n (cause + point * 256)).feedFault n cause point
  let r := h1.feed n
  let count := h1.get F.FEED.RETRY_COUNT n
  let h2 := h1.modFeed n (fun f => { f with breaker := {}, reverse := 0, pgCount := 0, badCount := 0, overCount := 0, tripped := true, goodSince := 0, powers := [] })
  if n == 15 then h2.feedState n 0
  else if 4 ≤ n && n < 12 then h2.feedState n 5
  else if count != 255 && count ≤ r.retries then (h2.feedState n 5).feedFault n 10 point
  else
    (h2.feedState n 4).modFeed n (fun f => { f with
      retries := f.retries + 1, retryAt := h.feedNow + max (h.get F.FEED.RETRY_OFF n * msec) (100 * onTime) + 1 })

/-- The time a feed has been on, in ns. -/
def Hub.onTime (h : Hub) (n : Nat) : Nat := h.feedNow - (h.feed n).enabledAt

/-- A feed's request changes, or its ALLOW (R470): when either is 0 the gate is discharged and STATE becomes OFF, but for a
damaged FET. -/
def Hub.gateFeed (h : Hub) (n : Nat) : Hub :=
  if h.on F.FEED.REQUEST n && h.on F.FEED.ALLOW n then h
  else if h.get F.FEED.STATE n == 6 || h.get F.FEED.STATE n == 0 then h
  else (h.feedState n 0).modFeed n (fun f => { f with breaker := {}, retries := 0, retryAt := 0, goodSince := 0, pgCount := 0, badCount := 0, powers := [] })

def Hub.requestFeed (h : Hub) (n : Nat) (want : Bool) : Hub := (h.set F.FEED.REQUEST n (ofB want)).gateFeed n

/-- Enabling (R471): a back-fed output trips at once, otherwise the ramp begins. -/
def Hub.enableFeed (h0 : Hub) (n : Nat) : Hub :=
  let h := if n == 15 && !h0.f15Next.isEmpty then { h0 with f15 := h0.f15Next, f15Next := [] } else h0
  let h1 := h.modFeed n (fun f => { f with
    enabledAt := h.feedNow, breaker := {}, reverse := 0, pgCount := 0, badCount := 0, overCount := 0, withheld := false,
    checked := false, tripped := false, ramp := h.rampTime n, peak := 0, retryAt := 0, goodSince := 0, powers := [] })
  if h.nominal n < 10 * (h.feed n).volts then h1.tripFeed n 7 0 0 else h1.feedState n 1

/-! ### One evaluation of one feed (R472) -/

/-- Step 1: the samples, and energy without the negative power of reverse current (R478). -/
def Hub.sampleFeed (h : Hub) (n : Nat) (amps : Int) (volts gate : Nat) : Hub :=
  let uw : Int := amps * volts
  let on_ := h.get F.FEED.STATE n != 0 && h.get F.FEED.STATE n < 4
  let r := h.feed n
  let gain := if 0 < amps then amps.toNat * volts + r.remainder else r.remainder
  (h.add F.FEED.ENERGY n (gain / 10000)).modFeed n (fun f => { f with
    amps := amps, volts := volts, gate := gate, remainder := gain % 10000, samples := f.samples + 1, peak := max f.peak amps.toNat,
    powers := if n < 4 && on_ then (f.powers ++ [uw]).drop (f.powers.length + 1 - 10000) else f.powers })

/-- Step 2: each used point's timer advances or clears; the first that reaches its time trips (R474). -/
def Hub.advanceBreaker (h : Hub) (n : Nat) : Hub × Option Nat :=
  let r := h.feed n
  let next (k : Nat) : Nat :=
    if h.curveT n k == 0 then 0 else if (h.curveI n k : Int) < r.amps then r.breaker.read (fun _ => 0) k + 1 else 0
  let t := (List.range 8).foldl (fun (t : Table Nat) k => t.write (fun _ => 0) k (next k)) {}
  (h.modFeed n (fun f => { f with breaker := t }), firstWhere 8 (fun k => h.curveT n k != 0 && h.curveT n k ≤ next k))

def Hub.breakerIdle (h : Hub) (n : Nat) : Bool := (h.feed n).breaker.cells.isEmpty

/-- Step 7: power-good (R475). -/
def Hub.powerGood (h : Hub) (n : Nat) : Hub :=
  let r := h.feed n
  let st := h.get F.FEED.STATE n
  let nom := h.nominal n
  let w := nom * h.pgWindow n
  let inWin := nom * 100 ≤ r.volts * 100 + w && r.volts * 100 ≤ nom * 100 + w
  if st == 2 then
    let k := if inWin then r.pgCount + 1 else 0
    if k < 10 then h.modFeed n (fun f => { f with pgCount := k })
    else if h.breakerIdle n then
      (h.feedState n 3).modFeed n (fun f => { f with pgCount := 0, badCount := 0, goodSince := h.feedNow + 1 })
    else
      let h1 := (h.add F.FEED.PG_WITHHELD n 1).modFeed n (fun f => { f with pgCount := 0, withheld := true })
      if r.withheld then h1 else h1.feedFault n 5 (h1.lowestPoint n)
  else if st == 3 then
    if inWin then h.modFeed n (fun f => { f with badCount := 0 })
    else if r.badCount + 1 < 10 then h.modFeed n (fun f => { f with badCount := r.badCount + 1 })
    else h.tripFeed n 9 0 (h.onTime n)
  else h

/-- Step 6 and 7: the gate check in the first evaluation at or after 4 ms (R476), then power-good. -/
def Hub.gateCheck (h : Hub) (n : Nat) : Hub :=
  let r := h.feed n
  if !r.checked && 4000000 ≤ h.onTime n then
    if r.gate < 8000 then ((h.feedFault n 4 0).feedState n 6).modFeed n (fun f => { f with breaker := {}, goodSince := 0 })
    else (h.modFeed n (fun f => { f with checked := true })).powerGood n
  else h.powerGood n

/-- Step 5: the ramp is done at the first evaluation with VGS at least 8,000 mV after RAMP_TIME (R471); the debounce of power-good counts from the
next evaluation on (R475). -/
def Hub.rampCheck (h : Hub) (n : Nat) : Hub :=
  let r := h.feed n
  if h.get F.FEED.STATE n == 1 && r.ramp * usec ≤ h.onTime n && 8000 ≤ r.gate then
    (h.feedState n 2).modFeed n (fun f => { f with checked := f.checked || decide (4000000 ≤ h.onTime n) })
  else h.gateCheck n

/-- Step 4: a mean power over the last full second beyond 1.1 of the grant in 20 evaluations trips (R483). The limit in
force is the landing's allotment. -/
def Hub.overdrawCheck (h : Hub) (n : Nat) : Hub :=
  let r := h.feed n
  if n < 4 && r.powers.length == 10000 && ((h.contract n).allotted * 110000 * 10000 : Nat) < r.powers.sum then
    if r.overCount + 1 < 20 then (h.modFeed n (fun f => { f with overCount := r.overCount + 1 })).rampCheck n
    else h.tripFeed n 6 0 (h.onTime n)
  else (h.modFeed n (fun f => { f with overCount := 0 })).rampCheck n

/-- Step 3: reverse current in 10 consecutive evaluations trips. -/
def Hub.reverseCheck (h : Hub) (n : Nat) : Hub :=
  let r := h.feed n
  let lim : Int := if 4 ≤ n && n < 12 then -100 else -500
  if r.amps < lim then
    if r.reverse + 1 < 10 then (h.modFeed n (fun f => { f with reverse := r.reverse + 1 })).overdrawCheck n
    else h.tripFeed n 8 0 (h.onTime n)
  else (h.modFeed n (fun f => { f with reverse := 0 })).overdrawCheck n

/-- An evaluation of a feed: enabling when it is due, or the seven steps. A trip ends it. -/
def Hub.evaluateFeed (h : Hub) (n : Nat) (amps : Int) (volts gate : Nat) : Hub :=
  let h1 := h.sampleFeed n amps volts gate
  let st := h1.get F.FEED.STATE n
  if st == 0 && h1.on F.FEED.REQUEST n && h1.on F.FEED.ALLOW n then h1.enableFeed n
  else if st == 0 || 4 ≤ st then h1
  else
    match h1.advanceBreaker n with
    | (h2, some k) => h2.tripFeed n 1 k (h2.onTime n)
    | (h2, none) => h2.reverseCheck n

/-- The feed die's next evaluation instant, 100 µs on; local time with it while the main die runs. -/
def Hub.feedInstant (h : Hub) : Hub :=
  h.feedAdvance (h.feedNow + 100000)

/-- The fast comparator (R473): armed while the gate is up. -/
def Hub.fastTripNow (h : Hub) (n : Nat) (amps : Int) : Hub :=
  let st := h.get F.FEED.STATE n
  if (st == 1 || st == 2 || st == 3) && (h.fastTrip n : Int) ≤ amps then
    (h.modFeed n (fun f => { f with amps := amps, peak := max f.peak amps.toNat })).tripFeed n (if st == 1 then 3 else 2) 0 (h.onTime n)
  else h

/-- The off-time ends: the feed enables again (R477), but not in a pause of power-manager firmware (R480). -/
def Hub.feedRetry (h : Hub) (n : Nat) : Hub :=
  let r := h.feed n
  if h.pmfPaused then h
  else if h.get F.FEED.STATE n == 4 && r.retryAt != 0 then
    let h1 := (h.feedAdvance (r.retryAt - 1)).add F.FEED.RETRIES n 1
    h1.enableFeed n
  else h

/-- Power-good has held for 60 s: the retry count starts again. -/
def Hub.feedRetryReset (h : Hub) (n : Nat) : Hub :=
  let r := h.feed n
  if h.get F.FEED.STATE n == 3 && r.goodSince != 0 then
    (h.feedAdvance (r.goodSince - 1 + 60 * sec)).modFeed n (fun f => { f with retries := 0 })
  else h

/-- The measurement record of a feed (R478). -/
def Hub.measureFeed (h : Hub) (n : Nat) : Hub :=
  let r := h.feed n
  let mw : Int := r.amps * r.volts / 1000
  (((((h.setI F.FEED.I_NOW n (clampInt (-100000) 100000 r.amps)).set F.FEED.V_NOW n (sat16 r.volts)).set F.FEED.VGS_NOW n (min r.gate 15000)).setI
    F.FEED.P_NOW n (clampInt (-7000000) 7000000 mw)).set F.FEED.I_PEAK n (min r.peak 100000))

/-! ### Charging contracts (R481–R484) -/

/-- The sum of allotments of the landings but one (4: of all). -/
def Hub.allottedBut (h : Hub) (l : Nat) : Nat :=
  (((List.range 4).filter (fun m => m != l)).map (fun m => (h.contract m).allotted)).sum

/-- ALLOTTED and each GRANT follow the contracts. -/
def Hub.syncAllotted (h : Hub) : Hub := h.set F.FEED.ALLOTTED 0 (h.allottedBut 4)

/-- The grant of R482 for a request, with the reason of POWER_GRANT (R481). -/
def Hub.grantFor (h : Hub) (l request least : Nat) : Nat × Nat :=
  let free := h.get F.FEED.CHARGE_BUDGET 0 - h.allottedBut l
  let hostMax := h.get F.FEED.HOST_MAX l
  let g := min request (min hostMax (min 2400 free))
  if g < least then (0, 3)
  else if g == request then (g, 0)
  else if g == free then (g, 1)
  else (g, 2)

/-- A grant takes effect: allotment, GRANT, NT_FEED_CONTRACT, and the feed's request while the landing is past HELLO. -/
def Hub.putGrant (h : Hub) (l grant reason number : Nat) (powered : Bool) : Hub :=
  let old := h.get F.FEED.GRANT l
  let h1 := ((h.modContract l (fun c => { c with allotted := grant, reduceTo := 0 })).set F.FEED.GRANT l grant).syncAllotted
  let h2 := if old == grant then h1
    else h1.notify (402 + 4 * l) (grant + (h1.contract l).request * 2 ^ 16 + reason * 2 ^ 32 + number * 2 ^ 40)
  h2.requestFeed l (powered && 0 < grant)

/-- A sideband frame as sent (R171). -/
def crc16Bit (c : Nat) : Nat := if 32768 ≤ c then (c * 2 % 65536) ^^^ 0x1021 else c * 2
def crc16Byte (c : Nat) (b : Byte) : Nat :=
  crc16Bit (crc16Bit (crc16Bit (crc16Bit (crc16Bit (crc16Bit (crc16Bit (crc16Bit (c ^^^ (b.toNat * 256)))))))))
def crc16 (bs : List Byte) : Nat := bs.foldl crc16Byte 0xFFFF
def sidebandFrame (type : Nat) (body : List Byte) : List Byte :=
  let m := leBytes 1 type ++ leBytes 1 body.length ++ body
  leBytes 1 0xA5 ++ m ++ leBytes 2 (crc16 m)

/-- A device frame on the sideband is a poll (R170–R172): the one before, if still unanswered, counts as missed and breaks a run of PONGs; the
next is due 20 ms on in DETECT and 2 ms on elsewhere. A reply may start until 70 µs after the frame's last stop bit, each byte taking 10 µs. -/
def Hub.sideband (h : Hub) (l type : Nat) (body : List Byte) : Hub :=
  let frame := sidebandFrame type body
  ((h.modLink l (fun k =>
    { k with missed := if k.answered then k.missed else k.missed + 1, pongs := if k.answered then k.pongs else 0, answered := false,
             windowEnd := h.feedNow + 10 * usec * frame.length + 70 * usec })).emit .sideband l frame).feedArm
    T.sbPoll l (if h.get F.LANDING.STATE l == 0 then 20 * msec else 2 * msec)

/-- A host's frame in a reply window (R170–R172): a valid one counts as the reply, and takes effect. Outside a window it is ignored, and one with
a bad length is discarded and counted in NT_LDL_SIDEBAND_ERROR. -/
def Hub.hostFrame (h : Hub) (l : Nat) (goodLength : Bool) (f : Hub → Hub) : Hub :=
  let k := h.link l
  if !h.feedPowered || k.answered || k.windowEnd < h.feedNow then h
  else if !goodLength then h.notify (nLanding l 20) 1
  else f (h.modLink l (fun k => { k with answered := true, missed := 0 }))

/-- Sends POWER_GRANT with the next contract number. -/
def Hub.sendGrant (h : Hub) (l grant reason : Nat) : Hub :=
  let n := (h.contract l).next
  (h.modContract l (fun c => { c with next := (c.next + 1) % 256 })).sideband l 0x11 (leBytes 2 grant ++ leBytes 1 reason ++ leBytes 1 n)

/-- Whether a landing's feed may be requested: past HELLO with a LINK_SELECT of STATUS 0x00 or 0x06. The feed die knows it with the main die
down as well (R21). -/
def Hub.chargeable (h : Hub) (l : Nat) : Bool := (h.contract l).past

/-- Offers freed budget: to each landing below its request, in descending HOST_PRIORITY, then ascending number (R482). -/
def Hub.offerMore (h : Hub) : Hub :=
  let order := ((List.range 8).map (fun k => (List.range 4).filter (fun l => h.get F.FEED.HOST_PRIORITY l == 7 - k))).flatten
  if h.linkHold then h
  else if h.pmfPaused then { h with heldReqs := h.heldReqs ++ [(4, 0, 0)] }
  else order.foldl (fun g l =>
    let c := g.contract l
    let (gr, why) := g.grantFor l c.request c.least
    if g.get F.FEED.GRANT l < gr && c.reduceTo == 0 && g.chargeable l then
      ((g.sendGrant l gr why).putGrant l gr why c.next true) else g) h

/-- A reduction begins (R483): POWER_REDUCE, and the old grant stands until POWER_ACK or 100 ms. -/
def Hub.startReduce (h : Hub) (l new : Nat) : Hub :=
  let c := h.contract l
  let n := c.next
  let grant := if c.reduceTo == 0 then new else min new (c.reduceTo - 1)
  ((h.modContract l (fun c => { c with next := (c.next + 1) % 256, reduceTo := grant + 1, reduceNo := n })).feedArm T.powerReduce l (100 * msec)).sideband
    l 0x12 (leBytes 2 grant ++ leBytes 1 n ++ leBytes 1 0)

/-- The reduced grant takes effect. -/
def Hub.endReduce (h : Hub) (l : Nat) : Hub :=
  let c := h.contract l
  if c.reduceTo == 0 then h
  else ((h.feedDisarm T.powerReduce l).putGrant l (c.reduceTo - 1) 0x10 c.reduceNo (h.chargeable l)).offerMore

/-- A host's POWER_REQ (R482–R484). In link hold a contract in force is never cut, but by the host's own lower request (R20). -/
def Hub.powerReq (h : Hub) (l request least : Nat) : Hub :=
  let old := h.get F.FEED.GRANT l
  let h1 := (h.modContract l (fun c => { c with request := request, least := least })).set F.FEED.REQUESTED l (min request 0xFFF)
  let (gr, why) := h1.grantFor l request least
  let c := h1.contract l
  if h.linkHold && old ≤ request then
    (if old < request then (h1.modContract l (fun c => { c with refusedHold := true })).sendGrant l old 4 else h1.sendGrant l old 0)
  else if gr < old || (c.reduceTo != 0 && request < old) then
    let grant := if c.reduceTo == 0 then gr else min gr (c.reduceTo - 1)
    (((h1.sendGrant l grant why).feedDisarm T.powerReduce l).putGrant l grant why c.next (h.chargeable l)).offerMore
  else (h1.sendGrant l gr why).putGrant l gr why c.next (h.chargeable l)

/-- The contract made at HELLO, number 0 (R481). -/
def Hub.helloContract (h : Hub) (l request least : Nat) : Hub × Nat :=
  let h1 := (h.modContract l (fun c => { request := request, least := least, past := c.past })).set F.FEED.REQUESTED l (min request 0xFFF)
  let (gr, why) := h1.grantFor l request least
  let g := if h.linkHold then 0 else gr
  let h2 := if h.linkHold && 0 < request then h1.modContract l (fun c => { c with refusedHold := true }) else h1
  (h2.putGrant l g (if h.linkHold then 4 else why) 0 (h.chargeable l), g)

/-- The landing comes past HELLO with an accepted LINK_SELECT, or is no longer: its feed follows. -/
def Hub.setPast (h : Hub) (l : Nat) (b : Bool) : Hub :=
  (h.modContract l (fun c => { c with past := b })).requestFeed l (b && decide (0 < h.get F.FEED.GRANT l))

/-- Unplug opens the feed and returns the allotment (R482). -/
def Hub.dropContract (h : Hub) (l : Nat) : Hub :=
  let h1 := ((h.modContract l (fun _ => {})).feedDisarm T.powerReduce l).set F.FEED.GRANT l 0
  ((h1.set F.FEED.REQUESTED l 0).syncAllotted.requestFeed l false).offerMore

/-- A committed CHARGE_BUDGET (R483): landings are reduced in ascending HOST_PRIORITY, then descending number, first to
their least acceptable power and then to 0, until the sum fits; a larger one is offered. -/
def Hub.budgetChanged (h : Hub) : Hub :=
  let budget := h.get F.FEED.CHARGE_BUDGET 0
  let order := ((List.range 8).map (fun k => ((List.range 4).reverse).filter (fun l => h.get F.FEED.HOST_PRIORITY l == k))).flatten
  let total := h.allottedBut 4
  if h.pmfPaused then { h with heldReqs := h.heldReqs ++ [(4, 0, 0)] }
  else if total ≤ budget then h.offerMore
  else
    let step (floor : Nat → Nat) (x : Nat × List (Nat × Nat)) (l : Nat) : Nat × List (Nat × Nat) :=
      let now_ := ((x.2.find? (fun p => p.1 == l)).map (fun p => p.2)).getD (h.contract l).allotted
      let cut := min (now_ - floor l) (x.1 - budget)
      if cut == 0 then x else (x.1 - (now_ - floor l), (x.2.filter (fun p => p.1 != l)) ++ [(l, floor l)])
    let a := order.foldl (step (fun l => min (h.contract l).least (h.contract l).allotted)) (total, [])
    let b := order.foldl (step (fun _ => 0)) a
    let map := (b.2.map (fun p => 2 ^ p.1)).sum
    b.2.foldl (fun g p => g.startReduce p.1 p.2) (h.notify 463 (sat16 total + budget * 2 ^ 16 + map * 2 ^ 32))

/-! ### Commands of the feed die without consequences elsewhere -/

def execMeasurementRecord (s : State) : Host.Outcome State Fault Refusal :=
  actAny s (fun h => if h.linkHold || h.pmfPaused then h else (List.range 16).foldl (fun g n => g.measureFeed n) h)

def execFeedRetryTimer (n : Nat) (s : State) : Host.Outcome State Fault Refusal :=
  actAnyIf (decide (n < 16)) s (fun h => h.feedRetry n)

def execFeedRetryCountReset (n : Nat) (s : State) : Host.Outcome State Fault Refusal :=
  actAnyIf (decide (n < 16)) s (fun h => h.feedRetryReset n)

/-- POWER_REQ and POWER_ACK (R481): in a reply window, while the feed die is powered. -/
def execPowerReq (l : Nat) (body : List Byte) (s : State) : Host.Outcome State Fault Refusal :=
  actAnyIf (decide (l < 4)) s (fun h => h.hostFrame l (body.length == 4) (fun g =>
    if g.pmfPaused then { g with heldReqs := g.heldReqs ++ [(l, leAt body 0 2, leAt body 2 2)] } else g.powerReq l (leAt body 0 2) (leAt body 2 2)))

def execPowerAck (l : Nat) (body : List Byte) (s : State) : Host.Outcome State Fault Refusal :=
  actAnyIf (decide (l < 4)) s (fun h => h.hostFrame l (body.length == 2) (fun g =>
    if (g.contract l).reduceTo != 0 && byteAt body 0 == (g.contract l).reduceNo then g.endReduce l else g))

/-- A feed-link frame's bytes: its content, then the CRC-32C over it (R20; log entry 70). -/
def feedFrameValid (frame : List Byte) : Bool :=
  4 ≤ frame.length && leAt frame (frame.length - 4) 4 == crc32c (frame.take (frame.length - 4))

/-- A feed-link frame arrives (R20). One that fails its check is sent again, up to 8 times; a valid one ends link hold and restarts its timer. -/
def Hub.feedLinkFrame (h : Hub) (frame : List Byte) : Hub :=
  if !h.feedPowered || !h.mainUp then h
  else if !feedFrameValid frame then { h with feedLinkTries := if h.feedLinkTries < 8 then h.feedLinkTries + 1 else 0 }
  else
    let h1 := { h with feedLinkTries := 0 }.feedArm T.feedLink 0 (10 * msec)
    if h.linkHold then
      let refused := (List.range 4).any (fun l => (h.contract l).refusedHold)
      let h2 := { h1 with linkHold := false }.notify 462 ((h.feedNow - h.holdSince) / msec % 2 ^ 32 + ofB refused * 2 ^ 32)
      ((List.range 4).foldl (fun g l => g.modContract l (fun c => { c with refusedHold := false })) h2).offerMore
    else h1

def execFeedLinkFrame (frame : List Byte) (s : State) : Host.Outcome State Fault Refusal := actAny s (fun h => h.feedLinkFrame frame)

def execPowerReduceTimeout (l : Nat) (s : State) : Host.Outcome State Fault Refusal :=
  actAnyIf (decide (l < 4)) s (fun h => h.feedExpire T.powerReduce l (fun g => g.endReduce l))

/-- No valid frame for 10 ms on the feed die's oscillator: link hold (R20, R24). -/
def execFeedLinkHoldEntry (s : State) : Host.Outcome State Fault Refusal :=
  actAny s (fun h => h.feedExpire T.feedLink 0 (fun g => { g with linkHold := true, holdSince := g.feedNow }))

end Sys2Proof.Machine
end

