-- ==== Sys2Proof/Machine/Superframe.lean ====
section
/-! DEFINITION. What a pair carries below its flits (R179, R181): training frames with their requests and the criteria of a receiver that
passes, and codewords with the packing of flits into a superframe. -/

namespace Sys2Proof.Machine

/-! ### Codewords and superframes (R181) -/

/-- The message bits of a codeword, 514 symbols of 10 bits; the bits of a flit; the flits and codewords of a superframe. -/
abbrev codewordBits : Nat := 5140
abbrev flitBits : Nat := 1088
abbrev framedFlits : Nat := 1285
abbrev framedCodewords : Nat := 272

/-- Where a superframe's n-th flit begins: its codeword and the message bit there, from bit 0 of byte 0 on. -/
def flitPlace (n : Nat) : Nat × Nat := (flitBits * n / codewordBits, flitBits * n % codewordBits)

/-- Whether a superframe's n-th flit spans two codewords. -/
def flitSpans (n : Nat) : Bool := decide (codewordBits < (flitPlace n).2 + flitBits)

/-- The message bits of a pair after one more flit, the n-th of its superframe: the message of the codeword it completes, if it does, and the bits
that stand in the next codeword. rest holds those before it. -/
def packFlit (n rest : Nat) (flit : List Byte) : Option (List Byte) × Nat :=
  let place := (flitPlace n).2
  let v := rest + leNat flit * 2 ^ place
  if codewordBits ≤ place + flitBits then (some (leBytes 643 (v % 2 ^ codewordBits)), v / 2 ^ codewordBits) else (none, v)

/-- A message symbol of a codeword. -/
def symbolAt (message : List Byte) (j : Nat) : Nat := leNat message / 2 ^ (10 * j) % 1024

/-! ### Training frames (R179) -/

/-- PRBS31, x^31 + x^28 + 1: the register after some bits, and the bits, the first sent in bit 0. -/
def prbsStep (r : Nat) : Nat := (r * 2 + (r / 2 ^ 30 + r / 2 ^ 27) % 2) % 2 ^ 31
def prbsRun : Nat → Nat → Nat × Nat
  | 0, r => (r, 0)
  | n + 1, r => let s := prbsStep r; let x := prbsRun n s; (x.1, s % 2 + 2 * x.2)

/-- The marker, pair numbers, requests and flags of a training frame with their CRC-32C. -/
def trainingHead (source target requests : Nat) (ready limit : Bool) : List Byte :=
  let hd := leBytes 8 0x0F0FF0F00F0FF0F0 ++ leBytes 1 (source % 16 + 16 * target) ++ leBytes 1 (requests % 64 + 64 * ofB ready + 128 * ofB limit) ++ leBytes 2 0
  hd ++ leBytes 4 (crc32c hd)

/-- A whole training frame, and the PRBS31 register that goes on in the next one. -/
def trainingFrame (source target requests : Nat) (ready limit : Bool) (prbs : Nat) : List Byte × Nat :=
  let x := prbsRun 4096 prbs
  (trainingHead source target requests ready limit ++ leBytes 512 x.2, x.1)

/-- Whether a frame's head is sound: its marker, its zero bits and its CRC. -/
def trainingSound (f : List Byte) : Bool :=
  leAt f 0 8 == 0x0F0FF0F00F0FF0F0 && leAt f 10 2 == 0 && leAt f 12 4 == crc32c (f.take 12)

def trainingSource (f : List Byte) : Nat := byteAt f 8 % 16
def trainingTarget (f : List Byte) : Nat := byteAt f 8 / 16
def trainingReady (f : List Byte) : Bool := bitB (byteAt f 9) 6

/-- Whether a pair passes in a direction (1 host→dock, 2 dock→host). The device's own receiver passes at 1 × 10^−5 over at least 2 × 10^8 bits and
on frames of its own pair number, for else the cable is miswired; the host tells of its receiver by the ready flag of a frame that names the pair. -/
def resultPasses (r : TrainingResult) (dir : Nat) : Bool :=
  trainingSound r.frame &&
    (if dir == 1 then trainingSource r.frame == r.pair && decide (200000000 ≤ r.bits) && decide (r.errors * 100000 ≤ r.bits)
     else trainingTarget r.frame == r.pair && trainingReady r.frame)

/-- The pairs, of those in training, that pass, each in a direction. -/
def passedPairs (results : List TrainingResult) (pairs : List Nat) (dir : Nat → Nat) : List Nat :=
  pairs.filter (fun m => results.any (fun r => r.pair == m && resultPasses r (dir m)))

end Sys2Proof.Machine
end

