-- ==== Sys2Proof/Machine/LinkCore.lean ====
section
/-! DEFINITION. What a landing's link does on its own (R169–R206): the sideband, control flits and seal groups, replay, pairs
and swaps, retraining, re-authentication, hold, and the end of a link. Commands are in Link. -/

namespace Sys2Proof.Machine

/-! ### State, sideband -/

/-- A landing's link state (R173). -/
def Hub.lState (h : Hub) (l : Nat) : Nat := h.get F.LANDING.STATE l

/-- A legacy context's idle time runs while its landing is not ACTIVE and its legacy device is suspended or unconfigured (R465). -/
def Hub.legacyIdleWatch (h : Hub) (l : Nat) : Hub :=
  if h.get F.LEGACY.IDLE_RESET l != 0 && h.up l && h.get F.LANDING.STATE l != 5 && h.get F.LEGACY.STATE l != 3 then
    h.armOnce T.legacyIdle l (h.get F.LEGACY.IDLE_RESET l * sec)
  else h.disarm T.legacyIdle l

/-- What R567 asks for idleness: every landing in DETECT, L_SLEEP, REFUSED or DISABLED, no sink, no Manifest running or waiting. -/
def Hub.deskIdle (h : Hub) : Bool :=
  (List.range 4).all (fun l => ([0, 7, 10, 11] : List Nat).contains (h.lState l)) &&
    (List.range 4).all (fun n => !(h.heads.read (fun _ => {}) n).sink) &&
    !h.progs.cells.any (fun c => c.1 < 6) && (List.range 6).all (fun n => (h.ctx n).queue.isEmpty)

/-- STANDBY_IDLE runs while the device is idle, without a break. -/
def Hub.idleWatch (h : Hub) : Hub :=
  if h.get F.SYSTEM.STANDBY_IDLE 0 != 0 && h.get F.SYSTEM.POWER_STATE 0 == 0 && h.deskIdle then
    h.armOnce T.standbyIdle 0 (h.get F.SYSTEM.STANDBY_IDLE 0 * sec)
  else h.disarm T.standbyIdle 0

/-- A link state change, followed by the landing's Yard port (R259) and by what idleness its legacy interface and Desk Standby count. -/
def Hub.setLState (h : Hub) (l new : Nat) : Hub := ((h.set F.LANDING.STATE l new).syncPort l 0).legacyIdleWatch l |>.idleWatch

/-- The pairs the device can use: those PAIR.ENABLE leaves in. -/
def Hub.pairMask (h : Hub) (l : Nat) : Nat :=
  ((List.range 4).map (fun m => if h.use F.PAIR.ENABLE (4 * l + m) == 1 then 2 ^ m else 0)).sum

/-- The device's LINK_HELLO (R174): dock, every version, both rates, every feature but a guest request, a random HELLO_ID. -/
def Hub.sendHello (h : Hub) (l : Nat) : Hub :=
  let credits := ((List.range 8).map (fun c => leBytes 2 (h.get F.LANDING.CREDIT_GRANT l c))).flatten
  let body := leBytes 1 2 ++ leBytes 1 7 ++ leBytes 1 3 ++ leBytes 1 (h.pairMask l) ++ leBytes 2 0x2F ++ leBytes 2 2048 ++ credits ++
    leBytes 2 0x3B9E ++ leBytes 2 0x4800 ++ leBytes 4 h.freeVal ++ leBytes 16 0
  ((h.drawn.modLink l (fun k => { k with helloTries := k.helloTries + 1, grantSent := (List.range 8).map (fun c => h.get F.LANDING.CREDIT_GRANT l c) })).arm
    T.hello l (20 * msec)).sideband l 3 body

/-! ### Pairs (R169, R181, R186, R194) -/

def Hub.pairState (h : Hub) (l m : Nat) : Nat := h.get F.PAIR.STATE (4 * l + m)
def Hub.pairDir (h : Hub) (l m : Nat) : Nat := h.get F.PAIR.DIR (4 * l + m)

/-- A pair's STATE. EYE_HEIGHT reads 0 once the device does not receive on it (R211). -/
def Hub.setPair (h : Hub) (l m st : Nat) : Hub :=
  let h1 := h.set F.PAIR.STATE (4 * l + m) st
  if h1.pairDir l m == 1 && 1 ≤ st && st ≤ 4 then h1 else h1.set F.PAIR.EYE_HEIGHT (4 * l + m) 0

/-- EYE_HEIGHT as measured at the device's receiver at the end of a training that reports none: a free value (log entry 77). -/
def Hub.freeEye (h : Hub) (l m : Nat) : Hub :=
  if h.pairDir l m == 1 then h.drawn.set F.PAIR.EYE_HEIGHT (4 * l + m) (h.freeVal % 65536) else h

/-- The active pairs of a direction (1 host→dock, 2 dock→host); a swapping pair counts in its old one. -/
def Hub.activePairs (h : Hub) (l dir : Nat) : List Nat :=
  (List.range 4).filter (fun m => h.pairDir l m == dir && 2 ≤ h.pairState l m && h.pairState l m ≤ 4)

def maskOf (ms : List Nat) : Nat := (ms.map (fun m => 2 ^ m)).sum

/-- Whether flits run in a link state: pairs locked and aligned. -/
def Hub.flitsRun (h : Hub) (l : Nat) : Bool := h.lState l == 4 || h.lState l == 5 || h.lState l == 9

/-- The dock→host pairs that carry flits. A swapping pair carries none from SWAP_ACK on (R194). -/
def Hub.carriers (h : Hub) (l : Nat) : List Nat := (h.activePairs l 2).filter (fun m => h.pairState l m == 2)

/-- The pair the next flit goes out on: the one it must take, else the carriers in turn (R186: any active pair; log entry 77). -/
def Hub.outPair (h : Hub) (l : Nat) : Nat :=
  let k := h.link l
  match k.onPair with
  | some m => m
  | none =>
    let ms := h.carriers l
    (ms.find? (fun m => k.nextPair ≤ m)).getD (ms.headD 0)

/-- A flit fills the next flit slot of its pair, within the superframe of 1,285 flits; a codeword it completes goes out (R181). -/
def Hub.emitFlit (h : Hub) (l : Nat) (flit : List Byte) : Hub :=
  let m := h.outPair l
  let k := h.link l
  let n := k.framePos.read (fun _ => 0) m
  let packed := packFlit n (k.frameRest.read (fun _ => 0) m) flit
  let h1 := (h.modLink l (fun k => { k with
    nextPair := m + 1, framePos := k.framePos.write (fun _ => 0) m ((n + 1) % framedFlits),
    frameRest := k.frameRest.write (fun _ => 0) m packed.2 })).emit .pairs (4 * l + m) flit
  match packed.1 with
  | some message => h1.emit .codewords (4 * l + m) message
  | none => h1

/-- Codewords whose message symbols are all one symbol go out on a pair (R181, R194). -/
def Hub.emitCodewords (h : Hub) (l m symbol count : Nat) : Hub := h.emit .codewords (4 * l + m) (leBytes 2 symbol ++ leBytes 2 count)

/-- A pair's next flit begins a new superframe (R181, R194). -/
def Hub.newFrame (h : Hub) (l m : Nat) : Hub :=
  h.modLink l (fun k => { k with framePos := k.framePos.write (fun _ => 0) m 0, frameRest := k.frameRest.write (fun _ => 0) m 0 })

/-- The ALIGN pattern on a pair: 16 codewords of 0x2AA, after which a superframe begins (R181). -/
def Hub.emitAlign (h : Hub) (l m : Nat) : Hub := (h.emitCodewords l m 0x2AA 16).newFrame l m

/-- The ALIGN pattern on every dock→host pair of some states. -/
def Hub.alignOut (h : Hub) (l : Nat) (p : Nat → Bool) : Hub :=
  ((List.range 4).filter (fun m => h.pairDir l m == 2 && p (h.pairState l m))).foldl (fun g m => g.emitAlign l m) h

/-! ### Sequenced flits out (R184–R189, R204, R206) -/

/-- A flit: header, 128-byte payload, CRC-32C. -/
def flitBytes (header : Nat) (payload : List Byte) : List Byte :=
  let b := leBytes 4 header ++ payload
  b ++ leBytes 4 (crc32c b)

/-- A payload filled with zeros to 128 bytes. -/
def padFlit (p : List Byte) : List Byte := p.take 128 ++ List.replicate (128 - p.length) 0

/-- A control flit's header. -/
def ctlHeader (ctype : Nat) (seqd phase : Bool) (seq : Nat) : Nat :=
  2 ^ 31 + bits ctype 4 3 * 2 ^ 28 + ctype % 16 * 2 ^ 24 + ofB seqd * 2 ^ 15 + ofB phase * 2 ^ 13 + (if seqd then seq % 4096 else 0)

/-- A sequenced flit goes out: kept until acknowledged, its replay timer running, the link busy. -/
def Hub.putFlit (h : Hub) (l cls header : Nat) (payload : List Byte) (msg slot : Nat := 0) (last : Bool := false)
    (notice : Nat × Nat := (0, 0)) : Hub :=
  let k := h.link l
  let b := flitBytes header payload
  let h1 := ((h.modLink l (fun k => { k with
    txSeq := (k.txSeq + 1) % 2 ^ 32, unacked := k.unacked ++ [{ seq := k.txSeq, cls := cls, bytes := b, msg := msg, slot := slot, last := last, notice := notice }],
    flitsOnKey := k.flitsOnKey + 1, lastBusy := h.now })).add F.LANDING.FLITS_TX l 1).emitFlit l b
  (if k.unacked.isEmpty then h1.arm T.replay l 10000 else h1).arm T.lidle l (h.get F.LANDING.LIDLE_ENTRY l * usec)

/-- Closes the open seal group with its TAG flit (R204). -/
def Hub.sendTag (h : Hub) (l : Nat) : Hub :=
  let k := h.link l
  if k.groupCount == 0 then h
  else
    let s := h.session l
    let tag := gcmTag (secretKey s.secretOut) (sessionNonce s.saltOut 0 s.epochOut k.groupFirst) k.groupAad k.groupText
    let h1 := (h.disarm T.sealGroup l).putFlit l 8 (ctlHeader 2 true k.keyPhaseOut k.txSeq)
      (padFlit (tag ++ leBytes 4 k.groupFirst ++ leBytes 4 k.groupCount))
    h1.modLink l (fun k => { k with groupCount := 0, groupText := [], groupAad := [] })

/-- A sequenced flit joins the open seal group; the group closes at 32 flits or 1 µs after its first. -/
def Hub.joinGroup (h : Hub) (l seq : Nat) (aad text : List Byte) : Hub :=
  let k := h.link l
  if !k.sealOut then h
  else
    let h1 := if k.groupCount == 0 then (h.modLink l (fun k => { k with groupFirst := seq })).arm T.sealGroup l usec else h
    let h2 := h1.modLink l (fun k => { k with groupCount := k.groupCount + 1, groupAad := k.groupAad ++ aad, groupText := k.groupText ++ text })
    if 32 ≤ k.groupCount + 1 then h2.sendTag l else h2

/-- Whether the window of unacknowledged flits has room for n more and a TAG (R186). -/
def Hub.windowRoom (h : Hub) (l n : Nat) : Bool := (h.link l).unacked.length + n < 2048
def Hub.windowOpen (h : Hub) (l : Nat) : Bool := h.windowRoom l 1

/-- A sequenced control flit goes out. -/
def Hub.putCtl (h : Hub) (l ctype : Nat) (body : List Byte) : Hub :=
  let k := h.link l
  let hd := ctlHeader ctype true k.keyPhaseOut k.txSeq
  let p := padFlit body
  (h.putFlit l 8 hd p).joinGroup l k.txSeq (leBytes 4 hd ++ p) []

/-- Sends a sequenced control flit: at once, or in order once the window opens, the landing carries flits again, or the quiet point is over. -/
def Hub.sendCtl (h : Hub) (l ctype : Nat) (body : List Byte) : Hub :=
  let k := h.link l
  if !h.windowOpen l || !h.flitsRun l || k.holdCtl || !k.ctl.isEmpty then h.modLink l (fun k => { k with ctl := k.ctl ++ [(ctype, body)] })
  else h.putCtl l ctype body

/-- A sequenced control flit that must go out on a pair, as the first flit of a new superframe there (R194, R197). -/
def Hub.sendCtlOn (h : Hub) (l m ctype : Nat) (body : List Byte) : Hub :=
  let h1 := (h.newFrame l m).modLink l (fun k => { k with onPair := some m })
  (h1.putCtl l ctype body).modLink l (fun k => { k with onPair := none })

/-- Sends a new data flit of a class (R184, R189, R204). -/
def Hub.sendData (h : Hub) (l cls index : Nat) (som eom : Bool) (payload : List Byte) (msg slot : Nat := 0)
    (notice : Nat × Nat := (0, 0)) : Hub :=
  let k := h.link l
  let s := h.session l
  let hd := cls * 2 ^ 28 + index * 2 ^ 16 + ofB som * 2 ^ 15 + ofB eom * 2 ^ 14 + ofB k.keyPhaseOut * 2 ^ 13 + k.txSeq % 4096
  let first := if k.groupCount == 0 then k.txSeq else k.groupFirst
  let text := if k.sealOut then gcmXor (secretKey s.secretOut) (sessionNonce s.saltOut 0 s.epochOut first) k.groupText.length payload else payload
  ((h.putFlit l cls hd text msg slot eom notice).modLink l (fun k => { k with sent := k.sent.write (fun _ => 0) cls ((k.sent.read (fun _ => 0) cls + 1) % 2 ^ 32) })).joinGroup
    l k.txSeq (leBytes 4 hd) text

/-- Sends REKEY and moves the dock→host direction to its next key (R206, R506). Where the REKEY cannot go out now, it is still owed. -/
def Hub.sendRekey (h : Hub) (l : Nat) (ask : Bool) : Hub :=
  if !(h.link l).sealOut then h
  else if !h.windowRoom l 2 || !h.flitsRun l || (h.link l).holdCtl then
    h.modLink l (fun k => { k with rekeyAsk := k.rekeyAsk || ask, rekeyOwed := k.rekeyOwed || !ask })
  else
    let e := (h.session l).epochOut + 1
    let h1 := ((h.putCtl l 9 (leBytes 4 e ++ leBytes 1 (ofB ask))).sendTag l).disarm T.rekeyAnswer l
    let s := h1.session l
    let h2 := (h1.setSession l { s with epochOut := e, secretOut := nextSecret s.secretOut }).epochsEntered l 1
    ((h2.modLink l (fun k => { k with keyPhaseOut := !k.keyPhaseOut, flitsOnKey := 0, ackCount := 0, rekeyOwed := false })).set F.LANDING.KEY_EPOCH l e).notify
      (nLanding l 13) (1 + e * 2 ^ 32)

/-- Sends an AUTH message in segments of at most 120 bytes (R202). -/
def authSegments (type : Nat) (content : List Byte) : List (List Byte) :=
  let n := max 1 ((content.length + 119) / 120)
  (List.range n).map (fun i =>
    let d := (content.drop (120 * i)).take 120
    leBytes 1 type ++ leBytes 1 i ++ leBytes 1 n ++ leBytes 1 0 ++ leBytes 2 content.length ++ leBytes 2 d.length ++ d)

def Hub.sendAuth (h : Hub) (l type : Nat) (content : List Byte) : Hub :=
  (authSegments type content).foldl (fun g s => g.sendCtl l 0x10 s) h

/-- Sends an unsequenced control flit. -/
def Hub.sendPlain (h : Hub) (l ctype : Nat) (body : List Byte) : Hub :=
  h.emitFlit l (flitBytes (ctlHeader ctype false (h.link l).keyPhaseOut 0) (padFlit body))

/-! ### Capacity (R169, R235, R236) -/

/-- PAIRS_IN, PAIRS_OUT and capacities follow the pairs and the rate, and the landing's tunnels are re-admitted. A change of the active pairs raises
NT_LDL_ALLOTMENT; without one, a tunnel admitted below its reservation does, with [56] (R208, R235, R236). -/
def Hub.pairsChanged (h : Hub) (l : Nat) : Hub :=
  let i := maskOf (h.activePairs l 1)
  let o := maskOf (h.activePairs l 2)
  let same := i == h.get F.LANDING.PAIRS_IN l && o == h.get F.LANDING.PAIRS_OUT l
  let h1 := (h.set F.LANDING.PAIRS_IN l i).set F.LANDING.PAIRS_OUT l o
  let h2 := ((h1.set F.LANDING.CAP_IN l (h1.capacity l true)).set F.LANDING.CAP_OUT l (h1.capacity l false)).readmit l false
  if same then (if (h2.shortfalls l).isEmpty then h2 else h2.notify (nLanding l 18) (h2.allotPayload l true))
  else
    let low (s : Nat) : Option Nat := firstWhere 4 (bitB s)
    let h3 := if low i == low (h.get F.LANDING.PAIRS_IN l) && low o == low (h.get F.LANDING.PAIRS_OUT l) then h2 else h2.ptpRestart l
    h3.notify (nLanding l 18) (h3.allotPayload l false)

/-- Whether a pair has coefficients stored in both directions. -/
def Hub.swapReady (h : Hub) (l m : Nat) : Bool := h.get F.PAIR.SWAP_READY (4 * l + m) == 3

/-- The admitted reservations of a direction. -/
def Hub.admittedSum (h : Hub) (l : Nat) (inward : Bool) : Nat :=
  ((h.openSlots l).map (fun s => h.get (admF inward) (tunnelOf l s))).sum

/-- Why a swap of a pair is refused now (R192, R195), as NT_LDL_SWAP_REFUSED says. -/
def Hub.swapFault (h : Hub) (l m : Nat) : Option Nat :=
  let k := h.link l
  let from_ := h.pairDir l m
  let n := (h.activePairs l from_).length
  if !bitB k.features 0 then some 7
  else if h.lState l != 5 || k.swap.isSome then some 6
  else if !h.swapReady l m || h.pairState l m != 2 then some 1
  else if n ≤ 1 then some 2
  else if limitOf ((n - 1) * h.pairFigure l) < h.admittedSum l (from_ == 1) then some 3
  else none

/-- The swap that brings a landing closer to ALLOT_IN: the highest-numbered SWAP_READY pair of the shrinking direction (R237), and where none
is ready the highest-numbered, whose swap is then refused (R195). -/
def Hub.allotSwap (h : Hub) (l : Nat) : Option (Nat × Nat) :=
  let want := min (h.use F.LANDING.ALLOT_IN l) (h.usablePairs l - 1)
  let now_ := (h.activePairs l 1).length
  let ready (dir : Nat) : Option Nat :=
    let ms := h.activePairs l dir
    match (ms.filter (fun m => h.swapReady l m)).getLast? with | some m => some m | none => ms.getLast?
  if now_ < want then (ready 2).map (fun m => (m, 1))
  else if want < now_ then (ready 1).map (fun m => (m, 2))
  else none

/-- While the device works toward ALLOT_IN it plans its next swap for the next quiet point. -/
def Hub.planSwap (h : Hub) (l : Nat) : Hub :=
  let k := h.link l
  if !k.toAllot || k.swapWanted.isSome || k.swap.isSome then h
  else match h.allotSwap l with
    | some (m, d) => h.modLink l (fun k => { k with swapWanted := some { pair := m, dir := d } })
    | none => h.modLink l (fun k => { k with toAllot := false })

/-- Whether a class has a data flit waiting and no credit (R207): of a message being sent, or at the head of a leaf. -/
def Hub.stalled (h : Hub) (l cls : Nat) : Bool :=
  h.avail l cls ≤ 0 && ((h.link l).txMsgs.any (fun m => m.cls == cls) ||
    h.yard.leaves.cells.any (fun c => c.1 / 128 == l && h.leafService c.1 == cls && (match c.2 with | e :: _ => e.whole | [] => false)))

/-- The classes whose messages wait without credit: their 100 ms run (R207). -/
def Hub.stallWatch (h : Hub) (l : Nat) : Hub :=
  (List.range 8).foldl (fun g c => if g.stalled l c then g.armOnce T.creditStall (8 * l + c) (100 * msec) else g.disarm T.creditStall (8 * l + c)) h

/-- Begins working toward ALLOT_IN (R192, R237, R238). -/
def Hub.workToAllot (h : Hub) (l : Nat) : Hub := (h.modLink l (fun k => { k with toAllot := true })).planSwap l

/-! ### Retraining (R178–R182) -/

/-- The pairs in training: not those retrained on their own, nor those that have passed and are rejoining (R197). -/
def Hub.training (h : Hub) (l : Nat) : List Nat :=
  let k := h.link l
  (List.range 4).filter (fun m => h.pairState l m == 1 && !k.soloRunning.read (fun _ => false) m && !k.rejoin.any (fun r => r.1 == m))

/-- A training frame goes out on a pair, its PRBS31 continued (R179). -/
def Hub.emitTraining (h : Hub) (l m target requests : Nat) (ready : Bool) : Hub :=
  let x := trainingFrame m target requests ready false (h.link l).prbs
  (h.modLink l (fun k => { k with prbs := x.2 })).emit .training (4 * l + m) x.1

/-- Training frames on the dock→host pairs in training. The requests and flags for every host→dock pair travel in those of the lowest-numbered one
(R179): the requests are the receiver's adaptation, a free value (log entry 77). -/
def Hub.sendTraining (h : Hub) (l : Nat) (ready : List Nat := []) : Hub :=
  let outs := (h.training l).filter (fun m => h.pairDir l m == 2)
  let ins := (h.training l).filter (fun m => h.pairDir l m == 1)
  let h1 := (outs.drop 1).foldl (fun g m => g.emitTraining l m 0 0 false) h
  match outs with
  | [] => h1
  | m :: _ => ins.foldl (fun g p => g.drawn.emitTraining l m p g.freeVal (ready.contains p)) h1

/-- Whether a fast retrain can be used: agreed, and every active pair has stored coefficients for its direction. -/
def Hub.fastReady (h : Hub) (l : Nat) : Bool :=
  bitB (h.link l).features 1 &&
    (h.heldPairs l 1 ++ h.heldPairs l 2).all (fun m => bitB (h.get F.PAIR.SWAP_READY (4 * l + m)) (h.pairDir l m - 1))

/-- A full training begins on every common pair the device has not disabled (R178): each transmitter repeats its training frames. -/
def Hub.fullTraining (h : Hub) (l : Nat) : Hub :=
  let h1 := (List.range 4).foldl (fun g m =>
    if bitB (g.link l).common m && g.use F.PAIR.ENABLE (4 * l + m) == 1 then (g.setPair l m 1).disarm T.solo (4 * l + m) else g) h
  ((h1.drawn.modLink l (fun k => { k with prbs := h.freeVal % 2 ^ 31, trainFull := true, soloTries := {}, soloRunning := {}, rejoin := [], locked := [] })).setLState l 2).sendTraining l

/-- A swap ends without SWAP_DONE: the pair is as it was (R194, R195). -/
def Hub.dropSwap (h : Hub) (l reason : Nat) : Hub :=
  match (h.link l).swap with
  | none => h
  | some w =>
    let h1 := (((h.disarm T.swapAck l).disarm T.swapLock l).modLink l (fun k => { k with swap := none, locked := k.locked.filter (fun x => x != w.pair) })).notify (nLanding l 11) (w.pair + reason * 256)
    let h2 := if h1.pairState l w.pair == 4 then h1.setPair l w.pair 2 else h1
    if (h2.link l).toAllot then h2.arm T.allotRetry l sec else h2

/-- A retrain starts (R182), unless one runs; a swap in progress is cancelled by it (R201). The device asks its partner for the same with RETRAIN_REQ
while flits still run (R185). TRAIN is entered through RETRAIN (R173). -/
def Hub.startRetrain (h : Hub) (l cause : Nat) : Hub :=
  let st := h.lState l
  if !(st == 4 || st == 5 || st == 6 || st == 7) then h
  else
    let h0 := if (h.link l).swap.isSome then
        let n := ((h.link l).swap.map (fun w => w.number)).getD 0
        (h.sendCtl l 8 (leBytes 1 0 ++ leBytes 1 n)).dropSwap l 6 else h
    let asked := if h0.flitsRun l && cause != 3 && !(h0.carriers l).isEmpty && h0.windowRoom l 2 then (h0.putCtl l 0x11 (leBytes 1 cause)).sendTag l else h0
    let h1 := (((asked.disarm T.replay l).disarm T.sealGroup l).modLink l (fun k =>
      { k with retrainCause := cause, retrainStart := h.now, replay := [], trainTries := 0, idleReqSent := false })).setLState l 8
    if h.fastReady l then
      let h2 := (h1.activePairs l 1 ++ h1.activePairs l 2).foldl (fun g m => g.setPair l m 1) h1
      let h3 := (List.range 4).foldl (fun g m => if g.pairState l m == 0 && g.pairDir l m != 0 then g.setPair l m 1 else g) h2
      (h3.modLink l (fun k => { k with trainFull := false })).sendTraining l
    else h1.fullTraining l

/-- L-sleep is left by a retrain (R199). -/
def Hub.wake (h : Hub) (l : Nat) : Hub := (h.notify (nLanding l 14) (8 + 7 * 16)).startRetrain l 5

/-- A pair is out (R196, R211): reported, to be retrained on its own, and spared when it was the last of its direction. A swap of another pair
completes if each direction keeps a pair, and is cancelled else (R201); that of the pair itself ends with reason 0x08 (DESIGN CHOICE, log entry 76). -/
def Hub.pairGone (h : Hub) (l m cause : Nat) (tell : Bool) : Hub :=
  let dir := h.pairDir l m
  let k := h.link l
  let h0 := if tell then h.sendCtl l 0x12 (leBytes 1 m ++ leBytes 1 cause) else h
  let h1 := if cause == 6 then h0.setPair l m 6
    else ((((h0.setPair l m 5).add F.PAIR.FAILURES (4 * l + m) 1).set F.LANDING.PAIRS_FAILED l (setBit (h0.get F.LANDING.PAIRS_FAILED l) m)).notify
      (nLanding l 8) (m + dir * 16 + cause * 256)).arm T.solo (4 * l + m) sec
  let together (k : Link) : List Nat := k.lostLock.filter (fun x => x != m && k.failAt.read (fun _ => 0) x == h.now)
  let h2 := h1.modLink l (fun k => { k with lostLock := together k ++ (if cause == 2 then [m] else []), soloTries := k.soloTries.write (fun _ => 0) m 0, failAt := k.failAt.write (fun _ => 0) m h.now, soloRunning := k.soloRunning.write (fun _ => false) m false, rejoin := k.rejoin.filter (fun r => r.1 != m), locked := k.locked.filter (fun x => x != m) })
  let own := match k.swap with | some w => w.pair == m | none => false
  let h3 := if own then h2.dropSwap l 8
    else match k.swap with
      | some w => if ((h2.activePairs l (3 - w.dir)).filter (fun x => x != w.pair)).isEmpty
          then (h2.sendCtl l 8 (leBytes 1 0 ++ leBytes 1 w.number)).dropSwap l 2 else h2
      | none => h2
  if h.lState l == 9 then h3.modLink l (fun k => { k with heldFailures := k.heldFailures ++ [m] }) else h3

/-- What follows the loss of pairs: sparing from the other direction, else a retrain; a retrain too where both of a direction's last pairs lost
lock at one moment (R182, R196). -/
def Hub.spare (h : Hub) (l cause : Nat) : Hub :=
  let h1 := h.pairsChanged l
  if h.lState l == 9 then h1
  else
    let empty (d : Nat) : Bool := (h1.activePairs l d).isEmpty
    let from_ (d : Nat) : Hub :=
      let cands := (h1.activePairs l (3 - d)).filter (fun m => h1.swapReady l m)
      match cands.getLast? with
      | some m =>
        if 1 < (h1.activePairs l (3 - d)).length then h1.modLink l (fun k => { k with swapWanted := some { pair := m, dir := d, sparing := true } })
        else h1.startRetrain l cause
      | none => h1.startRetrain l cause
    let bothLost (d : Nat) : Bool := 2 ≤ ((h1.link l).lostLock.filter (fun m => h1.pairDir l m == d)).length && empty d
    if (empty 1 && empty 2) || bothLost 1 || bothLost 2 then h1.startRetrain l cause
    else if empty 1 then from_ 1
    else if empty 2 then from_ 2
    else h1

/-- A pair fails (R196). -/
def Hub.failPair (h : Hub) (l m cause : Nat) (tell : Bool) : Hub :=
  (h.pairGone l m cause tell).spare l (if cause == 4 then 4 else 1)

/-- A refusal of the swap asked for (R195, R196). -/
def Hub.refuseSwap (h : Hub) (l : Nat) (w : Swap) (reason : Nat) : Hub :=
  let h1 := h.notify (nLanding l 11) (w.pair + reason * 256)
  if w.sparing then h1.startRetrain l 4
  else if reason == 1 || reason == 2 || reason == 7 then h1.modLink l (fun k => { k with toAllot := false })
  else if (h1.link l).toAllot then h1.arm T.allotRetry l sec else h1

/-- After a QUIET the swap that waits for it starts with SWAP_REQ, or is refused (R191, R194, R195). -/
def Hub.startSwap (h : Hub) (l : Nat) : Hub :=
  match (h.link l).swapWanted with
  | none => h
  | some w =>
    let h1 := h.modLink l (fun k => { k with swapWanted := none })
    match h1.swapFault l w.pair with
    | some r => h1.refuseSwap l w r
    | none =>
      let n := ((h1.link l).swapCount + 1) % 256
      ((h1.modLink l (fun k => { k with swapCount := n, swap := some { w with number := n, start := h.now, phase := 0 } })).putCtl l 4
        (leBytes 1 (w.pair + w.dir * 16) ++ leBytes 1 n)).arm T.swapAck l 4000

/-- A swap is complete (R194). -/
def Hub.swapComplete (h : Hub) (l : Nat) : Hub :=
  match (h.link l).swap with
  | none => h
  | some w =>
    let h1 := ((h.disarm T.swapAck l).disarm T.swapLock l).modLink l (fun k => { k with swap := none, locked := k.locked.filter (fun x => x != w.pair), noSwapUntil := h.now + 500 * msec })
    let h2 := (((h1.set F.PAIR.DIR (4 * l + w.pair) w.dir).setPair l w.pair 2).freeEye l w.pair).add F.LANDING.SWAPS l 1
    let h3 := (h2.notify (nLanding l 10) (w.pair + w.dir * 16 + ofB w.auto * 64 + min (h.now - w.start) 65535 * 2 ^ 16)).pairsChanged l
    if w.auto then h3 else h3.planSwap l

/-- A pair that passed its solo retraining joins the direction nearer to ALLOT_IN, after a swap in progress (R197, R201). -/
def Hub.startRejoin (h : Hub) (l m : Nat) : Hub :=
  let drop (k : Link) : List (Nat × Nat) := k.rejoin.filter (fun r => r.1 != m)
  if (h.link l).swap.isSome then h.modLink l (fun k => { k with rejoin := drop k ++ [(m, 0)] })
  else
    let others := h.usablePairs l - ofB (!bitB (h.get F.LANDING.PAIRS_FAILED l) m)
    let dir := if (h.activePairs l 1).length < min (h.use F.LANDING.ALLOT_IN l) others then 1 else 2
    (h.setPair l m 1).modLink l (fun k => { k with rejoin := drop k ++ [(m, dir)] })

/-- Pairs that waited for a swap to end. -/
def Hub.waitingRejoins (h : Hub) (l : Nat) : Hub :=
  ((h.link l).rejoin.filter (fun r => r.2 == 0)).foldl (fun g r => g.startRejoin l r.1) h

/-- A rejoining pair is back (R197). -/
def Hub.rejoined (h : Hub) (l m dir : Nat) : Hub :=
  let h1 := (h.modLink l (fun k => { k with rejoin := k.rejoin.filter (fun r => r.1 != m), locked := k.locked.filter (fun x => x != m) })).disarm T.solo (4 * l + m)
  let h2 := (((h1.set F.PAIR.DIR (4 * l + m) dir).setPair l m 2).freeEye l m).set F.LANDING.PAIRS_FAILED l (clrBit (h1.get F.LANDING.PAIRS_FAILED l) m)
  ((h2.set F.PAIR.SWAP_READY (4 * l + m) 3).notify (nLanding l 9) (m + dir * 16)).pairsChanged l

/-! ### ACTIVE, hold, re-authentication, the end of a link -/

/-- Whether the landing's session is up (R204). -/
def Hub.authed (h : Hub) (l : Nat) : Bool := (h.session l).up

/-- The landing is ACTIVE (R173, R192, R213). -/
def Hub.toActive (h : Hub) (l : Nat) : Hub :=
  let first := !(h.link l).reached
  let h1 := h.setLState l 5
  let h2 := if first then (h1.modLink l (fun k => { k with reached := true })).openOwnTunnels l else h1
  let h3 := (h2.readmit l false).ptpState l
  let chosen := pairCount (byteAt (h.link l).select 3 % 16)
  if first && min (h.use F.LANDING.ALLOT_IN l) (pairCount (h.link l).common - 1) != chosen then h3.workToAllot l else h3

/-- The pairs leave electrical idle: the ALIGN pattern goes out on the transmit pairs (R198). -/
def Hub.exitIdle (h : Hub) (l : Nat) : Hub :=
  if h.lState l != 6 then h
  else ((((h.activePairs l 1 ++ h.activePairs l 2).foldl (fun g m => g.setPair l m 2) h).alignOut l (fun st => st == 2)).setLState l 5).notify (nLanding l 14) (5 + 6 * 16)

/-- HOLD (R200): the landing is held for link firmware activation. The notice of its start gives 0 as duration (DESIGN CHOICE, log entry 76). -/
def Hub.startHold (h : Hub) (l : Nat) : Hub :=
  ((((h.sendCtl l 0x0E (leBytes 2 30000)).sendTag l).modLink l (fun k => { k with holdStart := h.now, lopsided := 0, demandSum := 0, demandCount := 0 })).setLState l 9).notify
    (nLanding l 17) 1

/-- RESUME (R200, R201). -/
def Hub.endHold (h : Hub) (l : Nat) : Hub :=
  if h.lState l != 9 then h
  else
    let us := min ((h.now - (h.link l).holdStart) / usec) 65535
    let h1 := (((h.storageHeld l (h.now - (h.link l).holdStart)).setLState l 5).sendCtl l 0x0F []).notify (nLanding l 17) (us * 2 ^ 16)
    let lost := (h1.link l).heldFailures
    let h2 := h1.modLink l (fun k => { k with heldFailures := [], lopsided := 0, demandSum := 0, demandCount := 0 })
    if lost.isEmpty then h2 else h2.spare l 1

/-- Re-authentication begins (R206): RESYNC is exchanged. Flits of an open group will not be delivered. -/
def Hub.reauth (h : Hub) (l reason : Nat) : Hub :=
  let st := h.lState l
  if (h.link l).resync || !(st == 5 || st == 6 || st == 7 || st == 8 || st == 9) then h
  else
    let k := h.link l
    let lost := k.groupIn.length
    let from_ := if lost == 0 then k.rxSeq else (k.groupIn.headD (0, [])).1
    let h1 := if reason == 0 then h else h.notify (nLanding l 6) reason
    let undo (k : Link) : Table Nat := k.groupIn.foldl (fun t f =>
      if leAt f.2 0 4 < 2 ^ 31 then
        let c := bits (leAt f.2 0 4) 28 3
        t.write (fun _ => 0) c ((t.read (fun _ => 0) c + 2 ^ 32 - 1) % 2 ^ 32) else t) k.taken
    let h2 := h1.modLink l (fun k => { k with
      resync := true, reauthReason := reason, taken := undo k, groupIn := [], reorder := [], rxSeq := from_, resyncLost := lost + k.reorder.length, resyncSaid := from_ + 1, resyncAt := h.now })
    (h2.sendPlain l 0x14 (leBytes 4 from_)).arm T.ack l 10000

/-- Every timer of a landing's pairs stops. -/
def Hub.stopLinkTimers (h : Hub) (l : Nat) : Hub :=
  let h1 := [T.hello, T.trainStart, T.trainRetry, T.align, T.auth, T.ack, T.nak, T.replay, T.sealGroup, T.swapAck, T.swapLock, T.lidle, T.allotRetry,
    T.demand, T.rekeyAnswer].foldl (fun g k => g.disarm k l) h
  let h2 := (List.range 4).foldl (fun g m => g.disarm T.solo (4 * l + m)) h1
  (List.range 8).foldl (fun g c => g.disarm T.creditStall (8 * l + c)) h2

/-- What Quiet stores of a landing had waited for its next quiet point takes effect as its link goes; tunnels that waited to open do not (R14, R221). -/
def Hub.quietLost (h : Hub) (l : Nat) : Hub :=
  let h1 := (h.tunnelsListed l).foldl (fun g t => (if g.get F.TUNNEL.STATE t == 0 then g else g.set F.TUNNEL.STATE t 0).takeAll 5 t .quiet) (h.takeAll 3 l .quiet)
  let h2 := (List.range 4).foldl (fun g m => g.takeAll 4 (4 * l + m) .quiet) h1
  (List.range 8).foldl (fun g c => g.takeAll 6 (8 * l + c) .quiet) h2

/-- What a landing's link held is gone: replay buffers, credits, keys and partial messages; tunnels close, and the landing is in DETECT or
DISABLED. -/
def Hub.linkCleared (h : Hub) (l : Nat) (disabled : Bool) : Hub :=
  let h1 := (((h.stopLinkTimers l).closeTunnels l 0).flightsEnd l).quietLost l
  let h2 := (List.range 4).foldl (fun g m => ((g.setPair l m (if g.use F.PAIR.ENABLE (4 * l + m) == 1 then 0 else 6)).set F.PAIR.DIR (4 * l + m) 0).set F.PAIR.SWAP_READY (4 * l + m) 0) h1
  let h3 := [F.LANDING.VERSION, F.LANDING.RATE, F.LANDING.PAIRS_IN, F.LANDING.PAIRS_OUT, F.LANDING.PAIRS_FAILED, F.LANDING.CAP_IN, F.LANDING.CAP_OUT,
    F.LANDING.GUEST, F.LANDING.KEY_EPOCH, F.LANDING.PARTNER_VENDOR, F.LANDING.PARTNER_PRODUCT].foldl (fun g f => g.set f l 0) h2
  let h4 := (List.range 8).foldl (fun g c => g.set F.LANDING.PARTNER_CREDITS l 0 c) h3
  let h5 := ((h4.modLink l (fun _ => {})).setSession l {}).setExchange l {}
  (h5.setLState l (if disabled then 11 else 0)).ptpState l

/-- The link ends (R172, R173), low power with it (R208), and charging ends with it. The context's reset is the caller's. -/
def Hub.linkDown (h : Hub) (l : Nat) (disabled : Bool) : Hub :=
  let low := h.lState l == 6 || h.lState l == 7
  let h1 := if low then h.notify (nLanding l 14) ((if disabled then 11 else 0) + h.lState l * 16) else h
  (((h1.stopLinkTimers l).notify (nLanding l 1) (h.lState l + ofB disabled * 16)).dropContract l).linkCleared l disabled

end Sys2Proof.Machine
end

