-- ==== Sys2Proof/Machine/Compose.lean ====
section
/-! DEFINITION. The picture a head sends (R327, R328, R342, R343, R361): surfaces as they are stored, the stages a layer's pixels pass, blending over the
background, gamma and rounding. What the spec leaves open of it stands in log entry 80. -/

namespace Sys2Proof.Machine

/-! ### Surfaces as they are stored (R327, R328) -/

/-- Bytes of two pixels of a format. -/
def bytes2 (format : Nat) : Nat := ([8, 8, 16, 3, 6] : List Nat).getD format 8
def tileBytes (format : Nat) : Nat := 2048 * bytes2 format
def isYuv (format : Nat) : Bool := format == 3 || format == 4

/-- Where a sample of the first plane lies: e bytes each. -/
def planeAt (format w e x y : Nat) : Nat := (y / 64 * ((w + 63) / 64) + x / 64) * tileBytes format + (y % 64 * 64 + x % 64) * e

/-- Where a chroma pair lies, for 8- and 16-bit samples of b bytes. -/
def chromaAt (format w b x y : Nat) : Nat := (y / 32 * ((w + 63) / 64) + x / 32) * tileBytes format + 4096 * b + (y % 32 * 32 + x % 32) * 2 * b

/-- Bytes of a sample of the first plane. -/
def sampleBytes (format : Nat) : Nat := ([4, 4, 8, 1, 2] : List Nat).getD format 4

/-- A byte of a surface's memory. -/
def Hub.pixel (h : Hub) (s place : Nat) : Nat := h.pixels.read (fun _ => 0) (s * 2 ^ 30 + place)

def Hub.peekBytes (h : Hub) (s place n : Nat) : List Byte := (List.range n).map (fun i => BitVec.ofNat 8 (h.pixel s (place + i)))

def Hub.head (h : Hub) (n : Nat) : HeadState := h.heads.read (fun _ => {}) n

/-- The current surface of a layer: the one in effect (0x7FF none). -/
def Hub.current (h : Hub) (y : Nat) : Nat := h.use F.LAYER.SURFACE y

/-! ### Components -/

/-- A colour: red, green, blue and alpha in units of 1/65,535, beyond 0…1 where a half-precision value lies there. -/
abbrev Colour := Int × Int × Int × Int

/-- A component of n bits as one of 16: its bits repeated. -/
def widen (n v : Nat) : Int := (v * 65535 + (2 ^ n - 1) / 2) / (2 ^ n - 1)

/-- An IEEE 754 half in units of 1/65,535, rounded toward minus infinity; an infinity or a NaN is a value the spec does not give. -/
def halfUnits (v : Nat) : Int :=
  let e := bits v 10 5
  let f := bits v 0 10
  let m : Int := if e == 0 then (f : Int) else ((1024 + f) * 2 ^ (e - 1) : Nat)
  if e == 31 then (Config.specialHalf v).toInt else (if bitB v 15 then -m else m) * 65535 / 2 ^ 24

/-- The colour of a pixel of a surface with colour (R327). -/
def rgbPixel (format : Nat) (b : List Byte) : Colour :=
  let w := leAt b 0 4
  match format with
  | 1 => (widen 10 (bits w 20 10), widen 10 (bits w 10 10), widen 10 (bits w 0 10), widen 2 (bits w 30 2))
  | 2 => (halfUnits (leAt b 0 2), halfUnits (leAt b 2 2), halfUnits (leAt b 4 2), halfUnits (leAt b 6 2))
  | _ => (widen 8 (bits w 16 8), widen 8 (bits w 8 8), widen 8 (bits w 0 8), widen 8 (bits w 24 8))

/-- A luma or chroma sample of 8 bits, or of 16 with its data in [15:6], as one of 16 bits. -/
def yuvSample (format : Nat) (b : List Byte) : Int := if format == 4 then widen 10 (leAt b 0 2 / 64) else widen 8 (leAt b 0 1)

/-! ### Scaling (R343) -/

/-- The four samples around an output position of a direction, and the phase of 64: out of dst positions on src samples. -/
def taps (src dst i : Nat) : List Nat × Nat :=
  let p := i * src * 64 / dst
  ((List.range 4).map (fun k => min (src - 1) (p / 64 + k - 1)), p % 64)

/-- One direction of the filter on four samples; a size that stays takes each sample as it is. -/
def filterOne (same : Bool) (phase : Nat) (s : List Int) : Int := if same then s.getD 1 0 else (Config.polyphase phase s).toInt

/-- A plane of samples scaled from w × hgt to dw × dh at one output position. -/
def scaleAt (w hgt dw dh i j : Nat) (sample : Nat → Nat → Int) : Int :=
  let (xs, px) := taps w dw i
  let (ys, py) := taps hgt dh j
  filterOne (hgt == dh) py (ys.map (fun y => filterOne (w == dw) px (xs.map (fun x => sample x y))))

/-- A source pixel of a layer before scaling (stages 1 and 2): a colour, or luma with chroma upsampled and converted. -/
def Hub.sourcePixel (h : Hub) (y s i j : Nat) : Colour :=
  let f := h.use F.LAYER.FORMAT y
  let sw := h.get F.SURFACE.WIDTH s
  let x0 := h.use F.LAYER.SRC_X y
  let y0 := h.use F.LAYER.SRC_Y y
  let e := sampleBytes f
  if isYuv f then
    let luma := yuvSample f (h.peekBytes s (planeAt f sw e (x0 + i) (y0 + j)) e)
    let chroma (k x z : Nat) : Int := yuvSample f (h.peekBytes s (chromaAt f sw e (x0 / 2 + x) (y0 / 2 + z) + k * e) e)
    let w := h.use F.LAYER.SRC_W y
    let hgt := h.use F.LAYER.SRC_H y
    let up (k : Nat) : Int := scaleAt (w / 2) (hgt / 2) w hgt i j (chroma k)
    let c := Config.toRgb (h.use F.LAYER.CSC y) luma (up 0) (up 1)
    (c.1.toInt, c.2.1.toInt, c.2.2.toInt, 65535)
  else rgbPixel f (h.peekBytes s (planeAt f sw e (x0 + i) (y0 + j)) e)

/-- A pixel of a layer after scaling (stage 3), at a place of its destination rectangle. -/
def Hub.layerPixel (h : Hub) (y i j : Nat) : Colour :=
  let part (k : Colour → Int) : Int := scaleAt (h.use F.LAYER.SRC_W y) (h.use F.LAYER.SRC_H y) (h.use F.LAYER.DST_W y) (h.use F.LAYER.DST_H y) i j
    (fun a b => k (h.sourcePixel y (h.current y) a b))
  (part (fun c => c.1), part (fun c => c.2.1), part (fun c => c.2.2.1), part (fun c => c.2.2.2))

/-! ### Blending and output (R342) -/

/-- The layers a head composes, bottom to top: those enabled with a surface, by ascending Z and number; not one that waits for its new holder (R349). -/
def Hub.composed (h : Hub) (n : Nat) : List Nat :=
  let ys := ((List.range 8).map (fun j => 8 * n + j)).filter (fun y => h.use F.LAYER.ENABLE y == 1 && h.current y != 0x7FF && !h.hidden.read (fun _ => false) y)
  let ins (y : Nat) (l : List Nat) : List Nat :=
    l.takeWhile (fun z => h.use F.LAYER.Z z ≤ h.use F.LAYER.Z y) ++ y :: l.dropWhile (fun z => h.use F.LAYER.Z z ≤ h.use F.LAYER.Z y)
  ys.foldl (fun l y => ins y l) []

/-- out = src × g + dst × (1 − src_alpha × g) on one component, rounded to the nearest of 16 bits and clamped; g is ALPHA / 1,023. -/
def blend (alpha srcAlpha src dst : Int) : Int :=
  clampInt 0 65535 ((2 * (src * alpha * 65535 + dst * (65535 * 1023 - srcAlpha * alpha)) + 65535 * 1023) / (2 * 65535 * 1023))

/-- A layer over what lies below it at a place of the head. -/
def Hub.layerOver (h : Hub) (y px py : Nat) (below : Int × Int × Int) : Int × Int × Int :=
  let x0 := h.use F.LAYER.POS_X y
  let y0 := h.use F.LAYER.POS_Y y
  if x0 ≤ px && px < x0 + h.use F.LAYER.DST_W y && y0 ≤ py && py < y0 + h.use F.LAYER.DST_H y then
    let c := h.layerPixel y (px - x0) (py - y0)
    let g : Int := h.use F.LAYER.ALPHA y
    let a := if h.use F.LAYER.BLEND y == 1 then 65535 else c.2.2.2
    (blend g a c.1 below.1, blend g a c.2.1 below.2.1, blend g a c.2.2.1 below.2.2)
  else below

/-- A composed component through GAMMA, when enabled, and rounded to BPC: the LUT takes and gives 10 bits, red at [29:20], green and blue below. -/
def Hub.outputOf (h : Hub) (n at_ : Nat) (v : Int) : Nat :=
  let top := 2 ^ h.use F.HEAD.BPC n - 1
  if h.use F.HEAD.GAMMA_ENABLE n == 1 then
    let out := bits (h.use F.HEAD.GAMMA n ((v.toNat * 1023 + 32767) / 65535)) at_ 10
    (out * top * 2 + 1023) / 2046
  else (v.toNat * top * 2 + 65535) / 131070

/-- The bytes of one pixel as sent: red, green and blue, 16 bits each. -/
def Hub.pixelOut (h : Hub) (n : Nat) (c : Int × Int × Int) : List Byte :=
  leBytes 2 (h.outputOf n 20 c.1) ++ leBytes 2 (h.outputOf n 10 c.2.1) ++ leBytes 2 (h.outputOf n 0 c.2.2)

/-- A head's background colour. -/
def Hub.background (h : Hub) (n : Nat) : Int × Int × Int :=
  let v := h.use F.HEAD.BACKGROUND n
  (widen 10 (bits v 20 10), widen 10 (bits v 10 10), widen 10 (bits v 0 10))

/-- One active line as composed. -/
def Hub.lineOut (h : Hub) (n py : Nat) : List Byte :=
  ((List.range (h.use F.HEAD.TIMING_HACT n)).map (fun px => h.pixelOut n ((h.composed n).foldl (fun c y => h.layerOver y px py c) (h.background n)))).flatten

/-- The lines of a frame as sent: one that was late is the line before it as sent, or the background for line 0 (R361). -/
def Hub.frameLines (h : Hub) (n : Nat) : List (List Byte) :=
  let late := (h.head n).late
  let dark := (List.replicate (h.use F.HEAD.TIMING_HACT n) (h.pixelOut n (h.background n))).flatten
  ((List.range (h.use F.HEAD.TIMING_VACT n)).foldl (fun (x : List (List Byte) × List Byte) py =>
    let line := if late.contains py then x.2 else h.lineOut n py
    (x.1 ++ [line], line)) ([], dark)).1

/-- The picture of the frame that ends, as sent to the head's sink. -/
def Hub.sendFrame (h : Hub) (n : Nat) : Hub :=
  let h1 := h.emit .display n (h.frameLines n).flatten
  { h1 with heads := h1.heads.write (fun _ => {}) n { h1.head n with late := [] } }

end Sys2Proof.Machine
end

