-- ==== Sys2Proof/Machine/Display.lean ====
section
/-! DEFINITION. Displays and the Depot (R325–R364): surfaces and their lifetime, the surface writer, Presents and flips, clones
and Turntable jobs, timing generators, framelock and DisplayPort links. -/

namespace Sys2Proof.Machine

/-! ### Surfaces (R327–R331) -/

/-- A reading of the fields: the committed ones, or those a set would leave (R134). -/
abbrev View := Fld → Nat → Nat → Nat

/-- The committed fields as a view. -/
def Hub.view (h : Hub) : View := fun f i e => h.get f i e

/-- A surface's size in KiB, in whole pages of 64 KiB (R328). -/
def surfaceKiB (format w h : Nat) : Nat := ((w + 63) / 64 * ((h + 63) / 64) * tileBytes format + 65535) / 65536 * 64

def Hub.modHead (h : Hub) (n : Nat) (f : HeadState → HeadState) : Hub :=
  { h with heads := h.heads.write (fun _ => {}) n (f (h.head n)) }
def Hub.clone (h : Hub) (y : Nat) : Clone := h.clones.read (fun _ => {}) y
def Hub.modClone (h : Hub) (y : Nat) (f : Clone → Clone) : Hub :=
  { h with clones := h.clones.write (fun _ => {}) y (f (h.clone y)) }
def Hub.queued (h : Hub) (y : Nat) : List Present := h.presents.read (fun _ => []) y
def Hub.setQueued (h : Hub) (y : Nat) (ps : List Present) : Hub :=
  ({ h with presents := h.presents.write (fun _ => []) y ps }).set F.LAYER.PENDING y ps.length

def Hub.modHidden (h : Hub) (y : Nat) (b : Bool) : Hub := { h with hidden := h.hidden.write (fun _ => false) y b }

def jobNames (j : Job) (s : Nat) : Nat := ofB (j.src == s) + ofB (j.dst == s)

/-- The references to a surface (R330): its owner's; those of layers, where a disabled layer holds a DYING surface no longer (R349); of Presents; of
clone bindings, committed or in effect; of copies. -/
def Hub.ownerRefs (h : Hub) (s : Nat) : Nat := ofB (h.get F.SURFACE.STATE s == 1)
def Hub.layerRefs (h : Hub) (s : Nat) : Nat :=
  (indicesWhere 32 (fun y => h.current y == s && (h.get F.SURFACE.STATE s == 1 || h.use F.LAYER.ENABLE y == 1))).length
def Hub.presentRefs (h : Hub) (s : Nat) : Nat := (h.presents.cells.map (fun c => (c.2.filter (fun p => p.surface == s)).length)).sum
def Hub.cloneRefs (h : Hub) (s : Nat) : Nat :=
  let names (y e : Nat) : Bool := h.use F.LAYER.CLONE_SURF y e == s || h.get F.LAYER.CLONE_SURF y e == s
  ((List.range 32).map (fun y => if h.get F.LAYER.CLONE_OF y == 0xFF then 0 else ofB (names y 0) + ofB (names y 1))).sum
def Hub.copyRefs (h : Hub) (s : Nat) : Nat :=
  (h.jobs.map (fun j => jobNames j s)).sum + (h.clones.cells.map (fun c => match c.2.copy with | some j => jobNames j s | none => 0)).sum

/-- SURFACE.REFS (R330). -/
def Hub.refs (h : Hub) (s : Nat) : Nat := h.ownerRefs s + h.layerRefs s + h.presentRefs s + h.cloneRefs s + h.copyRefs s

/-- KiB free on a head (R325), without its retired pages (R553). -/
def Hub.depotFree (h : Hub) (n : Nat) : Nat :=
  1040384 - ((List.range 1024).map (fun s => if h.get F.SURFACE.STATE s != 0 && h.get F.SURFACE.HEAD s == n then h.get F.SURFACE.SIZE s else 0)).sum - 64 * h.retired.read (fun _ => 0) n

/-- REFS follows the references; a DYING surface without one becomes FREE and its memory returns (R330). freer names the
context that freed it. -/
def Hub.syncSurface (h : Hub) (s : Nat) : Hub :=
  let r := h.refs s
  let h1 := h.set F.SURFACE.REFS s r
  if h.get F.SURFACE.STATE s == 2 && r == 0 then
    let k := h.freedBy.read (fun _ => 0) s
    let h2 := ({ h1 with pixels := ⟨h1.pixels.cells.filter (fun c => c.1 / 2 ^ 30 != s)⟩, freedBy := h1.freedBy.write (fun _ => 0) s 0 }).set F.SURFACE.STATE s 0
    let h3 := (indicesWhere 32 (fun y => h.current y == s)).foldl (fun g y => (g.set F.LAYER.SURFACE y 0x7FF).take F.LAYER.SURFACE y) h2
    (h3.set F.SURFACE.SIZE s 0).raise (nHead (h.get F.SURFACE.HEAD s) 11) (s + k * 4096 + h.get F.SURFACE.SIZE s * 65536) (ctxCode k)
  else h1

/-- Every surface in use follows its references. -/
def Hub.syncSurfaces (h : Hub) : Hub :=
  (List.range 1024).foldl (fun g s => if g.get F.SURFACE.STATE s == 0 then g else g.syncSurface s) h

/-- An allocation takes effect (R329): zeroed, owned, with the owner's reference. -/
def Hub.allocate (h : Hub) (s ctx : Nat) : Hub :=
  (((h.set F.SURFACE.OWNER s ctx).set F.SURFACE.SIZE s (surfaceKiB (h.get F.SURFACE.FORMAT s) (h.get F.SURFACE.WIDTH s) (h.get F.SURFACE.HEIGHT s))).set
    F.SURFACE.ALLOCATED_AT s h.now48).syncSurface s

/-- The owner frees a surface, or its context resets (R330, R349): DYING until its last reference drops. -/
def Hub.freeSurface (h : Hub) (s ctx : Nat) : Hub :=
  (({ h with freedBy := h.freedBy.write (fun _ => 0) s ctx }.set F.SURFACE.STATE s 2).set F.SURFACE.OWNER s 0xF).syncSurface s

/-! ### Pixels (R328, R333–R336) -/

/-- Writes bytes into a surface from a place on. -/
def Hub.poke (h : Hub) (s place : Nat) (bs : List Byte) : Hub :=
  { h with pixels := (bs.zipIdx).foldl (fun t b => t.write (fun _ => 0) (s * 2 ^ 30 + place + b.2) b.1.toNat) h.pixels }

/-- The pixel data of a rectangle lands in its surface. -/
def Hub.writeRect (h : Hub) (s x y w hgt : Nat) (data : List Byte) : Hub :=
  let f := h.get F.SURFACE.FORMAT s
  let sw := h.get F.SURFACE.WIDTH s
  let e := sampleBytes f
  let h1 := (List.range hgt).foldl (fun g r => (List.range w).foldl (fun g c =>
    g.poke s (planeAt f sw e (x + c) (y + r)) ((data.drop ((r * w + c) * e)).take e)) g) h
  if isYuv f then
    let rest := data.drop (w * hgt * e)
    (List.range (hgt / 2)).foldl (fun g r => (List.range (w / 2)).foldl (fun g c =>
      g.poke s (chromaAt f sw e (x / 2 + c) (y / 2 + r)) ((rest.drop ((r * (w / 2) + c) * 2 * e)).take (2 * e))) g) h1
  else h1

/-- A discarded write (R336). -/
def Hub.refuseWrite (h : Hub) (l s reason : Nat) : Hub :=
  let h1 := h.add F.SURFACE.WRITES_REFUSED s 1
  h1.raise (nHead (h.get F.SURFACE.HEAD s) 10) (s + l * 1024 + reason * 4096 + 2 ^ 32) [l]

/-- Whether a rectangle lies inside a surface. -/
def Hub.inside (h : Hub) (s x y w hgt : Nat) : Bool := x + w ≤ h.get F.SURFACE.WIDTH s && y + hgt ≤ h.get F.SURFACE.HEIGHT s

/-- A SURFACE_WRITE body (R333, R336). -/
def Hub.surfaceWrite (h : Hub) (l : Nat) (b : List Byte) : Hub :=
  let s := leAt b 0 2 % 1024
  let x := leAt b 2 2
  let y := leAt b 4 2
  let w := leAt b 6 2
  let n := leAt b 8 2
  let f := h.get F.SURFACE.FORMAT s
  if 1024 ≤ leAt b 0 2 then h
  else if h.get F.SURFACE.STATE s != 1 then h.refuseWrite l s 1
  else if h.get F.SURFACE.OWNER s != l then h.refuseWrite l s 2
  else if !h.inside s x y w n then h.refuseWrite l s 3
  else if isYuv f && (x % 2 + y % 2 + w % 2 + n % 2 != 0) then h.refuseWrite l s 5
  else if b.length < 16 || (b.length - 16) * 2 != w * n * bytes2 f then h.refuseWrite l s 4
  else (h.writeRect s x y w n (b.drop 16)).add F.SURFACE.WRITES s 1

/-- The words a zero-run payload decodes to, as bytes; none when it does not decode. -/
def zeroRuns : Nat → List Byte → Option (List Byte)
  | 0, _ => none
  | _ + 1, [] => some []
  | fuel + 1, bs =>
    if bs.length < 2 then none
    else
      let c := leAt bs 0 2
      let n := (c % 32768 + 1) * 4
      if c < 32768 then (zeroRuns fuel (bs.drop 2)).map (fun t => List.replicate n 0 ++ t)
      else if bs.length < 2 + n then none
      else (zeroRuns fuel (bs.drop (2 + n))).map (fun t => (bs.drop 2).take n ++ t)

/-- The tile records of a TILE_DELTA: (column, row, D), none when a record is malformed (R334). -/
def tileRecords (tile : Nat) : Nat → List Byte → Option (List (Nat × Nat × List Byte))
  | 0, [] => some []
  | 0, _ => none
  | n + 1, bs =>
    let w := leAt bs 0 8
    let len := bits w 32 16
    let body := (bs.drop 8).take len
    if bs.length < 8 + len || bits w 28 4 != 0 || bits w 48 16 != 0 || 1 < bits w 24 4 then none
    else
      let d := if bits w 24 4 == 0 then some body else zeroRuns (len + 1) body
      match d with
      | none => none
      | some d =>
        if d.length != tile then none
        else (tileRecords tile n (bs.drop (8 + (len + 3) / 4 * 4))).map (fun t => (bits w 0 12, bits w 12 12, d) :: t)

/-- A TILE_DELTA body (R334, R336). -/
def Hub.tileDelta (h : Hub) (l : Nat) (b : List Byte) : Hub :=
  let s := leAt b 0 2 % 1024
  let f := h.get F.SURFACE.FORMAT s
  let cols := (h.get F.SURFACE.WIDTH s + 63) / 64
  let rows := (h.get F.SURFACE.HEIGHT s + 63) / 64
  if 1024 ≤ leAt b 0 2 then h
  else if h.get F.SURFACE.STATE s != 1 then h.refuseWrite l s 1
  else if h.get F.SURFACE.OWNER s != l then h.refuseWrite l s 2
  else match (if b.length < 8 then none else tileRecords (tileBytes f) (leAt b 2 2) (b.drop 8)) with
    | none => h.refuseWrite l s 4
    | some rs =>
      if rs.any (fun r => cols ≤ r.1 || rows ≤ r.2.1) then h.refuseWrite l s 3
      else
        (rs.foldl (fun g r =>
          let place := (r.2.1 * cols + r.1) * tileBytes f
          g.poke s place ((r.2.2.zipIdx).map (fun d => d.1 ^^^ BitVec.ofNat 8 (g.pixel s (place + d.2))))) h).add F.SURFACE.WRITES s 1

/-! ### Composition budget (R345, R346, R351) -/

def hTotal (v : View) (n : Nat) : Nat := v F.HEAD.TIMING_HACT n 0 + v F.HEAD.TIMING_HFP n 0 + v F.HEAD.TIMING_HSYNC n 0 + v F.HEAD.TIMING_HBP n 0
def vTotal (v : View) (n : Nat) : Nat := v F.HEAD.TIMING_VACT n 0 + v F.HEAD.TIMING_VFP n 0 + v F.HEAD.TIMING_VSYNC n 0 + v F.HEAD.TIMING_VBP n 0

/-- Area of a layer charged, in pixels, and bytes read for it, doubled. -/
def layerArea (v : View) (y : Nat) : Nat :=
  max (v F.LAYER.SRC_W y 0) (v F.LAYER.DST_W y 0) * max (v F.LAYER.SRC_H y 0) (v F.LAYER.DST_H y 0)
def layerRead2 (v : View) (y : Nat) : Nat := v F.LAYER.SRC_W y 0 * v F.LAYER.SRC_H y 0 * bytes2 (v F.LAYER.FORMAT y 0)

def enabledLayers (v : View) (n : Nat) : List Nat := ((List.range 8).map (fun k => 8 * n + k)).filter (fun y => v F.LAYER.ENABLE y 0 == 1)

/-- Layer-pixels and doubled bytes of a head per frame. -/
def headArea (v : View) (n : Nat) : Nat := ((enabledLayers v n).map (layerArea v)).sum
def headRead2 (v : View) (n : Nat) : Nat := ((enabledLayers v n).map (layerRead2 v)).sum

/-- Whether the layers of a head fit 16,000 million layer-pixels and 96,000 MB per second. -/
def layersFit (v : View) (n : Nat) : Bool :=
  let clk := v F.HEAD.TIMING_PIXCLK n 0 * 1000
  let frame := hTotal v n * vTotal v n
  headArea v n * clk ≤ 16000000000 * frame && headRead2 v n * clk ≤ 2 * 96000000000 * frame

/-- A per-frame figure of a head per second, in millions. -/
def perSecond (v : View) (n x : Nat) : Nat := x * v F.HEAD.TIMING_PIXCLK n 0 * 1000 / (hTotal v n * vTotal v n) / 1000000

/-- Doubled bytes a clone layer copies per frame of its own head. -/
def cloneRead2 (v : View) (y : Nat) : Nat := let s := v F.LAYER.CLONE_OF y 0; layerRead2 v s

/-- Whether the clones that read or write a head's surfaces fit its Turntable share of 10,400 MB/s. -/
def clonesFit (v : View) (n : Nat) : Bool :=
  let cs := (List.range 32).filter (fun y => let s := v F.LAYER.CLONE_OF y 0; s != 0xFF && (y / 8 == n || s / 8 == n))
  decide ((cs.map (fun y => cloneRead2 v y * v F.HEAD.TIMING_PIXCLK (y / 8) 0 * 1000 / (hTotal v (y / 8) * vTotal v (y / 8)))).sum ≤ 2 * 10400000000)

def Hub.useView (h : Hub) : View := fun f i e => h.use f i e

/-- TURN_RATE of a head: the MB/s of its admitted clones, by the values in effect (R14). -/
def Hub.turnRate (h : Hub) (n : Nat) : Nat :=
  let v := h.useView
  let cs := (List.range 32).filter (fun y => let s := v F.LAYER.CLONE_OF y 0; s != 0xFF && (y / 8 == n || s / 8 == n))
  (cs.map (fun y => cloneRead2 v y * v F.HEAD.TIMING_PIXCLK (y / 8) 0 * 1000 / (hTotal v (y / 8) * vTotal v (y / 8)))).sum / 2000000

/-- The lane payload of a link rate in Mbit/s, and the link limit of R351 in units of 0.01 Mbit/s. -/
def lanePayload (rate : Nat) : Nat := ([1296, 2160, 4320, 6480, 9697, 13091, 19394] : List Nat).getD rate 1296
def linkLimit (rate lanes : Nat) : Nat := 97 * lanes * lanePayload rate

/-- Whether a stream fits a link limit: pixel clock in kHz, BPC, DSC on, DSC_BPP. -/
def streamFits (clk bpc : Nat) (dsc : Bool) (bpp limit : Nat) : Bool :=
  if dsc then clk * bpp * 100 ≤ limit * 16 * 1000 else clk * 3 * bpc * 100 ≤ limit * 1000

def headStream (v : View) (n limit : Nat) : Bool :=
  streamFits (v F.HEAD.TIMING_PIXCLK n 0) (v F.HEAD.BPC n 0) (v F.HEAD.DSC_ENABLE n 0 == 1) (v F.HEAD.DSC_BPP n 0) limit

/-! ### Presents (R337–R340) -/

/-- PRESENT_DONE on the tunnel that carried the Present. -/
def Hub.presentDone (h : Hub) (p : Present) (layer status frame net : Nat) : Hub :=
  let h1 := h.sendTunnel 7 p.ctx p.slot 4 (leBytes 4 p.id ++ leBytes 1 status ++ leBytes 1 layer ++ leBytes 2 p.surface ++ leBytes 8 frame ++ leBytes 6 net ++ leBytes 2 0)
  if status == 2 || status == 3 then
    h1.raise (nHead (layer / 8) 9) (p.id + status * 2 ^ 32 + layer * 2 ^ 40 + 2 ^ 48) (h1.holderCtx (13 + layer))
  else h1

/-- Whether a surface fits a layer as R337 asks of a Present of a context: dying says whether a DYING one will do. -/
def Hub.fitsLayer (h : Hub) (v : View) (y s : Nat) : Bool :=
  h.get F.SURFACE.HEAD s == y / 8 && h.get F.SURFACE.FORMAT s == v F.LAYER.FORMAT y 0 &&
    v F.LAYER.SRC_X y 0 + v F.LAYER.SRC_W y 0 ≤ h.get F.SURFACE.WIDTH s && v F.LAYER.SRC_Y y 0 + v F.LAYER.SRC_H y 0 ≤ h.get F.SURFACE.HEIGHT s

def Hub.mayPresent (h : Hub) (v : View) (ctx y s : Nat) : Bool :=
  h.get F.SURFACE.STATE s == 1 && (h.get F.SURFACE.OWNER s == ctx || bitB (h.get F.SURFACE.SHARE s) ctx) && h.fitsLayer v y s

/-- Local 2^−16 ns that network time takes to advance by a number of ns. -/
def Hub.localSpan (h : Hub) (ns : Int) : Int := ns * 65536 * 2 ^ 48 / (2 ^ 48 + h.getI F.CLOCK.RATE 0)

/-- A duration of a head's pixels in 2^−16 ns at its trimmed pixel clock (R350, R355). -/
def Hub.pixelTime (h : Hub) (n px : Nat) : Nat :=
  (((px * 65536 * 10 ^ 14 : Nat) : Int) / ((h.use F.HEAD.TIMING_PIXCLK n : Int) * (10 ^ 8 + h.getI F.HEAD.TRIM n))).toNat

def Hub.hTot (h : Hub) (n : Nat) : Nat := hTotal h.useView n
def Hub.vTot (h : Hub) (n : Nat) : Nat := vTotal h.useView n

/-- Pixels from a frame start to its start of blanking, and from there to the next frame start. -/
def Hub.activePx (h : Hub) (n : Nat) : Nat := (h.use F.HEAD.TIMING_VACT n - 1) * h.hTot n + h.use F.HEAD.TIMING_HACT n
def Hub.blankPx (h : Hub) (n : Nat) : Nat := h.vTot n * h.hTot n - h.activePx n

/-- Whether a head scans out: not in Desk Standby once it has stopped (R567, R568). -/
def Hub.scanning (h : Hub) (n : Nat) : Bool := h.use F.HEAD.SCANOUT n == 1 && !(h.head n).standby

/-- The FRAME_COUNT of the blanking a Present is due at, as it stands now (R338). -/
def Hub.dueFrame (h : Hub) (n : Nat) (p : Present) : Nat :=
  let next := h.get F.HEAD.FRAME_COUNT n + 1
  match p.kind with
  | 1 => max next p.target
  | 2 =>
    let start := (h.head n).nextAt
    let wait := diff48 p.target (encInt 48 (h.networkAt start))
    let period := (h.pixelTime n (h.vTot n * h.hTot n) : Int)
    if wait ≤ 0 then next else next + ((h.localSpan wait + period - 1) / period).toNat
  | _ => next

/-- A layer flips to a surface (R339, R348): its clones follow. -/
def Hub.startCopy (h : Hub) (y : Nat) : Hub :=
  let s := h.use F.LAYER.CLONE_OF y
  let cur := h.current s
  if s == 0xFF || cur == 0x7FF then h
  else
    let e := if (h.clone y).shown == 1 then 1 else 0
    let j : Job := { src := cur, dst := h.use F.LAYER.CLONE_SURF y e, sx := h.use F.LAYER.SRC_X s, sy := h.use F.LAYER.SRC_Y s,
                     w := h.use F.LAYER.SRC_W s, hgt := h.use F.LAYER.SRC_H s, rot := h.use F.LAYER.CLONE_ROTATE y, id := e }
    h.modClone y (fun c => { c with copy := some j, again := false, done := if c.done == e + 1 then 0 else c.done })

/-- The source layer of clones has flipped (R347). -/
def Hub.sourceFlipped (h : Hub) (s : Nat) : Hub :=
  ((List.range 32).filter (fun y => h.use F.LAYER.CLONE_OF y == s)).foldl (fun g y =>
    let c := g.clone y
    if c.copy.isNone then g.startCopy y
    else if c.again then (g.add F.LAYER.CLONE_SKIPPED y 1).notify (nHead (y / 8) 12) (y + 2 ^ 32)
    else g.modClone y (fun c => { c with again := true })) h

def Hub.flip (h : Hub) (y s ctx : Nat) : Hub :=
  ((((((h.set F.LAYER.SURFACE y s).take F.LAYER.SURFACE y).set F.LAYER.SHOWN_BY y ctx).add F.LAYER.PRESENTS y 1).sourceFlipped y).modHidden y false)

/-- The accepted Presents due at the blanking of a frame number, latest last, and the rest. -/
def Hub.duePresents (h : Hub) (y : Nat) (due : Present → Bool) : List Present × List Present :=
  ((h.queued y).filter due, (h.queued y).filter (fun p => !due p))

/-- A Present arrives (R337, R338): refused, flipped at once on a dark head, or queued over the one it supersedes. -/
def Hub.present (h : Hub) (l slot : Nat) (b : List Byte) : Hub :=
  let y := byteAt b 4
  let kind := byteAt b 5
  let s := leAt b 6 2
  let bad := b.length != 16 || 32 ≤ y || 2 < kind || 1024 ≤ s || (kind == 2 && leAt b 14 2 != 0) || (kind == 0 && leAt b 8 8 != 0)
  if bad then h
  else
    let n := y / 8
    let p : Present := { ctx := l, slot := slot, id := leAt b 0 4, kind := kind, target := leAt b 8 8, surface := s, at_ := h.now }
    let fc := h.get F.HEAD.FRAME_COUNT n
    let due := h.dueFrame n p
    let same := (h.queued y).filter (fun q => h.dueFrame n q == due)
    if h.holder (13 + y) != l then h.presentDone p y 3 0 0
    else if !h.mayPresent h.view l y s then h.presentDone p y 4 0 0
    else if h.use F.LAYER.CLONE_OF y != 0xFF then h.presentDone p y 7 0 0
    else if (kind == 1 && fc + 1000 < p.target) || (kind == 2 && 10 * (sec : Int) < diff48 p.target h.network48) then h.presentDone p y 6 0 0
    else if 4 ≤ (h.queued y).length && same.isEmpty then h.presentDone p y 5 0 0
    else if !h.scanning n then ((h.flip y s l).syncSurfaces).presentDone p y 0 0 0
    else
      let h1 := h.setQueued y ((h.queued y).filter (fun q => !same.contains q) ++ [p])
      (same.foldl (fun g q => g.presentDone q y 2 0 0) h1).syncSurfaces

/-- Step 3 of R348 for one layer: the due Present accepted last, or the store, flips; the others due end SUPERSEDED. fc is
the blanking's FRAME_COUNT, start the coming frame's start, last the previous one's. -/
def Hub.flipLayer (h : Hub) (y fc start last : Nat) : Hub :=
  let n := y / 8
  let k := h.head n
  let reached (t at_ : Nat) : Bool := decide (0 ≤ diff48 (encInt 48 (h.networkAt at_)) t)
  let due (p : Present) : Bool := match p.kind with | 1 => decide (p.target ≤ fc) | 2 => reached p.target start | _ => true
  let late (p : Present) : Bool := decide (h.now < p.at_ + 20 * usec) ||
    (match p.kind with
      | 1 => decide (p.target < fc)
      | 2 => reached p.target last
      | _ => decide (k.gapStart / 65536 ≤ p.at_ && p.at_ < k.gapEnd / 65536))
  let (now_, rest) := h.duePresents y due
  let stored := h.storedBy.read (fun _ => 0) y
  if stored != 0 then
    let s := h.get F.LAYER.SURFACE y
    let h1 := { h.setQueued y rest with storedBy := h.storedBy.write (fun _ => 0) y 0 }
    let h2 := now_.foldl (fun g q => g.presentDone q y 2 0 0) h1
    if h.holder (13 + y) == stored - 1 && (s == 0x7FF || (h.get F.SURFACE.STATE s != 0 && h.fitsLayer h.useView y s)) then h2.flip y s (stored - 1)
    else h2.set F.LAYER.SURFACE y (h.current y)
  else match now_.getLast? with
    | none => h
    | some p =>
      let h1 := now_.dropLast.foldl (fun g q => g.presentDone q y 2 0 0) (h.setQueued y rest)
      if h.holder (13 + y) != p.ctx then h1.presentDone p y 3 0 0
      else if !h.fitsLayer h.useView y p.surface || h.get F.SURFACE.STATE p.surface == 0 then h1.presentDone p y 4 0 0
      else (h1.flip y p.surface p.ctx).modHead n (fun k => { k with shown := k.shown ++ [(p, ofB (late p), y)] })

/-! ### The Turntable (R341, R346, R347) -/

/-- Where a pixel of a w × hgt rectangle lands after k quarter turns clockwise. -/
def turned (k w hgt x y : Nat) : Nat × Nat :=
  match k with
  | 1 => (hgt - 1 - y, x)
  | 2 => (w - 1 - x, hgt - 1 - y)
  | 3 => (y, w - 1 - x)
  | _ => (x, y)

/-- A copy is made: every sample of the source rectangle, rotated, into the destination. -/
def Hub.turn (h : Hub) (j : Job) : Hub :=
  let f := h.get F.SURFACE.FORMAT j.src
  let sw := h.get F.SURFACE.WIDTH j.src
  let dw := h.get F.SURFACE.WIDTH j.dst
  let e := sampleBytes f
  let h1 := (List.range j.hgt).foldl (fun g r => (List.range j.w).foldl (fun g c =>
    let d := turned j.rot j.w j.hgt c r
    g.poke j.dst (planeAt f dw e (j.dx + d.1) (j.dy + d.2)) (h.peekBytes j.src (planeAt f sw e (j.sx + c) (j.sy + r)) e)) g) h
  if isYuv f then
    (List.range (j.hgt / 2)).foldl (fun g r => (List.range (j.w / 2)).foldl (fun g c =>
      let d := turned j.rot (j.w / 2) (j.hgt / 2) c r
      g.poke j.dst (chromaAt f dw e (j.dx / 2 + d.1) (j.dy / 2 + d.2)) (h.peekBytes j.src (chromaAt f sw e (j.sx / 2 + c) (j.sy / 2 + r)) (2 * e))) g) h1
  else h1

def Hub.turnDone (h : Hub) (j : Job) (status : Nat) : Hub :=
  h.sendTunnel 7 j.l j.slot 6 (leBytes 4 j.id ++ leBytes 1 status ++ leBytes 3 0 ++ leBytes 6 h.now48 ++ leBytes 2 0)

/-- A TURN_JOB arrives (R341). -/
def Hub.turnJob (h : Hub) (l slot : Nat) (b : List Byte) : Hub :=
  let j : Job := { l := l, slot := slot, id := leAt b 0 4, src := leAt b 4 2, dst := leAt b 6 2, sx := leAt b 8 2, sy := leAt b 10 2,
                   w := leAt b 12 2, hgt := leAt b 14 2, dx := leAt b 16 2, dy := leAt b 18 2, rot := byteAt b 20 % 4 }
  let ok (s : Nat) : Bool := s < 1024 && h.get F.SURFACE.STATE s == 1
  let f := h.get F.SURFACE.FORMAT j.src
  let (tw, th) := if j.rot % 2 == 1 then (j.hgt, j.w) else (j.w, j.hgt)
  if b.length != 24 || 4 ≤ byteAt b 20 || leAt b 21 3 != 0 then h
  else if !ok j.src || !ok j.dst || !(h.get F.SURFACE.OWNER j.src == l || bitB (h.get F.SURFACE.SHARE j.src) l) || h.get F.SURFACE.OWNER j.dst != l then
    h.turnDone j 1
  else if !h.inside j.src j.sx j.sy j.w j.hgt || !h.inside j.dst j.dx j.dy tw th then h.turnDone j 2
  else if h.get F.SURFACE.FORMAT j.dst != f || (isYuv f && (j.sx % 2 + j.sy % 2 + j.w % 2 + j.hgt % 2 + j.dx % 2 + j.dy % 2 != 0)) then h.turnDone j 3
  else if 16 ≤ (h.jobs.filter (fun x => x.l == l)).length then h.turnDone j 4
  else ({ h with jobs := h.jobs ++ [j] }).syncSurfaces

/-- The first job of a landing completes: clone copies come first (R346). -/
def Hub.jobDone (h : Hub) (l : Nat) : Hub :=
  if h.depot == 1 || h.clones.cells.any (fun c => c.2.copy.isSome) then h
  else match h.jobs.find? (fun j => j.l == l) with
    | none => h
    | some j => ((({ h.turn j with jobs := h.jobs.erase j }).add F.SURFACE.WRITES j.dst 1).syncSurfaces).turnDone j 0

/-- A clone copy completes (R347). -/
def Hub.copyDone (h : Hub) (y : Nat) : Hub :=
  if h.depot == 1 then h
  else match (h.clone y).copy with
    | none => h
    | some j =>
      let h1 := (h.turn j).modClone y (fun c => { c with copy := none, done := j.id + 1 })
      (if (h.clone y).again then h1.startCopy y else h1).syncSurfaces

/-- Step 4 of R348: clone layers of a head whose copies have completed flip. -/
def Hub.cloneFlips (h : Hub) (n : Nat) : Hub :=
  ((List.range 8).map (fun k => 8 * n + k)).foldl (fun g y =>
    let c := g.clone y
    if c.done == 0 || g.use F.LAYER.CLONE_OF y == 0xFF then g
    else (g.flip y (g.use F.LAYER.CLONE_SURF y (c.done - 1)) (g.holder (13 + y))).modClone y (fun c => { c with shown := c.done, done := 0 })) h

/-- A committed CLONE_OF begins or ends copying (R347). The copy it begins is made at once, so CLONE_OF is in effect from its commit on, and
CLONE_ROTATE and CLONE_SURF, which the copy needs, with it (DEDUCED, log entry 83). -/
def Hub.cloneChanged (h : Hub) (y : Nat) : Hub :=
  let h1 := (((h.take F.LAYER.CLONE_OF y).take F.LAYER.CLONE_ROTATE y).take F.LAYER.CLONE_SURF y).modClone y (fun _ => {})
  (if h.get F.LAYER.CLONE_OF y == 0xFF then h1 else h1.startCopy y).syncSurfaces

/-! ### Framelock (R354–R357) -/

/-- The error of a frame start in ps, in (−P/2, P/2]. -/
def Hub.lockError (h : Hub) (n clk : Nat) : Int :=
  let p : Int := h.get F.HEAD.LOCK_PERIOD n
  let fine := h.networkFine clk
  let whole := diff48 (encInt 48 (fine / 65536)) (h.get F.HEAD.LOCK_BASE n)
  let ps := whole * 1000 + fine % 65536 * 1000 / 65536
  let r := ps % p
  if p < 2 * r then r - p else r

/-- A frame period and a line of the committed timing, in ps (rounded down). -/
def Hub.framePs (h : Hub) (n px : Nat) : Nat := px * 10 ^ 9 / h.get F.HEAD.TIMING_PIXCLK n

def Hub.lockReachable (h : Hub) (n : Nat) : Bool :=
  let p0 := h.framePs n (hTotal h.view n * vTotal h.view n)
  let line := h.framePs n (hTotal h.view n)
  let p := h.get F.HEAD.LOCK_PERIOD n
  p0 * 999 ≤ p * 1000 && p * 1000 ≤ p0 * 1001 + line * 1000

/-- LOCK_STATE changes; entering and leaving LOCKED are reported (R356). -/
def Hub.lockState (h : Hub) (n new cause : Nat) : Hub :=
  let old := h.get F.HEAD.LOCK_STATE n
  let e := encInt 32 (h.getI F.HEAD.LOCK_ERROR n)
  let h1 := h.set F.HEAD.LOCK_STATE n new
  if old == new then h1
  else
    let h2 := h1.modHead n (fun k => { k with good := 0, bad := 0 })
    let h3 := if new ≤ 1 || new == 4 then h2.setI F.HEAD.TRIM n 0 else h2
    if new == 3 then h3.notify (nHead n 7) e
    else if old == 3 then h3.notify (nHead n 8) (e + cause * 2 ^ 32)
    else h3

/-- LOCK_STATE follows enabling, the clock and reachability. -/
def Hub.syncLock (h : Hub) (n cause : Nat) : Hub :=
  let st := h.get F.HEAD.LOCK_STATE n
  if !h.on F.HEAD.LOCK_ENABLE n || !h.scanning n then h.lockState n 0 cause
  else if !h.on F.CLOCK.EVER_LOCKED 0 then h.lockState n 1 cause
  else if !h.lockReachable n then h.lockState n 4 4
  else if st == 2 || st == 3 then h
  else h.lockState n 2 cause

/-- Framelock meets an accepted clock step (R357). -/
def Hub.lockStep (h : Hub) (n : Nat) : Hub :=
  let e := h.lockError n (h.head n).frameAt
  if h.get F.HEAD.LOCK_STATE n == 3 && (h.framePs n (hTotal h.view n) : Int) < 2 * e.natAbs then h.lockState n 2 2 else h

/-- The framelock work of a frame start (R354–R356): the error, the lock state, the trim, within its bounds, and whether
this frame is stretched by a line. -/
def Hub.lockFrame (h : Hub) (n clk : Nat) : Hub × Bool :=
  let h0 := h.syncLock n 1
  let st := h0.get F.HEAD.LOCK_STATE n
  if st != 2 && st != 3 then (h0, false)
  else
    let e := h0.lockError n clk
    let line : Int := h0.framePs n (hTotal h0.view n)
    let h1 := h0.setI F.HEAD.LOCK_ERROR n (clampInt (-2147483648) 2147483647 (e / 1000))
    let inside := decide (2 * (e.natAbs : Int) ≤ line)
    let h2 := h1.modHead n (fun k => { k with good := if inside then k.good + 1 else 0, bad := if inside then 0 else k.bad + 1 })
    let h3 := if st == 2 && 8 ≤ (h2.head n).good then h2.lockState n 3 0
      else if st == 3 && 4 ≤ (h2.head n).bad then h2.lockState n 2 1 else h2
    -- The trim moves by a free amount within 200 ppm per second, and stays within 1,000 ppm.
    let room : Nat := min 200000 ((clk - (h.head n).trimAt) * 20000 / (65536 * sec))
    let move : Int := (h3.freeVal % (2 * room + 1) : Nat) - (room : Int)
    let h4 := (h3.drawn.setI F.HEAD.TRIM n (clampInt (-100000) 100000 (h3.getI F.HEAD.TRIM n + move))).modHead n (fun k => { k with trimAt := clk })
    (h4, decide (e < -line))

/-- The nearest target to a local moment, as a local moment. -/
def Hub.nearestTarget (h : Hub) (n clk : Nat) : Nat :=
  ((clk : Int) - h.lockError n clk * 65536 * 2 ^ 48 / (1000 * (2 ^ 48 + h.getI F.CLOCK.RATE 0))).toNat

/-! ### Timing generators and modes (R348, R350–R353) -/

/-- STATE of a head. -/
def Hub.syncHead (h : Hub) (n : Nat) : Hub :=
  let k := h.head n
  let st := if !h.scanning n then 0 else if k.gap != 0 then 4 else if !k.sink then 1 else if k.training then 2
    else if 128 ≤ h.get F.HEAD.LINK_ACTIVE n then 3 else 5
  h.set F.HEAD.STATE n st

/-- A frame starts at a moment: the frame, its blanking and the next start are laid out, and shown Presents answered. The first since power-good sets
SYSTEM.FIRST_PICTURE (R578). -/
def Hub.beginFrame (h : Hub) (n clk : Nat) : Hub :=
  let hf := { h with clk := max h.clk clk }
  let h0 := if hf.get F.SYSTEM.FIRST_PICTURE 0 == 0 then hf.set F.SYSTEM.FIRST_PICTURE 0 (min (hf.island.lead + clk / 65536000) (2 ^ 32 - 1)) else hf
  let (h1, stretch) := h0.lockFrame n clk
  let blank := clk + h1.pixelTime n (h1.activePx n)
  let tail := h1.pixelTime n (h1.blankPx n + (if stretch then h1.hTot n else 0))
  let next := blank + tail
  let e := h1.lockError n clk
  let snap := h1.get F.HEAD.LOCK_STATE n == 2 && h1.on F.HEAD.LOCK_SNAP n && 8 * (h1.framePs n (hTotal h1.view n)) < e.natAbs
  let t := h1.nearestTarget n next
  let next' := if !snap then next else if clk + tail < t then t else t + h1.get F.HEAD.LOCK_PERIOD n * 65536 / 1000
  let shown := (h1.head n).shown
  let h2 := h1.modHead n (fun k => { k with inBlank := false, matched := false, done := false, frameAt := clk, blankAt := if snap then next' - tail else blank, nextAt := next', shown := [] })
  shown.foldl (fun g s => g.presentDone s.1 s.2.2 s.2.1 (g.get F.HEAD.FRAME_COUNT n) (encInt 48 (g.networkAt clk))) h2

/-- FRAME_START: the next frame begins when its blanking has passed. -/
def Hub.frameStart (h : Hub) (n : Nat) : Hub :=
  let k := h.head n
  if h.scanning n && k.gap == 0 && k.inBlank then h.beginFrame n k.nextAt else h

/-- The class of the waiting changes of a head's fields (R352). -/
def Hub.modeClass (h : Hub) (n : Nat) : Nat :=
  let ch (f : Fld) : Bool := h.get f n != h.use f n
  if ch F.HEAD.LINK_RATE || ch F.HEAD.LANES then 2
  else if [F.HEAD.TIMING_PIXCLK, F.HEAD.TIMING_HACT, F.HEAD.TIMING_HFP, F.HEAD.TIMING_HSYNC, F.HEAD.TIMING_HBP, F.HEAD.TIMING_VACT, F.HEAD.TIMING_VSYNC,
    F.HEAD.TIMING_VBP, F.HEAD.TIMING_FLAGS, F.HEAD.BPC, F.HEAD.DSC_ENABLE, F.HEAD.DSC_BPP].any ch then 1
  else 0

/-- DSC_SLICES in use: one of the counts the device picks from, by the sink's capabilities (R358), as a free value. -/
def Hub.pickSlices (h : Hub) (n : Nat) : Hub :=
  if h.use F.HEAD.DSC_ENABLE n == 1 then h.drawn.set F.HEAD.DSC_SLICES n (2 ^ (h.freeVal % 5)) else h.set F.HEAD.DSC_SLICES n 1

/-- Every Blanking field of a head and of its layers takes effect, but LAYER.SURFACE, which flips (R14, R339). -/
def Hub.takeBlanking (h : Hub) (n : Nat) : Hub :=
  let keep := (List.range 8).map (fun k => (8 * n + k, h.current (8 * n + k)))
  let h1 := ((List.range 8).map (fun k => 8 * n + k)).foldl (fun g y => g.takeAll 0x12 y .blanking) (h.takeAll 0x11 n .blanking)
  keep.foldl (fun g p => { g with effs := g.effs.write fieldDefault (fieldKey F.LAYER.SURFACE.cls p.1 F.LAYER.SURFACE.num 0) p.2 }) h1

/-- A link training begins at the committed rate and lanes (R360). -/
def Hub.trainHead (h : Hub) (n : Nat) : Hub :=
  if (h.head n).sink then
    ((h.modHead n (fun k => { k with training := true, rate := h.use F.HEAD.LINK_RATE n, lanes := h.use F.HEAD.LANES n })).set F.HEAD.LINK_ACTIVE n 0).disarm
      T.dpRetry n
  else h

/-- The committed mode takes effect (R352): a gap begins for a class-1 or class-2 change or a start, the stream ends at a
stop. -/
def Hub.modeApply (h : Hub) (n : Nat) : Hub :=
  let was := h.scanning n
  let cls := h.modeClass n
  let dsc := h.get F.HEAD.DSC_ENABLE n != h.use F.HEAD.DSC_ENABLE n
  let h1 := h.takeBlanking n
  let h2 := if dsc then h1.pickSlices n else h1
  let is_ := h2.scanning n
  let gapBegins (g : Hub) (c : Nat) : Hub :=
    g.modHead n (fun k => { k with gap := 1 + c, gapStart := h.clk, inBlank := false })
  let h3 :=
    if was && !is_ then (h2.modHead n (fun k => { k with gap := 0, inBlank := false })).notify (nHead n 6) 3
    else if !was && is_ then
      let g := gapBegins h2 3
      if h.get F.HEAD.LINK_ACTIVE n < 128 then g.trainHead n else g
    else if was && 1 ≤ cls then
      let g := (gapBegins (h2.add F.HEAD.RESTARTS n 1) cls)
      if cls == 2 then g.trainHead n else g
    else h2
  (h3.syncLock n 3).syncHead n

/-- The gap of a restart or retrain ends (R352, R353, R357): us is the time it took in µs, which the class bounds. A head that can lock starts at a
target and acquires anew. -/
def Hub.gapDone (h : Hub) (n us : Nat) : Hub :=
  let k := h.head n
  if k.gap == 0 || k.training then h
  else
    let cls := k.gap - 1
    let took := min us (if cls == 2 then 100000 else 5000)
    let lock := h.on F.HEAD.LOCK_ENABLE n && h.on F.CLOCK.EVER_LOCKED 0 && h.lockReachable n
    let least := max h.clk (k.gapStart + (if lock && cls != 2 then 5000 else took) * 65536 * 1000)
    let near := h.nearestTarget n least
    let at_ := if !lock then least else if least ≤ near then near else near + h.get F.HEAD.LOCK_PERIOD n * 65536 / 1000
    let h1 := h.modHead n (fun k => { k with gap := 0, gapEnd := at_ })
    let h2 := ((if lock then h1.lockState n 2 3 else h1).syncHead n).beginFrame n at_
    h2.notify (nHead n 6) (cls + min ((at_ - k.gapStart) / 65536000) (2 ^ 32 - 1) * 2 ^ 16)

/-- The frame start that an armed FRAME trigger whose OWNER holds the head's token asks of a head whose next frame start and
frame period are given: its target lies at or after that start and less than one frame period beyond it (R388). -/
def Hub.aimedAt (h : Hub) (n next frame : Nat) : Option Nat :=
  let armed (i : Nat) : Bool :=
    h.on F.TRIGGER.ENABLE i && h.get F.TRIGGER.ACTION i == 2 && h.get F.TRIGGER.TARGET i == n && h.holds (h.get F.TRIGGER.OWNER i) (51 + n)
  let moments := (indicesWhere 32 armed).map (fun i =>
    ((h.clk : Int) + h.localSpan (diff48 (h.get F.TRIGGER.TIME i) h.network48)).toNat)
  if h.on F.HEAD.LOCK_ENABLE n then none
  else match moments.filter (fun t => next ≤ t && t < next + frame) with
    | [] => none
    | a :: t => some (t.foldl min a)

/-- The start of blanking (R348): the frame before it has been sent (R342); sets commits the kind-2 sets of the head. While the Depot pauses, sets and flips wait
(R362). -/
def Hub.startBlanking (h : Hub) (n : Nat) (sets : Hub → Hub) : Hub :=
  let k := h.head n
  if !h.scanning n || k.gap != 0 || k.inBlank then h
  else
    let h0 := { h with clk := max h.clk k.blankAt }
    let h1 := ((h0.sendFrame n).add F.HEAD.FRAME_COUNT n 1).modHead n (fun k => { k with inBlank := true })
    let fc := h1.get F.HEAD.FRAME_COUNT n
    let h2 := if h.depot == 1 then h1
      else
        let g := (sets h1).modeApply n
        let tail := g.pixelTime n (g.blankPx n)
        -- A vertical front porch in effect from now moves the next frame start.
        let g1 := if h.use F.HEAD.TIMING_VFP n != g.use F.HEAD.TIMING_VFP n then g.modHead n (fun k => { k with nextAt := k.blankAt + tail }) else g
        let frame := g1.pixelTime n (g1.hTot n * g1.vTot n)
        let g2 := match g1.aimedAt n (g1.head n).nextAt frame with
          | some t => g1.modHead n (fun k => { k with nextAt := t })
          | none => g1
        let start := (g2.head n).nextAt
        let g3 := ((List.range 8).map (fun j => 8 * n + j)).foldl (fun g y => g.flipLayer y fc start k.frameAt) g2
        (g3.cloneFlips n).syncSurfaces
    if bitB (h2.get F.HEAD.EVENT_MASK n) 0 then h2.notify (nHead n 0) fc else h2

/-- A head whose scanout is off takes its waiting fields at once (R14, R136). -/
def Hub.darkHead (h : Hub) (n : Nat) : Hub :=
  if h.scanning n then h
  else
    let h1 := h.modeApply n
    let h2 := ((List.range 8).map (fun j => 8 * n + j)).foldl (fun g y =>
      let by_ := g.storedBy.read (fun _ => 0) y
      if by_ == 0 then g else ({ g with storedBy := g.storedBy.write (fun _ => 0) y 0 }).flip y (g.get F.LAYER.SURFACE y) (by_ - 1)) h1
    h2.syncSurfaces

/-- LINE_MATCH and FRAME_DONE (R350), once a frame. -/
def Hub.lineMatch (h : Hub) (n : Nat) : Hub :=
  let k := h.head n
  let line := h.use F.HEAD.LINE_MATCH n
  if h.scanning n && k.gap == 0 && !k.inBlank && !k.matched && line < h.use F.HEAD.TIMING_VACT n then
    let h1 := ({ h with clk := max h.clk (k.frameAt + h.pixelTime n (line * h.hTot n)) } : Hub).modHead n (fun k => { k with matched := true })
    if bitB (h.get F.HEAD.EVENT_MASK n) 1 then h1.notify (nHead n 1) (h.get F.HEAD.FRAME_COUNT n % 2 ^ 32 + line * 2 ^ 32) else h1
  else h

def Hub.frameDone (h : Hub) (n : Nat) : Hub :=
  let k := h.head n
  if h.scanning n && k.gap == 0 && !k.done then
    let h1 := ({ h with clk := max h.clk (k.frameAt + h.pixelTime n (h.activePx n)) } : Hub).modHead n (fun k => { k with done := true })
    if bitB (h.get F.HEAD.EVENT_MASK n) 2 then h1.notify (nHead n 2) (h.get F.HEAD.FRAME_COUNT n) else h1
  else h

/-- A line was not ready in time (R361). -/
def Hub.underrun (h : Hub) (n line : Nat) : Hub :=
  if h.scanning n then
    let h1 := (h.add F.HEAD.UNDERRUNS n 1).modHead n (fun k => { k with late := k.late ++ [line] })
    if bitB (h.get F.HEAD.EVENT_MASK n) 3 then h1.notify (nHead n 3) (1 + line % 8192 * 2 ^ 32) else h1
  else h

/-! ### DisplayPort links (R351, R358, R360, R363) -/

/-- NT_HEAD_LINK. -/
def Hub.linkNotice (h : Hub) (n cause : Nat) : Hub :=
  h.notify (nHead n 5) ((h.head n).rate + (h.head n).lanes * 16 + cause * 256)

/-- The rates and lanes at or below a link, by descending limit. -/
def linksBelow (rate lanes : Nat) : List (Nat × Nat) :=
  let all := ((List.range (rate + 1)).map (fun r => ([1, 2, 4].filter (fun k => k ≤ lanes)).map (fun k => (r, k)))).flatten
  let ins (x : Nat × Nat) (l : List (Nat × Nat)) : List (Nat × Nat) :=
    l.takeWhile (fun y => linkLimit x.1 x.2 ≤ linkLimit y.1 y.2) ++ x :: l.dropWhile (fun y => linkLimit x.1 x.2 ≤ linkLimit y.1 y.2)
  all.foldl (fun l x => ins x l) []

def sinkTakes (caps rate lanes : Nat) : Bool := bitB caps rate && lanes ≤ bits caps 8 3

/-- The link fails at the tried rate and lanes: fallback, or a retry after 1 s (R360). -/
def Hub.linkFails (h : Hub) (n : Nat) : Hub :=
  let k := h.head n
  let caps := h.get F.HEAD.SINK_CAPS n
  let fits (x : Nat × Nat) : Bool := sinkTakes caps x.1 x.2 && headStream h.useView n (linkLimit x.1 x.2)
  let next := if h.on F.HEAD.LINK_FALLBACK n then
      ((linksBelow (h.use F.HEAD.LINK_RATE n) (h.use F.HEAD.LANES n)).dropWhile (fun x => x != (k.rate, k.lanes))).drop 1 |>.find? fits
    else none
  match next with
  | some x => (h.modHead n (fun k => { k with rate := x.1, lanes := x.2 })).linkNotice n 3
  | none => (((h.modHead n (fun k => { k with training := false })).linkNotice n 2).syncHead n).arm T.dpRetry n sec

/-- A training at the committed link, which a sink beyond it fails at once. -/
def Hub.tryLink (h : Hub) (n : Nat) : Hub :=
  let h1 := (h.trainHead n).syncHead n
  if (h1.head n).sink && !sinkTakes (h1.get F.HEAD.SINK_CAPS n) (h1.head n).rate (h1.head n).lanes then h1.linkFails n else h1

def Hub.sinkAbsent (h : Hub) (n : Nat) : Hub :=
  if !(h.head n).sink then h
  else
    let h1 := (h.modHead n (fun k => { k with sink := false, training := false })).disarm T.dpRetry n
    let h2 := if 128 ≤ h.get F.HEAD.LINK_ACTIVE n then h1.linkNotice n 4 else h1
    (((h2.set F.HEAD.LINK_ACTIVE n 0).set F.HEAD.SINK_CAPS n 0).notify (nHead n 4) 0).syncHead n |>.idleWatch

/-- HPD high (R360, R363): capabilities and EDID as read; answered says whether AUX replied, intact whether the EDID's
checksum holds. -/
def Hub.sinkPresent (h : Hub) (n caps : Nat) (edid : List Nat) (answered intact : Bool) : Hub :=
  if (h.head n).sink then h
  else
    let h1 := (h.modHead n (fun k => { k with sink := true })).idleWatch.notify (nHead n 4) 1
    let h2 := if answered then (List.range 128).foldl (fun g i => g.set F.HEAD.EDID n (edid.getD i 0) i) (h1.set F.HEAD.SINK_CAPS n (caps % 2 ^ 17))
      else h1.notify (nHead n 13) 1
    let h3 := if answered && !intact then h2.notify (nHead n 13) 3 else h2
    h3.tryLink n

def Hub.hpdIrq (h : Hub) (n : Nat) (lost : Bool) : Hub :=
  let k := h.head n
  if !k.sink then h
  else if k.irqAt != 0 && h.now < k.irqAt - 1 + 10 * msec then h.notify (nHead n 13) 2
  else
    let h1 := (h.modHead n (fun k => { k with irqAt := h.now + 1 })).notify (nHead n 4) 3
    if lost && 128 ≤ h.get F.HEAD.LINK_ACTIVE n then (h1.linkNotice n 4).tryLink n else h1

/-- A DisplayPort training ends. -/
def Hub.dpTrained (h : Hub) (n : Nat) (ok : Bool) : Hub :=
  let k := h.head n
  if !k.training then h
  else if ok then
    (((h.modHead n (fun k => { k with training := false })).set F.HEAD.LINK_ACTIVE n (k.rate + k.lanes * 16 + 128)).linkNotice n 1).syncHead n
  else h.linkFails n

/-! ### Tokens, resets and the Depot's pause (R349, R362) -/

/-- A layer's token has moved (R349): with HANDOVER its layer goes dark until the new holder flips it. -/
def Hub.layerMoved (h : Hub) (y : Nat) : Hub := if h.on F.LAYER.HANDOVER y then h.modHidden y true else h

/-- A context's surfaces as it resets (R349). -/
def Hub.dropSurfaces (h : Hub) (ctx : Nat) : Hub :=
  ((List.range 1024).filter (fun s => h.get F.SURFACE.STATE s == 1 && h.get F.SURFACE.OWNER s == ctx)).foldl (fun g s => g.freeSurface s ctx) h

/-- A write, job or allocation takes the Depot out of self-refresh for 1 ms (R568). -/
def Hub.touchDepot (h : Hub) : Hub :=
  if h.depot == 2 || (h.due T.selfRefresh 0).isSome then ({ h with depot := 0 }).arm T.selfRefresh 0 msec else h

/-- The Depot controller pauses for its firmware, and runs again (R362): the activation holds the surface writer and the Turntable (R259). -/
def Hub.depotPause (h : Hub) (start : Bool) : Hub :=
  let us := if start then 0 else min ((h.now - h.depotSince) / usec) 65535
  let h1 := (List.range 4).foldl (fun g n => g.notify (nHead n 14) (ofB start + us * 65536)) { h with depot := ofB start, depotSince := h.now }
  (h1.syncPort 7 0).syncPort 13 0

end Sys2Proof.Machine
end

