-- ==== Sys2Proof/Machine/Guards.lean ====
section
/-! DEFINITION. Guards (R34, R132): what a context must hold to store a field, instance by instance, as the field maps and
their opening sentences say it. -/

namespace Sys2Proof.Machine

/-- One way to satisfy a guard: a token, being a context, holding a token as one context (SYSTEM.F15_CONFIG, R574), being any
non-guest context, or any context at all. -/
inductive Guard where
  | token (k : Nat)
  | context (n : Nat)
  | tokenAs (k n : Nat)
  | nonGuest
  | anyone
  deriving DecidableEq, Repr

/-- The guard of a leaf's QUEUE and SHAPER instances (R319): K55 or K56 by its MAC on Y6, else K0. While a tunnel has the
leaf, no context stores them (R228). -/
def Hub.leafGuard (h : Hub) (q : Nat) : List Guard :=
  if q < 512 && h.yard.leafTunnel.read (fun _ => 0) q != 0 then []
  else if q / 128 == 6 then [.token (55 + h.leafMac q)]
  else [.token 0]

/-- Whether the device itself sets the CIR of a leaf (R296). -/
def deviceCir (q : Nat) : Bool :=
  let y := q / 128
  let u := q % 128 / 8
  let s := q % 8
  if y == 6 then u < 8
  else if u < 4 then (y == 4 && s == 2) || (y == 5 && s == 2) || (s != 2 && s < 7 && 4 ≤ y && classDest s == y)
  else false

/-- An owner recorded in a field: the owner or K0; without one, any non-guest context. -/
def ownerGuard (owner : Nat) : List Guard := if owner < 6 then [.context owner, .token 0] else [.nonGuest]

/-- The guard of a writable field, by class, instance, field number and element. An empty list is a field every context's
store of which is refused. -/
def Hub.guards (h : Hub) (cls inst num elem : Nat) : List Guard :=
  match cls with
  | 0 => if num == F.SYSTEM.F15_CONFIG.num then [.tokenAs 0 4] else [.token 0]
  | 1 => if num == F.CONTEXT.PFL_ACK.num then [.context inst] else [.context inst, .token 0]
  | 2 => if num == F.NOTICE.DELIVER.num then [.context elem, .token 0] else [.token 0]
  | 3 =>
    if num == F.LANDING.CREDIT_GRANT.num || num == F.LANDING.DETECT_ENABLE.num || num == F.LANDING.AUTH_TIMEOUT.num then [.token 0]
    else [.context inst, .token 0]
  | 5 => if inst % 2048 < 2 then [] else [.context (inst / 2048)]
  | 9 => h.leafGuard inst
  | 11 =>
    if 2048 ≤ inst then [.token 0]
    else if num == F.SHAPER.CIR.num && deviceCir inst then []
    else h.leafGuard inst
  | 13 => if inst == 6 then [.token 55] else [.token 0]
  | 16 =>
    if inst < 16 then []
    else if h.get F.PROGRAM.STATE inst == 0 then [.nonGuest]
    else if h.get F.PROGRAM.OWNER inst < 6 then [.token 0, .context (h.get F.PROGRAM.OWNER inst)]
    else [.token 0]
  | 17 => if num == F.HEAD.QUOTA.num then [.token 0] else [.token (51 + inst)]
  | 18 => if num == F.LAYER.HANDOVER.num then [.token 0] else [.token (13 + inst)]
  | 19 =>
    match h.get F.SURFACE.STATE inst with
    | 0 => [.anyone]
    | 1 => [.context (h.get F.SURFACE.OWNER inst)]
    | _ => []
  | 20 =>
    if num == F.CLOCK.RATE.num || num == F.CLOCK.STEP.num || num == F.CLOCK.STEP_FORCE.num || num == F.CLOCK.HOST_LOCK.num then
      [.token 1]
    else if num == F.CLOCK.JUMP_THRESHOLD.num then [.token 0]
    else if num == F.CLOCK.CUE_ENABLE.num then [.token 50]
    else [.token 0, .token 1]
  | 21 => ownerGuard (h.get F.TRIGGER.OWNER inst)
  | 22 => [.token 0, .token 1]
  | 23 =>
    if num == F.ETHPORT.VNIC_MAC.num || num == F.ETHPORT.VNIC_VLAN.num || num == F.ETHPORT.VNIC_FLOOD.num then
      [.context (elem / 8), .token 0]
    else if num == F.ETHPORT.MGMT_ENABLE.num || num == F.ETHPORT.MGMT_MAC.num || num == F.ETHPORT.MGMT_IPV4.num ||
      num == F.ETHPORT.MGMT_UDP_PORT.num then [.token 0]
    else [.token (55 + inst)]
  | 24 =>
    if num == F.STORAGE.WIN_BASE.num || num == F.STORAGE.WIN_LIMIT.num || num == F.STORAGE.WIN_ENABLE.num then [.token (11 + inst)]
    else [.token 0]
  | 25 => [.token (45 + inst)]
  | 26 => ownerGuard (h.get F.SIGNAL.OWNER inst)
  | 27 => if num == F.USBPORT.POWER.num || num == F.USBPORT.MODE.num then [.token (3 + inst)] else [.token 0]
  | 29 => if inst == 15 then [] else [.token 0]
  | 30 =>
    if F.KEYSLOT.LC_STATE.num ≤ num then [.token 0]
    else if inst < 8 then []
    else ownerGuard (h.get F.KEYSLOT.OWNER inst)
  | 31 =>
    if num == F.UPDATE.ARM.num || num == F.UPDATE.ACTIVATE.num then [.token 2]
    else if num == F.UPDATE.CONFIRM.num then [.token 2, .token 0]
    else [.token 0]
  | 35 => if h.get F.STANDING.OWNER inst < 6 then [.token 0, .context (h.get F.STANDING.OWNER inst)] else [.token 0]
  | _ => [.token 0]

/-- Whether a context satisfies one way of a guard; desk marks a standing slot's replay that passes as if its context held K0
(R155). -/
def Hub.satisfies (h : Hub) (n : Nat) (desk : Bool) : Guard → Bool
  | .token k => h.holds n k || (desk && k == 0)
  | .context c => n == c
  | .tokenAs k c => n == c && (h.holds n k || (desk && k == 0))
  | .nonGuest => !h.guest n
  | .anyone => true

/-- Whether a context holds the guard of a field element (check 2 of R133, and R137). -/
def Hub.holdsGuard (h : Hub) (n : Nat) (desk : Bool) (cls inst num elem : Nat) : Bool :=
  (h.guards cls inst num elem).any (h.satisfies n desk)

/-- The guard of what a trigger acts on (R387): the leaf's QUEUE guard, K51 + head, the Timetable's guard, K50. A
trigger without an action has none to hold. -/
def Hub.triggerGuard (h : Hub) (n : Nat) (desk : Bool) (action target : Nat) : Bool :=
  match action with
  | 1 => h.holdsGuard n desk 9 target F.QUEUE.TRIGGER_HOLD.num 0
  | 2 => h.satisfies n desk (.token (51 + target))
  | 3 => h.holdsGuard n desk 13 target F.TIMETABLE.ENABLE.num 0
  | 4 => h.satisfies n desk (.token 50)
  | _ => true

end Sys2Proof.Machine
end

