-- ==== Sys2Proof/Machine/Clock.lean ====
section
/-! DEFINITION. The Station Clock (R368–R391): who steers it, its state, the built-in servo, steps and what they meet, the PTP
engine, triggers, cues and PTP_PPS. -/

namespace Sys2Proof.Machine

def Hub.modClock (h : Hub) (f : ClockState → ClockState) : Hub := { h with clock := f h.clock }

/-- A signed value cut to what 32 bits hold (R392). -/
def sat32 (v : Int) : Int := clampInt (-2147483648) 2147483647 v
def sat48 (v : Int) : Int := clampInt (-140737488355328) 140737488355327 v

/-- Whether the built-in servo steers (R373): K1 in the free pool. -/
def Hub.servoRuns (h : Hub) : Bool := h.holder 1 == 0xF

/-- STATE changes (R374): EVER_LOCKED with the first LOCKED, and NT_CLOCK_STATE. -/
def Hub.clockState (h : Hub) (new : Nat) : Hub :=
  let old := h.get F.CLOCK.STATE 0
  if old == new then h
  else
    let h1 := (h.set F.CLOCK.STATE 0 new).modClock (fun c => { c with refusedAt := 0 })
    let h2 := if new == 2 then h1.set F.CLOCK.EVER_LOCKED 0 1 else h1
    let h3 := h2.notify 224 (new + old * 16 + encInt 32 (h.getI F.CLOCK.OFFSET_FROM_SOURCE 0) * 2 ^ 32)
    if h.on F.CLOCK.EVER_LOCKED 0 then h3 else (List.range 4).foldl (fun g n => g.syncLock n 1) h3

/-- The state a clock without lock is in (R373, R374). -/
def Hub.unlocked (h : Hub) : Nat := if h.on F.CLOCK.EVER_LOCKED 0 then 1 else 0

/-- What follows the passing of K1 (R373). -/
def Hub.clockToken (h : Hub) : Hub :=
  let h1 := (h.set F.CLOCK.HOST_LOCK 0 0).modClock (fun c => { c with inside := 0, beyond := 0 })
  let h2 := if h1.servoRuns then h1.arm T.syncLoss 0 (max (3 * sec) (8 * powerSec (h1.getI F.PTPPORT.LOG_SYNC (h1.get F.CLOCK.SERVO_PORT 0))))
    else h1.disarm T.syncLoss 0
  h2.clockState h2.unlocked

/-- A committed HOST_LOCK declares a host servo's lock (R374). -/
def Hub.hostLock (h : Hub) : Hub :=
  if h.servoRuns then h else if h.on F.CLOCK.HOST_LOCK 0 then h.clockState 2 else h.clockState h.unlocked

/-- RATE changes from an old value (R372): the old rate's part is folded into OFFSET and ANCHOR comes to now. -/
def Hub.foldRate (h : Hub) (old : Int) : Hub :=
  { h with clockOffset := h.clockOffset + ((h.clk : Int) - h.clockAnchor) * old / (2 ^ 48 : Int), clockAnchor := h.clk }

def Hub.setRate (h : Hub) (v : Int) : Hub := (h.foldRate (h.getI F.CLOCK.RATE 0)).setI F.CLOCK.RATE 0 v

/-! ### Timetables (R302, R303) -/

/-- A commit to a Timetable (R302): while ENABLE is 0, or with a store of ENABLE = 1, the banks swap at once; else at the
next cycle boundary. -/
def Hub.ttCommit (h : Hub) (y : Nat) (enabled : Bool) : Hub :=
  if enabled || !h.on F.TIMETABLE.ENABLE y then h.ttSwap y else h.set F.TIMETABLE.SWAP_PENDING y 1

/-- A running Timetable meets a step; before is how much network time was left to its cycle boundary (R303). -/
def Hub.ttStep (h : Hub) (y before : Nat) (ns : Int) : Hub :=
  let swap := h.on F.TIMETABLE.SWAP_PENDING y && decide ((before : Int) ≤ ns)
  let h1 := if swap then h.ttSwap y else h
  h1.raise 146 (y + ofB (decide (0 < ns)) * 16 + ofB swap * 32) (h1.holderCtx (if y == 6 then 55 else 0))

/-! ### Cues (R389) -/

/-- A cue takes a level, and drives its pin while CUE_ENABLE names it. -/
def Hub.cueLevel (h : Hub) (n : Nat) (level : Bool) : Hub :=
  let h1 := h.set F.CLOCK.CUE_STATE 0 (putBit (h.get F.CLOCK.CUE_STATE 0) n level)
  if bitB (h.get F.CLOCK.CUE_ENABLE 0) n then h1.emit .pin (24 + n) [BitVec.ofNat 8 (ofB level)] else h1

/-- A trigger acts on a cue: an earlier pulse no longer ends by itself. -/
def Hub.cueAct (h : Hub) (i n : Nat) : Hub :=
  let h1 := h.disarm T.cueEnd n
  match h.get F.TRIGGER.CUE_MODE i with
  | 0 => h1.cueLevel n true
  | 1 => h1.cueLevel n false
  | 2 => h1.cueLevel n (!bitB (h.get F.CLOCK.CUE_STATE 0) n)
  | _ => (h1.cueLevel n true).arm T.cueEnd n (h.get F.TRIGGER.CUE_WIDTH i)

/-- Pins whose bit of CUE_ENABLE is newly set take the level CUE_STATE holds; old is the bit set before. -/
def Hub.cuesDriven (h : Hub) (old : Nat) : Hub :=
  (List.range 8).foldl (fun g n =>
    if bitB (g.get F.CLOCK.CUE_ENABLE 0) n && !bitB old n then g.emit .pin (24 + n) [BitVec.ofNat 8 (bitN (g.get F.CLOCK.CUE_STATE 0) n)] else g) h

/-! ### Triggers (R386–R390) -/

/-- A trigger disarms (R387). -/
def Hub.disarmTrigger (h : Hub) (i : Nat) : Hub := (h.set F.TRIGGER.ENABLE i 0).set F.TRIGGER.OWNER i 0xF

/-- One message of a leaf is released to selection (R305). -/
def releaseOne : List LeafPkt → List LeafPkt
  | [] => []
  | e :: t => if e.released then e :: releaseOne t else { e with released := true } :: t

/-- A trigger's ACTION on its TARGET (R387–R389). A FRAME trigger's head has acted at a start of blanking before; it only
counts what it missed. -/
def Hub.triggerAct (h : Hub) (i : Nat) : Hub :=
  let tg := h.get F.TRIGGER.TARGET i
  match h.get F.TRIGGER.ACTION i with
  | 1 => if (h.yard.leaf tg).isEmpty then h.add F.QUEUE.TRIGGER_MISSED tg 1 else h.setLeaf tg (releaseOne (h.yard.leaf tg))
  | 2 => if h.on F.HEAD.LOCK_ENABLE tg || h.use F.HEAD.SCANOUT tg == 0 then h.add F.TRIGGER.MISSED i 1 else h
  | 3 => ((h.set F.TIMETABLE.BASE_TIME tg (h.get F.TRIGGER.TIME i)).set F.TIMETABLE.ENABLE tg 1).ttCommit tg true
  | 4 => h.cueAct i tg
  | _ => h

/-- A trigger fires, late or not (R387, R390). -/
def Hub.fireTrigger (h : Hub) (i : Nat) (late : Bool) : Hub :=
  let owner := h.get F.TRIGGER.OWNER i
  let who := ctxCode owner
  if !h.triggerGuard owner false (h.get F.TRIGGER.ACTION i) (h.get F.TRIGGER.TARGET i) then
    (h.disarmTrigger i).raise 233 (i + 2 * 256) who
  else
    let time := h.get F.TRIGGER.TIME i
    let h1 := ((h.triggerAct i).add F.TRIGGER.FIRED i 1).set F.TRIGGER.LAST_FIRE i h.network48
    let h2 := if h.on F.TRIGGER.NOTIFY i then h1.raise 231 (i + time % 2 ^ 48 * 2 ^ 16) who else h1
    let per := h.get F.TRIGGER.PERIOD i
    let excess := diff48 h.network48 (time + per)
    let missed := if per == 0 || excess < 0 then 0 else excess.toNat / per + 1
    let h3 := if per == 0 then h2.disarmTrigger i
      else (h2.set F.TRIGGER.TIME i (time + per + missed * per)).add F.TRIGGER.MISSED i missed
    if late then (h3.add F.TRIGGER.LATE i 1).raise 232 (i + min missed 65535 * 2 ^ 16 + 2 ^ 32) who else h3

/-- A trigger armed, or its TIME stored while armed: with its target passed it fires at once and late (R387). -/
def Hub.triggerArmed (h : Hub) (i : Nat) : Hub :=
  if h.on F.TRIGGER.ENABLE i && diff48 (h.get F.TRIGGER.TIME i) h.network48 < 0 then h.fireTrigger i true else h

/-- A trigger meets a step; before is the network time it moved from (R390). -/
def Hub.triggerStep (h : Hub) (i : Nat) (before : Int) : Hub :=
  let t : Int := h.get F.TRIGGER.TIME i
  if !h.on F.TRIGGER.ENABLE i then h
  else if (2 ^ 47 : Int) ≤ (t - h.networkInt).natAbs then
    (h.disarmTrigger i).raise 233 (i + 256) (ctxCode (h.get F.TRIGGER.OWNER i))
  else if before < t && t < h.networkInt then h.fireTrigger i true
  else h

def execTriggerFire (trigger : Nat) (s : State) : Host.Outcome State Fault Refusal :=
  actIf (decide (trigger < 32)) s (fun h =>
    if h.on F.TRIGGER.ENABLE trigger then (h.advanceToNetwork (h.get F.TRIGGER.TIME trigger)).fireTrigger trigger false else h)

def execCuePulseEnd (cue : Nat) (s : State) : Host.Outcome State Fault Refusal :=
  actIf (decide (cue < 8)) s (fun h => h.expire T.cueEnd cue (fun g => g.cueLevel cue false))

/-- PTP_PPS as a pin. -/
abbrev pinPps : Nat := 64

def Hub.ppsLevel (h : Hub) (v : Bool) : Hub := (h.modClock (fun c => { c with pps := v })).emit .pin pinPps [BitVec.ofNat 8 (ofB v)]

/-- PTP_PPS rises at the next whole second of network time (R389). -/
def Hub.ppsPulse (h : Hub) : Hub :=
  if h.on F.CLOCK.PPS_ENABLE 0 && (!h.on F.CLOCK.PPS_LOCKED_ONLY 0 || h.get F.CLOCK.STATE 0 == 2) then
    let h1 := h.advanceNetwork ((sec : Int) - h.networkInt % (sec : Int))
    (h1.ppsLevel true).arm T.ppsEnd 0 (h1.get F.CLOCK.PPS_WIDTH 0)
  else h

def execPpsPulse (s : State) : Host.Outcome State Fault Refusal := act s Hub.ppsPulse
def execPpsPulseEnd (s : State) : Host.Outcome State Fault Refusal := act s (fun h => h.expire T.ppsEnd 0 (fun g => g.ppsLevel false))

/-! ### Steps (R376, R377) -/

/-- Whether a step is accepted without being forced: before the first lock, or within JUMP_THRESHOLD. -/
def Hub.stepAllowed (h : Hub) (ns : Int) : Bool :=
  !h.on F.CLOCK.EVER_LOCKED 0 || ns.natAbs ≤ h.get F.CLOCK.JUMP_THRESHOLD 0 * usec

/-- An accepted step at this instant, and what it meets (R377): Timetables, framelock and triggers. -/
def Hub.clockStep (h : Hub) (ns : Int) (store : Bool) : Hub :=
  let before := h.networkInt
  let forced := !h.stepAllowed ns
  let exempt := !h.on F.CLOCK.EVER_LOCKED 0
  let h1 := ((({ h with clockOffset := h.clockOffset + ns * 65536 }.add F.CLOCK.STEPS 0 1).setI F.CLOCK.LAST_STEP 0 ns).set
    F.CLOCK.LAST_STEP_TIME 0 h.now48).notify 225 (encInt 48 ns + ofB forced * 2 ^ 48 + ofB exempt * 2 ^ 49 + ofB store * 2 ^ 50)
  let h2 := (List.range 16).foldl (fun g y => if h.on F.TIMETABLE.ENABLE y then g.ttStep y (h.ttToCycle y) ns else g) h1
  let h3 := (List.range 4).foldl (fun g n => g.lockStep n) h2
  (List.range 32).foldl (fun g i => g.triggerStep i before) h3

/-- A refused step (R376). -/
def Hub.stepRefused (h : Hub) (ns : Int) (store : Bool) : Hub :=
  (h.add F.CLOCK.STEPS_REFUSED 0 1).notify 226 (encInt 48 (sat48 ns) + ofB store * 2 ^ 50)

/-! ### The built-in servo (R374–R376) -/

/-- A step the servo needs: taken, or refused and the clock held. -/
def Hub.servoStep (h : Hub) (ns : Int) : Hub :=
  let force := h.on F.CLOCK.FORCE_NEXT 0
  if h.stepAllowed ns || force then
    let h1 := (h.set F.CLOCK.FORCE_NEXT 0 0).clockStep ns false
    if h1.get F.CLOCK.STATE 0 != 2 || 16 ≤ h1.clock.beyond then h1.clockState 1 else h1
  else
    let h1 := (h.modClock (fun c => { c with beyond := 0 })).clockState 4
    if h1.clock.refusedAt == 0 || h1.clock.refusedAt + 10 * sec ≤ h1.now + 1 then
      (h1.modClock (fun c => { c with refusedAt := h1.now + 1 })).stepRefused ns false
    else h1.add F.CLOCK.STEPS_REFUSED 0 1

/-- The servo takes an offset from its source, in 2^−16 ns (R375). The proportional-integral loop's new RATE is a free value; while Signal Box firmware
is replaced RATE is held (R535). -/
def Hub.servo (h : Hub) (port : Nat) (fine : Int) : Hub :=
  let o := fine / 65536
  let size := o.natAbs
  let thr := h.get F.CLOCK.LOCK_THRESHOLD 0
  let h0 := (h.setI F.CLOCK.OFFSET_FROM_SOURCE 0 (sat32 o)).arm T.syncLoss 0 (max (3 * sec) (8 * powerSec (h.getI F.PTPPORT.LOG_SYNC port)))
  let h1 := h0.modClock (fun c => { c with inside := if size ≤ thr then c.inside + 1 else 0, beyond := if 4 * thr < size then c.beyond + 1 else 0 })
  let st := h.get F.CLOCK.STATE 0
  if h.get F.CLOCK.SERVO_STEP_AT 0 * usec < size then (h1.modClock (fun c => { c with inside := 0 })).servoStep (-o)
  else if st == 4 && h.get F.CLOCK.JUMP_THRESHOLD 0 * usec < size then h1
  else
    let h2 := if h1.boxPaused then h1 else h1.drawn.setRate (decInt 40 h1.freeVal)
    if st == 2 then (if 16 ≤ h2.clock.beyond then (h2.modClock (fun c => { c with inside := 0 })).clockState 1 else h2)
    else if 16 ≤ h2.clock.inside then h2.clockState 2
    else h2.clockState 1

def execSyncLossTimeout (s : State) : Host.Outcome State Fault Refusal :=
  act s (fun h => h.expire T.syncLoss 0 (fun g =>
    if g.servoRuns then
      (g.modClock (fun c => { c with inside := 0, beyond := 0 })).clockState (if g.on F.CLOCK.EVER_LOCKED 0 then 3 else 0)
    else g))

/-! ### The reference (R370) -/

/-- The reference is lost: holdover. -/
def Hub.refLost (h : Hub) : Hub :=
  if h.get F.CLOCK.REF_STATE 0 == 1 then h
  else ((h.set F.CLOCK.REF_STATE 0 1).modClock (fun c => { c with lostAt := h.now })).notify 227 (h.get F.CLOCK.REF_SOURCE 0)

/-- The reference has been valid for 1 s again: the holdover ends a number of ms after its start. -/
def Hub.refRestored (h : Hub) (ms : Nat) : Hub :=
  if h.get F.CLOCK.REF_STATE 0 == 0 then h
  else
    let h1 := h.advanceTo (h.clock.lostAt + max 1000 ms * msec)
    (h1.set F.CLOCK.REF_STATE 0 0).notify 228 (min ((h1.now - h.clock.lostAt) / msec) (2 ^ 32 - 1))

def execRefLost (s : State) : Host.Outcome State Fault Refusal := act s Hub.refLost
def execRefRestored (ms : Nat) (s : State) : Host.Outcome State Fault Refusal := act s (fun h => h.refRestored ms)

/-! ### PTP received (R375, R381–R385, R391) -/

/-- NT_PTP_PORT_FAULT. -/
def Hub.ptpFault (h : Hub) (i cause : Nat) : Hub := h.notify 229 (i + cause * 256)

/-- The same, at most once per 10 s and cause. -/
def Hub.ptpFaultOnce (h : Hub) (i cause : Nat) : Hub :=
  let t := (h.ptp i).faultAt.read (fun _ => 0) cause
  if t != 0 && h.now + 1 < t + 10 * sec then h
  else (h.modPtp i (fun k => { k with faultAt := k.faultAt.write (fun _ => 0) cause (h.now + 1) })).ptpFault i cause

/-- The PTP message inside what Y11 received on a port. -/
def ptpBody (i : Nat) (bs : List Byte) : List Byte :=
  if i < 4 then (bs.drop 8).take (leAt bs 2 2)
  else match ptpAt bs with
    | some o => (bs.drop o).take (beAt (bs.drop o) 2 2)
    | none => []

/-- The message of a port that waits at Y11 and reads as the given one. -/
def Hub.ptpWaiting (h : Hub) (i : Nat) (m : List Byte) : Option (Nat × Nat × List Byte) :=
  (h.yard.inbox.read (fun _ => []) 11).find? (fun e =>
    (if i < 4 then e.1 == i else e.1 == 6 && e.2.1 == i - 4) && ptpBody i (e.2.2.drop 10) == m)

/-- Y11 takes a PTP message of the given types on a port (R381, R382, R391): at most 1,000 a second, of DOMAIN, on an enabled
port. The effect gets the ingress timestamp. -/
def Hub.onPtp (h : Hub) (i : Nat) (m : List Byte) (kinds : List Nat) (f : Hub → Nat → Hub) : Hub :=
  match h.ptpWaiting i m with
  | none => h
  | some e =>
    if !kinds.contains (byteAt m 0 % 16) then h
    else
      let h1 := h.takeInbox 11 e.1 e.2.1 e.2.2
      let fresh := decide ((h1.ptp i).windowAt + sec ≤ h1.now)
      let h2 := if fresh then h1.modPtp i (fun k => { k with windowAt := h1.now, windowCount := 0 }) else h1
      if !h2.on F.PTPPORT.ENABLE i || byteAt m 4 != h2.get F.CLOCK.DOMAIN 0 then h2
      else if 1000 ≤ (h2.ptp i).windowCount then (h2.add F.PTPPORT.DISCARDED i 1).ptpFault i 4
      else f (h2.modPtp i (fun k => { k with windowCount := k.windowCount + 1 })) (leAt e.2.2 0 10)

/-- Whether a port is the one the built-in servo steers from. -/
def Hub.steers (h : Hub) (i : Nat) : Bool := h.servoRuns && h.get F.CLOCK.SERVO_PORT 0 == i

/-- A Sync complete with its origin timestamp and summed corrections: usable once a delay has been measured (R375). -/
def Hub.syncComplete (h : Hub) (i stamp : Nat) (t1 corr : Int) : Hub :=
  let fwd := h.networkFine stamp - t1 - corr
  let h1 := h.modPtp i (fun k => { k with forward := some fwd })
  if h1.steers i && (h1.ptp i).hasDelay then
    h1.servo i (fwd - (h1.get F.PTPPORT.MEAN_LINK_DELAY i : Int) * 65536 / 1000 - h1.getI F.PTPPORT.ASYMMETRY i * 65536 / 1000)
  else h1

def Hub.ptpSync (h : Hub) (i stamp : Nat) (m : List Byte) : Hub :=
  let h1 := h.add F.PTPPORT.SYNC_RX i 1
  if bitB (beAt m 6 2) 9 then
    (h1.modPtp i (fun k => { k with syncs := k.syncs ++ [(beAt m 30 2, stamp, correction m)] })).armOnce T.followUp i sec
  else h1.syncComplete i stamp (timestampAt m 34) (correction m)

def Hub.ptpFollowUp (h : Hub) (i : Nat) (m : List Byte) : Hub :=
  match (h.ptp i).syncs.find? (fun s => s.1 == beAt m 30 2) with
  | none => h
  | some s =>
    let h1 := h.modPtp i (fun k => { k with syncs := k.syncs.erase s })
    let h2 := if (h1.ptp i).syncs.isEmpty then h1.disarm T.followUp i else h1
    h2.syncComplete i s.2.1 (timestampAt m 34) (s.2.2 + correction m)

/-- A Sync whose Follow_Up has not come within 1 s is unusable and counted (R391). -/
def Hub.followUpLost (h : Hub) (i : Nat) : Hub :=
  match (h.ptp i).syncs with
  | [] => h
  | _ :: rest =>
    let h1 := ((h.modPtp i (fun k => { k with syncs := rest })).add F.PTPPORT.DISCARDED i 1).ptpFaultOnce i 3
    if rest.isEmpty then h1 else h1.arm T.followUp i sec

/-- A measured delay in 2^−16 ns becomes MEAN_LINK_DELAY in ps. A faulty port recovers. -/
def Hub.delayMeasured (h : Hub) (i : Nat) (d : Int) : Hub :=
  let ps := clampInt 0 (2 ^ 32 - 1) (d * 1000 / 65536)
  let h1 := (h.set F.PTPPORT.MEAN_LINK_DELAY i ps.toNat).modPtp i (fun k => { k with hasDelay := true, waiting := false, missed := 0, response := none })
  (if h1.get F.PTPPORT.STATE i == 4 then h1.set F.PTPPORT.STATE i 1 else h1).ptpState i

/-- The neighbour's rate from two exchanges: (Δt3 ÷ Δt4 − 1) in 2^−40 (R395). -/
def Hub.rateRatio (h : Hub) (i : Nat) (t3 : Int) (t4 : Nat) : Hub :=
  let h1 := match (h.ptp i).last with
    | some (a, b) =>
      let d : Int := (t4 : Int) - b
      if d ≤ 0 then h else h.setI F.PTPPORT.NEIGHBOR_RATE_RATIO i (sat32 ((t3 - a - d) * 2 ^ 40 / d))
    | none => h
  h1.modPtp i (fun k => { k with last := some (t3, t4) })

def Hub.pdelayResp (h : Hub) (i stamp : Nat) (m : List Byte) : Hub :=
  let k := h.ptp i
  let src := (m.drop 20).take 10
  if beAt m 30 2 != k.reqSeq || (m.drop 44).take 10 != h.portIdentity i || k.reqAt == 0 then h
  else if byteAt m 0 % 16 == 3 then
    if k.responders.any (fun r => r != src) then
      ((h.modPtp i (fun k => { k with waiting := false, response := none })).set F.PTPPORT.STATE i 4).ptpFault i 2
    else
      let h1 := h.modPtp i (fun k => { k with responders := [src] })
      if !k.waiting then h1
      else if bitB (beAt m 6 2) 9 then h1.modPtp i (fun k => { k with response := some (stamp, timestampAt m 34, correction m) })
      else h1.delayMeasured i (((stamp : Int) - (k.reqAt - 1 : Nat) - correction m) / 2)
  else match k.response with
    | none => h
    | some (t4, t2, c) =>
      let t3 := timestampAt m 34
      (h.rateRatio i t3 t4).delayMeasured i (((t4 : Int) - (k.reqAt - 1 : Nat) - (t3 - t2) - c - correction m) / 2)

/-- A Delay_Resp completes the path delay of an end-to-end receiver. -/
def Hub.delayResp (h : Hub) (i : Nat) (m : List Byte) : Hub :=
  let k := h.ptp i
  if beAt m 30 2 != k.reqSeq || (m.drop 44).take 10 != h.portIdentity i || k.reqAt == 0 || !k.waiting then h
  else match k.forward with
    | none => h
    | some fwd => h.delayMeasured i ((fwd + (timestampAt m 34 - h.networkFine (k.reqAt - 1 : Nat) - correction m)) / 2)

/-- A Pdelay_Req is answered on a peer-to-peer port; a Delay_Req on an end-to-end transmitter (R381, R385). -/
def Hub.answerDelay (h : Hub) (i stamp : Nat) (m : List Byte) : Hub :=
  let h1 := h.add F.PTPPORT.DELAY_RX i 1
  let nt := h.networkFine stamp
  let mech := h.get F.PTPPORT.DELAY_MECH i
  if byteAt m 0 % 16 == 2 then
    if mech == 0 then h1
    else if h.on F.PTPPORT.TWO_STEP i then
      h1.sendPtp i (h.ptpMsg i 3 0x200 (correction m - nt % 65536) (beAt m 30 2) 0x7F (timestamp nt ++ (m.drop 20).take 10)) [] stamp
    else h1.sendPtp i (h.ptpMsg i 3 0 (correction m) (beAt m 30 2) 0x7F (beBytes 10 0 ++ (m.drop 20).take 10)) [.corr 8 true false] stamp
  else if mech == 1 || h.get F.CLOCK.SERVO_PORT 0 == i then h1
  else h1.sendPtp i (h.ptpMsg i 9 0 (correction m - nt % 65536) (beAt m 30 2) (h.getI F.PTPPORT.LOG_PDELAY i)
    (timestamp nt ++ (m.drop 20).take 10)) [] stamp

def execPtpDelayReq (port : Nat) (msg : List Byte) (s : State) : Host.Outcome State Fault Refusal :=
  actIf (decide (port < 6)) s (fun h => h.onPtp port msg [1] (fun g t => g.answerDelay port t msg))
def execPtpDelayResp (port : Nat) (msg : List Byte) (s : State) : Host.Outcome State Fault Refusal :=
  actIf (decide (port < 6)) s (fun h => h.onPtp port msg [9] (fun g _ => g.delayResp port msg))
def execPtpPdelayReq (port : Nat) (msg : List Byte) (s : State) : Host.Outcome State Fault Refusal :=
  actIf (decide (port < 6)) s (fun h => h.onPtp port msg [2] (fun g t => g.answerDelay port t msg))
def execPtpPdelayResp (port : Nat) (msg : List Byte) (s : State) : Host.Outcome State Fault Refusal :=
  actIf (decide (port < 6)) s (fun h => h.onPtp port msg [3, 10] (fun g t => g.pdelayResp port t msg))
def execPtpAnnounce (port : Nat) (msg : List Byte) (s : State) : Host.Outcome State Fault Refusal :=
  actIf (decide (port < 6)) s (fun h => h.onPtp port msg [11] (fun g _ =>
    if g.get F.CLOCK.SERVO_PORT 0 == port then g.modClock (fun c => { c with announce := msg }) else g))
def execPtpUnsupported (port : Nat) (msg : List Byte) (s : State) : Host.Outcome State Fault Refusal :=
  actIf (decide (port < 6)) s (fun h => h.onPtp port msg [12, 13] (fun g _ => (g.add F.PTPPORT.DISCARDED port 1).ptpFaultOnce port 5))
def execFollowUpTimeout (port : Nat) (s : State) : Host.Outcome State Fault Refusal :=
  actIf (decide (port < 6)) s (fun h => h.expire T.followUp port (fun g => g.followUpLost port))

/-! ### PTP sent (R381, R385) -/

/-- A port's transmit timer runs out: it starts again at its interval, and the effect takes place on an enabled port. -/
def Hub.ptpTimer (h : Hub) (kind i : Nat) (log : Fld) (f : Hub → Hub) : Hub :=
  h.expire kind i (fun g => if g.on F.PTPPORT.ENABLE i then f (g.arm kind i (powerSec (g.getI log i))) else g)

def Hub.sendSync (h : Hub) (i : Nat) : Hub :=
  if h.get F.CLOCK.SERVO_PORT 0 == i || !h.ptpLinked i then h
  else
    let seq := (h.ptp i).syncSeq
    let two := h.on F.PTPPORT.TWO_STEP i
    (h.modPtp i (fun k => { k with syncSeq := (seq + 1) % 65536 })).sendPtp i
      (h.ptpMsg i 0 (if two then 0x200 else 0) 0 seq (h.getI F.PTPPORT.LOG_SYNC i) (beBytes 10 0)) (if two then [] else [.stamp 34 1]) h.clk

/-- The grandmaster fields of an Announce (R381): the device's own without a source, else the last received with
stepsRemoved plus 1; none while none has been received. -/
def Hub.announceBody (h : Hub) : Option (List Byte) :=
  if h.get F.CLOCK.SERVO_PORT 0 == 0xF then
    some (beBytes 10 0 ++ beBytes 2 37 ++ [0, 128, 248, 0xFE, 0xFF, 0xFF, 128] ++ beBytes 8 h.clockId ++ beBytes 2 0 ++ [0xA0])
  else if h.clock.announce.isEmpty then none
  else
    let b := (h.clock.announce.drop 34).take 30
    some (putBytes b 27 (beBytes 2 (beAt b 27 2 + 1)))

def Hub.sendAnnounce (h : Hub) (i : Nat) : Hub :=
  if h.get F.CLOCK.SERVO_PORT 0 == i || !h.ptpLinked i then h
  else match h.announceBody with
    | none => h
    | some b =>
      let seq := (h.ptp i).announceSeq
      (h.modPtp i (fun k => { k with announceSeq := (seq + 1) % 65536 })).sendPtp i
        (h.ptpMsg i 11 0 0 seq (h.getI F.PTPPORT.LOG_ANNOUNCE i) b) [] h.clk

/-- The next delay request: Pdelay_Req on a peer-to-peer port, Delay_Req on an end-to-end receiver. Three intervals without an
answer make the port faulty (R391). -/
def Hub.sendDelayReq (h : Hub) (i : Nat) : Hub :=
  let p2p := h.get F.PTPPORT.DELAY_MECH i == 1
  if !h.ptpLinked i || (!p2p && h.get F.CLOCK.SERVO_PORT 0 != i) then h
  else
    let k := h.ptp i
    let missed := if k.waiting && p2p then k.missed + 1 else 0
    let h1 := if missed == 3 then (h.set F.PTPPORT.STATE i 4).ptpFault i 1 else h
    let seq := (k.reqSeq + 1) % 65536
    let h2 := h1.modPtp i (fun k => { k with reqSeq := seq, reqAt := 0, waiting := true, responders := [], response := none, missed := missed })
    if p2p then h2.sendPtp i (h.ptpMsg i 2 0 0 seq 0x7F (beBytes 20 0)) [] h.clk
    else h2.sendPtp i (h.ptpMsg i 1 0 0 seq 0x7F (beBytes 10 0)) [] h.clk

def execPtpSyncTxTimer (port : Nat) (s : State) : Host.Outcome State Fault Refusal :=
  actIf (decide (port < 6)) s (fun h => h.ptpTimer T.syncTx port F.PTPPORT.LOG_SYNC (fun g => g.sendSync port))
def execPtpPdelayTxTimer (port : Nat) (s : State) : Host.Outcome State Fault Refusal :=
  actIf (decide (port < 6)) s (fun h => h.ptpTimer T.pdelayTx port F.PTPPORT.LOG_PDELAY (fun g => g.sendDelayReq port))
def execPtpAnnounceTxTimer (port : Nat) (s : State) : Host.Outcome State Fault Refusal :=
  actIf (decide (port < 6)) s (fun h => h.ptpTimer T.announceTx port F.PTPPORT.LOG_ANNOUNCE (fun g => g.sendAnnounce port))

end Sys2Proof.Machine
end

