-- ==== Sys2Proof/Machine/Storage.lean ====
section
/-! DEFINITION. The storage slots (R402–R404, R409, R410, R412): power, training, presence, removal, timeouts and handing a slot to
another host. -/

namespace Sys2Proof.Machine

/-- A storage notice, addressed to the holder of the port's token (R616). -/
def Hub.storageNotice (h : Hub) (s src payload : Nat) : Hub := h.raise src payload (h.holderCtx (11 + s))

/-- NT_STORAGE_LINK. -/
def Hub.slotLink (h : Hub) (s cause : Nat) : Hub :=
  h.storageNotice s 273 (s + h.get F.STORAGE.GEN s * 2 + h.get F.STORAGE.WIDTH s * 16 + cause * 2 ^ 8)

/-- The MSI of a downstream port, when the host has enabled it for hot-plug events (R398). -/
def Hub.hotplugMsi (h : Hub) (l s : Nat) : Hub :=
  let fn := s + 1
  let ctl := h.written l fn 22
  if bitB ctl 5 && (bitB ctl 3 || bitB ctl 12) && bitB (h.written l fn 32) 16 && bitB (h.written l fn 1) 2 then
    let id := (h.busOf l 0).1 * 2 ^ 8 + s * 8
    let lo := h.written l fn 33
    let hi := h.written l fn 34
    let head := if hi == 0 then leBytes 4 (0x40000000 + 1) ++ leBytes 4 (id * 2 ^ 16 + 15) ++ leBytes 4 lo
      else leBytes 4 (0x60000000 + 1) ++ leBytes 4 (id * 2 ^ 16 + 15) ++ leBytes 4 hi ++ leBytes 4 lo
    match h.classSlot l 2 with
    | some k => h.tlpToHost (4 + s) l k (head ++ leBytes 4 (h.written l fn 35))
    | none => h
  else h

/-- A host's view of a slot changes: Presence Detect Changed and Data Link Layer State Changed (R398). -/
def Hub.presenceEvent (h : Hub) (l s : Nat) : Hub :=
  (h.setWritten l (s + 1) 1022 (h.written l (s + 1) 1022 ||| 0x108)).hotplugMsi l s

/-- Presence is shown to the owner of a slot that is up, and to no one else (R398). -/
def Hub.syncPresence (h : Hub) (s : Nat) : Hub :=
  let new := if h.get F.STORAGE.STATE s == 4 && (h.slot s).phase == 0 && h.holder (11 + s) < 4 then h.holder (11 + s) + 1 else 0
  let old := (h.slot s).shownTo
  if old == new then h
  else
    let h1 := h.modSlot s (fun k => { k with shownTo := new })
    let h2 := if old == 0 then h1 else h1.presenceEvent (old - 1) s
    if new == 0 then h2 else h2.presenceEvent (new - 1) s

/-- The leaf rates that depend on slots follow (R296, R402). -/
def Hub.slotRates (h : Hub) : Hub := (List.range 4).foldl (fun g l => g.readmit l false) h

/-- SnPERST_N is driven. -/
def Hub.perst (h : Hub) (s : Nat) (release : Bool) : Hub :=
  if (h.slot s).released == release then h
  else (h.modSlot s (fun k => { k with released := release })).emit .pin (66 + s) [BitVec.ofNat 8 (ofB release)]

/-- A slot's link is no longer up: GEN, WIDTH and MPS read 0, its Yard port follows, and the rates. -/
def Hub.linkGone (h : Hub) (s state : Nat) : Hub :=
  let h1 := ((((h.set F.STORAGE.STATE s state).set F.STORAGE.GEN s 0).set F.STORAGE.WIDTH s 0).set F.STORAGE.MPS s 0).disarm T.slotTrain s
  let h2 := (h1.modSlot s (fun k => { k with splitSeen := false, up := [] })).syncPresence s
  h2.slotRates

/-- Unacknowledged posted writes of a slot logged, all or those sent: a split write under cause 0x04 with its first piece not
performed (R405, R406). -/
def Hub.logPosted (h : Hub) (s cause : Nat) (sentOnly : Bool) : Hub :=
  ((h.slot s).posted.filter (fun w => !sentOnly || w.sent)).foldl (fun g w =>
    (g.modSlot s (fun k => { k with posted := k.posted.erase w })).postedFault w.ctx (if 1 < w.pieces then 4 else cause) s w.acked
      (w.addr + w.acked * max 128 (h.get F.STORAGE.MPS s))) h

/-- The Yard port of a slot goes down; a flush that runs at once answers what was queued (R260, R404). -/
def Hub.slotPortDown (h : Hub) (s : Nat) : Hub :=
  let h1 := h.syncPort (4 + s) 0
  if h1.yard.flushed.read (fun _ => false) (unitKey (4 + s) 0) then h1.abortAll s false else h1

/-- The feed of a slot. -/
def Hub.slotFeed (h : Hub) (s : Nat) (want : Bool) : Hub :=
  let h1 := h.requestFeed (12 + s) want
  if want then h1 else h1.modSlot s (fun k => { k with power := false })

/-- The release of SnPERST_N, and training (R403). -/
def Hub.perstRelease (h : Hub) (s : Nat) : Hub :=
  if h.get F.STORAGE.STATE s == 2 && (h.slot s).power && (h.slot s).phase == 0 && h.holder (11 + s) < 6 then
    ((h.perst s true).set F.STORAGE.STATE s 3).arm T.slotTrain s sec
  else h

def Hub.slotPresent (h : Hub) (s : Nat) : Hub :=
  if h.on F.STORAGE.PRESENT s then h
  else
    let h1 := ((h.set F.STORAGE.PRESENT s 1).set F.STORAGE.STATE s 1).modSlot s (fun k => { k with tries := 0 })
    (if h.on F.STORAGE.SLOT_ENABLE s then h1.slotFeed s true else h1).storageNotice s 272 (s + 2)

/-- The slot's feed is good: the reference clock starts with SnPERST_N held; 100 ms later it is released while a context holds
the token (R403). -/
def Hub.slotPowerGood (h : Hub) (s : Nat) : Hub :=
  if h.get F.STORAGE.STATE s != 1 || h.get F.FEED.STATE (12 + s) != 3 then h
  else
    let h1 := (h.set F.STORAGE.STATE s 2).modSlot s (fun k => { k with power := true })
    if h1.holder (11 + s) < 6 then h1.arm T.slotPerst s (100 * msec) else h1

/-- Data link up within MAX_GEN and MAX_WIDTH (R403). -/
def Hub.slotLinkUp (h : Hub) (s gen width mps : Nat) : Hub :=
  if h.get F.STORAGE.STATE s != 3 then h
  else
    let w := if width == 4 || width == 2 then min width (h.get F.STORAGE.MAX_WIDTH s) else 1
    let g := max 1 (min gen (h.get F.STORAGE.MAX_GEN s))
    let m := if 512 ≤ mps then 512 else if 256 ≤ mps then 256 else 128
    let h1 := ((((h.set F.STORAGE.STATE s 4).set F.STORAGE.GEN s g).set F.STORAGE.WIDTH s w).set F.STORAGE.MPS s m).disarm T.slotTrain s
    (((h1.modSlot s (fun k => { k with tries := 0 })).syncPort (4 + s) 0).slotRates.syncPresence s).slotLink s 1

/-- Training not done 1 s after the release: three more tries, then STATE 0x5 (R403). -/
def Hub.slotTrainFailed (h : Hub) (s : Nat) : Hub :=
  let k := h.slot s
  let h1 := (h.perst s false).modSlot s (fun k => { k with tries := k.tries + 1 })
  if 3 ≤ k.tries then (h1.set F.STORAGE.STATE s 5).slotLink s 4
  else ((h1.set F.STORAGE.STATE s 2).arm T.slotPerst s sec).slotLink s 3

/-- Presence is lost (R404): all of the owner's requests are answered, all unacknowledged writes logged, the port flushed at
once, and the feed turned off. -/
def Hub.surpriseRemoval (h : Hub) (s : Nat) : Hub :=
  if !h.on F.STORAGE.PRESENT s then h
  else
    let n := (h.slot s).down.length
    let m := (h.slot s).posted.length
    let h1 := (h.abortAll s false).logPosted s 1 false
    let h2 := (((h1.set F.STORAGE.PRESENT s 0).perst s false).disarm T.slotPerst s).linkGone s 0
    let h3 := h2.syncPort (4 + s) 0
    let h4 := if h3.yard.flushed.read (fun _ => false) (unitKey (4 + s) 0) then h3 else (h3.flushUnit (4 + s) 0).disarm T.flush (unitKey (4 + s) 0)
    ((h4.slotFeed s false).add F.STORAGE.REMOVALS s 1).storageNotice s 274 (s + min n 65535 * 2 ^ 16 + m * 2 ^ 32)

/-- The link goes down with presence kept (R404); with power lost as well the slot waits for its feed. -/
def Hub.slotLinkDown (h : Hub) (s : Nat) : Hub :=
  if h.get F.STORAGE.STATE s != 4 then h
  else
    let h1 := (h.abortAll s true).logPosted s 2 true
    ((h1.linkGone s 3).slotPortDown s).slotLink s 2 |>.arm T.slotTrain s sec

/-- A committed SLOT_ENABLE (R403): off keeps the feed off and SnPERST_N asserted; on starts again from STATE 0x5 too. -/
def Hub.slotEnable (h : Hub) (s : Nat) : Hub :=
  let h1 := h.modSlot s (fun k => { k with tries := 0 })
  if !h.on F.STORAGE.PRESENT s then h1
  else if h.on F.STORAGE.SLOT_ENABLE s then
    match h.get F.STORAGE.STATE s with
    | 1 => h1.slotFeed s true
    | 5 => (h1.set F.STORAGE.STATE s 2).perstRelease s
    | _ => h1
  else
    let h2 := if h1.get F.STORAGE.STATE s == 4 then (h1.abortAll s true).logPosted s 2 true else h1
    ((((h2.perst s false).disarm T.slotPerst s).linkGone s 1).slotPortDown s).slotFeed s false

/-- A slot's feed trips or is lost: the slot waits powering (R403, R485). -/
def Hub.slotPowerLost (h : Hub) (s : Nat) : Hub :=
  if 2 ≤ h.get F.STORAGE.STATE s then
    let h1 := if h.get F.STORAGE.STATE s == 4 then (h.abortAll s true).logPosted s 2 true else h
    (((h1.perst s false).disarm T.slotPerst s).modSlot s (fun k => { k with power := false })).linkGone s 1 |>.slotPortDown s
  else h

/-! ### Handover (R412) -/

/-- The token of a slot moves. -/
def Hub.slotMoved (h : Hub) (s before : Nat) : Hub :=
  let h1 := (List.range 4).foldl (fun g w => (g.set F.STORAGE.WIN_BASE s 0 w).set F.STORAGE.WIN_LIMIT s 0xFFF w) (h.set F.STORAGE.WIN_ENABLE s 0)
  let h2 := ((h1.modSlot s (fun k => { k with phase := 1, before := before })).syncPresence s).slotRates
  (((h2.add F.STORAGE.HANDOVERS s 1).disarm T.handPerst s).arm T.handDrain s msec).storageNotice s 277
    (s + before * 16 + h2.holder (11 + s) * 2 ^ 8 + 2 ^ 12)

/-- 1 ms on: what the former owner still waits for is aborted and logged, and the slot is put in reset. -/
def Hub.handoverDrained (h : Hub) (s : Nat) : Hub :=
  let h1 := (h.abortAll s false).logPosted s 3 false
  let st := h1.get F.STORAGE.STATE s
  let h2 := ((h1.perst s false).disarm T.slotPerst s).modSlot s (fun k => { k with phase := 2, tries := 0 })
  let h3 := if 2 ≤ st then (h2.linkGone s 2).slotPortDown s else h2
  h3.arm T.handPerst s (h3.get F.STORAGE.HANDOVER_PERST s * msec)

/-- HANDOVER_PERST on: the slot comes up for a context that holds the token. -/
def Hub.handoverEnd (h : Hub) (s : Nat) : Hub :=
  let h1 := h.modSlot s (fun k => { k with phase := 0 })
  if h1.holder (11 + s) < 6 then
    (if (h1.due T.slotPerst s).isSome then h1 else h1.perstRelease s).storageNotice s 277 (s + (h.slot s).before * 16 + h1.holder (11 + s) * 2 ^ 8)
  else h1

/-! ### Timeouts (R409, R410) -/

/-- When a slot's request toward its host times out: 50 ms after it left, not counting HOLD and RETRAIN. -/
def SlotReq.due (r : SlotReq) : Nat := r.at_ + 50 * msec + r.held

/-- The oldest request without its completion is answered with Completer Abort: one sent to the slot, or one of the slot
toward its host. -/
def Hub.cplTimeout (h : Hub) (s : Nat) (toHost : Bool) : Hub :=
  let count (g : Hub) : Hub := (g.add F.STORAGE.CPL_TIMEOUTS s 1).storageNotice s 275 (s + ofB toHost * 2 + 2 ^ 32)
  if toHost then
    match (h.slot s).up.filter (fun r => let st := h.get F.LANDING.STATE r.l; st != 8 && st != 9) with
    | [] => h
    | r :: t =>
      let m := t.foldl (fun a b => if b.due < a.due then b else a) r
      count (((h.advanceTo m.due).modSlot s (fun k => { k with up := k.up.erase m })).answerSlot s m.hdr 4)
  else
    match (h.slot s).down.filter (fun r => r.sentAt != 0) with
    | [] => h
    | r :: t =>
      let m := t.foldl (fun a b => if b.sentAt < a.sentAt then b else a) r
      count ((h.advanceTo (m.sentAt - 1 + 50 * msec)).abortReq s m)

/-- Whether a landing has a non-posted request outstanding at a slot for 20 ms or more (R410). -/
def Hub.oldRequest (h : Hub) (l : Nat) : Bool :=
  [0, 1].any (fun s => (h.slot s).down.any (fun r => r.l == l && r.sentAt != 0 && r.sentAt - 1 + 20 * msec ≤ h.now))

/-- The slot's data link layer acknowledges TLPs (R404): posted writes complete piece by piece in order. -/
def ackPosted : List PostedWrite → Nat → List PostedWrite
  | [], _ => []
  | w :: t, n =>
    if n == 0 || !w.sent then w :: t
    else if w.acked + n < w.pieces then { w with acked := w.acked + n } :: t
    else ackPosted t (n - (w.pieces - w.acked))

def execSlotPresence (n : Nat) (s : State) : Host.Outcome State Fault Refusal := actIf (decide (n < 2)) s (fun h => h.slotPresent n)
def execSlotPowerGood (n : Nat) (s : State) : Host.Outcome State Fault Refusal := actIf (decide (n < 2)) s (fun h => h.slotPowerGood n)
def execSlotPerstRelease (n : Nat) (s : State) : Host.Outcome State Fault Refusal :=
  actIf (decide (n < 2)) s (fun h => h.expire T.slotPerst n (fun g => g.perstRelease n))
def execSlotLinkUp (n gen width mps : Nat) (s : State) : Host.Outcome State Fault Refusal :=
  actIf (decide (n < 2)) s (fun h => h.slotLinkUp n gen width mps)
def execSlotTrainTimeout (n : Nat) (s : State) : Host.Outcome State Fault Refusal :=
  actIf (decide (n < 2)) s (fun h => h.expire T.slotTrain n (fun g => g.slotTrainFailed n))
def execSurpriseRemoval (n : Nat) (s : State) : Host.Outcome State Fault Refusal := actIf (decide (n < 2)) s (fun h => h.surpriseRemoval n)
def execSlotLinkDown (n : Nat) (s : State) : Host.Outcome State Fault Refusal := actIf (decide (n < 2)) s (fun h => h.slotLinkDown n)
def execPostedWriteAck (n count : Nat) (s : State) : Host.Outcome State Fault Refusal :=
  actIf (decide (n < 2)) s (fun h =>
    let left := ackPosted (h.slot n).posted count
    let done := (h.slot n).posted.take ((h.slot n).posted.length - left.length)
    { h.modSlot n (fun k => { k with posted := left }) with
      postedDone := done.foldl (fun t w => t.write (fun _ => 0) w.ctx (t.read (fun _ => 0) w.ctx + 1)) h.postedDone })
def execCplTimeout (n : Nat) (toHost : Bool) (s : State) : Host.Outcome State Fault Refusal :=
  actIf (decide (n < 2)) s (fun h => h.cplTimeout n toHost)
def execHandoverDrainEnd (n : Nat) (s : State) : Host.Outcome State Fault Refusal :=
  actIf (decide (n < 2)) s (fun h => h.expire T.handDrain n (fun g => g.handoverDrained n))
def execHandoverPerstEnd (n : Nat) (s : State) : Host.Outcome State Fault Refusal :=
  actIf (decide (n < 2)) s (fun h => h.expire T.handPerst n (fun g => g.handoverEnd n))

end Sys2Proof.Machine
end

