-- ==== Sys2Proof/Machine/Branch.lean ====
section
/-! DEFINITION. The Branch Line (R416–R437): accesses and their answers, locks that end, received frames, polls and outbound frames,
the signal map's arithmetic and deliveries, events, the I2C target, and interfaces that restart. -/

namespace Sys2Proof.Machine

/-- A Branch notice, addressed to the holder of the interface's token (R616). -/
def Hub.branchNotice (h : Hub) (n src payload : Nat) : Hub := h.raise src payload (h.holderCtx (45 + n))

/-! ### Bit fields of messages (R98) -/

/-- Bit i of a message in a bit order: 0 LE, 1 BE. -/
def msgBit (order : Nat) (bs : List Byte) (i : Nat) : Nat :=
  if order == 0 then bitN (byteAt bs (i / 8)) (i % 8) else bitN (byteAt bs (i / 8)) (7 - i % 8)

/-- The field of n bits from bit s; bits beyond the end read 0. -/
def getField (order : Nat) (bs : List Byte) (s n : Nat) : Nat :=
  ((List.range n).map (fun j => msgBit order bs (if order == 0 then s + j else s + (n - 1 - j)) * 2 ^ j)).sum

/-- Writes one bit of a message, if the message has it. -/
def putMsgBit (order : Nat) (bs : List Byte) (i : Nat) (v : Bool) : List Byte :=
  bs.modify (i / 8) (fun b => BitVec.ofNat 8 (putBit b.toNat (if order == 0 then i % 8 else 7 - i % 8) v))

/-- Writes the low n bits of a value into the field from bit s. -/
def putField (order : Nat) (bs : List Byte) (s n v : Nat) : List Byte :=
  (List.range n).foldl (fun b j => putMsgBit order b (if order == 0 then s + j else s + (n - 1 - j)) (bitB v j)) bs

/-- Whether the value of a 32-bit register does not fit n bits, unsigned or signed. -/
def unfit (v n : Nat) (signed : Bool) : Bool :=
  if signed then decide (decInt 32 v < -(2 ^ (n - 1) : Int)) || decide ((2 ^ (n - 1) : Int) ≤ decInt 32 v) else decide (2 ^ n ≤ v % 2 ^ 32)

/-! ### The signal map (R100, R108, R425, R429, R430) -/

/-- SCALE (R100): the rescaled value of an entry, and whether it saturated. -/
def Hub.scaleSignal (h : Hub) (e : Nat) (x : Int) : Int × Bool :=
  let p := x * h.getI F.SIGNAL.FACTOR e + h.getI F.SIGNAL.OFFSET e
  let r := (p + 0x8000) / 65536
  let lo := h.getI F.SIGNAL.MIN e
  let hi := h.getI F.SIGNAL.MAX e
  let r1 := if r < lo then lo else r
  (if hi < r1 then hi else r1, decide (r < lo) || decide (hi < r1))

/-- A SCALE that saturates is counted and reported. -/
def Hub.signalSaturated (h : Hub) (e : Nat) (sat : Bool) : Hub :=
  if sat then (h.add F.SIGNAL.SATURATED e 1).raise 308 (e + 2 ^ 32) (ctxCode (h.get F.SIGNAL.OWNER e)) else h

def Hub.gather (h : Hub) (t : Nat) : Gather := h.gathers.read (fun _ => {}) t
def Hub.modGather (h : Hub) (t : Nat) (f : Gather → Gather) : Hub := { h with gathers := h.gathers.write (fun _ => {}) t (f (h.gather t)) }

/-- Records cut into messages of at most 31. -/
def chunk31 (fuel : Nat) (rs : List SigRec) : List (List SigRec) :=
  match fuel with
  | 0 => []
  | k + 1 => if rs.isEmpty then [] else rs.take 31 :: chunk31 k (rs.drop 31)

/-- The body of a SIGNALS message. -/
def signalsBody (rs : List SigRec) : List Byte :=
  let oldest := rs.foldl (fun m r => min m r.at_) ((rs.head?.map (fun r => r.at_)).getD 0)
  leBytes 2 rs.length ++ leBytes 6 oldest ++ (rs.map (fun r => leBytes 8 (r.entry + ofB r.sat * 2 ^ 11 + r.value * 2 ^ 32))).flatten

/-- A SIGNALS message is due (R429): sent when the host has returned Branch credits, else it waits among up to four; what
cannot wait stays gathered until the next try. -/
def Hub.flushSignals (h : Hub) (t : Nat) : Hub :=
  let g := h.gather t
  let l := t / 2048
  let slot := t % 2048
  if 0 < h.avail l 5 then
    let msgs := g.wait ++ chunk31 (g.recs.length + 1) g.recs
    (msgs.foldl (fun x m => x.sendTunnel 9 l slot 3 (signalsBody m)) (h.modGather t (fun _ => {}))).disarm T.signals t
  else if g.wait.length < 4 && !g.recs.isEmpty then
    (h.modGather t (fun g => { wait := g.wait ++ [g.recs.take 31], recs := g.recs.drop 31 })).arm T.signals t (100 * usec)
  else h.arm T.signals t (100 * usec)

/-- A value for a host joins its tunnel's SIGNALS message (R429). -/
def Hub.gatherSignal (h : Hub) (t : Nat) (r : SigRec) : Hub :=
  let g := h.gather t
  if g.recs.any (fun x => x.entry == r.entry) then
    let h1 := h.modGather t (fun g => { g with recs := g.recs.map (fun x => if x.entry == r.entry then r else x) })
    if 4 ≤ g.wait.length then h1.add F.BRANCH.COALESCED 5 1 else h1
  else if 4 ≤ g.wait.length && g.wait.any (fun m => m.any (fun x => x.entry == r.entry)) then
    (h.modGather t (fun g => { g with wait := g.wait.map (fun m => m.map (fun x => if x.entry == r.entry then r else x)) })).add
      F.BRANCH.COALESCED 5 1
  else
    let h1 := (h.modGather t (fun g => { g with recs := g.recs ++ [r] })).armOnce T.signals t (100 * usec)
    if g.recs.length + 1 == 31 then h1.flushSignals t else h1

/-- EMIT (R108): the value goes to the entry's destination. Answers the hub, whether the value did not fit, and whether the
entry has no destination enabled. -/
def Hub.emitSignal (h : Hub) (e v : Nat) (sat : Bool) (at_ : Nat) : Hub × Bool × Bool :=
  let dest := h.get F.SIGNAL.DEST e
  let n := h.get F.SIGNAL.LENGTH e
  let over_ := unfit v n (h.on F.SIGNAL.SIGNED e)
  if !h.on F.SIGNAL.ENABLE e || (dest != 1 && dest != 2) then (h, over_, true)
  else
    let h1 := (((h.set F.SIGNAL.VALUE e v).add F.SIGNAL.UPDATES e 1).set F.SIGNAL.LAST_UPDATE e h.now48)
    let h2 :=
      if dest == 1 then
        h1.gatherSignal (tunnelOf (h.get F.SIGNAL.DEST_LANDING e) (h.get F.SIGNAL.DEST_SLOT e)) { entry := e, sat := sat, value := v % 2 ^ 32, at_ := at_ % 2 ^ 48 }
      else
        let f := h.get F.SIGNAL.DEST_FRAME e
        h1.modFar (h.get F.SIGNAL.DEST_IF e) (fun b =>
          let old := (b.packed.read (fun _ => []) f ++ List.replicate 64 0).take 64
          { b with packed := b.packed.write (fun _ => []) f (putField (h.get F.SIGNAL.ORDER e) old (h.get F.SIGNAL.BIT_START e) n v) })
    (h2, over_, false)

/-- A value rescaled and delivered, as the library program and SIGNAL_SET do. -/
def Hub.deliverSignal (h : Hub) (e : Nat) (x : Int) (at_ : Nat) : Hub :=
  let (r, sat) := h.scaleSignal e x
  ((h.signalSaturated e sat).emitSignal e (encInt 32 r) sat at_).1

/-- The library program in slot 2 (R425) on a message of Y9: each entry's field is extracted, rescaled and sent. -/
def Hub.libSignals (h : Hub) (bytes : List Byte) (at_ : Nat) : Hub :=
  let data := (bytes.drop 48).take (byteAt bytes 1)
  (List.range (min (byteAt bytes 6) 10)).foldl (fun g k =>
    let d := leAt bytes (8 + 4 * k) 4
    let e := bits d 0 11
    let s := bits d 11 9
    let n := bits d 20 5 + 1
    if 8 * data.length < s + n then (g.add F.SIGNAL.SHORT e 1).raise 309 (e + 2 ^ 32) (ctxCode (g.get F.SIGNAL.OWNER e))
    else
      let v := getField (bitN d 25) data s n
      g.deliverSignal e (if bitB d 26 then decInt n v else v) at_) h

/-- The header Y9 puts before a group's data (R426), 48 bytes. -/
def Hub.groupHeader (h : Hub) (n addr len : Nat) (poll : Bool) (es : List Nat) : List Byte :=
  let ds := es.map (fun e => leBytes 4 (e + h.get F.SIGNAL.BIT_START e * 2 ^ 11 + (h.get F.SIGNAL.LENGTH e - 1) * 2 ^ 20 +
    h.get F.SIGNAL.ORDER e * 2 ^ 25 + h.get F.SIGNAL.SIGNED e * 2 ^ 26))
  (leBytes 1 (n + 4 * ofB poll) ++ leBytes 1 len ++ leBytes 4 addr ++ leBytes 1 es.length ++ [0] ++ ds.flatten ++ List.replicate 40 0).take 48

/-- A group's data enters the Yard at Y9, metered, for its library program (R425, R427). -/
def Hub.groupMessage (h : Hub) (n addr : Nat) (poll : Bool) (es : List Nat) (data : List Byte) (stamp : Nat) : Hub :=
  match es with
  | [] => h
  | e :: _ =>
    match h.groupRoute e with
    | none => h
    | some i =>
      let p : Pkt := { bytes := h.groupHeader n addr data.length poll es ++ data, port := 9, service := 5, stamp := stamp, entry := i }
      match h.police (h.route i) p.bytes.length false p with
      | (h1, none) => h1
      | (h1, some q) => h1.admitMessage 9 q []

/-! ### Answers (R421) -/

/-- The body of an ACCESS_DONE. -/
def Hub.accessDone (h : Hub) (id status : Nat) (data : List Byte) : List Byte :=
  leBytes 4 id ++ leBytes 1 status ++ [0] ++ leBytes 2 data.length ++ leBytes 6 h.now48 ++ [0, 0] ++ data

/-- An access ends: an XFER's result waits for its Manifest, a non-posted ACCESS is answered. -/
def Hub.endAccess (h : Hub) (a : Access) (status : Nat) (data : List Byte) : Hub :=
  if a.xfer then { h with xferDone := h.xferDone.write (fun _ => none) a.ctx (some (status, data)) }
  else if a.posted then { h with postedDone := h.postedDone.write (fun _ => 0) a.ctx (h.postedDone.read (fun _ => 0) a.ctx + 1) }
  else h.sendTunnel 9 a.l a.slot 2 (h.accessDone a.id status data)

/-- An access that was not performed ends with a status; a posted one is logged under a cause (R406). -/
def Hub.dropAccess (h : Hub) (n : Nat) (a : Access) (status cause : Nat) : Hub :=
  if a.posted then h.postedFault a.ctx cause (n + 2) 0 a.addr else h.endAccess a status []

/-- Every waiting access the predicate names ends so. -/
def Hub.dropQueued (h : Hub) (n : Nat) (p : Access → Bool) (status cause : Nat) : Hub :=
  let b := h.farBus n
  let all := b.queue ++ b.overflow
  let keep := all.filter (fun a => !p a)
  (all.filter p).foldl (fun g a => g.dropAccess n a status cause)
    (h.modFar n (fun b => { b with queue := keep.take 32, overflow := keep.drop 32 }))

/-- A far-bus lock is broken (R407): by its 100 ms or a far-bus fault. -/
def Hub.breakLock (h : Hub) (n cause : Nat) : Hub :=
  match (h.farBus n).lock with
  | none => h
  | some k =>
    let who := k.2.1
    let h1 := ((h.modFar n (fun b => { b with lock := none, broken := b.broken ++ [k] })).disarm T.busLock n).raise 281
      (n + 2 + cause * 2 ^ 8) (ctxCode who)
    h1.dropQueued n (fun a => a.owner == k && a.posted) 6 7

/-- A restart under new values, when none is running (R435): error state, stuck bus and recovery start afresh. -/
def Hub.farRestart (h : Hub) (n : Nat) : Hub :=
  if (h.farBus n).job.isSome then h.modFar n (fun b => { b with restart := true })
  else
    let h1 := (h.modFar n (fun b => { b with restart := false, stuck := false })).disarm T.busRecovery n
    let h2 := if n < 2 then ((h1.set F.BRANCH.CAN_STATE n 0).set F.BRANCH.TEC n 0).set F.BRANCH.REC n 0 else h1
    (h2.branchNotice n 316 (n + h2.get F.BRANCH.MODE n * 2 ^ 4)).farNext n

/-- The transaction in progress is over. -/
def Hub.jobOver (h : Hub) (n : Nat) : Hub :=
  let h1 := (h.modFar n (fun b => { b with job := none, wrote := false })).disarm T.farTimeout n
  if (h1.farBus n).restart then h1.farRestart n else h1.farNext n

/-- 100 ms of a lock (R407): what it holds on the bus ends with it. -/
def Hub.lockTimeout (h : Hub) (n : Nat) : Hub :=
  let k := (h.farBus n).lock
  let h1 := h.breakLock n 1
  match (h1.farBus n).job with
  | some (.access a) =>
    if some a.owner == k then (h1.dropAccess n a 6 7).jobOver n else h1.farNext n
  | _ => h1.farNext n

/-! ### GPIO (R418, R433) -/

/-- Pins the cue outputs hold (R389). -/
def Hub.cuePins (h : Hub) : Nat := h.get F.CLOCK.CUE_ENABLE 0 % 256 * 2 ^ 24

/-- The pins whose output changed are driven, and their level is what GPIO_IN shows where the pin drives it. -/
def Hub.gpioDrive (h : Hub) (oldOut : Nat) : Hub :=
  let out := h.get F.BRANCH.GPIO_OUT 5
  let dir := h.get F.BRANCH.GPIO_DIR 5
  let od := h.get F.BRANCH.GPIO_OD 5
  (List.range 32).foldl (fun g i =>
    if bitB dir i && !bitB h.cuePins i && bitB out i != bitB oldOut i then
      let g1 := g.emit .pin i [BitVec.ofNat 8 (bitN out i)]
      if bitB od i && bitB out i then g1 else g1.set F.BRANCH.GPIO_IN 5 (putBit (g1.get F.BRANCH.GPIO_IN 5) i (bitB out i))
    else g) h

/-- A GPIO access is performed: its read data. -/
def Hub.gpioAccess (h : Hub) (a : Access) : Hub × List Byte :=
  let v := leAt a.data 0 4
  let old := h.get F.BRANCH.GPIO_OUT 5
  let held := h.cuePins
  let want := match a.addr with
    | 1 => v
    | 2 => old ||| v
    | 3 => old - (old &&& v)
    | 4 => old ^^^ v
    | _ => old
  let new := (want - (want &&& held)) + (old &&& held)
  if a.addr == 0 then (h, leBytes 4 (h.get F.BRANCH.GPIO_IN 5))
  else ((h.set F.BRANCH.GPIO_OUT 5 new).gpioDrive old, [])

/-! ### Transactions (R421, R436) -/

/-- Every waiting access ends as a far-bus fault has it: bus-off under cause 0x06, a stuck bus under an unstated cause. -/
def Hub.busFault (h : Hub) (n : Nat) : Hub :=
  let h1 := h.breakLock n 2
  if n < 2 then h1.dropQueued n (fun _ => true) 5 6 else (h1.drawn).dropQueued n (fun _ => true) 5 (h1.freeVal % 256)

/-- Why an I2C transaction ended (R436): 1 stretched, 2 stuck and recovered, 3 stuck, 4 arbitration lost 16 times. -/
def Hub.i2cFault (h : Hub) (n cause : Nat) : Hub :=
  if n < 2 || 4 ≤ n || cause == 0 || 4 < cause then h
  else
    let h1 := h.branchNotice n 306 (n + cause * 2 ^ 8)
    if cause == 3 then ((h1.modFar n (fun b => { b with stuck := true })).arm T.busRecovery n (100 * msec)).busFault n else h1

/-- The cause a posted write that failed with a status is logged under (R406). -/
def Hub.postedCause (h : Hub) (n status : Nat) : Nat :=
  if n < 2 then 6 else if status == 3 then 5 else if status == 4 then 8 else h.freeVal % 256

/-- A poll ends without its data (R432). -/
def Hub.pollMissed (h : Hub) (n e : Nat) : Hub := (h.add F.BRANCH.POLLS_MISSED n 1).branchNotice n 307 (e + 2 ^ 32)

/-- The error counts of a transaction's status, and NT_BRANCH_ACCESS_TIMEOUT. -/
def Hub.farErrors (h : Hub) (n status : Nat) : Hub :=
  match status with
  | 3 => h.add F.BRANCH.NACKS n 1
  | 4 => (h.add F.BRANCH.TIMEOUTS n 1).branchNotice n 314 (n + 2 ^ 32)
  | 5 => h.add F.BRANCH.BUS_ERRORS n 1
  | _ => h

/-- The status a finished access answers: one of an owner whose lock was broken tells so (R407, R421). -/
def Hub.accessStatus (h : Hub) (n : Nat) (a : Access) (status : Nat) : Nat :=
  if status == 0 && (h.farBus n).broken.contains a.owner then 6 else status

/-- RELEASE after an ACCESS (R420): its lock ends, a broken one is forgotten. -/
def Hub.afterAccess (h : Hub) (n : Nat) (a : Access) : Hub :=
  if a.release then
    let h1 := h.modFar n (fun b => { b with broken := b.broken.filter (fun k => k != a.owner) })
    if (h1.farBus n).lock == some a.owner then (h1.modFar n (fun b => { b with lock := none })).disarm T.busLock n else h1
  else h

/-- An access's transaction ends with a status of R421, the pieces of its write performed, and its read data. -/
def Hub.accessOver (h : Hub) (n : Nat) (a : Access) (status pieces : Nat) (data : List Byte) : Hub :=
  let total := h.farPieces n a
  let h0 := h.add F.BRANCH.TX_COUNT n (if n < 2 then (if status == 0 then total else min pieces total) else 1)
  let h1 := if status == 0 && a.readLen != 0 && 2 ≤ n then h0.add F.BRANCH.RX_COUNT n 1 else h0
  let h2 := if a.posted && status != 0 then
      (if 1 < total then h1.postedFault a.ctx 4 (n + 2) pieces (h1.pieceAddr n a pieces)
       else (h1.drawn).postedFault a.ctx (h1.postedCause n status) (n + 2) 0 a.addr)
    else h1.endAccess a (h1.accessStatus n a status) (if status == 0 then data.take a.readLen else [])
  let h3 := (h2.farErrors n status).afterAccess n a
  (if status == 5 && n < 4 then h3.breakLock n 2 else h3).jobOver n

/-- BRANCH_TRANSACTION_DONE: the transaction in progress ends with a status (0 done, 3 NACK, 4 timeout, 5 bus fault), an I2C
cause, the pieces performed, and the data read. A write of CAN that also reads then waits for its frame. -/
def Hub.transactionDone (h : Hub) (n status cause pieces : Nat) (data : List Byte) : Hub :=
  let b := h.farBus n
  let st := if status == 0 || status == 3 || status == 4 then status else 5
  let h0 := if (st == 4 && cause != 1) || (st == 3 && n < 2) then h.advanceTo ((h.due T.farTimeout n).getD 0) else h
  match b.job with
  | none => h
  | some (.frame _) => ((h0.add F.BRANCH.TX_COUNT n (ofB (st == 0))).farErrors n st).jobOver n
  | some (.poll e) =>
    if st == 0 then
      let es := h0.groupOf e
      let bytes := (data ++ List.replicate 64 0).take (h0.get F.SIGNAL.POLL_LEN e)
      ((((h0.add F.BRANCH.TX_COUNT n 1).add F.BRANCH.RX_COUNT n 1).groupMessage n (h0.get F.SIGNAL.POLL_ADDR e) true es bytes h0.clk)).jobOver n
    else ((((h0.add F.BRANCH.TX_COUNT n 1).farErrors n st).pollMissed n e).i2cFault n cause).jobOver n
  | some (.access a) =>
    if n == 5 then (let (h1, d) := h0.gpioAccess a; h1.accessOver n a 0 0 d)
    else if n < 2 && st == 0 && a.readLen != 0 then h0.modFar n (fun b => { b with wrote := true })
    else (h0.i2cFault n cause).accessOver n a st pieces (data ++ List.replicate a.readLen 0)

/-! ### ACCESS (R420) -/

/-- An ACCESS from a landing's tunnel is refused at acceptance or queued. -/
def Hub.access (h : Hub) (l slot : Nat) (body : List Byte) : Hub :=
  let id := leAt body 0 4
  let f := byteAt body 4
  let n := f % 8
  let w := leAt body 6 2
  let r := leAt body 8 2
  let a : Access := { ctx := l, l := l, slot := slot, id := id, posted := bitB f 3, lock := bitB f 4, release := bitB f 5,
                      addr := leAt body 12 4, data := body.drop 16, readLen := r }
  let refuse (st : Nat) : Hub := h.sendTunnel 9 l slot 2 (h.accessDone id st [])
  if 5 < n || 64 ≤ f || byteAt body 5 != 0 || leAt body 10 2 != 0 || 240 < w || 240 < r || body.length != 16 + w ||
    (a.posted && r != 0) || !farAddrOk n a.addr w r then refuse 2
  else if !h.holds l (45 + n) then refuse 1
  else if h.get F.BRANCH.MODE n == 0 then refuse 2
  else if 32 ≤ (h.farBus n).queue.length then refuse 7
  else if (h.farBus n).stuck || (n < 2 && h.get F.BRANCH.CAN_STATE n == 2) then
    (if n < 2 then h.dropAccess n a 5 6 else (h.drawn).dropAccess n a 5 (h.freeVal % 256))
  else h.farSubmit n a

/-- A message of a type from a landing's Branch tunnel, taken from the adapter of Y9 with its header off. -/
def Hub.fromBranch (h : Hub) (l slot : Nat) (msg : List Byte) (type : Nat) (f : Hub → List Byte → Hub) : Hub :=
  if ((h.yard.inbox.read (fun _ => []) 9).contains (l, slot, msg)) && bits (leAt msg 0 2) 4 8 == type then
    f (h.takeInbox 9 l slot msg) ((msg.drop 8).take (leAt msg 2 2))
  else h

/-! ### Events (R433) -/

/-- The landing that hears an interface's events: its holder's, while EVENT_SLOT is an open Branch tunnel there. -/
def Hub.eventTunnel (h : Hub) (n : Nat) : Option (Nat × Nat) :=
  let l := h.holder (45 + n)
  let slot := h.get F.BRANCH.EVENT_SLOT n
  if l < 4 && slot != 0 && h.tunnelOpen (tunnelOf l slot) && h.use F.TUNNEL.CLASS (tunnelOf l slot) == 5 then some (l, slot) else none

/-- An EVENT of a time, or NT_BRANCH_EVENT in its place. -/
def Hub.sendEvent (h : Hub) (n kind data at_ : Nat) : Hub :=
  match h.eventTunnel n with
  | some (l, slot) => h.sendTunnel 9 l slot 5 (leBytes 1 kind ++ leBytes 1 n ++ leBytes 6 at_ ++ leBytes 8 data)
  | none => h.branchNotice n 311 (n + kind * 2 ^ 8 + data % 2 ^ 48 * 2 ^ 16)

/-- Whether data an interface has taken has not left toward its host: frames in the receive FIFO, messages with the Shunter, values being gathered. -/
def Hub.branchAhead (h : Hub) (n : Nat) : Bool :=
  let from_ (r : SigRec) : Bool := (h.get F.SIGNAL.SOURCE r.entry == 1 || h.get F.SIGNAL.SOURCE r.entry == 2) && h.get F.SIGNAL.SRC_IF r.entry == n
  n < 4 && (!(h.farBus n).rxFifo.isEmpty || h.yard.tickets.any (fun t => t.input == 9 && byteAt t.pkt.bytes 0 % 4 == n) ||
    h.gathers.cells.any (fun c => c.2.recs.any from_ || c.2.wait.any (fun m => m.any from_)))

/-- An EVENT follows the data messages of its interface taken before it (R405, R433): it waits until they have left. -/
def Hub.farEvent (h : Hub) (n kind data : Nat) : Hub :=
  if h.branchAhead n || !(h.farBus n).events.isEmpty then h.modFar n (fun b => { b with events := b.events ++ [(kind, data, h.now48)] })
  else h.sendEvent n kind data h.now48

/-- The EVENTs of an interface that no longer wait. -/
def Hub.releaseEvents (h : Hub) (n : Nat) : Hub :=
  let es := (h.farBus n).events
  if es.isEmpty || h.branchAhead n then h
  else es.foldl (fun g e => g.sendEvent n e.1 e.2.1 e.2.2) (h.modFar n (fun b => { b with events := [] }))

/-- An enabled edge that persisted for GPIO_DEBOUNCE. -/
def Hub.gpioEdge (h : Hub) (levels : Nat) : Hub :=
  let old := h.get F.BRANCH.GPIO_IN 5
  let new := levels % 2 ^ 32
  let rise := (new - (new &&& old)) &&& h.get F.BRANCH.GPIO_RISE 5
  let fall := (old - (new &&& old)) &&& h.get F.BRANCH.GPIO_FALL 5
  let h1 := (h.advanceTo (h.now + h.get F.BRANCH.GPIO_DEBOUNCE 5 * usec)).set F.BRANCH.GPIO_IN 5 new
  if h.get F.BRANCH.MODE 5 == 0 || rise + fall == 0 then h1 else h1.farEvent 5 1 (new + (rise + fall) * 2 ^ 32)

/-! ### CAN (R425, R431, R435, R436) -/

/-- The groups a received frame matches, by lowest entry. -/
def Hub.matchingGroups (h : Hub) (n addr : Nat) : List Nat :=
  h.groupHeads.filter (fun e => h.get F.SIGNAL.SOURCE e == 1 && h.get F.SIGNAL.SRC_IF e == n && h.get F.SIGNAL.CAN_EXT e == bitN addr 29 &&
    (bits addr 0 29 &&& h.get F.SIGNAL.CAN_MASK e) == (h.get F.SIGNAL.CAN_ID e &&& h.get F.SIGNAL.CAN_MASK e))

/-- A frame taken from the receive FIFO: to its groups, raw to the holder, or unmatched. -/
def Hub.canFrame (h : Hub) (n addr : Nat) (data : List Byte) (clk : Nat) : Hub :=
  match h.matchingGroups n addr with
  | [] =>
    match h.on F.BRANCH.RAW_ENABLE n, h.eventTunnel n with
    | true, some (l, slot) =>
      let body := leBytes 4 addr ++ leBytes 1 data.length ++ [0] ++ leBytes 6 (clk / 65536) ++ [0, 0, 0, 0] ++ data
      let entry := flowEntry 0 0 0 15 2 0 (h.get F.BRANCH.POLICER n) (h.get F.BRANCH.POLICER_EN n)
      match h.police entry (body.length + 8) false {} with
      | (h1, none) => h1
      | (h1, some _) => h1.sendTunnel 9 l slot 6 body
    | _, _ => (h.add F.BRANCH.UNMATCHED n 1).branchNotice n 312 (n + 2 ^ 32)
  | gs => gs.foldl (fun g e => g.groupMessage n addr false (g.groupOf e) data clk) h

/-- Whether Y9 takes another message into the Yard. -/
def Hub.branchRoom (h : Hub) : Bool := h.yard.waitingAt 9 < 256 && h.yard.sliceCells 9 < 4096

/-- Frames that waited in a receive FIFO are taken while the Yard has room. -/
def Hub.drainCan (h : Hub) (n : Nat) : Hub :=
  (h.farBus n).rxFifo.foldl (fun g m =>
    if g.branchRoom then (g.modFar n (fun b => { b with rxFifo := b.rxFifo.drop 1 })).canFrame n m.1 m.2.1 m.2.2 else g) h

/-- What waits on the Branch Line for the Yard to move on: received frames, then EVENTs. -/
def Hub.branchDrain (h : Hub) : Hub :=
  let g := [0, 1].foldl (fun g n => if (g.farBus n).rxFifo.isEmpty then g else g.drainCan n) h
  (List.range 4).foldl (fun g n => g.releaseEvents n) g

/-- A frame received: a CAN access that waits for its identifier ends with its data; then it is taken, waits, or is dropped. -/
def Hub.canReceived (h : Hub) (n addr : Nat) (data : List Byte) (remote : Bool) : Hub :=
  if h.get F.BRANCH.MODE n == 0 then h
  else if remote then h.add F.BRANCH.BUS_ERRORS n 1
  else
    let h0 := (h.add F.BRANCH.RX_COUNT n 1).drainCan n
    let h1 := match (h0.farBus n).job with
      | some (.access a) =>
        if (h0.farBus n).wrote && a.readLen != 0 && bits a.addr 0 29 == bits addr 0 29 then h0.accessOver n a 0 0 data else h0
      | _ => h0
    if h1.branchRoom && (h1.farBus n).rxFifo.isEmpty then h1.canFrame n addr data h1.clk
    else if (h1.farBus n).rxFifo.length < 64 then h1.modFar n (fun b => { b with rxFifo := b.rxFifo ++ [(addr, data, h1.clk)] })
    else (h1.add F.BRANCH.FLOOD_DROPS n 1).branchNotice n 305 (n + 2 ^ 32)

/-- An outbound frame falls due (R431): one that still waits for its last time is late. -/
def Hub.frameDue (h : Hub) (n f : Nat) : Hub :=
  let p := h.get F.BRANCH.TX_PERIOD n f
  if p == 0 then h
  else if (h.farBus n).dueFrames.any (fun d => d.1 == f) then
    ((h.modFar n (fun b => { b with dueFrames := b.dueFrames.map (fun d => if d.1 == f then (f, true) else d) })).add F.BRANCH.TX_LATE n 1).branchNotice
      n 313 (n + f * 2 ^ 4 + 2 ^ 32)
  else ((h.modFar n (fun b => { b with dueFrames := b.dueFrames ++ [(f, false)] })).arm T.canTx (16 * n + f) (p * msec)).farNext n

/-- Committing TX_PERIOD restarts the frame's cycle (R431). -/
def Hub.txPeriodCommitted (h : Hub) (n f : Nat) : Hub :=
  let p := h.get F.BRANCH.TX_PERIOD n f
  let h1 := h.modFar n (fun b => { b with dueFrames := b.dueFrames.filter (fun d => d.1 != f) })
  if p == 0 then h1.disarm T.canTx (16 * n + f) else h1.arm T.canTx (16 * n + f) (p * msec)

/-- A CAN interface changes error state (R433, R435). -/
def Hub.canState (h : Hub) (n st tec rec_ : Nat) : Hub :=
  let old := h.get F.BRANCH.CAN_STATE n
  let h1 := ((h.set F.BRANCH.CAN_STATE n st).set F.BRANCH.TEC n tec).set F.BRANCH.REC n rec_
  if old == st then h1
  else if old == 2 && !h.on F.BRANCH.AUTO_RECOVER n then h
  else
    let h2 := (h1.branchNotice n 304 (n + st * 2 ^ 4 + tec % 256 * 2 ^ 8 + rec_ % 256 * 2 ^ 16)).farEvent n 3
      (st + tec % 256 * 2 ^ 8 + rec_ % 256 * 2 ^ 16)
    if st != 2 then h2.farNext n
    else
      match (h2.farBus n).job with
      | some (.access a) => (h2.accessOver n a 5 0 []).busFault n
      | some _ => (h2.jobOver n).busFault n
      | none => h2.busFault n

/-! ### Polls (R432) -/

/-- A poll falls due. -/
def Hub.pollDue (h : Hub) (e : Nat) : Hub :=
  let n := h.get F.SIGNAL.SRC_IF e
  let h1 := h.arm T.farPoll e (h.get F.SIGNAL.POLL_INTERVAL e * msec)
  if (h1.farBus n).duePolls.contains e then h1.pollMissed n e
  else if (h1.farBus n).stuck then h1.pollMissed n e
  else (h1.modFar n (fun b => { b with duePolls := b.duePolls ++ [e] })).farNext n

/-! ### The I2C target (R434) -/

/-- NT_BRANCH_SPLIT_EXPIRED, and the split is over. -/
def Hub.splitExpired (h : Hub) (n reg cause : Nat) : Hub :=
  (((h.modFar n (fun b => { b with splits := b.splits.write (fun _ => none) reg none })).disarm T.targetReply (256 * n + reg)).disarm
    T.splitHold (256 * n + reg)).branchNotice n 315 (n + reg * 2 ^ 8 + cause * 2 ^ 16)

/-- A TARGET_REQ to the holder's host. -/
def Hub.targetReq (h : Hub) (n : Nat) (read : Bool) (reg len : Nat) (data : List Byte) : Hub :=
  match h.eventTunnel n with
  | some (l, slot) =>
    ({ h with targetId := (h.targetId + 1) % 2 ^ 32 }).sendTunnel 9 l slot 7
      (leBytes 4 h.targetId ++ leBytes 1 (ofB read) ++ leBytes 1 reg ++ leBytes 1 len ++ [0] ++ data)
  | none => h

/-- A far controller's write from a register on. -/
def Hub.targetWrite (h : Hub) (n reg : Nat) (data : List Byte) : Hub :=
  if reg < 128 then
    let d := data.take (128 - reg)
    let h1 := d.zipIdx.foldl (fun g x =>
      let r := reg + x.2
      let w := g.get F.BRANCH.TGT_DATA n (r / 4)
      g.set F.BRANCH.TGT_DATA n (w - bits w (8 * (r % 4)) 8 * 2 ^ (8 * (r % 4)) + x.1.toNat * 2 ^ (8 * (r % 4))) (r / 4)) h
    h1.farEvent n 2 (reg + d.length * 2 ^ 8)
  else h.targetReq n false reg (min data.length 32) (data.take 32)

/-- Data a target read is served with (kind 3), or its NACK (kind 4). -/
def Hub.targetServe (h : Hub) (n : Nat) (data : List Byte) : Hub := (h.emit .far n (3 :: data)).add F.BRANCH.TX_COUNT n 1
def Hub.targetNack (h : Hub) (n : Nat) : Hub := h.emit .far n [4]

/-- A far controller's read of some bytes from a register on, split under the Level Crossing rule when a host must answer. -/
def Hub.targetRead (h : Hub) (n reg len : Nat) : Hub :=
  if reg < 128 then
    h.targetServe n ((List.range len).map (fun i =>
      let r := (reg + i) % 128
      BitVec.ofNat 8 (bits (h.get F.BRANCH.TGT_DATA n (r / 4)) (8 * (r % 4)) 8)))
  else if (h.eventTunnel n).isNone then h.targetServe n (List.replicate len 0xFF)
  else
    match (h.farBus n).splits.read (fun _ => none) reg with
    | some s =>
      match s.data with
      | some d =>
        (((h.modFar n (fun b => { b with splits := b.splits.write (fun _ => none) reg none })).disarm T.splitHold (256 * n + reg))).targetServe n
          ((d ++ List.replicate len 0xFF).take len)
      | none => h.targetNack n
    | none =>
      let h1 := h.modFar n (fun b => { b with splits := b.splits.write (fun _ => none) reg (some { id := h.targetId }) })
      let h2 := ((h1.targetNack n).targetReq n true reg (1 + h.freeVal % 32) []).drawn
      (h2.arm T.targetReply (256 * n + reg) (50 * msec)).branchNotice n 282 (n + 2 + 2 ^ 32)

/-- A host's TARGET_REPLY. -/
def Hub.targetReply (h : Hub) (l : Nat) (body : List Byte) : Hub :=
  let id := leAt body 0 4
  let hit (n : Nat) : Option (Nat × Nat) :=
    if h.holder (45 + n) != l then none
    else ((h.farBus n).splits.cells.find? (fun c => match c.2 with | some s => s.id == id && s.data.isNone | none => false)).map (fun c => (n, c.1))
  match (match hit 2 with | some x => some x | none => hit 3) with
  | none => h
  | some (n, reg) =>
    if byteAt body 4 == 0 then
      ((h.modFar n (fun b => { b with splits := b.splits.write (fun _ => none) reg (some { id := id, data := some (body.drop 8) }) })).disarm
        T.targetReply (256 * n + reg)).arm T.splitHold (256 * n + reg) (h.get F.BRANCH.SPLIT_HOLD n * msec)
    else h.splitExpired n reg 2

/-- A stuck bus is recovered again (R436). -/
def Hub.busRecovery (h : Hub) (n : Nat) (recovered : Bool) : Hub :=
  if recovered then (((h.modFar n (fun b => { b with stuck := false })).branchNotice n 306 (n + 2 * 2 ^ 8))).farNext n
  else (h.branchNotice n 306 (n + 3 * 2 ^ 8)).arm T.busRecovery n (100 * msec)

/-! ### A token moves (R424, R428, R435) -/

/-- Whether an entry needs the token of an interface. -/
def Hub.signalNeeds (h : Hub) (e n : Nat) : Bool :=
  let src := h.get F.SIGNAL.SOURCE e
  ((src == 1 || src == 2) && h.get F.SIGNAL.SRC_IF e == n) || (h.get F.SIGNAL.DEST e == 2 && h.get F.SIGNAL.DEST_IF e == n)

/-- The token of an interface has left a context. -/
def Hub.farTokenMoved (h : Hub) (n old : Nat) : Hub :=
  let h1 := h.dropQueued n (fun a => a.ctx == old && !a.posted) 1 0
  let h2 := if farLocks n then h1.farUnlock n else h1
  let h3 := ((h2.farBus n).splits.cells.filter (fun c => c.2.isSome)).foldl (fun g c => g.splitExpired n c.1 1) h2
  h3.disableSignals ((h3.nonzero F.SIGNAL.ENABLE).filter (fun e => h3.get F.SIGNAL.OWNER e == old && h3.signalNeeds e n)) 1

/-- An entry's ENABLE is committed: 1 makes the context its owner (R428), and the groups follow. -/
def Hub.signalEnabled (h : Hub) (ctx e : Nat) : Hub :=
  (if h.on F.SIGNAL.ENABLE e then h.set F.SIGNAL.OWNER e ctx else h).syncGroups

/-! ### The commands -/

def execFarBusLockTimeout (n : Nat) (s : State) : Host.Outcome State Fault Refusal :=
  actIf (decide (n < 6)) s (fun h => h.expire T.busLock n (fun g => g.lockTimeout n))

def execAccess (l slot : Nat) (msg : List Byte) (s : State) : Host.Outcome State Fault Refusal :=
  actIf (decide (l < 4 ∧ slot < 2048)) s (fun h => h.fromBranch l slot msg 1 (fun g b => g.access l slot b))

def execBranchTransactionDone (n status cause pieces : Nat) (data : List Byte) (s : State) : Host.Outcome State Fault Refusal :=
  actIf (decide (n < 6)) s (fun h => h.transactionDone n status cause pieces data)

def execCanFrameReceived (n addr : Nat) (data : List Byte) (remote : Bool) (s : State) : Host.Outcome State Fault Refusal :=
  actIf (decide (n < 2)) s (fun h => h.canReceived n (addr % 2 ^ 32) (data.take 64) remote)

def execCanTxPeriod (n frame : Nat) (s : State) : Host.Outcome State Fault Refusal :=
  actIf (decide (n < 2 ∧ frame < 16)) s (fun h => h.expire T.canTx (16 * n + frame) (fun g => g.frameDue n frame))

def execCanErrorState (n st tec rec_ : Nat) (s : State) : Host.Outcome State Fault Refusal :=
  actIf (decide (n < 2)) s (fun h => h.canState n (min st 2) tec rec_)

def execI2cPoll (entry : Nat) (s : State) : Host.Outcome State Fault Refusal :=
  actIf (decide (entry < 2048)) s (fun h => h.expire T.farPoll entry (fun g => g.pollDue entry))

def execSignalsFlushTimer (l slot : Nat) (s : State) : Host.Outcome State Fault Refusal :=
  actIf (decide (l < 4 ∧ slot < 2048)) s (fun h => h.expire T.signals (tunnelOf l slot) (fun g => (g.flushSignals (tunnelOf l slot)).branchDrain))

/-- SIGNAL_SET (R430). -/
def Hub.signalSet (h : Hub) (l : Nat) (body : List Byte) : Hub :=
  (List.range (min (leAt body 0 2) 31)).foldl (fun g k =>
    let r := leAt body (8 + 8 * k) 8
    let e := bits r 0 11
    if 16 + 8 * k ≤ body.length && g.get F.SIGNAL.SOURCE e == 3 && g.on F.SIGNAL.ENABLE e && g.get F.SIGNAL.OWNER e == l then
      g.deliverSignal e (if g.on F.SIGNAL.SIGNED e then decInt 32 (bits r 32 32) else bits r 32 32) g.now
    else g.add F.BRANCH.SET_REFUSED 5 1) h

def execSignalSet (l slot : Nat) (msg : List Byte) (s : State) : Host.Outcome State Fault Refusal :=
  actIf (decide (l < 4 ∧ slot < 2048)) s (fun h => h.fromBranch l slot msg 4 (fun g b => g.signalSet l b))

def Hub.targetMode (h : Hub) (n : Nat) : Bool := 2 ≤ h.get F.BRANCH.MODE n

def execI2cTargetWrite (n reg : Nat) (data : List Byte) (s : State) : Host.Outcome State Fault Refusal :=
  actIf (decide (2 ≤ n ∧ n < 4 ∧ reg < 256)) s (fun h => if h.targetMode n then (h.add F.BRANCH.RX_COUNT n 1).targetWrite n reg data else h)

def execI2cTargetRead (n reg len : Nat) (s : State) : Host.Outcome State Fault Refusal :=
  actIf (decide (2 ≤ n ∧ n < 4 ∧ reg < 256)) s (fun h => if h.targetMode n then h.targetRead n reg len else h)

def execTargetReply (l slot : Nat) (msg : List Byte) (s : State) : Host.Outcome State Fault Refusal :=
  actIf (decide (l < 4 ∧ slot < 2048)) s (fun h => h.fromBranch l slot msg 8 (fun g b => g.targetReply l b))

def execTargetReplyTimeout (n reg : Nat) (s : State) : Host.Outcome State Fault Refusal :=
  actIf (decide (2 ≤ n ∧ n < 4 ∧ reg < 256)) s (fun h => h.expire T.targetReply (256 * n + reg) (fun g => g.splitExpired n reg 1))

def execSplitHoldExpiry (n reg : Nat) (s : State) : Host.Outcome State Fault Refusal :=
  actIf (decide (2 ≤ n ∧ n < 4 ∧ reg < 256)) s (fun h => h.expire T.splitHold (256 * n + reg) (fun g => g.splitExpired n reg 3))

def execI2cRecoveryRetry (n : Nat) (recovered : Bool) (s : State) : Host.Outcome State Fault Refusal :=
  actIf (decide (2 ≤ n ∧ n < 4)) s (fun h => h.expire T.busRecovery n (fun g => g.busRecovery n recovered))

end Sys2Proof.Machine
end

