-- ==== Sys2Proof/Machine/Usb.lean ====
section
/-! DEFINITION. The downstream USB ports (R441–R457): power, connects, resets, suspend and resume, wakes, errors, and the end of
transfers. -/

namespace Sys2Proof.Machine

/-! ### Transfers end (R450) -/

/-- The body of a TRANSFER_DONE. -/
def Hub.transferDoneBody (h : Hub) (t : Transfer) (status actual : Nat) (data : List Byte) (lens : List Nat) : List Byte :=
  let iso := if t.type == 1 then ((lens.take 20).map (fun n => leBytes 2 n)).flatten else []
  (leBytes 4 t.id ++ leBytes 1 status ++ [0, 0, 0] ++ leBytes 4 actual ++ leBytes 6 h.now48 ++ List.replicate 6 0 ++ iso ++
    List.replicate 40 0).take 64 ++ data

/-- A transfer is answered. -/
def Hub.answer (h : Hub) (t : Transfer) (status actual : Nat) (data : List Byte) (lens : List Nat) : Hub :=
  h.sendTunnel 8 t.l t.slot 2 (h.transferDoneBody t status actual data lens)

/-- A transfer is refused with status OWNER, BANDWIDTH or QUEUE_FULL, and NT_USB_TRANSFER_REFUSED. -/
def Hub.refuseTransfer (h : Hub) (t : Transfer) (status : Nat) : Hub :=
  (h.answer t status 0 [] []).raise 387 (t.l + status * 2 ^ 8 + 2 ^ 32) [t.l]

/-- A transfer of a port ends without completing. One cut short has moved an amount the spec does not fix. -/
def Hub.cutTransfer (h : Hub) (n : Nat) (t : Transfer) (status : Nat) : Hub :=
  if status == 2 then
    let got := h.freeVal % (t.len + 1)
    (h.drawn.add F.USBPORT.CANCELLED n 1).answer t 2 got (if t.dirIn then List.replicate got 0 else []) []
  else if status == 6 then h.refuseTransfer t 6
  else h.answer t status 0 [] []

/-- Every transfer of a port ends with a status. -/
def Hub.cutAll (h : Hub) (n status : Nat) : Hub :=
  ((h.usb n).transfers).foldl (fun g t => g.cutTransfer n t status) (h.modUsb n (fun u => { u with transfers := [] }))

/-! ### Power, connect and disconnect (R443, R452, R453) -/

/-- NT_USB_CONNECT. -/
def Hub.connectNotice (h : Hub) (n : Nat) (isUp : Bool) : Hub := h.notify (336 + 4 * n) (ofB isUp + h.get F.USBPORT.SPEED n * 2)
/-- NT_USB_PORT_ERROR. -/
def Hub.usbError (h : Hub) (n cause : Nat) : Hub := h.notify (337 + 4 * n) cause

/-- Whether a port wants its feed: enabled, powered and not held off by an over-current. -/
def Hub.usbWants (h : Hub) (n : Nat) : Bool := h.on F.USBPORT.PORT_ENABLE n && h.on F.USBPORT.POWER n && !(h.usb n).overCurrent

/-- A proxied device is no longer there. -/
def Hub.dropProxied (h : Hub) (n : Nat) : Hub :=
  if (h.usb n).proxied then
    (h.modUsb n (fun u => { u with proxied := false, buttons := 0, keys := [], usage := 0 })).set F.USBPORT.PROXY_DEVICES 0
      (h.get F.USBPORT.PROXY_DEVICES 0 - 1)
  else h

/-- What stands on a port is gone: its transfers end with NO_DEVICE. -/
def Hub.usbGone (h : Hub) (n state : Nat) : Hub :=
  let connected := 2 ≤ h.get F.USBPORT.STATE n
  let h1 := (((h.cutAll n 3).forgetDevices n).dropProxied n).set F.USBPORT.STATE n state
  let h2 := ((((h1.disarm T.usbReset n).disarm T.usbResume n).disarm T.usbRecover n).disarm T.usbPower n)
  let h3 := ((h2.set F.USBPORT.DEVICES n 0).set F.USBPORT.VID n 0).set F.USBPORT.PID n 0
  let h4 := if connected then ((h3.connectNotice n false).usbChange n 0) else h3
  (h4.set F.USBPORT.DEV_CLASS n 0).set F.USBPORT.SPEED n 0

/-- The port's feed follows PORT_ENABLE, POWER and over-current. -/
def Hub.usbFeed (h : Hub) (n : Nat) : Hub :=
  let want := h.usbWants n
  let h1 := if !want && h.get F.USBPORT.STATE n != 0 then h.usbGone n 0 else h
  h1.requestFeed (4 + n) want

/-- Power-good of the port's feed starts the 10 ms to disconnected. -/
def Hub.usbPowerWatch (h : Hub) (n : Nat) : Hub :=
  if h.get F.USBPORT.STATE n == 0 && h.usbWants n && h.get F.FEED.STATE (4 + n) == 3 then h.armOnce T.usbPower n (10 * msec) else h

/-- The port's feed trips on over-current (R453): powered off, and held off until power is asked for again. -/
def Hub.usbOverCurrent (h : Hub) (n : Nat) : Hub :=
  let h1 := (h.usbGone n 0).modUsb n (fun u => { u with overCurrent := true })
  (((h1.add F.USBPORT.OVERCURRENTS n 1).usbChange n 3).usbFeed n).usbError n 2

/-- Port power is asked for, or taken away (R453). -/
def Hub.portPower (h : Hub) (n : Nat) (want : Bool) : Hub :=
  let h1 := h.set F.USBPORT.POWER n (ofB want)
  (if want then h1.modUsb n (fun u => { u with overCurrent := false }) else h1).usbFeed n

/-! ### Resets and states (R443, R448, R454) -/

/-- A port reset: every transfer ends with CANCELLED, and SE0 is driven for 50 ms. -/
def Hub.portReset (h : Hub) (n : Nat) : Hub :=
  if h.get F.USBPORT.STATE n < 2 then h
  else
    let h1 := (((h.cutAll n 2).forgetDevices n).dropProxied n).usbSignal n 1 0
    ((((h1.set F.USBPORT.STATE n 3).disarm T.usbResume n).disarm T.usbRecover n).arm T.usbReset n (50 * msec)).add F.USBPORT.RESETS n 1

/-- The port enters disabled: its devices can no longer be reached. -/
def Hub.portDisable (h : Hub) (n : Nat) : Hub :=
  if h.get F.USBPORT.STATE n < 3 then h
  else ((((((h.cutAll n 3).forgetDevices n).dropProxied n).set F.USBPORT.STATE n 2).disarm T.usbReset n).disarm T.usbResume n).disarm T.usbRecover n

/-- A pull-up present for 100 ms (R443, R452). In proxy mode the device resets the port itself (R458). -/
def Hub.usbConnect (h : Hub) (n speed : Nat) : Hub :=
  if h.get F.USBPORT.STATE n != 1 || (h.due T.usbBounce n).isSome then h
  else
    let recent := ((h.usb n).connects.filter (fun t => h.now < t + 10 * sec)) ++ [h.now]
    let h1 := (h.modUsb n (fun u => { u with connects := recent })).add F.USBPORT.CONNECTS n 1
    if h.get F.USBPORT.BOUNCE_LIMIT n < recent.length then (h1.arm T.usbBounce n (10 * sec)).usbError n 3
    else
      let h2 := (((h1.set F.USBPORT.STATE n 2).set F.USBPORT.SPEED n (if speed == 1 then 1 else 2)).set F.USBPORT.DEVICES n 1)
      let h3 := (h2.connectNotice n true).usbChange n 0
      if h3.get F.USBPORT.MODE n == 1 then h3.portReset n else h3

/-- The end of a reset: outcome 0 done at a speed, 1 the device has gone, else it failed. In proxy mode the device is then enumerated:
refusal 0 when every interface is HID with descriptors short enough, else the cause of R458. -/
def Hub.resetDone (h : Hub) (n outcome speed refusal vid pid cls : Nat) : Hub :=
  if outcome == 1 then h.usbGone n 1
  else if outcome != 0 then (h.set F.USBPORT.STATE n 2).usbError n 4
  else
    let h1 := ((h.set F.USBPORT.STATE n 4).set F.USBPORT.SPEED n (max 1 (min speed 3))).usbChange n 4
    if h.get F.USBPORT.MODE n == 0 then
      let owner := h.holder (3 + n)
      if owner < 4 && h.get F.USBPORT.PATH n != 0 then h1.modVhub owner (h.get F.USBPORT.PATH n) (fun v => { v with atZero := n + 1 }) else h1
    else
      let full := 8 ≤ h.get F.USBPORT.PROXY_DEVICES 0
      let h2 := ((h1.set F.USBPORT.VID n vid).set F.USBPORT.PID n pid).set F.USBPORT.DEV_CLASS n cls
      if refusal != 0 || full then (h2.set F.USBPORT.STATE n 2).notify 385 (n + (if refusal != 0 then min refusal 2 else 3) * 2 ^ 8)
      else ((h2.modUsb n (fun u => { u with proxied := true })).add F.USBPORT.PROXY_DEVICES 0 1).notify 385 (n + 8)

/-! ### Suspend, resume and wake (R456, R457) -/

/-- A port is suspended; its transfers end with CANCELLED (R450). -/
def Hub.portSuspend (h : Hub) (n : Nat) (byBus : Bool) : Hub :=
  if h.get F.USBPORT.STATE n != 4 then h
  else (((h.cutAll n 2).usbSignal n 3 0).set F.USBPORT.STATE n 5).modUsb n (fun u => { u with byBus := byBus })

/-- A resume starts: K for 20 ms. -/
def Hub.startResume (h : Hub) (n : Nat) : Hub := ((h.usbSignal n 2 0).set F.USBPORT.STATE n 6).arm T.usbResume n (20 * msec)

/-- The owner's resume request; deviceK tells that the same decision detected a K of the device. -/
def Hub.portResume (h : Hub) (n : Nat) (deviceK : Bool) : Hub :=
  if h.get F.USBPORT.STATE n != 5 then h
  else if deviceK then (h.startResume n).add F.USBPORT.WAKES_ABSORBED n 1 else h.startResume n

/-- The owned ports of a landing on a path. -/
def Hub.ownedPorts (h : Hub) (l path : Nat) : List Nat :=
  (List.range 8).filter (fun n => h.holder (3 + n) == l && h.get F.USBPORT.PATH n == path && h.get F.USBPORT.MODE n == 0)

/-- BUS_EVENT 0x02 once every port the bus suspend suspended has left resuming. -/
def Hub.busResumed (h : Hub) (l : Nat) : Hub :=
  let v := h.vhub l 1
  if v.resuming && !(h.ownedPorts l 1).any (fun n => (h.usb n).byBus && h.get F.USBPORT.STATE n == 6) then
    let h1 := (h.modVhub l 1 (fun v => { v with resuming := false, wakeSent := false }))
    match h1.usbTunnel l with
    | some slot => h1.sendTunnel 8 l slot 5 [2, 0, 0, 0]
    | none => h1
  else h

/-- The virtual bus of a path is suspended: every enabled owned port with it. -/
def Hub.busSuspend (h : Hub) (l path : Nat) : Hub :=
  let h1 := h.modVhub l path (fun v => { v with suspended := true, suspendedAt := h.now, wakeSent := false, resuming := false })
  (h1.ownedPorts l path).foldl (fun g n => g.portSuspend n true) h1

/-- It is resumed: exactly those ports. -/
def Hub.busResume (h : Hub) (l path : Nat) : Hub :=
  let h1 := h.modVhub l path (fun v => { v with suspended := false, resuming := path == 1 })
  let h2 := ((h1.ownedPorts l path).filter (fun n => (h1.usb n).byBus)).foldl (fun g n => g.portResume n false) h1
  if path == 1 then h2.busResumed l else h2

/-- A wake goes up (R455, R457), where the hub's own remote wakeup is enabled: whether it was passed on. -/
def Hub.wakeUp (h : Hub) (l path : Nat) : Hub × Bool :=
  let v := h.vhub l path
  if !v.suspended || !(v.fn 0).wake then (h, false)
  else if path == 1 then
    if v.wakeSent then (h, false)
    else match h.usbTunnel l with
      | none => (h, false)
      | some slot =>
        let h1 := if h.lState l == 7 then (h.sideband l 5 []).wake l else h
        ((h1.modVhub l 1 (fun v => { v with wakeSent := true })).sendTunnel 8 l slot 5 [1, 0, 0, 0], true)
  else ((if (h.due T.legacyWake l).isSome then h else h.armAt T.legacyWake l (max h.now (v.suspendedAt + 5 * msec))), true)

/-- A K of a device on a suspended port comes first (R457). -/
def Hub.deviceWake (h : Hub) (n : Nat) : Hub :=
  if h.get F.USBPORT.STATE n != 5 then h
  else if !h.on F.USBPORT.REMOTE_WAKE n then (h.add F.USBPORT.WAKES_IGNORED n 1).notify (338 + 4 * n) 0
  else
    let h1 := (h.startResume n).add F.USBPORT.WAKES n 1
    let owner := h.holder (3 + n)
    let (h2, up) := if owner < 4 && h.get F.USBPORT.PATH n != 0 then h1.wakeUp owner (h.get F.USBPORT.PATH n) else (h1, false)
    h2.notify (338 + 4 * n) (1 + 2 * ofB up)

/-- A resume ends: enabled, with C_PORT_SUSPEND, and 10 ms of recovery. -/
def Hub.resumeDone (h : Hub) (n : Nat) : Hub :=
  let h1 := ((h.set F.USBPORT.STATE n 4).usbChange n 2).arm T.usbRecover n (10 * msec)
  let l := h.holder (3 + n)
  let h2 := if l < 4 && h.get F.USBPORT.PATH n == 1 then h1.busResumed l else h1
  h2.modUsb n (fun u => { u with byBus := false })

/-! ### Ownership (R448) -/

/-- The token of Un has moved from a context: its transfers end with OWNER. -/
def Hub.usbTokenMoved (h : Hub) (n before : Nat) : Hub :=
  let after := h.holder (3 + n)
  (((h.cutAll n 6)).dropProxied n).portMoved n before after (h.usbPath after)

/-- The path of a landing's ports is looked at again, above the tunnels: transfers on the old path are answered first. -/
def Hub.usbPathSync (h : Hub) (l : Nat) : Hub :=
  let p := h.usbPath l
  ((List.range 8).foldl (fun g n => if g.holder (3 + n) == l && g.get F.USBPORT.PATH n != p then g.cutAll n 6 else g) h).usbPathCheck l

/-- A change of MODE resets the port (R467); its owner's hub shows a device come or go, as one in proxy mode is not seen there. -/
def Hub.usbModeChanged (h : Hub) (n : Nat) : Hub :=
  let h1 := if 2 ≤ h.get F.USBPORT.STATE n then h.portChange (h.holder (3 + n)) (h.get F.USBPORT.PATH n) (n + 1) 0 else h
  (h1.dropProxied n).portReset n

/-! ### The commands -/

def execUsbPowered (n : Nat) (s : State) : Host.Outcome State Fault Refusal :=
  actIf (decide (n < 8)) s (fun h => h.expire T.usbPower n (fun g =>
    if g.get F.USBPORT.STATE n == 0 && g.usbWants n then g.set F.USBPORT.STATE n 1 else g))

def execUsbConnect (n speed : Nat) (s : State) : Host.Outcome State Fault Refusal :=
  actIf (decide (n < 8)) s (fun h => h.usbConnect n speed)

def execUsbDisconnect (n : Nat) (s : State) : Host.Outcome State Fault Refusal :=
  actIf (decide (n < 8)) s (fun h => if 2 ≤ h.get F.USBPORT.STATE n then h.usbGone n 1 else h)

def execUsbBounceHoldEnd (n : Nat) (s : State) : Host.Outcome State Fault Refusal :=
  actIf (decide (n < 8)) s (fun h => h.expire T.usbBounce n (fun g => g.modUsb n (fun u => { u with connects := [] })))

/-- Whether a context's request reaches a port: it holds the token, and the port is not the device's own in proxy mode. -/
def Hub.ownsPort (h : Hub) (ctx n : Nat) : Bool := ctx < 6 && h.holds ctx (3 + n) && h.get F.USBPORT.MODE n == 0

def execPortReset (ctx n : Nat) (s : State) : Host.Outcome State Fault Refusal :=
  actIf (decide (n < 8)) s (fun h => if h.ownsPort ctx n then h.portReset n else h)

def execUsbResetDone (n outcome speed refusal vid pid cls : Nat) (s : State) : Host.Outcome State Fault Refusal :=
  actIf (decide (n < 8)) s (fun h => h.expire T.usbReset n (fun g => g.resetDone n outcome speed refusal vid pid cls))

def execPortSuspend (ctx n : Nat) (s : State) : Host.Outcome State Fault Refusal :=
  actIf (decide (n < 8)) s (fun h => if h.ownsPort ctx n then h.portSuspend n false else h)

def execPortResume (ctx n : Nat) (deviceK : Bool) (s : State) : Host.Outcome State Fault Refusal :=
  actIf (decide (n < 8)) s (fun h => if h.ownsPort ctx n then h.portResume n deviceK else h)

def execUsbResumeDone (n : Nat) (s : State) : Host.Outcome State Fault Refusal :=
  actIf (decide (n < 8)) s (fun h => h.expire T.usbResume n (fun g => g.resumeDone n))

def execPortPower (ctx n : Nat) (want : Bool) (s : State) : Host.Outcome State Fault Refusal :=
  actIf (decide (n < 8)) s (fun h => if h.ownsPort ctx n then h.portPower n want else h)

def execPortEnableClear (ctx n : Nat) (s : State) : Host.Outcome State Fault Refusal :=
  actIf (decide (n < 8)) s (fun h => if h.ownsPort ctx n then h.portDisable n else h)

/-- A test mode of USB 2.0: 1 J, 2 K, 3 SE0_NAK, 4 Packet, 5 Force_Enable. -/
def Hub.portTest (h : Hub) (n mode : Nat) : Hub :=
  if 1 ≤ mode && mode ≤ 5 && h.get F.USBPORT.STATE n != 0 then (h.usbSignal n 4 mode).modUsb n (fun u => { u with test := mode }) else h

def execPortTest (ctx n mode : Nat) (s : State) : Host.Outcome State Fault Refusal :=
  actIf (decide (n < 8)) s (fun h => if h.ownsPort ctx n then h.portTest n mode else h)

def execUsbDeviceWake (n : Nat) (s : State) : Host.Outcome State Fault Refusal :=
  actIf (decide (n < 8)) s (fun h => h.deviceWake n)

/-- A transfer's device babbles: that transfer ends with BABBLE and the port is disabled (R453). -/
def Hub.babble (h : Hub) (n index : Nat) : Hub :=
  if h.get F.USBPORT.STATE n != 4 then h
  else
    let h1 := match (h.usb n).transfers[index]? with
      | some t => (h.modUsb n (fun u => { u with transfers := u.transfers.erase t })).answer t 4 0 [] []
      | none => h
    (((h1.portDisable n).usbChange n 1).add F.USBPORT.BABBLES n 1).usbError n 1

def execUsbBabble (n index : Nat) (s : State) : Host.Outcome State Fault Refusal :=
  actIf (decide (n < 8)) s (fun h => h.babble n index)

end Sys2Proof.Machine
end

