-- ==== Sys2Proof/Machine/Proxy.lean ====
section
/-! DEFINITION. Proxy mode (R458–R461): the proxy HID device, the desk pointer, focus and crossing. -/

namespace Sys2Proof.Machine

/-- Whether the proxy HID device is attached to a landing's hubs: its bit in PROXY_HOSTS while proxy mode is in use. -/
def Hub.proxyAttached (h : Hub) (l : Nat) : Bool :=
  l < 4 && bitB (h.get F.USBPORT.PROXY_HOSTS 0) l && (List.range 8).any (fun n => h.get F.USBPORT.MODE n == 1)

/-- Whether a landing's host has configured it, on the path its ports appear on. -/
def Hub.proxyReady (h : Hub) (l : Nat) : Bool :=
  l < 4 && bitB (h.get F.USBPORT.PROXY_HOSTS 0) l && h.usbPath l != 0 && ((h.vhub l (h.usbPath l)).fn 2).config != 0

/-- A report of an interface (0 keyboard, 1 pointer, 2 consumer) to a host: on the tunnel it ends an interrupt-IN transfer
that waits, or waits for one; the legacy pair carries it. A suspended bus is woken where the host allows it (R459). -/
def Hub.proxyReport (h : Hub) (l iface : Nat) (report : List Byte) : Hub :=
  let path := h.usbPath l
  let h0 := if ((h.vhub l path).fn 2).wake then (h.wakeUp l path).1 else h
  if path == 1 then
    match (h0.vhub l 1).waiting.find? (fun t => t.addr == ((h0.vhub l 1).fn 2).addr && t.ep == iface + 1) with
    | some t => (h0.modVhub l 1 (fun v => { v with waiting := v.waiting.erase t })).answer t 0 (min t.len report.length) (report.take t.len) []
    | none => h0.modVhub l 1 (fun v => { v with reports := v.reports.write (fun _ => []) (iface + 1) (v.reports.read (fun _ => []) (iface + 1) ++ [report]) })
  else if path == 2 then h0.emit .legacy l ([0, 2, BitVec.ofNat 8 (iface + 1)] ++ report)
  else h0

/-! ### Desk geometry (R460) -/

/-- A scanning head's rectangle on the desk: left, top, width, height. -/
def Hub.deskRect (h : Hub) (n : Nat) : Int × Int × Int × Int :=
  (h.get F.USBPORT.HEAD_ORIGIN_X 0 n, h.get F.USBPORT.HEAD_ORIGIN_Y 0 n, h.use F.HEAD.TIMING_HACT n, h.use F.HEAD.TIMING_VACT n)

def inRect (r : Int × Int × Int × Int) (x y : Int) : Bool :=
  decide (r.1 ≤ x ∧ x < r.1 + r.2.2.1 ∧ r.2.1 ≤ y ∧ y < r.2.1 + r.2.2.2)

/-- The head the pointer lies on: the lowest-numbered scanning head that covers it. -/
def Hub.headAt (h : Hub) (x y : Int) : Option Nat := (List.range 4).find? (fun n => h.scanning n && inRect (h.deskRect n) x y)

def Hub.pointerX (h : Hub) : Int := h.get F.USBPORT.POINTER_X 0
def Hub.pointerY (h : Hub) : Int := h.get F.USBPORT.POINTER_Y 0

def Hub.setPointer (h : Hub) (x y : Int) : Hub :=
  (h.set F.USBPORT.POINTER_X 0 (clampInt 0 32767 x).toNat).set F.USBPORT.POINTER_Y 0 (clampInt 0 32767 y).toNat

/-- Step 1: the pointer moves to a place, or to the nearest point of the head it was on. -/
def Hub.movePointer (h : Hub) (x y : Int) : Hub :=
  if (h.headAt x y).isSome && 0 ≤ x && x ≤ 32767 && 0 ≤ y && y ≤ 32767 then h.setPointer x y
  else
    match h.headAt h.pointerX h.pointerY with
    | none => h
    | some n =>
      let r := h.deskRect n
      h.setPointer (clampInt r.1 (r.1 + r.2.2.1 - 1) x) (clampInt r.2.1 (r.2.1 + r.2.2.2 - 1) y)

/-- The rectangle that bounds every scanning head: left, top, right, bottom. -/
def Hub.deskBounds (h : Hub) : Option (Int × Int × Int × Int) :=
  ((List.range 4).filter (fun n => h.scanning n)).foldl (fun b n =>
    let r := h.deskRect n
    match b with
    | none => some (r.1, r.2.1, r.1 + r.2.2.1, r.2.1 + r.2.2.2)
    | some q => some (min q.1 r.1, min q.2.1 r.2.1, max q.2.2.1 (r.1 + r.2.2.1), max q.2.2.2 (r.2.1 + r.2.2.2))) none

/-- An absolute device's place, of a logical range 0…32,767, on that rectangle. -/
def Hub.absolutePlace (h : Hub) (x y : Int) : Int × Int :=
  match h.deskBounds with
  | none => (h.pointerX, h.pointerY)
  | some b => (b.1 + x * (b.2.2.1 - b.1) / 32768, b.2.1 + y * (b.2.2.2 - b.2.1) / 32768)

/-- A relative device's step: delta × POINTER_SPEED / 256, rounded toward zero. -/
def Hub.speedStep (h : Hub) (d : Int) : Int := Int.tdiv (d * h.get F.USBPORT.POINTER_SPEED 0) 256

/-! ### Hit, focus and crossing (R460, R461) -/

/-- Step 2: the hit layer, the topmost by ascending Z and layer number. -/
def Hub.hitLayer (h : Hub) : Option Nat :=
  match h.headAt h.pointerX h.pointerY with
  | none => none
  | some n =>
    let r := h.deskRect n
    let px := h.pointerX - r.1
    let py := h.pointerY - r.2.1
    let hits := (List.range 8).filterMap (fun k =>
      let y := 8 * n + k
      let lx : Int := h.get F.LAYER.POS_X y
      let ly : Int := h.get F.LAYER.POS_Y y
      if h.get F.LAYER.ENABLE y == 1 && h.current y != 0x7FF && h.get F.LAYER.ALPHA y != 0 && h.get F.LAYER.CLONE_OF y == 0xFF &&
        inRect (lx, ly, h.get F.LAYER.DST_W y, h.get F.LAYER.DST_H y) px py then some y else none)
    hits.foldl (fun (best : Option Nat) y =>
      match best with
      | none => some y
      | some b => if h.get F.LAYER.Z b ≤ h.get F.LAYER.Z y then some y else some b) none

/-- Step 3: the candidate for focus. -/
def Hub.focusCandidate (h : Hub) : Option Nat :=
  let lock := h.get F.USBPORT.FOCUS_LOCK 0
  if lock != 0xF then some lock
  else match h.hitLayer with
    | none => none
    | some y =>
      let c := h.holder (13 + y)
      if h.proxyReady c then some c else none

/-- Whether any pointer button is held. -/
def Hub.buttonHeld (h : Hub) : Bool := (List.range 8).any (fun n => (h.usb n).buttons != 0)

/-- The keys held on all proxied keyboards: modifier bits as 256 + bit. -/
def Hub.keysDown (h : Hub) : List Nat :=
  ((List.range 8).map (fun n =>
    let k := (h.usb n).keys
    ((List.range 8).filter (fun b => bitB (byteAt k 0) b)).map (fun b => 256 + b) ++ ((k.drop 2).map (fun b => b.toNat)).filter (fun b => b != 0))).flatten.eraseDups

/-- The pointer report of a position: buttons, X, Y, wheel and pan. -/
def pointerReport (buttons x y wheel pan : Nat) : List Byte :=
  leBytes 1 (buttons % 32) ++ leBytes 2 x ++ leBytes 2 y ++ leBytes 1 wheel ++ leBytes 1 pan ++ [0]

/-- The reports that release everything a host was given. -/
def Hub.releaseReports (h : Hub) (l : Nat) : Hub :=
  let v := h.vhub l (h.usbPath l)
  ((h.proxyReport l 0 (List.replicate 8 0)).proxyReport l 1 (pointerReport 0 v.lastX v.lastY 0 0)).proxyReport l 2 [0, 0]

/-- FOCUS becomes a code, and NT_PROXY_FOCUS is raised. -/
def Hub.setFocus (h : Hub) (new : Nat) (gone : Bool) : Hub :=
  let old := h.get F.USBPORT.FOCUS 0
  let hit := h.hitLayer.getD 0
  let h1 := { (h.set F.USBPORT.FOCUS 0 new) with heldKeys := h.keysDown }
  let h2 := if new != 0xF then h1.add F.USBPORT.CROSSINGS 0 1 else h1
  h2.notify 384 (new + old * 2 ^ 4 + hit * 2 ^ 8 + ofB (h.get F.USBPORT.FOCUS_LOCK 0 != 0xF) * 2 ^ 13 + ofB gone * 2 ^ 14 +
    h.get F.USBPORT.POINTER_X 0 * 2 ^ 16 + h.get F.USBPORT.POINTER_Y 0 * 2 ^ 32)

/-- Steps 3 and 4: focus crosses to the candidate unless a button is held; with no head scanning out it stays (R461). -/
def Hub.crossFocus (h : Hub) : Hub :=
  if !(List.range 4).any (fun n => h.scanning n) then h
  else match h.focusCandidate with
  | none => h
  | some c =>
    let old := h.get F.USBPORT.FOCUS 0
    if c == old || h.buttonHeld then h
    else (if old < 4 then h.releaseReports old else h).setFocus c false

/-- Focus leaves a context (R461): with release reports only when its PROXY_HOSTS bit was cleared. -/
def Hub.focusLost (h : Hub) (l : Nat) (release : Bool) : Hub :=
  if h.get F.USBPORT.FOCUS 0 != l then h
  else
    let h1 := if release then h.releaseReports l else h
    let c := match h1.focusCandidate with
      | some c => if c == l then 0xF else c
      | none => 0xF
    h1.setFocus c true

/-- Step 5: X and Y of the pointer on the hit layer's surface. -/
def Hub.surfacePlace (h : Hub) (y : Nat) : Nat × Nat :=
  let r := h.deskRect (y / 8)
  let sf := h.current y
  let place (p origin pos src srcLen dstLen size : Int) : Nat :=
    (clampInt 0 32767 ((src * dstLen + (p - origin - pos) * srcLen) * 32768 / (dstLen * size))).toNat
  (place h.pointerX r.1 (h.get F.LAYER.POS_X y) (h.get F.LAYER.SRC_X y) (h.get F.LAYER.SRC_W y) (h.get F.LAYER.DST_W y) (h.get F.SURFACE.WIDTH sf),
   place h.pointerY r.2.1 (h.get F.LAYER.POS_Y y) (h.get F.LAYER.SRC_Y y) (h.get F.LAYER.SRC_H y) (h.get F.LAYER.DST_H y) (h.get F.SURFACE.HEIGHT sf))

/-- The focus host's pointer report: the position on its own layer, or its last one. -/
def Hub.reportPointer (h : Hub) (buttons wheel pan : Nat) : Hub :=
  let f := h.get F.USBPORT.FOCUS 0
  if 4 ≤ f then h
  else
    let path := h.usbPath f
    let h1 := match h.hitLayer with
      | some y =>
        if h.holder (13 + y) == f then (let (x, z) := h.surfacePlace y; h.modVhub f path (fun v => { v with lastX := x, lastY := z })) else h
      | none => h
    h1.proxyReport f 1 (pointerReport buttons (h1.vhub f path).lastX (h1.vhub f path).lastY wheel pan)

/-! ### Reports (R459) -/

/-- At most 1,000 reports a second of a device, none longer than 64 bytes; others are dropped. -/
def Hub.reportPass (h : Hub) (n len : Nat) : Hub × Bool :=
  let u := h.usb n
  let fresh := u.windowAt + sec ≤ h.now
  let count := if fresh then 0 else u.reports
  if 64 < len || 1000 ≤ count then (h.notify 386 (n + 2 ^ 32), false)
  else (h.modUsb n (fun u => { u with windowAt := if fresh then h.now else u.windowAt, reports := count + 1 }), true)

/-- A pointer report of a proxied device (R460). -/
def Hub.pointerInput (h : Hub) (n len : Nat) (absolute : Bool) (x y : Int) (buttons wheel pan : Nat) : Hub :=
  if !(h.usb n).proxied then h
  else
    match h.reportPass n len with
    | (h1, false) => h1
    | (h1, true) =>
      let scanning := (List.range 4).any (fun k => h1.scanning k)
      let h2 := if !scanning then h1
        else if absolute then (let p := h1.absolutePlace x y; h1.movePointer p.1 p.2)
        else h1.movePointer (h1.pointerX + h1.speedStep x) (h1.pointerY + h1.speedStep y)
      let h3 := h2.crossFocus
      let h4 := h3.modUsb n (fun u => { u with buttons := buttons % 32 })
      let all := (List.range 8).foldl (fun b k => b ||| (h4.usb k).buttons) 0
      h4.reportPointer all (wheel % 256) (pan % 256)

/-- The merged keyboard report without keys a crossing keeps back. -/
def Hub.keyboardReport (h : Hub) : List Byte :=
  let down := h.keysDown.filter (fun k => !h.heldKeys.contains k)
  let mods := (down.filter (fun k => 256 ≤ k)).foldl (fun m k => setBit m (k - 256)) 0
  (leBytes 1 mods ++ [0] ++ ((down.filter (fun k => k < 256)).map (fun k => BitVec.ofNat 8 k)) ++ List.replicate 6 0).take 8

/-- A keyboard report (8 bytes of the boot layout) or a consumer usage of a proxied device (R461). -/
def Hub.keyInput (h : Hub) (n len : Nat) (consumer : Bool) (report : List Byte) : Hub :=
  if !(h.usb n).proxied then h
  else
    match h.reportPass n len with
    | (h1, false) => h1
    | (h1, true) =>
      let h2 := if h1.get F.USBPORT.FOCUS 0 == 0xF then h1.crossFocus else h1
      let h3 := h2.modUsb n (fun u => if consumer then { u with usage := leAt report 0 2 } else { u with keys := report.take 8 })
      let h4 := { h3 with heldKeys := h3.heldKeys.filter (fun k => h3.keysDown.contains k) }
      let f := h4.get F.USBPORT.FOCUS 0
      if 4 ≤ f then h4
      else if consumer then h4.proxyReport f 2 (leBytes 2 (leAt report 0 2))
      else h4.proxyReport f 0 h4.keyboardReport

/-- A head starts scanning out while the pointer lies on none (R461). -/
def Hub.pointerToHead (h : Hub) : Hub :=
  if (h.headAt h.pointerX h.pointerY).isSome then h
  else
    match (List.range 4).find? (fun n => h.scanning n) with
    | none => h
    | some n =>
      let r := h.deskRect n
      (h.setPointer (r.1 + r.2.2.1 / 2) (r.2.1 + r.2.2.2 / 2)).crossFocus

/-- Heads that begin to scan out bring the pointer to one of them. -/
def Hub.headsScanning (h old : Hub) : Hub := if (List.range 4).any (fun n => h.scanning n && !old.scanning n) then h.pointerToHead else h

/-- The focus host's LED report goes to every proxied keyboard (R458). -/
def Hub.proxyLeds (h : Hub) (l leds : Nat) : Hub :=
  if h.get F.USBPORT.FOCUS 0 != l then h
  else (List.range 8).foldl (fun g n => if (g.usb n).proxied then g.usbSignal n 5 leds else g) h

end Sys2Proof.Machine
end

