-- ==== Sys2Proof/Machine/UsbHub.lean ====
section
/-! DEFINITION. The virtual hubs, the legacy device and their requests (R444, R455–R457, R462–R465), and transfers of the Peripheral
tunnel (R446, R449, R450). -/

namespace Sys2Proof.Machine

/-! ### Descriptors (R462) -/

/-- A string descriptor. -/
def usbString (s : List Byte) : List Byte := leBytes 1 (2 + 2 * s.length) ++ [3] ++ (s.map (fun b => [b, 0])).flatten

/-- A nibble as an upper-case hexadecimal digit. -/
def hexDigit (n : Nat) : Byte := BitVec.ofNat 8 (if n < 10 then 48 + n else 55 + n)

/-- The device identity as a string (R500). -/
def Hub.serialString (h : Hub) : List Byte :=
  ((h.getBytes F.KEYSLOT.DEVICE_ID 0 2).map (fun b => [hexDigit (b.toNat / 16), hexDigit (b.toNat % 16)])).flatten

/-- The device descriptor of a function: 0 hub, 1 management, 2 proxy HID. -/
def Hub.deviceDescriptor (h : Hub) (l fn : Nat) : List Byte :=
  let cls : List Byte := if fn == 0 then [9, 0, 2] else [0, 0, 0]
  [18, 1, 0, 2] ++ cls ++ [64] ++ leBytes 2 (h.use F.LEGACY.VID l) ++ leBytes 2 (h.use F.LEGACY.PID l + fn) ++ [0, 2, 1, 2, 3, 1]

/-- An endpoint descriptor. -/
def endpointDescriptor (addr attr size interval : Nat) : List Byte :=
  [7, 5, BitVec.ofNat 8 addr, BitVec.ofNat 8 attr] ++ leBytes 2 size ++ leBytes 1 interval

/-- A configuration descriptor and what follows it; type 7 is the other speed's. -/
def configDescriptor (type fn : Nat) (high : Bool) : List Byte :=
  let body : List Byte :=
    match fn with
    | 0 => [9, 4, 0, 0, 1, 9, 0, 1, 0] ++ endpointDescriptor 0x81 3 2 12 ++ [9, 4, 0, 1, 1, 9, 0, 2, 0] ++ endpointDescriptor 0x81 3 2 12
    | 1 => [9, 4, 0, 0, 3, 0xFF, 0x4C, 1, 0] ++ endpointDescriptor 0x01 2 (if high then 512 else 64) 0 ++
        endpointDescriptor 0x81 2 (if high then 512 else 64) 0 ++ endpointDescriptor 0x82 3 (if high then 512 else 64) (if high then 4 else 1)
    | _ => ([0, 1, 2] : List Nat).foldl (fun b i =>
        b ++ [9, 4, BitVec.ofNat 8 i, 0, 1, 3] ++ (if i == 0 then [1, 1] else [0, 0]) ++ [0] ++
          [9, 0x21, 0x11, 1, 0, 1, 0x22] ++ leBytes 2 (Config.hidReport i).length ++
          endpointDescriptor (0x81 + i) 3 (if i == 2 then 2 else 8) 4) []
  [9, BitVec.ofNat 8 type] ++ leBytes 2 (9 + body.length) ++ [if fn == 2 then 3 else 1, 1, 0, if fn == 1 then 0xC0 else 0xE0, 0] ++ body

/-- The hub descriptor: 10 ports on the legacy hub, 9 on a tunnel's. -/
def hubDescriptor (path : Nat) : List Byte :=
  [11, 0x29, if path == 2 then 10 else 9, 0x0D, 0, 50, 0, 0, if path == 2 then 6 else 2, 0xFF, 0xFF]

/-- The bytes of a descriptor by type and index, when a function has it. -/
def Hub.descriptor (h : Hub) (l path fn type index : Nat) : Option (List Byte) :=
  let high := path == 1 || h.get F.LEGACY.SPEED l == 3
  match type with
  | 1 => some (h.deviceDescriptor l fn)
  | 2 => some (configDescriptor 2 fn high)
  | 3 =>
    match index with
    | 0 => some [4, 3, 9, 4]
    | 1 => some (usbString (ascii "Tratum"))
    | 2 => some (usbString (ascii "BJ4800 landing " ++ [BitVec.ofNat 8 (48 + l)]))
    | 3 => some (usbString h.serialString)
    | _ => none
  | 6 => some ([10, 6, 0, 2] ++ (if fn == 0 then [9, 0, 0] else [0, 0, 0]) ++ [64, 1, 0])
  | 7 => some (configDescriptor 7 fn (!high))
  | 0x21 => if fn == 2 then some ((configDescriptor 2 2 high).drop 18 |>.take 9) else none
  | 0x22 => if fn == 2 && index < 3 then some (Config.hidReport index) else none
  | _ => none

/-! ### Ports as a hub shows them (R444) -/

/-- The downstream port a hub's port stands for, while its host reaches it on that path. -/
def Hub.hubPort (h : Hub) (l path port : Nat) : Option Nat :=
  if 1 ≤ port && port ≤ 8 && h.holder (2 + port) == l && h.get F.USBPORT.PATH (port - 1) == path && h.get F.USBPORT.MODE (port - 1) == 0
  then some (port - 1) else none

/-- The embedded function on a hub's port, where one is attached: 2 proxy HID on port 9, 1 management on port 10. -/
def Hub.embedded (h : Hub) (l path port : Nat) : Option Nat :=
  if port == 9 && h.proxyAttached l then some 2 else if port == 10 && path == 2 then some 1 else none

/-- wPortStatus. -/
def Hub.portStatus (h : Hub) (l path port : Nat) : Nat :=
  match h.hubPort l path port, h.embedded l path port with
  | some n, _ =>
    let st := h.get F.USBPORT.STATE n
    let sp := h.get F.USBPORT.SPEED n
    ofB (2 ≤ st) + ofB (4 ≤ st) * 2 + ofB (st == 5) * 4 + ofB (h.usb n).overCurrent * 8 + ofB (st == 3) * 16 +
      ofB (h.on F.USBPORT.POWER n && !(h.usb n).overCurrent) * 2 ^ 8 + ofB (sp == 1) * 2 ^ 9 + ofB (sp == 3) * 2 ^ 10 + ofB ((h.usb n).test != 0) * 2 ^ 11
  | none, some k =>
    let f := (h.vhub l path).fn k
    1 + ofB f.enabled * 2 + ofB f.suspended * 4 + 2 ^ 8 + 2 ^ 10
  | none, none => 2 ^ 8

/-- A port feature is set by a hub's host. -/
def Hub.setPortFeature (h : Hub) (l path port feature sel : Nat) : Hub :=
  match h.hubPort l path port, h.embedded l path port with
  | some n, _ =>
    match feature with
    | 2 => h.portSuspend n false
    | 4 => h.portReset n
    | 8 => h.portPower n true
    | 21 => h.portTest n sel
    | _ => h
  | none, some k =>
    match feature with
    | 2 => h.modFn l path k (fun f => { f with suspended := true })
    | 4 => ((h.modFn l path k (fun _ => { enabled := true })).portChange l path port 4).modVhub l path (fun v => { v with atZero := port })
    | _ => h
  | none, none => h

/-- A port feature is cleared: enable, suspend, power, or a change bit. -/
def Hub.clearPortFeature (h : Hub) (l path port feature : Nat) : Hub :=
  let h1 := if 16 ≤ feature && feature ≤ 20 then
      h.modVhub l path (fun v => { v with changes := v.changes.write (fun _ => 0) port (clrBit (v.changes.read (fun _ => 0) port) (feature - 16)) })
    else h
  match h1.hubPort l path port, h1.embedded l path port with
  | some n, _ =>
    match feature with
    | 1 => h1.portDisable n
    | 2 => h1.portResume n false
    | 8 => h1.portPower n false
    | _ => h1
  | none, some k =>
    match feature with
    | 1 => h1.modFn l path k (fun f => { f with enabled := false })
    | 2 => (h1.modFn l path k (fun f => { f with suspended := false })).portChange l path port 2
    | _ => h1
  | none, none => h1

/-! ### The legacy device's state (R462, R468) -/

/-- LEGACY.STATE changes, with NT_LEGACY_STATE. -/
def Hub.legacyState (h : Hub) (l new : Nat) : Hub :=
  let old := h.get F.LEGACY.STATE l
  if old == new then h
  else ((h.set F.LEGACY.STATE l new).notify (368 + 4 * l) (new + old * 2 ^ 4 + h.get F.LEGACY.SPEED l * 2 ^ 8)).legacyIdleWatch l

/-- What follows a change of a function's address, configuration or wakeup. -/
def Hub.fnChanged (h : Hub) (l path : Nat) : Hub :=
  if path != 2 then h
  else
    let v := h.vhub l 2
    let h1 := (h.set F.LEGACY.ADDRESS l (v.fn 0).addr).set F.LEGACY.REMOTE_WAKE l (ofB (v.fn 0).wake + 2 * ofB (v.fn 2).wake)
    (h1.legacyState l (if (v.fn 0).config != 0 then 3 else if (v.fn 0).addr != 0 then 2 else 1)).usbPathSync l

/-- A function loses its configuration: the proxy HID device of the focus host takes focus with it (R461). -/
def Hub.deconfigured (h : Hub) (l path fn : Nat) : Hub :=
  if fn == 2 && (path == h.usbPath l) then h.focusLost l false else h

/-! ### Requests (R463) -/

/-- Standard requests of a function: its answer's data, or none for STALL. -/
def Hub.standardRequest (h : Hub) (l path fn rt rq value index : Nat) : Hub × Option (List Byte) :=
  let f := (h.vhub l path).fn fn
  let rec_ := rt % 32
  let done (g : Hub) : Hub × Option (List Byte) := (g.fnChanged l path, some [])
  match rq with
  | 0 =>
    if rec_ == 0 then (h, some [BitVec.ofNat 8 (1 + 2 * ofB f.wake), 0])
    else if rec_ == 1 then (h, some [0, 0])
    else if rec_ == 2 then (h, some [BitVec.ofNat 8 (ofB (f.halts.contains (index % 256))), 0])
    else (h, none)
  | 1 =>
    if rec_ == 0 && value == 1 then done (h.modFn l path fn (fun f => { f with wake := false }))
    else if rec_ == 2 && value == 0 then done (h.modFn l path fn (fun f => { f with halts := f.halts.erase (index % 256) }))
    else (h, none)
  | 3 =>
    if rec_ == 0 && value == 1 then done (h.modFn l path fn (fun f => { f with wake := true }))
    else if rec_ == 0 && value == 2 then done (h.modFn l path fn (fun f => { f with test := index / 256 }))
    else if rec_ == 2 && value == 0 then done (h.modFn l path fn (fun f => { f with halts := f.halts.erase (index % 256) ++ [index % 256] }))
    else (h, none)
  | 5 => done (h.modFn l path fn (fun f => { f with addr := value % 128 }))
  | 6 => (h, h.descriptor l path fn (value / 256) (if value / 256 == 0x22 then index else value % 256))
  | 8 => (h, some [BitVec.ofNat 8 f.config])
  | 9 =>
    if value == 0 || value == 1 then
      let h1 := h.modFn l path fn (fun f => { f with config := value, alt := 0, halts := [] })
      done (if value == 0 && f.config != 0 then h1.deconfigured l path fn else h1)
    else (h, none)
  | 10 => if f.config == 0 then (h, none) else (h, some [BitVec.ofNat 8 f.alt])
  | 11 =>
    if f.config != 0 && (value == 0 || (fn == 0 && value == 1)) then done (h.modFn l path fn (fun f => { f with alt := value }))
    else (h, none)
  | _ => (h, none)

/-- Class requests of the hub. -/
def Hub.hubRequest (h : Hub) (l path rt rq value index : Nat) : Hub × Option (List Byte) :=
  let port := index % 256
  let known := 1 ≤ port && port ≤ (if path == 2 then 10 else 9)
  match rt, rq with
  | 0xA0, 0 => (h, some [0, 0, 0, 0])
  | 0xA3, 0 =>
    if known then (h, some (leBytes 2 (h.portStatus l path port) ++ leBytes 2 ((h.vhub l path).changes.read (fun _ => 0) port))) else (h, none)
  | 0x20, 1 => (h, if value < 2 then some [] else none)
  | 0x20, 3 => (h, if value < 2 then some [] else none)
  | 0x23, 1 => if known && value ≤ 20 then (h.clearPortFeature l path port value, some []) else (h, none)
  | 0x23, 3 => if known && value ≤ 21 then (h.setPortFeature l path port value (index / 256), some []) else (h, none)
  | 0xA0, 6 => (h, if value / 256 == 0x29 || value / 256 == 0 then some (hubDescriptor path) else none)
  | 0x23, 8 => (h, some [])
  | 0x23, 9 => (h, some [])
  | _, _ => (h, none)

/-- A control request to one of a host's functions. A HID output report of the focus host's keyboard is its LEDs (R458). -/
def Hub.fnRequest (h : Hub) (l path fn : Nat) (setup data : List Byte) : Hub × Option (List Byte) :=
  let rt := byteAt setup 0
  let rq := byteAt setup 1
  let value := leAt setup 2 2
  let index := leAt setup 4 2
  let (h1, r) := if rt / 32 % 4 == 0 then h.standardRequest l path fn rt rq value index
    else if fn == 0 && rt / 32 % 4 == 1 then h.hubRequest l path rt rq value index
    else if fn == 2 && rt == 0x21 && rq == 9 && value / 256 == 2 && index == 0 then (h.proxyLeds l (byteAt data 0), some [])
    else (h, none)
  (h1, r.map (fun d => d.take (leAt setup 6 2)))

/-! ### TRANSFER (R446, R450) -/

/-- The interrupt-IN transfers of a hub that can now be answered: its status changes, and reports that waited. -/
def Hub.hubInterrupts (h : Hub) (l : Nat) : Hub :=
  let v := h.vhub l 1
  v.waiting.foldl (fun g t =>
    let w := g.vhub l 1
    let drop (g : Hub) : Hub := g.modVhub l 1 (fun v => { v with waiting := v.waiting.erase t })
    if t.addr == (w.fn 0).addr then
      let bitmap := w.changes.cells.foldl (fun m c => if c.2 == 0 then m else setBit m c.1) 0
      if bitmap == 0 then g else (drop g).answer t 0 (min t.len 2) ((leBytes 2 bitmap).take t.len) []
    else
      match w.reports.read (fun _ => []) t.ep with
      | r :: rest =>
        ((drop g).modVhub l 1 (fun v => { v with reports := v.reports.write (fun _ => []) t.ep rest })).answer t 0 (min t.len r.length) (r.take t.len) []
      | [] => g) h

/-- A landing's transfers outstanding. -/
def Hub.transfersOf (h : Hub) (l : Nat) : Nat :=
  ((List.range 8).map (fun n => ((h.usb n).transfers.filter (fun t => t.l == l)).length)).sum + (h.vhub l 1).waiting.length

/-- The port on which an address of a landing's virtual bus answers. -/
def Hub.addressPort (h : Hub) (l addr : Nat) : Option Nat :=
  if addr == 0 then (let z := (h.vhub l 1).atZero; if 1 ≤ z && z ≤ 8 then (h.hubPort l 1 z) else none)
  else (h.ownedPorts l 1).find? (fun n => (h.usb n).devices.any (fun d => d.addr == addr))

/-- A standard request of a transfer's setup packet: its bRequest, when it is one. -/
def Transfer.standard (t : Transfer) : Option Nat :=
  if t.type == 0 && byteAt t.setup 0 / 32 % 4 == 0 then some (byteAt t.setup 1) else none

/-- The periodic budget of a port in ‰ (R446). -/
def Hub.usbBudget (h : Hub) (n : Nat) : Nat := if h.get F.USBPORT.SPEED n == 3 then 800 else 900

/-- A TRANSFER to a function of the virtual hub. -/
def Hub.fnTransfer (h : Hub) (t : Transfer) (fn : Nat) : Hub :=
  if t.type == 0 then
    match h.fnRequest t.l 1 fn t.setup t.data with
    | (h1, some d) => (h1.answer t 0 (if t.dirIn then min d.length t.len else t.data.length) (if t.dirIn then d.take t.len else []) []).hubInterrupts t.l
    | (h1, none) => h1.answer t 1 0 [] []
  else if t.type == 3 && t.dirIn then
    (h.modVhub t.l 1 (fun v => { v with waiting := v.waiting ++ [t] })).hubInterrupts t.l
  else h.answer t 1 0 [] []

/-- A TRANSFER to a device behind a port. -/
def Hub.deviceTransfer (h : Hub) (t : Transfer) (n : Nat) : Hub :=
  let others := ((h.usb n).devices.filter (fun d => d.addr != t.addr)).map (fun d => d.need)
  let asks := t.standard == some 9 || t.standard == some 11
  if asks && h.usbBudget n < others.sum + t.need then h.refuseTransfer t 7
  else if t.standard == some 5 && t.addr == 0 && 16 ≤ (h.usb n).devices.length then (h.usbError n 5).answer t 3 0 [] []
  else h.modUsb n (fun u => { u with transfers := u.transfers ++ [t] })

/-- A TRANSFER is queued on its endpoint, answered by the virtual hub or refused. need is the bandwidth in ‰ the device's
descriptors give a configuration or interface it selects. -/
def Hub.transfer (h : Hub) (l slot need : Nat) (body : List Byte) : Hub :=
  let ep := byteAt body 5
  let t : Transfer := { l := l, slot := slot, id := leAt body 0 4, addr := byteAt body 4 % 128, ep := ep % 16, dirIn := bitB ep 4,
                        type := ep / 32 % 4, setup := (body.drop 8).take 8, len := leAt body 16 4,
                        packets := (List.range (min (byteAt body 20) 20)).map (fun k => leAt body (24 + 2 * k) 2), data := body.drop 64, need := need }
  let v := h.vhub l 1
  if body.length < 64 then h
  else if 128 ≤ h.transfersOf l then h.refuseTransfer t 8
  else if t.addr == (v.fn 0).addr then h.fnTransfer t 0
  else if h.proxyAttached l && (t.addr == (v.fn 2).addr && (t.addr != 0 || v.atZero == 9)) then h.fnTransfer t 2
  else
    match h.addressPort l t.addr with
    | some n => if h.get F.USBPORT.STATE n == 4 || h.get F.USBPORT.STATE n == 6 then h.deviceTransfer t n else h.answer t 3 0 [] []
    | none => if v.lost.contains t.addr then h.refuseTransfer t 6 else h.answer t 3 0 [] []

/-- What a completed control transfer does to what the device keeps of the device (R446, R455). -/
def Hub.afterControl (h : Hub) (n : Nat) (t : Transfer) (data : List Byte) : Hub :=
  let rt := byteAt t.setup 0
  let rq := byteAt t.setup 1
  let value := leAt t.setup 2 2
  let edit (f : UsbDevice → UsbDevice) : Hub :=
    let h1 := h.modUsb n (fun u => { u with devices := u.devices.map (fun d => if d.addr == t.addr then f d else d) })
    h1.set F.USBPORT.REMOTE_WAKE n (ofB ((h1.usb n).devices.any (fun d => d.wake)))
  let first := match (h.usb n).devices with
    | [] => true
    | d :: _ => d.addr == t.addr
  if rt == 0 && rq == 5 then
    let a := value % 128
    let h1 := if t.addr == 0 then
        (h.modUsb n (fun u => { u with devices := u.devices ++ [{ addr := a }] })).modVhub t.l 1 (fun v => { v with atZero := 0 })
      else edit (fun d => { d with addr := a })
    (h1.modVhub t.l 1 (fun v => { v with lost := v.lost.filter (fun x => x != a) })).set F.USBPORT.DEVICES n (max 1 (h1.usb n).devices.length)
  else if rt == 0 && rq == 9 then edit (fun d => { d with config := value % 256, need := t.need })
  else if rt == 1 && rq == 11 then edit (fun d => { d with need := t.need })
  else if rt == 0 && (rq == 1 || rq == 3) && value == 1 then edit (fun d => { d with wake := rq == 3 })
  else if rt == 0x23 && rq == 3 && value == 4 then h.modVhub t.l 1 (fun v => { v with atZero := n + 1 })
  else if rt == 0x80 && rq == 6 && value / 256 == 1 && 12 ≤ data.length && first then
    ((h.set F.USBPORT.VID n (leAt data 8 2)).set F.USBPORT.PID n (leAt data 10 2)).set F.USBPORT.DEV_CLASS n (byteAt data 4)
  else if rt == 0x80 && rq == 6 && value / 256 == 2 && 15 ≤ data.length && first && h.get F.USBPORT.DEV_CLASS n == 0 then
    h.set F.USBPORT.DEV_CLASS n (byteAt data 14)
  else h

/-- TRANSFER_DONE: the transfer at a place of a port's list completes with a status and, for IN, its data. Transfers to one
endpoint complete in arrival order, and a resume's recovery holds them. -/
def Hub.transferDone (h : Hub) (n index status actual : Nat) (data : List Byte) (lens : List Nat) : Hub :=
  let ts := (h.usb n).transfers
  match ts[index]? with
  | none => h
  | some t =>
    let behind := (ts.take index).any (fun x => x.l == t.l && x.addr == t.addr && x.ep == t.ep && (x.dirIn == t.dirIn || t.type == 0))
    if behind || h.get F.USBPORT.STATE n != 4 then h
    else
      let h0 := match h.due T.usbRecover n with
        | some w => (h.advanceTo w).disarm T.usbRecover n
        | none => h
      let st := if status == 0 || status == 1 then status else 5
      let got := if t.dirIn then min data.length t.len else min actual t.data.length
      let h1 := (h0.modUsb n (fun u => { u with transfers := u.transfers.erase t }))
      let h2 := if st == 0 then (((h1.add F.USBPORT.TRANSFERS n 1).add F.USBPORT.BYTES n got)) else h1
      let h3 := if st == 0 && t.type == 0 then h2.afterControl n t data else h2
      h3.answer t st got (if t.dirIn then data.take t.len else []) lens

/-- CANCEL ends a transfer with CANCELLED (R450). -/
def Hub.cancel (h : Hub) (l id : Nat) : Hub :=
  let hit := (List.range 8).filterMap (fun n => ((h.usb n).transfers.find? (fun t => t.l == l && t.id == id)).map (fun t => (n, t)))
  match hit, (h.vhub l 1).waiting.find? (fun t => t.id == id) with
  | (n, t) :: _, _ => (h.modUsb n (fun u => { u with transfers := u.transfers.erase t })).cutTransfer n t 2
  | [], some t => (h.modVhub l 1 (fun v => { v with waiting := v.waiting.erase t })).answer t 2 0 [] []
  | [], none => h

/-- A message of a type from a landing's Peripheral tunnel, taken from the adapter of Y8 with its header off. -/
def Hub.fromPeripheral (h : Hub) (l slot : Nat) (msg : List Byte) (type : Nat) (p : List Byte → Bool) (f : Hub → List Byte → Hub) : Hub :=
  let body := (msg.drop 8).take (leAt msg 2 2)
  if ((h.yard.inbox.read (fun _ => []) 8).contains (l, slot, msg)) && bits (leAt msg 0 2) 4 8 == type && p body then
    (f (h.takeInbox 8 l slot msg) body).hubInterrupts l
  else h

def execTransfer (l slot need : Nat) (msg : List Byte) (s : State) : Host.Outcome State Fault Refusal :=
  actIf (decide (l < 4 ∧ slot < 2048)) s (fun h => h.fromPeripheral l slot msg 1 (fun _ => true) (fun g b => g.transfer l slot need b))

def execTransferDone (n index status actual : Nat) (data : List Byte) (lens : List Nat) (s : State) : Host.Outcome State Fault Refusal :=
  actIf (decide (n < 8)) s (fun h => h.transferDone n index status actual data lens)

def execCancel (l slot : Nat) (msg : List Byte) (s : State) : Host.Outcome State Fault Refusal :=
  actIf (decide (l < 4 ∧ slot < 2048)) s (fun h => h.fromPeripheral l slot msg 3 (fun _ => true) (fun g b => g.cancel l (leAt b 0 4)))

def execBusSuspend (l slot : Nat) (msg : List Byte) (s : State) : Host.Outcome State Fault Refusal :=
  actIf (decide (l < 4 ∧ slot < 2048)) s (fun h => h.fromPeripheral l slot msg 4 (fun b => byteAt b 0 == 1) (fun g _ => g.busSuspend l 1))

def execBusResume (l slot : Nat) (msg : List Byte) (s : State) : Host.Outcome State Fault Refusal :=
  actIf (decide (l < 4 ∧ slot < 2048)) s (fun h => h.fromPeripheral l slot msg 4 (fun b => byteAt b 0 == 2) (fun g _ =>
    if (g.vhub l 1).suspended then g.busResume l 1 else g))

/-- BUS 0x03: every owned port is reset, and the virtual hub is at address 0 again (R454). -/
def Hub.busReset (h : Hub) (l : Nat) : Hub :=
  let h1 := (h.ownedPorts l 1).foldl (fun g n => g.portReset n) h
  let h2 := (h1.vhub l 1).waiting.foldl (fun g t => g.answer t 2 0 [] []) h1
  (h2.modVhub l 1 (fun _ => {})).focusLost l false

def execBusReset (l slot : Nat) (msg : List Byte) (s : State) : Host.Outcome State Fault Refusal :=
  actIf (decide (l < 4 ∧ slot < 2048)) s (fun h => h.fromPeripheral l slot msg 4 (fun b => byteAt b 0 == 3) (fun g _ => g.busReset l))

/-! ### The legacy interface (R456, R457, R462–R465) -/

/-- What a legacy function drives: its answer (kind 0, data) or STALL (kind 1). -/
def Hub.legacyAnswer (h : Hub) (l fn : Nat) (r : Option (List Byte)) : Hub :=
  match r with
  | some d => h.emit .legacy l ([0, BitVec.ofNat 8 fn, 0] ++ d)
  | none => (h.emit .legacy l [1, BitVec.ofNat 8 fn, 0]).add F.LEGACY.STALLS l 1

/-- A control request of the legacy pair, when it is the one named. -/
def Hub.legacyRequest (h : Hub) (l fn : Nat) (setup data : List Byte) (named : Bool) : Hub :=
  let st := h.get F.LEGACY.STATE l
  if st == 0 || st == 4 || 2 < fn || setup.length != 8 || !named then h
  else
    let (h1, r) := (h.add F.LEGACY.SETUPS l 1).fnRequest l 2 fn setup data
    h1.legacyAnswer l fn r

/-- A request by its bRequest, with the standard type or a hub's class type. -/
def isRequest (setup : List Byte) (rq : Nat) (hubToo : Bool) : Bool :=
  byteAt setup 1 == rq && (byteAt setup 0 / 32 % 4 == 0 || (hubToo && byteAt setup 0 / 32 % 4 == 1))

def execGetStatus (l fn : Nat) (setup : List Byte) (s : State) : Host.Outcome State Fault Refusal :=
  actIf (decide (l < 4)) s (fun h => h.legacyRequest l fn setup [] (isRequest setup 0 (fn == 0)))
def execClearFeature (l fn : Nat) (setup : List Byte) (s : State) : Host.Outcome State Fault Refusal :=
  actIf (decide (l < 4)) s (fun h => h.legacyRequest l fn setup [] (isRequest setup 1 (fn == 0)))
def execSetFeature (l fn : Nat) (setup : List Byte) (s : State) : Host.Outcome State Fault Refusal :=
  actIf (decide (l < 4)) s (fun h => h.legacyRequest l fn setup [] (isRequest setup 3 (fn == 0)))
def execSetAddress (l fn : Nat) (setup : List Byte) (s : State) : Host.Outcome State Fault Refusal :=
  actIf (decide (l < 4)) s (fun h => h.legacyRequest l fn setup [] (isRequest setup 5 false))
def execGetDescriptor (l fn : Nat) (setup : List Byte) (s : State) : Host.Outcome State Fault Refusal :=
  actIf (decide (l < 4)) s (fun h => h.legacyRequest l fn setup [] (isRequest setup 6 (fn == 0)))
def execGetConfiguration (l fn : Nat) (setup : List Byte) (s : State) : Host.Outcome State Fault Refusal :=
  actIf (decide (l < 4)) s (fun h => h.legacyRequest l fn setup [] (isRequest setup 8 false))
def execSetConfiguration (l fn : Nat) (setup : List Byte) (s : State) : Host.Outcome State Fault Refusal :=
  actIf (decide (l < 4)) s (fun h => h.legacyRequest l fn setup [] (isRequest setup 9 false))
def execGetInterface (l fn : Nat) (setup : List Byte) (s : State) : Host.Outcome State Fault Refusal :=
  actIf (decide (l < 4)) s (fun h => h.legacyRequest l fn setup [] (isRequest setup 10 false))
def execSetInterface (l fn : Nat) (setup : List Byte) (s : State) : Host.Outcome State Fault Refusal :=
  actIf (decide (l < 4)) s (fun h => h.legacyRequest l fn setup [] (isRequest setup 11 false))
def execClearTtBuffer (l fn : Nat) (setup : List Byte) (s : State) : Host.Outcome State Fault Refusal :=
  actIf (decide (l < 4)) s (fun h => h.legacyRequest l fn setup [] (fn == 0 && byteAt setup 0 == 0x23 && byteAt setup 1 == 8))
def execResetTt (l fn : Nat) (setup : List Byte) (s : State) : Host.Outcome State Fault Refusal :=
  actIf (decide (l < 4)) s (fun h => h.legacyRequest l fn setup [] (fn == 0 && byteAt setup 0 == 0x23 && byteAt setup 1 == 9))

/-- Whether a request has a command of its own above. -/
def ownRequest (fn : Nat) (setup : List Byte) : Bool :=
  isRequest setup 0 (fn == 0) || isRequest setup 1 (fn == 0) || isRequest setup 3 (fn == 0) || isRequest setup 5 false ||
    isRequest setup 6 (fn == 0) || isRequest setup 8 false || isRequest setup 9 false || isRequest setup 10 false || isRequest setup 11 false ||
    (fn == 0 && byteAt setup 0 == 0x23 && (byteAt setup 1 == 8 || byteAt setup 1 == 9))

def execUnsupportedRequest (l fn : Nat) (setup data : List Byte) (s : State) : Host.Outcome State Fault Refusal :=
  actIf (decide (l < 4)) s (fun h => h.legacyRequest l fn setup data (!ownRequest fn setup))

/-- A bus reset of the legacy pair (R464): the stage of a control transfer it abandons (0 none), the speed that results, and
whether a message on bulk OUT or bulk IN was cut. -/
def Hub.legacyBusReset (h : Hub) (l stage speed : Nat) (outCut inCut : Bool) : Hub :=
  if h.get F.LEGACY.STATE l == 0 then h
  else
    let h1 := (h.add F.LEGACY.BUS_RESETS l 1).set F.LEGACY.SPEED l (if speed == 3 then 3 else 2)
    let h2 := ((h1.add F.LEGACY.ABORTED l (ofB (stage != 0))).add F.LEGACY.PARTIAL_DISCARDS l (ofB outCut)).add F.LEGACY.RESENT l (ofB inCut)
    -- R508: a bus reset ends the interface's session; R464: a Receipt or PEEK_REPLY cut on bulk IN is sent again whole.
    let h2' := (((h2.endLegacySession l).setExchange (4 + l) {}).disarm T.auth (4 + l)).modCtx l (fun c => { c with inTransfer := 0 })
    let h2'' := match h2'.lastLegacy.read (fun _ => none) l with
      | some m => if inCut && (m.type == 3 || m.type == 6) then h2'.modCtx l (fun c => { c with out := m :: c.out }) else h2'
      | none => h2'
    let h3 := (({ h2'' with lastLegacy := h2''.lastLegacy.write (fun _ => none) l none }.modVhub l 2 (fun _ => {})).disarm T.legacyWake l).fnChanged l 2
    (if h3.usbPath l != 1 then h3.focusLost l false else h3).notify (369 + 4 * l)
      (ofB (stage != 0) + stage % 4 * 2 * ofB (stage != 0) + 16 * ofB outCut + 32 * ofB inCut)

def execLegacyBusReset (l stage speed : Nat) (outCut inCut : Bool) (s : State) : Host.Outcome State Fault Refusal :=
  actIf (decide (l < 4)) s (fun h => h.legacyBusReset l (min stage 3) speed outCut inCut)

def execLegacySuspend (l : Nat) (s : State) : Host.Outcome State Fault Refusal :=
  actIf (decide (l < 4)) s (fun h =>
    let st := h.get F.LEGACY.STATE l
    if st == 0 || st == 4 then h else ((h.modVhub l 2 (fun v => { v with before := st })).legacyState l 4).busSuspend l 2)

/-- The legacy bus resumes. -/
def Hub.legacyResume (h : Hub) (l : Nat) : Hub :=
  if h.get F.LEGACY.STATE l != 4 then h else (((h.legacyState l (h.vhub l 2).before)).disarm T.legacyWake l).busResume l 2

/-- A resume of the host's takes over a wake that waits (R457). -/
def Hub.legacyMerge (h : Hub) (l : Nat) : Hub :=
  if (h.due T.legacyWake l).isSome then ((h.disarm T.legacyWake l).add F.LEGACY.WAKES_MERGED l 1).notify (370 + 4 * l) 0 else h

/-- The proxy HID device comes to, or leaves, port 9 of a landing's hubs (R458): each shows a change of connection; one that left keeps no
address and no configuration, and takes focus with it. -/
def Hub.proxyMoved (h old : Hub) (l : Nat) : Hub :=
  if h.proxyAttached l == old.proxyAttached l then h
  else
    let h1 := [1, 2].foldl (fun (g : Hub) path => (g.portChange l path 9 0).modFn l path 2 (fun _ => {})) h
    if h1.proxyAttached l then h1 else h1.focusLost l false

def execLegacyResume (l : Nat) (s : State) : Host.Outcome State Fault Refusal :=
  actIf (decide (l < 4)) s (fun h => (h.legacyMerge l).legacyResume l)

/-- 5 ms into suspend: K is driven for 2 ms (kind 2), or the host's resume has come first. -/
def execLegacyWakeSignal (l : Nat) (hostFirst : Bool) (s : State) : Host.Outcome State Fault Refusal :=
  actIf (decide (l < 4)) s (fun h =>
    if hostFirst then (if (h.due T.legacyWake l).isSome then (h.legacyMerge l).legacyResume l else h)
    else h.expire T.legacyWake l (fun g => ((g.emit .legacy l [2]).add F.LEGACY.WAKES l 1).notify (370 + 4 * l) 1))

/-- The D+ pull-up follows ENABLE while the main die runs (R462). -/
def Hub.legacyPullUp (h : Hub) (l : Nat) : Hub :=
  if h.on F.LEGACY.ENABLE l && h.mainUp then
    (if h.get F.LEGACY.STATE l == 0 then (((h.take F.LEGACY.VID l).take F.LEGACY.PID l).emit .legacy l [3, 1]).legacyState l 1 else h)
  else if h.get F.LEGACY.STATE l == 0 then h
  else
    let h1 := (((h.emit .legacy l [3, 0]).modVhub l 2 (fun _ => {})).disarm T.legacyWake l).usbPathSync l
    let h2 := (if h1.usbPath l != 1 then h1.focusLost l false else h1).legacyState l 0
    ((h2.set F.LEGACY.SPEED l 0).set F.LEGACY.ADDRESS l 0).set F.LEGACY.REMOTE_WAKE l 0

end Sys2Proof.Machine
end

