-- ==== Sys2Proof/Machine/KeyOps.lean ====
section
/-! DEFINITION. The key block at work (R495–R497, R512–R519): slot operations, extensions by Manifest, tamper, the life cycle, and the
sessions these end. -/

namespace Sys2Proof.Machine

/-- Keys derived again: DEVICE_ID (R500) and every derived PUBLIC. -/
def Hub.deriveKeys (h : Hub) : Hub :=
  if h.on F.KEYSLOT.KEYS_READY 0 then
    (h.setBytes F.KEYSLOT.DEVICE_ID 0 2 ((digest (publicBytes h.identityScalar)).take 16)).syncPublic.aliasIssued
  else h

/-! ### Slots (R512, R513) -/

/-- NT_KEYSLOT_DONE. -/
def Hub.keyslotDone (h : Hub) (k status : Nat) : Hub :=
  (h.set F.KEYSLOT.STATUS k status).raise 469 (k + status * 2 ^ 8) (ctxCode (h.get F.KEYSLOT.OWNER k))

/-- A slot is freed: an operation that runs on it is aborted, and it has no owner. -/
def Hub.freeKeyslot (h : Hub) (k : Nat) : Hub :=
  let h1 := if h.get F.KEYSLOT.STATUS k == 1 then (h.disarm T.keyOp k).keyslotDone k 4 else h
  (h1.set F.KEYSLOT.KIND k 0).set F.KEYSLOT.OWNER k 0xF

/-- A committed KIND claims a general slot for the context, or frees it. -/
def Hub.keyslotKind (h : Hub) (ctx k : Nat) : Hub :=
  if h.get F.KEYSLOT.KIND k == 0 then h.freeKeyslot k
  else (h.set F.KEYSLOT.OWNER k ctx).syncPublic

/-- A committed OP = 1 starts an operation on INPUT; OP reads 0. -/
def Hub.keyslotOp (h : Hub) (k : Nat) : Hub :=
  let h1 := h.set F.KEYSLOT.OP k 0
  if !h1.on F.KEYSLOT.KEYS_READY 0 then h1.keyslotDone k 3
  else
    let h2 := { h1 with keyInputs := h1.keyInputs.write (fun _ => []) k (h1.getBytes F.KEYSLOT.INPUT k 6) }
    (h2.set F.KEYSLOT.STATUS k 1).arm T.keyOp k (if h.get F.KEYSLOT.KIND k == 5 then 20 * usec else 3 * msec)

/-- A slot operation completes: OUTPUT, STATUS and OPS. -/
def Hub.keyslotOpDone (h : Hub) (k : Nat) : Hub :=
  let input := h.keyInputs.read (fun _ => []) k
  let h1 := if h.get F.KEYSLOT.KIND k == 5 then h.setBytes F.KEYSLOT.OUTPUT k 6 (hmac (h.slotKey k) input)
    else h.setBytes F.KEYSLOT.OUTPUT k 12 (beBytes 96 (Config.ecdsaSign (h.slotScalar k) input).toNat)
  (h1.add F.KEYSLOT.OPS k 1).keyslotDone k 2

def execKeyslotOpDone (k : Nat) (s : State) : Host.Outcome State Fault Refusal :=
  actIf (decide (k < 32)) s (fun h => h.expire T.keyOp k (fun g => g.keyslotOpDone k))

/-- HMAC and SIGN slots of a context that resets are freed (R512). -/
def Hub.freeKeyslots (h : Hub) (ctx : Nat) : Hub :=
  (List.range 24).foldl (fun g i =>
    let k := 8 + i
    if g.get F.KEYSLOT.OWNER k == ctx && (g.get F.KEYSLOT.KIND k == 5 || g.get F.KEYSLOT.KIND k == 6) then
      g.freeKeyslot k
    else g) h

/-- The commit of a set staging EXTEND (R497): M7 is extended with all six elements; EXTEND reads 0. -/
def Hub.extendStaged (h : Hub) : Hub :=
  let d := h.getBytes F.KEYSLOT.EXTEND 0 6
  ((List.range 6).foldl (fun g k => g.set F.KEYSLOT.EXTEND 0 0 k) h).extendNow 7 2 d

/-! ### Sessions end -/

/-- The management session ends (R507), with a cause: 1 idle, 2 tamper, 3 life cycle, 4 replaced. -/
def Hub.endMgmt (h : Hub) (cause : Nat) : Hub :=
  if (h.session 8).up then ((h.setSession 8 {}).disarm T.mgmtIdle 0).notify 475 (cause * 2 ^ 4) else h

/-- An exchange ends with its keys; one still running is aborted, which its landing's re-authentication reports where it has one (R206, R208). -/
def Hub.dropExchange (h : Hub) (reason k : Nat) : Hub :=
  let x := h.exchange k
  let h1 := if x.phase == 0 then h else h.endExchange k
  if reason != 0 && (x.phase == 1 || x.phase == 2) && (4 ≤ k || h.lState k == 4) then h1.authFailed k reason else h1

/-- Every session and exchange ends with its keys: every landing re-authenticates (R206), reason 0 raising no notice. -/
def Hub.dropSessions (h : Hub) (reason cause : Nat) : Hub :=
  let h1 := (List.range 9).foldl (fun g k => g.dropExchange reason k) h
  let h2 := (List.range 4).foldl (fun g l => ((g.reauth l reason).setSession l {}).endLegacySession l) h1
  h2.endMgmt cause

/-- Running slot operations are aborted. -/
def Hub.abortKeyOps (h : Hub) : Hub :=
  (List.range 32).foldl (fun (g : Hub) k => if g.get F.KEYSLOT.STATUS k == 1 then (g.disarm T.keyOp k).keyslotDone k 4 else g) h

/-- Every key, slot key and OUTPUT is zeroized (R515). -/
def Hub.zeroize (h : Hub) : Hub :=
  let h1 := (List.range 32).foldl (fun (g : Hub) k => (List.range 12).foldl (fun (x : Hub) e => x.set F.KEYSLOT.OUTPUT k 0 e) g) h
  ({ h1 with rootSecret := [], keyInputs := {} }.set F.KEYSLOT.KEYS_READY 0 0).abortKeyOps

/-! ### Tamper (R515, R516) -/

/-- TAMPER_N low for 100 ns, or high again. -/
def Hub.tamper (h : Hub) (low : Bool) : Hub :=
  if !low then { h with tamperLow := false }
  else
    let h1 := (({ h with tamperLow := true }).set F.KEYSLOT.TAMPER_LATCH 0 1).add F.KEYSLOT.TAMPER_COUNT 0 1
    if !h1.mainUp then { h1 with tamperUnpowered := true }
    else (h1.zeroize.dropSessions 6 2).notify 472 (h1.get F.KEYSLOT.TAMPER_COUNT 0 * 2 ^ 32)

def execTamperEvent (low : Bool) (s : State) : Host.Outcome State Fault Refusal := actAny s (fun h => h.tamper low)

/-- A committed TAMPER_CLEAR (R516). -/
def Hub.tamperCleared (h : Hub) : Hub :=
  let h1 := h.set F.KEYSLOT.TAMPER_CLEAR 0 0
  if h1.tamperLow then h1 else (h1.set F.KEYSLOT.TAMPER_LATCH 0 0).notify 473 (h1.get F.KEYSLOT.TAMPER_COUNT 0 * 2 ^ 32)

/-! ### Life cycle (R519) -/

/-- The life-cycle state that fuses hold: the highest of which two of three are blown (R518). -/
def fusedState (fuses : Nat) : Nat :=
  ([1, 2, 3, 4].filter (fun s => 2 ≤ ((List.range 3).filter (fun i => bitB fuses (3 * (s - 1) + i))).length)).foldl max 0

/-- The three fuses of a state are blown. -/
def Hub.blowFuses (h : Hub) (s : Nat) : Hub := { h with fuses := h.fuses ||| 7 * 2 ^ (3 * (s - 1)) }

/-- A committed LC_ADVANCE. A step that finds the keys gone is abandoned (R517). -/
def Hub.lifecycle (h : Hub) : Hub :=
  let new := h.get F.KEYSLOT.LC_ADVANCE 0
  let old := h.get F.KEYSLOT.LC_STATE 0
  let h1 := h.set F.KEYSLOT.LC_ADVANCE 0 0
  if new == 0 || (new != 4 && !h.on F.KEYSLOT.KEYS_READY 0) then h1
  else
    let h2 := if new == 4 then { h1 with rootSecret := [] }.set F.KEYSLOT.KEYS_READY 0 0 else { h1 with transitions := h1.transitions + 1 }.add F.KEYSLOT.OPS 0 1
    ((((((h2.blowFuses new).set F.KEYSLOT.LC_STATE 0 new)).abortKeyOps).deriveKeys).dropSessions 0 3).notify 474 (new + old * 2 ^ 4)

/-! ### The random generator (R495) -/

def execRngFault (test : Nat) (s : State) : Host.Outcome State Fault Refusal :=
  act s (fun h => ({ h with rngFault := true }).notify 467 (test % 256))

def execRngRecovered (s : State) : Host.Outcome State Fault Refusal := act s (fun h => { h with rngFault := false })

end Sys2Proof.Machine
end

