-- ==== Sys2Proof/Machine/Channel.lean ====
section
/-! DEFINITION. The channels of Control messages (R117–R123, R507, R508): which message a command takes, what is discarded and why, the
seals of the legacy interface and of the management session, and messages leaving. -/

namespace Sys2Proof.Machine

/-! ### Messages arriving (R117, R118) -/

/-- The AUTH exchange and session of a channel: 0…3 a landing's pairs, 4…7 its legacy interface, 8 management. -/
def chanSession : Chan → Nat
  | .ldl l => l
  | .legacy l => 4 + l
  | .mgmt => 8
  | .localPort => 9

/-- Whether a channel exists. -/
def chanOk : Chan → Bool
  | .ldl l => decide (l < 4)
  | .legacy l => decide (l < 4)
  | _ => true

/-- The types a party may send (R120). -/
def partyTypes : List Nat := [1, 2, 5, 7, 9, 0x0B, 0x0C]

/-- NT_CONTROL_REFUSED (R118). -/
def Hub.refuseControl (h : Hub) (ch : Chan) (msg : List Byte) (reason : Nat) : Hub :=
  h.raise 507 (byteAt msg 0 + reason * 2 ^ 8 + leAt msg 4 2 * 2 ^ 16) [ch.ctx]

/-- Whether a HELLO's body is one R125 discards. -/
def helloMalformed (msg : List Byte) : Bool := leAt msg 6 2 != 8 || byteAt msg 8 == 0 || leAt msg 10 2 < 1024

/-- The first case of R118 that applies to a message; raw is whether it came outside a seal. On a legacy interface without a session only AUTH and a HELLO
without effect are no case of 0x06 (DEDUCED, log entry 25). -/
def Hub.controlFault (h : Hub) (ch : Chan) (raw : Bool) (msg : List Byte) : Option Nat :=
  let type := byteAt msg 0
  let legacy := match ch with | .legacy _ => true | _ => false
  let x := h.session (chanSession ch)
  if byteAt msg 1 != 1 then some 1
  else if !partyTypes.contains type then some 2
  else if byteAt msg 2 != ch.ctx then some 3
  else if byteAt msg 3 / (if type == 2 then 2 else 1) != 0 then some 5
  else if msg.length < 8 || leAt msg 6 2 != msg.length - 8 then some 4
  else if 0x0B ≤ type && !legacy then some 2
  else if type != 1 && !h.up ch.ctx && type < 0x0B then some 6
  else if legacy && raw && type < 0x0B && x.up then some 0x0A
  else if legacy && raw && type < 0x0B && type != 1 then some 6
  else if legacy && x.helloOnly && type != 1 && type < 0x0B then some 6
  else if type == 1 && helloMalformed msg then some 0x0B
  else if type == 5 && (msg.length < 20 || (msg.length - 12) % 8 != 0 || 32 < (msg.length - 12) / 8) then some 4
  else none

/-- A bulk-OUT message of a legacy interface that has crossed the Yard leaves the adapter of Y10 (R42). -/
def Hub.takeBulk (h : Hub) (l : Nat) (msg : List Byte) : Option Hub :=
  if (h.yard.inbox.read (fun _ => []) 10).contains (8, l, msg) then some (h.takeInbox 10 8 l msg) else none

/-- A bulk-OUT message of a configured legacy interface enters the Yard at Y8 toward Y10 (R42, log entry 87). -/
def Hub.bulkOut (h : Hub) (l : Nat) (msg : List Byte) : Hub :=
  if h.get F.LEGACY.STATE l == 3 then h.originate 8 0 msg [(portLeaf 10 8 0, l)] else h

/-- Takes a waiting message off its channel: the hub without it, and whether it came outside a seal. -/
def Hub.takeControl (h : Hub) (ch : Chan) (msg : List Byte) : Option (Hub × Bool) :=
  let opened (k : Nat) : Option (Hub × Bool) :=
    let l := h.opened.read (fun _ => []) k
    if l.contains msg then some ({ h with opened := h.opened.write (fun _ => []) k (l.erase msg) }, false) else none
  match ch with
  | .ldl l =>
    match (h.yard.inbox.read (fun _ => []) 10).find? (fun e => e.1 == l && e.2.2.drop 8 == msg) with
    | some e =>
      if h.use F.TUNNEL.CLASS (tunnelOf l e.2.1) == 0 && bits (leAt e.2.2 0 2) 4 8 == 1 && leAt e.2.2 0 2 / 2 ^ 12 == 0 then
        some (h.takeInbox 10 e.1 e.2.1 e.2.2, false) else none
    | none => none
  | .legacy l => match opened (4 + l) with
    | some r => some r
    | none => (h.takeBulk l msg).map (fun g => (g, true))
  | .localPort => if h.fifoIn.contains msg then some ({ h with fifoIn := h.fifoIn.erase msg }, false) else none
  | .mgmt => opened 8

/-- Whether no party may send a TYPE on a channel: AUTH and SEALED are the legacy interface's own. -/
def foreignType (ch : Chan) (type : Nat) : Bool :=
  !partyTypes.contains type || (0x0B ≤ type && (match ch with | .legacy _ => false | _ => true))

/-- A command that takes a Control message: of its own TYPE, or of one R118 refuses, it leaves the channel and is discarded with its
reason or acted on. On a legacy interface a message that does not wait there yet enters the Yard. -/
def Hub.onControl (h : Hub) (ch : Chan) (msg : List Byte) (type : Nat) (f : Hub → Hub) : Hub :=
  if byteAt msg 0 == type || foreignType ch (byteAt msg 0) then
    match h.takeControl ch msg with
    | none => (match ch with | .legacy l => h.bulkOut l msg | _ => h)
    | some (h1, raw) =>
      match h1.controlFault ch raw msg with
      | some r => h1.refuseControl ch msg r
      | none => f h1
  else h

/-- The body of a Control message. -/
def ctlBody (msg : List Byte) : List Byte := msg.drop 8
def ctlSeq (msg : List Byte) : Nat := leAt msg 4 2

/-! ### Messages leaving (R26, R121, R507, R508) -/

/-- A message sealed for the host on a legacy interface (R508). -/
def sealLegacy (x : Session) (ctx : Nat) (inner : List Byte) : List Byte :=
  let hd := leBytes 4 x.epochOut ++ leBytes 4 x.seqOut ++ leBytes 8 0
  let outer := [0x0C, 1, BitVec.ofNat 8 ctx, 0, 0, 0] ++ leBytes 2 (inner.length + 32)
  let key := secretKey x.secretOut
  let nonce := sessionNonce x.saltOut 3 x.epochOut x.seqOut
  let text := gcmXor key nonce 0 inner
  outer ++ hd ++ text ++ gcmTag key nonce (outer ++ hd) text

/-- The next sequence of a session's outbound direction; after 0xFFF0_0000 the next epoch begins (R507, R508). -/
def Session.nextOut (x : Session) : Session :=
  if 0xFFF00000 ≤ x.seqOut then { x with seqOut := 0, epochOut := x.epochOut + 1, secretOut := nextSecret x.secretOut }
  else { x with seqOut := x.seqOut + 1 }

/-- A Control message read back from its bytes. -/
def readMessage (ch : Chan) (b : List Byte) : OutMsg := { chan := ch, ctx := byteAt b 2, type := byteAt b 0, seq := leAt b 4 2, body := b.drop 8 }

/-- A message from Y10 reaches the legacy interface at Y8 (R42, R508): an AUTH message goes as it is, any other sealed, a NOTICE on interrupt IN (5), the
rest on bulk IN (4). Without a session to seal it, a NOTICE is formed again later and another message waits on. -/
def Hub.legacyOut (h : Hub) (l : Nat) (b : List Byte) : Hub :=
  let x := h.session (4 + l)
  let m := readMessage (.legacy l) b
  let runs := h.get F.LEGACY.STATE l == 3
  if m.type == 0x0B then (if runs then h.emit .legacy l ([4] ++ b) else h)
  else if m.type == 4 then
    (if (h.ctx l).inTransfer == 0 then h
     else if runs && x.up then (h.emit .legacy l ([5] ++ sealLegacy x l b)).setSession (4 + l) x.nextOut
     else h.modCtx l (fun c => { c with inTransfer := 0 }))
  else if runs && x.up then
    { (h.emit .legacy l ([4] ++ sealLegacy x l b)).setSession (4 + l) x.nextOut with lastLegacy := h.lastLegacy.write (fun _ => none) l (some m) }
  else h.modCtx l (fun c => { c with out := m :: c.out })

/-- What has reached Y8 for the legacy interfaces goes out on them. -/
def Hub.legacyArrivals (h : Hub) : Hub :=
  ((h.yard.inbox.read (fun _ => []) 8).filter (fun e => e.1 == 10)).foldl (fun g e => (g.takeInbox 8 e.1 e.2.1 e.2.2).legacyOut e.2.1 e.2.2) h

/-- A message sealed for the management peer (R507). -/
def sealMgmt (x : Session) (inner : List Byte) : List Byte :=
  let hd := [(2 : Byte), 0, 0, 0] ++ leBytes 4 x.epochOut ++ leBytes 4 x.seqOut ++ leBytes 4 0
  let key := secretKey x.secretOut
  let nonce := sessionNonce x.saltOut 2 x.epochOut x.seqOut
  let text := gcmXor key nonce 0 inner
  hd ++ text ++ gcmTag key nonce hd text

/-- The IPv4 header checksum of a header whose checksum field is zero. -/
def ipChecksum (hd : List Byte) : Nat :=
  let s := ((List.range (hd.length / 2)).map (fun i => beAt hd (2 * i) 2)).sum
  let t := s % 65536 + s / 65536
  65535 - (t % 65536 + t / 65536)

/-- A UDP payload sent to the management peer whose MAC and last headers are given, in IPv4 fragments of at most 1,500 bytes (R507). -/
def Hub.sendDatagram (h : Hub) (mac : Nat) (peer : List Byte) (payload : List Byte) : Hub :=
  let o := payloadAt peer
  let u := match udpOf peer with | some (_, u) => u | none => o + 20
  let udp := beBytes 2 (h.get F.ETHPORT.MGMT_UDP_PORT 0) ++ (peer.drop u).take 2 ++ beBytes 2 (payload.length + 8) ++ beBytes 2 0 ++ payload
  let n := max 1 ((udp.length + 1479) / 1480)
  let id := h.freeVal % 65536
  let link := beBytes 6 (frameSrc peer) ++ beBytes 6 h.mgmtMac ++ (peer.drop 12).take (o - 12)
  (List.range n).foldl (fun g i =>
    let d := (udp.drop (1480 * i)).take 1480
    let hd0 := [(0x45 : Byte), 0] ++ beBytes 2 (20 + d.length) ++ beBytes 2 id ++ beBytes 2 (185 * i + (if i + 1 < n then 0x2000 else 0)) ++ [64, 17]
    let addrs := beBytes 4 (h.get F.ETHPORT.MGMT_IPV4 0) ++ (peer.drop (o + 12)).take 4
    let hd := hd0 ++ beBytes 2 (ipChecksum (hd0 ++ [0, 0] ++ addrs)) ++ addrs
    g.originate 10 0 (link ++ hd ++ d) [(768 + 8 * (10 + mac), 0)]) h.drawn

/-- Whether Y10 takes a message in now. -/
def Hub.boxRoom (h : Hub) (m : OutMsg) : Bool :=
  h.sliceRoom 10 { bytes := List.replicate 8 0 ++ m.bytes } && !h.yard.backlog.any (fun b => b.1 == 10)

/-- The channel a message leaves on: a Notice's is chosen as it leaves (R26). -/
def Hub.chanOf (h : Hub) (m : OutMsg) : Chan := if m.type == 4 then h.noticeChan m.ctx else m.chan

/-- Whether a channel's transport takes a message now. -/
def Hub.chanReady (h : Hub) (m : OutMsg) : Bool :=
  match h.chanOf m with
  | .ldl l => h.tunnelOpen (tunnelOf l 0) && h.boxRoom m
  | .legacy l => h.get F.LEGACY.STATE l == 3 && (h.session (4 + l)).up && h.boxRoom m
  | .mgmt => (h.session 8).up
  | .localPort => false

/-- The Yard ports whose blocks raise a source together with data for its host. -/
def dataPorts (src : Nat) : List Nat :=
  if src < 160 then [] else if src < 224 then [7, 13] else if src < 240 then [11] else if src < 272 then [] else if src < 304 then [4, 5]
  else if src < 336 then [9] else if src < 400 then [8] else []

/-- Whether data that a Notice announces is still on its way to its landing (R27): messages of the raising blocks that stood in the hub before the Notice
was formed (DEDUCED, log entry 88). -/
def Hub.dataAhead (h : Hub) (m : OutMsg) : Bool :=
  let ports := ((List.range m.entries).map (fun i => dataPorts (leAt m.body (16 * i) 2 % 512))).flatten
  let mine (id : Nat) (p : Pkt) : Bool := decide (id < m.mark) && ports.contains p.port
  4 > m.ctx && !ports.isEmpty &&
    (h.yard.backlog.any (fun b => mine 0 b.2.1 && b.2.2.any (fun d => d.1 / 128 == m.ctx)) ||
     h.yard.tickets.any (fun t => mine t.id t.pkt && t.dests.any (fun d => d.1 / 128 == m.ctx)) ||
     h.yard.voqs.cells.any (fun c => c.1 / 8 % 16 == m.ctx && c.2.any (fun d => mine d.id (h.yard.slicePkt d.id))) ||
     h.yard.leaves.cells.any (fun c => c.1 / 128 == m.ctx && c.2.any (fun e => mine e.id e.pkt)) ||
     (h.link m.ctx).txMsgs.any (fun t => mine t.id t.pkt))

/-- Whether a message can leave: its transport takes it; a Notice only after the data it announces, and one after the other where a ring entry's taking is
awaited. -/
def Hub.mayLeave (h : Hub) (m : OutMsg) : Bool :=
  let c := h.ctx m.ctx
  h.chanReady m && (m.type != 4 || (!h.dataAhead m && c.inTransfer == 0 && (h.chanOf m == .ldl m.ctx || c.inMessages.isEmpty)))

/-- The next message of a context to leave (R26, R27, R145): of a channel the first waiting, a Receipt behind every earlier Receipt, a Notice behind everything
earlier. Those passed by are given first. -/
def nextToLeave (may : OutMsg → Bool) : List OutMsg → List OutMsg → Option OutMsg
  | _, [] => none
  | passed, m :: t =>
    let behind := if m.type == 4 then !passed.isEmpty
      else passed.any (fun o => o.type != 4 && (o.chan == m.chan || (o.type == 3 && m.type == 3)))
    if !behind && may m then some m else nextToLeave may (passed ++ [m]) t

/-- A message leaves on its channel: through the Yard to a landing's Control tunnel or legacy interface, or in a datagram. -/
def Hub.transmit (h : Hub) (m : OutMsg) : Hub :=
  let notice := m.type == 4
  match h.chanOf m with
  | .ldl l => (if notice then h.modCtx m.ctx (fun c => { c with inMessages := c.inMessages ++ [(m.seq, m.entries)] }) else h).sendTunnel 10 l 0 1 m.bytes
  | .legacy l => (if notice then h.modCtx m.ctx (fun c => { c with inTransfer := m.entries }) else h).originate 10 0 m.bytes [(portLeaf 8 10 0, l)]
  | .mgmt =>
    let x := h.session 8
    let h1 := ((h.sendDatagram h.mgmtPeer.1 h.mgmtPeer.2 (sealMgmt x m.bytes)).setSession 8 x.nextOut).epochsEntered 8 (x.nextOut.epochOut - x.epochOut)
    if notice then h1.ringTaken m.ctx m.entries else h1
  | .localPort => h

/-- A context's messages leave as far as their transports take them. -/
def Hub.drainUpTo : Nat → Nat → Hub → Hub
  | 0, _, h => h
  | fuel + 1, n, h =>
    match nextToLeave h.mayLeave [] (h.ctx n).out with
    | some m => Hub.drainUpTo fuel n ((h.modCtx n (fun c => { c with out := c.out.erase m })).transmit m)
    | none => h

def Hub.drainOut (h : Hub) (n : Nat) : Hub := Hub.drainUpTo (h.ctx n).out.length n h

/-! ### Seals opened (R507, R508) -/

/-- The traffic secret of an inbound epoch: the current one, or the next. -/
def Session.secretOf (x : Session) (epoch : Nat) : Option (List Byte) :=
  if epoch == x.epochIn then some x.secretIn else if epoch == x.epochIn + 1 then some (nextSecret x.secretIn) else none

/-- A third failure within 1 s ends a legacy session (R508). -/
def Hub.sealFailed (h : Hub) (l : Nat) : Hub :=
  let x := h.session (4 + l)
  let fails := x.fails.filter (fun t => h.now < t + sec) ++ [h.now]
  if 3 ≤ fails.length then (h.endLegacySession l).notify (nLanding l 6) (5 + 256) else h.setSession (4 + l) { x with fails := fails }

/-- A SEALED message of a legacy interface (R508). -/
def Hub.sealedMessage (h : Hub) (l : Nat) (msg : List Byte) : Hub :=
  let x := h.session (4 + l)
  let ch := Chan.legacy l
  match h.controlFault ch true msg with
  | some r => h.refuseControl ch msg r
  | none =>
    let refused (h : Hub) : Hub := h.refuseControl ch msg 9
    let b := ctlBody msg
    let e := leAt b 0 4
    let q := leAt b 4 4
    if !x.up || b.length < 40 then refused h
    else match x.secretOf e with
      | none => refused h
      | some ts =>
        let key := secretKey ts
        let nonce := sessionNonce x.saltIn 3 e q
        let text := (b.drop 16).take (b.length - 32)
        if b.drop (b.length - 16) != gcmTag key nonce (msg.take 8 ++ b.take 16) text then (refused h).sealFailed l
        else if e == x.epochIn && q < x.seqIn then refused h
        else
          let h1 := h.setSession (4 + l) { x with epochIn := e, secretIn := ts, seqIn := q + 1, lastHeard := h.now }
          { h1 with opened := h1.opened.write (fun _ => []) (4 + l) (h1.opened.read (fun _ => []) (4 + l) ++ [gcmXor key nonce 0 text]) }

def execSealedMessage (l : Nat) (msg : List Byte) (s : State) : Host.Outcome State Fault Refusal :=
  actIf (decide (l < 4)) s (fun h =>
    if byteAt msg 0 != 0x0C then h
    else match h.takeBulk l msg with
      | some g => g.sealedMessage l msg
      | none => h.bulkOut l msg)

/-- The frames of one management datagram, in fragment order, taken from the adapter of Y10: its UDP payload, if they are whole. -/
def Hub.takeDatagram (h : Hub) (mac : Nat) (frames : List (List Byte)) : Option (Hub × List Byte) :=
  let waiting := (h.yard.inbox.read (fun _ => []) 10).filter (fun e => 6 ≤ e.1 && e.1 != 8 && e.2.1 == mac)
  if frames.isEmpty || !frames.all (fun f => waiting.any (fun e => e.2.2 == f)) then none
  else
    let ip (f : List Byte) : List Byte := f.drop (payloadAt f)
    let part (f : List Byte) : List Byte := ((ip f).take (beAt (ip f) 2 2)).drop (4 * (byteAt (ip f) 0 % 16))
    let off (f : List Byte) : Nat := beAt (ip f) 6 2
    let (ok, total) := frames.foldl (fun (r : Bool × Nat) f =>
      (r.1 && off f % 0x2000 * 8 == r.2 && beAt (ip f) 4 2 == beAt (ip (frames.headD [])) 4 2, r.2 + (part f).length)) (true, 0)
    let last := frames.getLastD []
    let more := (frames.dropLast).all (fun f => bitB (off f) 13) && !bitB (off last) 13
    if ok && more && total ≤ 16448 + 8 then
      let h1 := frames.foldl (fun g f => match waiting.find? (fun e => e.2.2 == f) with | some e => g.takeInbox 10 e.1 e.2.1 f | none => g) h
      let udp := (frames.map part).flatten
      some (h1, (udp.take (beAt udp 4 2)).drop 8)
    else none

/-- A kind-0x02 datagram (R507). -/
def Hub.mgmtDatagram (h : Hub) (mac : Nat) (first : List Byte) (d : List Byte) : Hub :=
  let x := h.session 8
  let e := leAt d 4 4
  let q := leAt d 8 4
  let dropped (h : Hub) : Hub := { h with mgmtDiscards := h.mgmtDiscards + 1 }
  if !x.up || byteAt d 0 != 2 || d.length < 40 then dropped h
  else match x.secretOf e with
    | none => dropped h
    | some ts =>
      let key := secretKey ts
      let nonce := sessionNonce x.saltIn 2 e q
      let text := (d.drop 16).take (d.length - 32)
      let fresh := e != x.epochIn
      let old := !fresh && (x.taken.contains q || decide (q + 64 < x.seqIn))
      if old || d.drop (d.length - 16) != gcmTag key nonce (d.take 16) text then dropped h
      else
        let top := if fresh then q + 1 else max x.seqIn (q + 1)
        let seen := ((if fresh then [] else x.taken) ++ [q]).filter (fun s => top ≤ s + 64)
        let h1 := (h.setSession 8 { x with epochIn := e, secretIn := ts, seqIn := top, taken := seen, lastHeard := h.now }).arm T.mgmtIdle 0 (120 * sec) |>.epochsEntered 8 (ofB fresh)
        { h1 with mgmtPeer := (mac, first.take 54), opened := h1.opened.write (fun _ => []) 8 (h1.opened.read (fun _ => []) 8 ++ [gcmXor key nonce 0 text]) }

def execMgmtSealedDatagram (mac : Nat) (frames : List (List Byte)) (s : State) : Host.Outcome State Fault Refusal :=
  actIf (decide (mac < 2)) s (fun h =>
    match h.takeDatagram mac frames with
    | some (h1, d) => h1.mgmtDatagram mac (frames.headD []) d
    | none => h)

/-! ### The matcher's command (R250, R26) -/

/-- A cell time, and what waits for room enters the Yard: Control messages, and what the Branch Line has taken. -/
def execCellMatch (s : State) : Host.Outcome State Fault Refusal :=
  act s (fun h => ((List.range 4).foldl (fun g n => g.drainOut n) h.cellTime).branchDrain)

/-! ### Attestation on request (R509) -/

/-- The body of an ATTEST. -/
def Hub.attestBody (h : Hub) (nonce : List Byte) : List Byte :=
  let lc := h.get F.KEYSLOT.LC_STATE 0
  let status := if lc == 4 then 2 else if h.rngFault || !h.on F.KEYSLOT.KEYS_READY 0 || lc == 0 then 3 else 0
  leBytes 1 status ++ leBytes 3 0 ++ (if status == 0 then h.statement nonce ++ h.deviceChain else [])

def execAttestReq (ch : Chan) (msg : List Byte) (s : State) : Host.Outcome State Fault Refusal :=
  actIf (chanOk ch) s (fun h => h.onControl ch msg 9 (fun g =>
    if (ctlBody msg).length != 32 then g.refuseControl ch msg 4
    else
      let b := g.attestBody (ctlBody msg)
      ((if byteAt b 0 == 0 then g.statementSigned else g).send ch 0x0A (ctlSeq msg) b).drainOut ch.ctx))

end Sys2Proof.Machine
end

