-- ==== Sys2Proof/Machine/Update.lean ====
section
/-! DEFINITION. Firmware update (R523–R541): image headers, pieces, the switch record, activation orders and steps, trial and
confirmation. -/

namespace Sys2Proof.Machine

def Hub.part (h : Hub) (p : Nat) : Part := h.parts.read (fun _ => {}) p
def Hub.modPart (h : Hub) (p : Nat) (f : Part → Part) : Hub := { h with parts := h.parts.write (fun _ => {}) p (f (h.part p)) }

/-! ### Headers (R525, R526) -/

/-- The largest image of a part in bytes. -/
def imageMax : Nat → Nat
  | 0 => 4096 * 1024
  | 1 => 1024 * 1024
  | 2 => 1024 * 1024
  | 3 => 512 * 1024
  | _ => 256 * 1024

def hdrVersion (b : List Byte) : Nat := leAt b 8 4
def hdrLength (b : List Byte) : Nat := leAt b 12 4
def hdrSec (b : List Byte) : Nat := leAt b 16 4
def zeros (bs : List Byte) : Bool := bs.all (fun b => b == 0)

/-- The first check of R526 a header of a part fails. -/
def Hub.headerFault (h : Hub) (p : Nat) (b : List Byte) : Option Nat :=
  let flags := leAt b 20 4
  let range (q : Nat) : Bool := q == p || leAt b (24 + 8 * q) 4 ≤ leAt b (28 + 8 * q) 4
  let oem := h.getBytes F.UPDATE.OEM_DIGEST 0 6
  let cut (i n : Nat) : List Byte := (b.drop i).take n
  if leAt b 0 4 != 0x4B4E5546 || leAt b 4 2 != 0x0B48 || byteAt b 7 != 1 || byteAt b 6 != p + 1 then some 1
  else if hdrLength b < 1025 || imageMax p < hdrLength b then some 2
  else if !(List.range 5).all range || flags / 2 != 0 || !zeros (cut 209 3) || !zeros (cut 404 620) || (flags == 0 && !zeros (cut 308 96)) then some 3
  else if !Config.ecdsaVerify Config.releaseKey (digest (b.take 212)) (cut 212 96) then some 4
  else if !zeros oem && (flags % 2 == 0 || digest (cut 112 97) != oem || !Config.ecdsaVerify (cut 112 97) (digest (b.take 308)) (cut 308 96)) then some 5
  else if hdrSec b < (h.part p).floor then some 6
  else none

/-- Whether a running image's compatibility vector accepts a version of part q. -/
def accepts (b : List Byte) (q v : Nat) : Bool := b.isEmpty || (leAt b (24 + 8 * q) 4 ≤ v && v ≤ leAt b (28 + 8 * q) 4)

/-! ### The UPDATE fields follow the parts -/

/-- How many pieces an image has. -/
def pieceTotal (b : List Byte) : Nat := if b.isEmpty then 0 else (hdrLength b + 4095) / 4096

/-- Fields of a part that its records decide (R541). -/
def Hub.syncPart (h : Hub) (p : Nat) : Hub :=
  let k := h.part p
  let active := match h.activation with | some a => a.order.any (fun o => o.1 == p) | none => false
  let st := if active then 3 else if k.ready then 2 else if !k.staged.isEmpty then 1 else if k.trial then 4 else 0
  let h1 := [(F.UPDATE.STATE, st), (F.UPDATE.RUNNING_VERSION, hdrVersion k.running), (F.UPDATE.STAGED_VERSION, hdrVersion k.staged),
    (F.UPDATE.PREVIOUS_VERSION, hdrVersion k.previous), (F.UPDATE.SEC_FLOOR, k.floor), (F.UPDATE.PIECES_HELD, k.pieces.cells.length),
    (F.UPDATE.PIECES_TOTAL, pieceTotal k.staged)].foldl (fun g f => g.set f.1 p f.2) h
  (List.range 16).foldl (fun g e =>
    g.set F.UPDATE.BITMAP p ((k.pieces.cells.filter (fun c => c.1 / 64 == e)).map (fun c => 2 ^ (c.1 % 64))).sum e) h1

/-- Changes a part's records and the fields with them. -/
def Hub.setPart (h : Hub) (p : Nat) (f : Part → Part) : Hub := (h.modPart p f).syncPart p

/-- The flash address of a part's inactive slot (R586). -/
def Hub.slotAddress (h : Hub) (p : Nat) : Nat :=
  let b := !h.on F.UPDATE.RUNNING_SLOT p
  match p with
  | 0 => if b then 0x500000 else 0x100000
  | 1 => if b then 0xA00000 else 0x900000
  | 2 => if b then 0xC00000 else 0xB00000
  | 3 => if b then 0xD80000 else 0xD00000
  | _ => if b then 0xE40000 else 0xE00000

/-! ### The switch record and the record ring (R532, R587) -/

/-- What the switch record says of the present state. -/
def Hub.switchContent (h : Hub) : SwitchCopy :=
  let ps := List.range 5
  { slots := ps.map (fun p => h.get F.UPDATE.RUNNING_SLOT p), floors := ps.map (fun p => (h.part p).floor),
    versions := ps.map (fun p => (hdrVersion (h.part p).running, hdrSec (h.part p).running, hdrVersion (h.part p).previous, hdrSec (h.part p).previous)),
    trial := (ps.map (fun p => ofB (h.part p).trial * 2 ^ p)).sum, groups := h.trialGroups,
    activation := h.activation.map (fun a => { order := a.order, group := a.group }), auto := h.get F.UPDATE.AUTO_CONFIRM 0 }

/-- A change writes the older copy with the next sequence. -/
def Hub.keepSwitch (h : Hub) : Hub :=
  let (a, b) := h.switchCopies
  let newest := max a.seq b.seq
  let now_ := h.switchContent
  if { now_ with seq := newest } == (if b.seq < a.seq then a else b) then h
  else { h with switchCopies := if b.seq < a.seq then (a, { now_ with seq := newest + 1 }) else ({ now_ with seq := newest + 1 }, b) }

/-- An entry is written into the record ring. -/
def Hub.ringWrite (h : Hub) (kind : Nat) (e : RingEntry) : Hub :=
  { h with ringSeq := h.ringSeq + 1, ring := h.ring.write (fun _ => (default, default)) kind ({ e with seq := h.ringSeq + 1 }, (h.ring.read (fun _ => (default, default)) kind).1) }.add
    F.SYSTEM.RING_WRITES 0 1

/-- A part's piece record (R531) is written. -/
def Hub.pieceRecord (h : Hub) (p : Nat) : Hub :=
  let k := h.part p
  h.ringWrite p { header := k.staged, held := k.pieces.cells.map (fun c => c.1), lastNet := k.lastNet, powered := k.powered }

/-! ### Pieces (R527–R531) -/

/-- A staged image is discarded: 1 replaced, 2 digest, 3 age, 4 abort, 5 flash. -/
def Hub.discardImage (h : Hub) (p cause : Nat) : Hub :=
  let v := hdrVersion (h.part p).staged
  if (h.part p).staged.isEmpty then h
  else (((h.setPart p (fun k => { k with staged := [], pieces := {}, ready := false, lastNet := none, powered := 0 })).disarm T.updateAge p)).notify 482
    (p + 1 + cause * 2 ^ 8 + v * 2 ^ 32)

/-- UPDATE_ACK (R528). -/
def Hub.updateAck (h : Hub) (ch : Chan) (seq part status index detail : Nat) : Hub :=
  let p := part - 1
  let known := 1 ≤ part && part ≤ 5
  let k := h.part p
  let total := if known then pieceTotal k.staged else 0
  let missing := ((List.range total).find? (fun i => (k.pieces.read (fun _ => []) i).isEmpty)).getD 0xFFFF
  let h1 := if known && 3 ≤ status && status ≤ 9 then h.add F.UPDATE.PIECES_REFUSED p 1 else h
  (h1.send ch 8 seq (leBytes 1 part ++ leBytes 1 status ++ leBytes 2 index ++ leBytes 2 (if known then k.pieces.cells.length else 0) ++ leBytes 2 total ++
    leBytes 4 (if known then hdrVersion k.staged else 0) ++ leBytes 2 missing ++ leBytes 1 detail ++ [0])).drainOut ch.ctx

/-- Whether a context may deliver pieces: it holds K2, or it is C4 in recovery (R524, R589). -/
def Hub.mayUpdate (h : Hub) (n : Nat) : Bool := h.holds n 2 || (h.get F.SYSTEM.START_STATE 0 == 4 && n == 4)

/-- Pieces of a context that await answers. -/
def Hub.piecesAwaiting (h : Hub) (n : Nat) : Nat :=
  ((List.range 5).map (fun p => ((h.part p).awaiting.filter (fun a => a.chan.ctx == n)).length)).sum

/-- Whether a part belongs to the activation under way. -/
def Hub.activating (h : Hub) (p : Nat) : Bool := match h.activation with | some a => bitB a.group p | none => false

/-- An UPDATE_PIECE is checked (R524, R526–R529); one that passes waits to be programmed. Without flash none is accepted (R539). -/
def Hub.updatePiece (h : Hub) (ch : Chan) (seq : Nat) (b : List Byte) : Hub :=
  let part := byteAt b 0
  let p := part - 1
  let n := leAt b 2 2
  let v := leAt b 4 4
  let data := b.drop 8
  let ack (g : Hub) (status detail : Nat) : Hub := g.updateAck ch seq part status n detail
  let k := h.part p
  let fits (hd : List Byte) : Bool := n < pieceTotal hd && data.length == min 4096 (hdrLength hd - 4096 * n)
  let wait (g : Hub) : Hub := g.modPart p (fun k => { k with awaiting := k.awaiting ++ [{ chan := ch, seq := seq, index := n, version := v, data := data }] })
  if !h.mayUpdate ch.ctx then ack h 4 0
  else if bitB (h.get F.SYSTEM.START_FAULTS 0) 7 then ack h 7 0
  else if b.length < 8 || part == 0 || 5 < part || 1 < byteAt b 1 then ack h 6 0
  else if h.activating p || 8 ≤ h.piecesAwaiting ch.ctx then ack h 9 0
  else if n == 0 then
    let hd := data.take 1024
    let same := !k.staged.isEmpty && hdrVersion hd == hdrVersion k.staged && (hd.drop 64).take 48 == (k.staged.drop 64).take 48
    if data.length < 1024 then ack h 6 0
    else if same && !(k.pieces.read (fun _ => []) 0).isEmpty then ack h 1 0
    else match h.headerFault p hd with
      | some d => ack (h.notify 480 (part + 16 + d * 2 ^ 8 + hdrVersion hd * 2 ^ 32)) 3 d
      | none =>
        if v != hdrVersion hd then ack h 5 0
        else if !fits hd then ack h 6 0
        else if same then wait h
        else
          -- The header is accepted: the inactive slot is erased with whatever it held.
          let h1 := (h.discardImage p 1).setPart p (fun k => { k with staged := hd, pieces := {}, ready := false, previous := [], prevDigest := [] })
          wait (h1.keepSwitch.notify 480 (part + hdrVersion hd * 2 ^ 32))
  else if k.staged.isEmpty then ack h 6 0
  else if v != hdrVersion k.staged then ack h 5 0
  else if !fits k.staged then ack h 6 0
  else if !(k.pieces.read (fun _ => []) n).isEmpty then ack h 1 0
  else wait h

def execUpdatePiece (ch : Chan) (msg : List Byte) (s : State) : Host.Outcome State Fault Refusal :=
  actIf (chanOk ch) s (fun h =>
    if bitB (byteAt msg 9) 0 then h else h.onControl ch msg 7 (fun g => g.updatePiece ch (ctlSeq msg) (ctlBody msg)))

/-- ABORT (R527). -/
def Hub.updateAbort (h : Hub) (ch : Chan) (seq : Nat) (b : List Byte) : Hub :=
  let part := byteAt b 0
  let ack (g : Hub) (status : Nat) : Hub := g.updateAck ch seq part status (leAt b 2 2) 0
  if !h.mayUpdate ch.ctx then ack h 4
  else if b.length != 8 || part == 0 || 5 < part || 1 < byteAt b 1 then ack h 6
  else if h.activating (part - 1) then ack h 9
  else ack (h.discardImage (part - 1) 4) 0x0A

def execUpdateAbort (ch : Chan) (msg : List Byte) (s : State) : Host.Outcome State Fault Refusal :=
  actIf (chanOk ch) s (fun h =>
    if bitB (byteAt msg 9) 0 then h.onControl ch msg 7 (fun g => g.updateAbort ch (ctlSeq msg) (ctlBody msg)) else h)

/-- The bytes of a staged image. -/
def Part.image (k : Part) : List Byte := (k.pieces.cells.map (fun c => c.2)).flatten

/-- The first waiting piece of a part has been programmed and read back, or flash has failed twice on it (R528, R530, R539). -/
def Hub.pieceProgrammed (h : Hub) (p : Nat) (ok : Bool) : Hub :=
  match (h.part p).awaiting with
  | [] => h
  | a :: rest =>
    let h0 := h.modPart p (fun k => { k with awaiting := rest })
    let k := h0.part p
    let ack (g : Hub) (status : Nat) : Hub := g.updateAck a.chan a.seq (p + 1) status a.index 0
    if k.staged.isEmpty then ack h0 6
    else if a.version != hdrVersion k.staged then ack h0 5
    else if !(k.pieces.read (fun _ => []) a.index).isEmpty then ack h0 1
    else if !ok then ack ((h0.notify 487 (h0.slotAddress p + 4096 * a.index)).discardImage p 5) 7
    else
      let net := if h0.on F.CLOCK.EVER_LOCKED 0 then some h0.networkInt else none
      let h1 := (((h0.setPart p (fun k => { k with pieces := k.pieces.write (fun _ => []) a.index a.data, lastNet := net, powered := 0, poweredAt := h0.now })).set
        F.UPDATE.LAST_PIECE p h0.now48).pieceRecord p).arm T.updateAge p (30 * 86400 * sec)
      let k1 := h1.part p
      if k1.pieces.cells.length < pieceTotal k1.staged then ack h1 0
      else if digest (k1.image.drop 1024) == (k1.staged.drop 64).take 48 then
        ack (((h1.setPart p (fun k => { k with ready := true })).disarm T.updateAge p).notify 481 (p + 1 + hdrVersion k1.staged * 2 ^ 32)) 2
      else ack (h1.discardImage p 2) 8

/-- How long a staged image has seen no piece, in ns (R531). -/
def Hub.inactive (h : Hub) (p : Nat) : Int :=
  let k := h.part p
  match k.lastNet, h.on F.CLOCK.EVER_LOCKED 0 with
  | some t, true => h.networkInt - t
  | _, _ => (k.powered + (h.now - k.poweredAt) : Nat)

/-- 30 days without a piece. -/
def Hub.updateAged (h : Hub) (p : Nat) : Hub :=
  let days : Int := (30 * 86400 * sec : Nat)
  let k := h.part p
  if k.staged.isEmpty || k.ready then h
  else if days ≤ h.inactive p then h.discardImage p 3
  else h.expire T.updateAge p (fun g => if days ≤ g.inactive p then g.discardImage p 3 else g.arm T.updateAge p (days - g.inactive p).toNat)

def execUpdateAgeDiscard (p : Nat) (s : State) : Host.Outcome State Fault Refusal :=
  actIf (decide (p < 5)) s (fun h => h.updateAged p)

/-- The powered times in the piece records are brought up to date (R531). -/
def Hub.updatePowered (h : Hub) : Hub :=
  let h0 := match h.due T.poweredTime 0 with | some t => h.advanceTo t | none => h
  let h1 := (List.range 5).foldl (fun g p =>
    if (g.part p).staged.isEmpty then g
    else (g.modPart p (fun k => { k with powered := k.powered + (g.now - k.poweredAt), poweredAt := g.now })).pieceRecord p) h0
  h1.arm T.poweredTime 0 (3600 * sec)

def execPoweredTimeUpdate (s : State) : Host.Outcome State Fault Refusal := act s (fun h => h.updatePowered)

/-! ### Activation orders (R533) -/

/-- Every arrangement of a list, in lexicographic order. -/
def arrangements : Nat → List Nat → List (List Nat)
  | 0, _ => [[]]
  | n + 1, xs => if xs.isEmpty then [[]] else (xs.map (fun x => (arrangements n (xs.erase x)).map (fun t => x :: t))).flatten

/-- The header a part's ARM would run, none when it is not there to run. -/
def Hub.armedImage (h : Hub) (p arm : Nat) : Option (List Byte) :=
  let k := h.part p
  if arm == 1 then (if k.ready then some k.staged else none)
  else if !k.previous.isEmpty && k.floor ≤ hdrSec k.previous then some k.previous
  else none

/-- Whether every part's image accepts every other part's version. -/
def allAccept (run : List (List Byte)) : Bool :=
  (List.range 5).all (fun p => (List.range 5).all (fun q => p == q || accepts (run.getD p []) q (hdrVersion (run.getD q []))))

/-- Whether the mixtures of an order are all valid. -/
def Hub.orderValid (h : Hub) (arms : Nat → Nat) : List Nat → List (List Byte) → Bool
  | [], _ => true
  | p :: t, run =>
    let next := run.set p ((h.armedImage p (arms p)).getD [])
    allAccept next && h.orderValid arms t next

/-- The first valid order of the armed parts in the preference PMF, LKF, DCF, KLB, SBF. -/
def Hub.activationOrder (h : Hub) (arms : Nat → Nat) : Option (List Nat) :=
  let armed := [3, 1, 2, 4, 0].filter (fun p => arms p != 0)
  (arrangements 5 armed).find? (fun o => h.orderValid arms o ((List.range 5).map (fun p => (h.part p).running)))

/-- Whether check 8 keeps ACTIVATE at 0. -/
def Hub.activateBarred (h : Hub) (arms : Nat → Nat) : Bool :=
  let armed := (List.range 5).filter (fun p => arms p != 0)
  armed.isEmpty || armed.any (fun p => (h.armedImage p (arms p)).isNone) || h.activation.isSome || (h.activationOrder arms).isNone

/-! ### Activation steps (R534, R535) -/

/-- The part being activated. -/
def Hub.stepPart (h : Hub) : Option (Nat × Nat) := match h.activation with | some a => a.order.head? | none => none

def Hub.modActivation (h : Hub) (f : Activation → Activation) : Hub := { h with activation := h.activation.map f }

/-- Link firmware takes the present landing: it is held, deferred, awaited or loads at once. -/
def Hub.lkfLanding (h : Hub) (l : Nat) : Hub :=
  let st := h.lState l
  let wait (g : Hub) (n : Nat) : Hub := g.modActivation (fun a => { a with landing := l, phase := n })
  if st == 5 || st == 6 then
    let h1 := h.exitIdle l
    if (h1.link l).swap.isSome then wait h1 1
    else if h1.oldRequest l then (wait h1 2).armOnce T.holdDefer l (30 * msec)
    else wait (h1.startHold l) 0
  else if st == 0 || st == 7 || st == 10 || st == 11 then wait h 0
  else (wait h 1).armOnce T.lkfAwait l (2 * sec)

/-- Whether link firmware waits for a landing in a given phase. -/
def Hub.lkfWaits (h : Hub) (l phase : Nat) : Bool :=
  match h.activation with
  | some a => a.phase == phase && a.landing == l && (a.order.head?.map (fun o => o.1)) == some 1
  | none => false

/-- An awaited landing that has left its exchange, or its swap, is taken. -/
def Hub.lkfCheck (h : Hub) (l : Nat) : Hub :=
  if h.lkfWaits l 1 && !([1, 2, 3, 4, 8].contains (h.lState l)) && (h.link l).swap.isNone then (h.disarm T.lkfAwait l).lkfLanding l else h

/-- A deferred HOLD starts: no request is old any more, or 30 ms have passed (R410). -/
def Hub.holdDeferEnd (h : Hub) (l : Nat) : Hub :=
  if !h.lkfWaits l 2 then h
  else
    let start := (h.due T.holdDefer l).getD h.now - 30 * msec
    let go (g : Hub) : Hub :=
      let us := min ((g.now - start) / usec) 65535
      let g1 := ((g.disarm T.holdDefer l).notify 283 (l + us * 2 ^ 16)).modActivation (fun a => { a with phase := 0 })
      if g1.lState l == 5 then g1.startHold l else g1
    if !h.oldRequest l then go h else h.expire T.holdDefer l go

def execHoldDeferEnd (l : Nat) (s : State) : Host.Outcome State Fault Refusal :=
  actIf (decide (l < 4)) s (fun h => h.holdDeferEnd l)

/-- A landing awaited for 2 s loads, and its exchange restarts from the beginning. -/
def Hub.lkfAwaitEnd (h : Hub) (l : Nat) : Hub :=
  let h0 := h.modActivation (fun a => { a with phase := 0 })
  match h.lState l with
  | 1 => (h0.modLink l (fun k => { k with helloTries := 0 })).sendHello l
  | 2 => h0.fullTraining l
  | 3 => h0.fullTraining l
  | 4 => ((h0.sendAuth l 5 (leBytes 1 8)).endExchange l).authFailed l 8
  | 8 => ((h0.activePairs l 1 ++ h0.activePairs l 2).foldl (fun g m => g.setPair l m 1) h0).sendTraining l
  | _ => h0

def execLkfLandingAwaitExpiry (l : Nat) (s : State) : Host.Outcome State Fault Refusal :=
  actIf (decide (l < 4)) s (fun h =>
    if h.lkfWaits l 1 then h.expire T.lkfAwait l (fun g => g.lkfAwaitEnd l) else h)

/-- The SHA-384 of the whole image a step runs. -/
def Hub.stepDigest (h : Hub) (p arm : Nat) : List Byte :=
  if arm == 1 then digest (h.part p).image else (h.part p).prevDigest

/-- The step of a part begins: the switch record, the measurement, and the part's pause. -/
def Hub.stepBegin (h : Hub) : Hub :=
  match h.stepPart with
  | none => h
  | some (p, arm) =>
    let h1 := h.keepSwitch.extendNow (p + 1) 1 (h.stepDigest p arm)
    match p with
    | 0 => { h1 with boxPaused := true }
    | 1 => h1.lkfLanding 0
    | 2 => h1.depotPause true
    | _ => h1

/-- The group ends (R534, R536). -/
def Hub.groupEnd (h : Hub) : Hub :=
  match h.activation with
  | none => h
  | some a =>
    let h1 := { h with activation := none, trialGroups := h.trialGroups ++ [a.group] }.keepSwitch
    let h2 := (List.range 5).foldl (fun g p => (if bitB a.group p then g.set F.UPDATE.ARM p 0 else g).syncPart p) h1
    let s := h2.get F.UPDATE.AUTO_CONFIRM 0
    (if s == 0 then h2 else h2.arm T.autoConfirm 0 (s * sec)).notify 484 a.group

/-- The switch record puts a part on its new slot, in trial. -/
def Hub.switchPart (h : Hub) (p arm : Nat) : Hub :=
  let d := h.stepDigest p arm
  let new (k : Part) : List Byte := if arm == 1 then k.staged else k.previous
  let h1 := h.modPart p (fun k =>
    let k1 := { k with running := new k, runDigest := d, previous := k.running, prevDigest := k.runDigest, trial := true }
    if arm == 1 then { k1 with staged := [], pieces := {}, ready := false } else k1)
  (h1.set F.UPDATE.RUNNING_SLOT p (1 - h1.get F.UPDATE.RUNNING_SLOT p)).add F.UPDATE.ACTIVATIONS p 1

/-- The power-manager firmware runs again (R480): retries that fell due in its pause enable, and the contract frames that waited are dealt with. -/
def Hub.pmfResumes (h : Hub) : Hub :=
  let h1 := (List.range 16).foldl (fun (g : Hub) n =>
    if g.get F.FEED.STATE n == 4 && (g.feed n).retryAt != 0 && (g.feed n).retryAt ≤ g.feedNow + 1 then g.feedRetry n else g) h
  h1.heldReqs.foldl (fun (g : Hub) r => if r.1 == 4 then g.budgetChanged else g.powerReq r.1 r.2.1 r.2.2) { h1 with heldReqs := [] }

/-- The step's part runs its new image: the switch record, NT_UPDATE_STEP, and the next step or the group's end. -/
def Hub.stepEnd (h : Hub) (p arm us : Nat) : Hub :=
  let h0 := (match p with | 0 => { h with boxPaused := false } | 2 => h.depotPause false | _ => h)
  let h2 := (h0.switchPart p arm).set F.UPDATE.LAST_PAUSE p us
  let h3 := ((h2.modActivation (fun a => { a with order := a.order.drop 1, landing := 0, phase := 0, longest := 0 })).keepSwitch.syncPart p).notify 483
    (p + 1 + 7 * 16 + min (us / 100) 65535 * 2 ^ 16)
  let h4 := if p == 3 then h3.pmfResumes else h3
  if h4.stepPart.isNone then h4.groupEnd else h4.stepBegin

/-- A part, or one landing's link firmware, has been loaded after a pause in µs. -/
def Hub.stepDone (h : Hub) (us : Nat) : Hub :=
  match h.activation, h.stepPart with
  | some a, some (p, arm) =>
    if p != 1 then h.stepEnd p arm us
    else if a.phase != 0 then h
    else
      let l := a.landing
      let h1 := ((h.endHold l).modActivation (fun a => { a with longest := max a.longest us })).notify 483 (2 + l * 16 + min (us / 100) 65535 * 2 ^ 16)
      if l < 3 then h1.lkfLanding (l + 1) else h1.stepEnd 1 arm (max a.longest us)
  | _, _ => h

/-- A committed ACTIVATE = 1. -/
def Hub.activate (h : Hub) : Hub :=
  let arms (p : Nat) : Nat := h.get F.UPDATE.ARM p
  let h0 := h.set F.UPDATE.ACTIVATE 0 0
  if h0.activateBarred arms then h0
  else match h0.activationOrder arms with
    | none => h0
    | some o =>
      let a : Activation := { order := o.map (fun p => (p, arms p)), group := (o.map (fun p => 2 ^ p)).sum }
      ((List.range 5).foldl (fun (g : Hub) p => g.syncPart p) { h0 with activation := some a }).stepBegin

/-! ### Trial (R536, R537) -/

/-- Every part in trial is confirmed. -/
def Hub.confirm (h : Hub) (auto : Bool) : Hub :=
  let ps := (List.range 5).filter (fun p => (h.part p).trial)
  let h0 := (h.set F.UPDATE.CONFIRM 0 0).disarm T.autoConfirm 0
  if ps.isEmpty then h0
  else
    let h1 := ps.foldl (fun g p => g.setPart p (fun k => { k with trial := false, floor := max k.floor (hdrSec k.running) })) h0
    ({ h1 with trialGroups := [] }.keepSwitch).notify 486 ((ps.map (fun p => 2 ^ p)).sum + ofB auto * 2 ^ 8)

def execAutoConfirmExpiry (s : State) : Host.Outcome State Fault Refusal :=
  act s (fun h => h.expire T.autoConfirm 0 (fun g => g.confirm true))

/-- The parts of every group in trial. -/
def Hub.trialMask (h : Hub) : Nat := h.trialGroups.foldl (fun m g => m ||| g) 0

/-- The parts of a group that run their new image. -/
def Hub.inTrial (h : Hub) (group : Nat) : List Nat :=
  (List.range 5).filter (fun p => bitB group p && (h.part p).trial && !(h.part p).previous.isEmpty)

/-- A part returns to its other slot (R537, R588). -/
def Hub.swapSlots (h : Hub) (p : Nat) : Hub :=
  ((h.set F.UPDATE.RUNNING_SLOT p (1 - h.get F.UPDATE.RUNNING_SLOT p)).add F.UPDATE.REVERTS p 1).setPart p (fun k =>
    { k with running := k.previous, runDigest := k.prevDigest, previous := k.running, prevDigest := k.runDigest, trial := false })

/-- Every part of a group that runs its new image returns to its previous slot (R537). NT_UPDATE_REVERTED, with cause 1 watchdog or
2 digest at start, is raised with the notices of the start. -/
def Hub.revertGroup (h : Hub) (group cause : Nat) : Hub :=
  let ps := h.inTrial group
  if ps.isEmpty then h
  else
    let h1 := ps.foldl (fun g p => g.swapSlots p) h
    { h1 with trialGroups := h1.trialGroups.filter (fun g => g &&& group == 0), activation := none, boxPaused := false, startRaises := h1.startRaises ++ [(485, (ps.map (fun p => 2 ^ p)).sum + cause * 2 ^ 8)] }

end Sys2Proof.Machine
end

