-- ==== Sys2Proof/Machine/Governor.lean ====
section
/-! DEFINITION. Sprint, the thermal model, the VCORE regulator, pace, the Ledger's audits and memory errors (R31, R542–R560), as far as no
context or power state changes with them. -/

namespace Sys2Proof.Machine

def Hub.modGov (h : Hub) (f : Governor → Governor) : Hub := { h with governor := f h.governor }

/-- A field of THERMAL instance 12. -/
def Hub.gov (h : Hub) (f : Fld) : Nat := h.get f 12
def Hub.setGov (h : Hub) (f : Fld) (v : Nat) : Hub := h.set f 12 v

/-- Local time in ns as an integer. -/
def Hub.nowI (h : Hub) : Int := (h.now : Int)

/-- A temperature of the model in 0.1 °C. -/
def tenths (t : Int) : Int := t * 10 / 2 ^ 32
/-- A temperature in 0.1 °C as the model holds it. -/
def fromTenths (t : Int) : Int := t * 2 ^ 32 / 10

/-- Writes a temperature field in its range. -/
def Hub.setTemp (h : Hub) (f : Fld) (i : Nat) (t : Int) : Hub := h.setI f i (clampInt (-550) 1500 t)

/-! ### Sensors -/

/-- The valid sensors. -/
def Hub.validSensors (h : Hub) : List Nat := (List.range 12).filter (fun k => h.get F.THERMAL.SENSOR_STATE k == 0)

/-- T_hot in 0.1 °C: the hottest valid sensor, none without one. -/
def Hub.hottest (h : Hub) : Option Int :=
  match h.validSensors with
  | [] => none
  | k :: t => some (t.foldl (fun m s => max m (h.getI F.THERMAL.TEMP s)) (h.getI F.THERMAL.TEMP k))

/-- Sets or clears a bit of BARRED. -/
def Hub.bar (h : Hub) (i : Nat) (b : Bool) : Hub := h.setGov F.THERMAL.BARRED (putBit (h.gov F.THERMAL.BARRED) i b)

/-! ### VCORE (R29, R31, R555) -/

/-- The voltage in mV at a moment of a ramp of 10 mV/µs; before the first target it is what the on-die sense reads of the regulator's default
(R30). -/
def Hub.vcore (h : Hub) : Nat :=
  let r := h.governor
  let moved := ((h.nowI - r.rampAt) / 100).toNat
  let target := h.gov F.THERMAL.VCORE_TARGET
  if target == 0 then h.gov F.THERMAL.VCORE_SENSE
  else if r.rampFrom ≤ target then min target (r.rampFrom + moved) else max target (r.rampFrom - moved)

/-- The regulator is commanded 10 mV above the target (R596). -/
def Hub.commandVcore (h : Hub) : Hub := h.emit .avs 0 (leBytes 2 (h.gov F.THERMAL.VCORE_TARGET + 10))

/-- A new target: the ramp starts from the present voltage. -/
def Hub.requestVcore (h : Hub) (mv : Nat) : Hub :=
  let v := h.vcore
  if h.gov F.THERMAL.VCORE_TARGET == mv then h
  else ((h.modGov (fun r => { r with rampFrom := v, rampAt := h.nowI, avsTries := 0 })).setGov F.THERMAL.VCORE_TARGET mv).commandVcore.arm T.vcoreRamp 0
    (100 * ((if v ≤ mv then mv - v else v - mv)))

/-- The target when no Sprint runs (R29): floor pace in Desk Standby and under a thermal limit (R560), but at least 0.80 V while the pace has
been below floor (R31). -/
def Hub.restVcore (h : Hub) : Nat :=
  if bitB (h.gov F.THERMAL.BARRED) 3 then 800
  else if h.get F.SYSTEM.POWER_STATE 0 == 1 || bitB (h.gov F.THERMAL.BARRED) 5 then 760 else 800

/-! ### Sprint (R555–R559) -/

/-- Whether Sprint runs or ramps up. -/
def Hub.sprinting (h : Hub) : Bool := h.gov F.THERMAL.SPRINT_STATE == 1 || h.gov F.THERMAL.SPRINT_STATE == 2

/-- NT_SPRINT. -/
def Hub.noteSprint (h : Hub) (start : Bool) (cause ms : Nat) : Hub :=
  h.notify 493 (ofB start + cause * 2 ^ 8 + encInt 16 (tenths h.governor.predicted) * 2 ^ 16 + min ms (2 ^ 32 - 1) * 2 ^ 32)

/-- Sprint ends: its charge is trued to the seconds run, and VCORE ramps down (R555, R559). -/
def Hub.endSprint (h : Hub) (cause : Nat) : Hub :=
  if !h.sprinting then h
  else
    let r := h.governor
    let ms := ((h.nowI - r.since) / 1000000).toNat
    let h1 := (h.setGov F.THERMAL.SPRINT_LIFETIME (min 7200000 (r.before + (ms + 999) / 1000))).disarm T.sprintCharge 0
    let h2 := (h1.setGov F.THERMAL.SPRINT_STATE 3).modGov (fun r => { r with byTemp := cause == 2 || cause == 3, windows := 0 })
    (h2.requestVcore h2.restVcore).noteSprint false cause ms

/-- The wear limit (R559). -/
def Hub.sprintWorn (h : Hub) : Hub :=
  if h.gov F.THERMAL.SPRINT_LIFETIME < 7200000 then h
  else
    let h1 := h.endSprint 6
    ((h1.setGov F.THERMAL.SPRINT_LIFETIME 7200000).bar 2 true).notify 494 7200000

/-- Charges 60 s more in advance. -/
def Hub.chargeSprint (h : Hub) : Hub :=
  (((h.setGov F.THERMAL.SPRINT_LIFETIME (min 7200000 (h.gov F.THERMAL.SPRINT_LIFETIME + 60))).ringWrite 5 { life := min 7200000 (h.gov F.THERMAL.SPRINT_LIFETIME + 60) }).arm T.sprintCharge 0 (60 * sec)).sprintWorn

/-- Sprint starts. -/
def Hub.startSprint (h : Hub) : Hub :=
  let h1 := h.modGov (fun r => { r with since := h.nowI, before := h.gov F.THERMAL.SPRINT_LIFETIME, byTemp := false })
  let h2 := (((h1.setGov F.THERMAL.SPRINT_STATE 1).add F.THERMAL.SPRINTS 12 1).requestVcore 920).noteSprint true 0 0
  h2.chargeSprint

/-- A demand window (R555): whether a best-effort message waited more than 100 µs in it. -/
def Hub.demandWindow (h0 : Hub) (waited : Bool) : Hub :=
  let h1 := (match h0.due T.sprintWindow 0 with | some t => h0.advanceTo t | none => h0).arm T.sprintWindow 0 (100 * usec)
  let h := h1.modGov (fun r => { r with windows := if waited then r.windows + 1 else 0, waitedAt := if waited then h1.nowI else r.waitedAt })
  let limit := (h.gov F.THERMAL.TJ_LIMIT - (if h.governor.byTemp then h.gov F.THERMAL.REENTRY_MARGIN else 0) : Nat)
  if h.gov F.THERMAL.SPRINT_STATE == 0 && h.on F.THERMAL.SPRINT_ENABLE 12 && h.gov F.THERMAL.BARRED == 0 && 10 ≤ h.governor.windows &&
      h.governor.predicted < (limit : Int) * 2 ^ 32 then h.startSprint
  else h

def execSprintDemandWindow (waited : Bool) (s : State) : Host.Outcome State Fault Refusal := act s (fun h => h.demandWindow waited)

def execVcoreRampDone (s : State) : Host.Outcome State Fault Refusal :=
  act s (fun h => h.expire T.vcoreRamp 0 (fun g0 =>
    let g := g0.modGov (fun r => { r with avsTries := 0 })
    match g.gov F.THERMAL.SPRINT_STATE with
    | 1 => g.setGov F.THERMAL.SPRINT_STATE 2
    | 3 => g.setGov F.THERMAL.SPRINT_STATE 0
    | _ => g))

def execSprintLifetimeCharge (s : State) : Host.Outcome State Fault Refusal :=
  act s (fun h => if h.sprinting then h.expire T.sprintCharge 0 (fun g => g.chargeSprint) else h)

/-! ### The governor's tick (R554, R555, R557) -/

/-- The thermal model over 1 ms with power P in mW. -/
def Hub.thermalModel (h : Hub) (p : Nat) : Hub :=
  let r := h.governor
  let rise (mw : Nat) (f : Fld) : Int := ((mw * h.gov f : Nat) : Int) * 2 ^ 32 / 1000000
  let tf := h.gov F.THERMAL.TAU_FAST
  let ts := 1000 * h.gov F.THERMAL.TAU_SLOW
  let fast := r.fast + (rise p F.THERMAL.RTH_FAST - r.fast) / tf
  let slow := r.slow + (rise p F.THERMAL.RTH_SLOW - r.slow) / ts
  let j := r.ambient + fast + slow
  let hot := h.hottest.map fromTenths
  let a := match hot with | some t => r.ambient + (t - j) / 1000 | none => r.ambient
  let ps := if h.sprinting then p else p + 6000
  let part (now_ : Int) (f : Fld) (tau : Nat) : Int := rise ps f + (now_ - rise ps f) * (Config.decay tau : Int) / 2 ^ 32
  let pred0 := a + part fast F.THERMAL.RTH_FAST tf + part slow F.THERMAL.RTH_SLOW ts
  let pred := match hot with | some t => max pred0 t | none => pred0
  let h1 := h.modGov (fun r => { r with fast := fast, slow := slow, ambient := a, predicted := pred })
  let h2 := ((h1.setTemp F.THERMAL.TEMP 12 (tenths j)).setTemp F.THERMAL.AMBIENT_EST 12 (tenths a)).setTemp F.THERMAL.PREDICTED 12 (tenths pred)
  (h2.setTemp F.THERMAL.TEMP_MAX 12 (max (h.getI F.THERMAL.TEMP_MAX 12) (tenths j))).setGov F.THERMAL.POWER (min p 40000)

/-- The pace counters: 16 Yard lanes, 8 Shunters, the Signal Box, 4 heads (R30, R31). -/
def Hub.paces (h : Hub) (ps : List Nat) : Hub :=
  let at_ (i : Nat) : Nat := min (ps.getD i 0) 65535
  let h1 := (List.range 16).foldl (fun g i => g.set F.THERMAL.PACE_YARD 12 (at_ i) i) h
  let h2 := (List.range 8).foldl (fun g i => g.set F.THERMAL.PACE_SHUNTER 12 (at_ (16 + i)) i) h1
  let h3 := (List.range 4).foldl (fun g i => g.set F.THERMAL.PACE_COMPOSITOR 12 (at_ (25 + i)) i) (h2.setGov F.THERMAL.PACE_SIGNAL_BOX (at_ 24))
  let low := (ps.take 16).foldl min 65535
  let old := h.gov F.THERMAL.PACE_YARD_MIN
  let h4 := h3.setGov F.THERMAL.PACE_YARD_MIN (if old == 0 then low else min old low)
  if low < 937 then (h4.armOnce T.paceLow 0 msec).disarm T.paceGood 0
  else (h4.disarm T.paceLow 0).armOnce T.paceGood 0 sec

/-- The bars whose reason has passed are lifted, and those that follow a state follow it (R557). -/
def Hub.lift (h : Hub) : Hub :=
  let h1 := match h.due T.coldStart 0 with
    | some t => if t ≤ h.now then (h.disarm T.coldStart 0).bar 0 false else h
    | none => h
  let h2 := match h1.due T.paceGood 0 with
    | some t => if t ≤ h1.now then h1.bar 3 false else h1
    | none => h1
  let h3 := if h2.validSensors.all (fun k => h2.getI F.THERMAL.TEMP k < 1000) then h2.bar 5 false else h2
  let h4 := (h3.bar 4 (h3.validSensors.length < 10)).bar 6 (!h3.on F.THERMAL.SPRINT_ENABLE 12)
  if !h4.sprinting && h4.gov F.THERMAL.SPRINT_STATE == 0 && h4.gov F.THERMAL.VCORE_TARGET != 0 then h4.requestVcore h4.restVcore else h4

/-- Whether Sprint ends at this evaluation, and why (R555). -/
def Hub.sprintOver (h : Hub) : Option Nat :=
  let tj := h.gov F.THERMAL.TJ_LIMIT
  let sensor := h.validSensors.any (fun k => ((10 * tj : Nat) : Int) ≤ h.getI F.THERMAL.TEMP k)
  if !h.sprinting then none
  else if h.governor.waitedAt + 100000000 ≤ h.nowI then some 1
  else if (tj : Int) * 2 ^ 32 ≤ h.governor.predicted then some 2
  else if sensor then some 3
  else if !h.on F.THERMAL.SPRINT_ENABLE 12 then some 5
  else if h.gov F.THERMAL.BARRED != 0 then some 4
  else none

/-- NT_AVS_FAULT with Sprint barred. -/
def Hub.avsFault (h : Hub) (cause : Nat) : Hub :=
  ((h.bar 1 true).notify 498 (cause + h.gov F.THERMAL.VCORE_SENSE * 2 ^ 16 + h.gov F.THERMAL.VCORE_READBACK * 2 ^ 32)).endSprint 4

/-- Whether the regulator's readback lies more than 20 mV from the on-die sense (R31). -/
def readbackOff (sense readback : Nat) : Bool := sense + 20 < readback || readback + 20 < sense

/-- One evaluation: power in mW, the on-die sense and the regulator's readback in mV, and the pace counters. A readback that has come to differ
from the sense is a fault of the regulator (R31). -/
def Hub.governorTick (h0 : Hub) (power sense readback : Nat) (ps : List Nat) : Hub :=
  let h := (match h0.due T.governor 0 with | some t => h0.advanceTo t | none => h0).arm T.governor 0 msec
  let p := if h.stepPart.map (fun o => o.1) == some 3 then h.gov F.THERMAL.POWER + 2000 else power
  let off := readbackOff (h.gov F.THERMAL.VCORE_SENSE) (h.gov F.THERMAL.VCORE_READBACK)
  let h0 := ((h.setGov F.THERMAL.VCORE_SENSE (min sense 1000)).setGov F.THERMAL.VCORE_READBACK (min readback 1000)).paces ps
  let h1 := if readbackOff sense readback && !off then h0.avsFault 3 else h0
  let h2 := (h1.thermalModel p).lift
  let h3 := match h2.sprintOver with | some c => h2.endSprint c | none => h2
  -- SPRINT_REMAINING: the spec states no formula.
  if h3.sprinting then h3.drawn.setGov F.THERMAL.SPRINT_REMAINING (h3.freeVal % 2 ^ 32) else h3.setGov F.THERMAL.SPRINT_REMAINING 0

def execGovernorTick (power sense readback : Nat) (paces : List Nat) (s : State) : Host.Outcome State Fault Refusal :=
  act s (fun h => h.governorTick power sense readback paces)

/-! ### Sensors sampled (R558, R560) -/

/-- Whether a reading lies more than 25 °C from the median of all twelve. -/
def Hub.farFromMedian (h : Hub) (r : Int) : Bool :=
  let all := ((List.range 12).map (fun k => h.getI F.THERMAL.TEMP k)).foldl (fun l x => (l.filter (fun y => decide (y ≤ x))) ++ [x] ++ l.filter (fun y => decide (x < y))) []
  let twice := all.getD 5 0 + all.getD 6 0
  decide (500 < (2 * r - twice).natAbs)

/-- A reading in 0.1 °C. -/
def Hub.sample (h : Hub) (k : Nat) (r : Int) : Hub :=
  let h1 := (h.setTemp F.THERMAL.TEMP k r).setTemp F.THERMAL.TEMP_MAX k (max (h.getI F.THERMAL.TEMP_MAX k) r)
  let out := r < -550 || 1500 < r
  let far := h1.farFromMedian r
  let z : Nat → Nat := fun _ => 0
  let mark (t : Table Nat) (b : Bool) : Table Nat := if b then (if t.read z k == 0 then t.write z k (h.now + 1) else t) else t.write z k 0
  let h2 := h1.modGov (fun g => { g with far := mark g.far far, near := mark g.near (!out && !far) })
  let g := h2.governor
  let held (t : Table Nat) (d : Nat) : Bool := t.read z k != 0 && t.read z k - 1 + d ≤ h.now
  let code := encInt 16 (clampInt (-32768) 32767 r) * 2 ^ 16
  let h3 :=
    if h2.get F.THERMAL.SENSOR_STATE k == 0 then
      (if out || held g.far (100 * msec) then (h2.set F.THERMAL.SENSOR_STATE k 1).notify 496 (k + 16 + code) else h2)
    else if held g.near (10 * sec) then (h2.set F.THERMAL.SENSOR_STATE k 0).notify 496 (k + code) else h2
  let valid := h3.get F.THERMAL.SENSOR_STATE k == 0
  let h4 := h3.modGov (fun g => { g with hot := mark g.hot (valid && 1100 < r), reported := if valid && 1100 < r then g.reported else g.reported.write (fun _ => false) k false })
  let h5 :=
    if held h4.governor.hot msec && !h4.governor.reported.read (fun _ => false) k then
      let g1 := (h4.modGov (fun g => { g with reported := g.reported.write (fun _ => false) k true })).notify 495 (k + code)
      let g2 := (g1.bar 5 true).endSprint 4
      g2.requestVcore g2.restVcore
    else h4
  if valid && 1250 ≤ r then h5.armOnce T.shutdown k (10 * msec) else h5.disarm T.shutdown k

def execThermalSensorSample (k : Nat) (reading : Int) (s : State) : Host.Outcome State Fault Refusal :=
  actIf (decide (k < 12)) s (fun h => h.sample k reading)

/-! ### Pace and the regulator (R31) -/

def execPaceBelowFloor (s : State) : Host.Outcome State Fault Refusal :=
  act s (fun h => h.expire T.paceLow 0 (fun g =>
    let at_ (i : Nat) : Nat := g.get F.THERMAL.PACE_YARD 12 i
    let lane := (List.range 16).foldl (fun b i => if at_ i < at_ b then i else b) 0
    let g1 := ((g.bar 3 true).notify 497 (lane + at_ lane * 2 ^ 16)).endSprint 4
    if g1.gov F.THERMAL.VCORE_TARGET < 800 then g1.requestVcore 800 else g1))

def execAvsStartAbsent (s : State) : Host.Outcome State Fault Refusal := act s (fun h => h.avsFault 1)

/-- A command not acknowledged, or its voltage not reached: retried 3 times. -/
def execAvsCommandTimeout (s : State) : Host.Outcome State Fault Refusal :=
  act s (fun h => if h.governor.avsTries < 3 then (h.modGov (fun g => { g with avsTries := g.avsTries + 1 })).commandVcore
    else (h.modGov (fun g => { g with avsTries := 0 })).avsFault 2)

def execAvsReadbackFault (sense readback : Nat) (s : State) : Host.Outcome State Fault Refusal :=
  act s (fun h => if readbackOff sense readback then
    ((h.setGov F.THERMAL.VCORE_SENSE (min sense 1000)).setGov F.THERMAL.VCORE_READBACK (min readback 1000)).avsFault 3 else h)

/-- The sense above 0.95 V while the target is lower: 0.80 V, and Sprint is barred. -/
def execVcoreOvervoltage (sense : Nat) (s : State) : Host.Outcome State Fault Refusal :=
  act s (fun h => if 950 < sense && h.gov F.THERMAL.VCORE_TARGET < sense then
    (((h.setGov F.THERMAL.VCORE_SENSE (min sense 1000)).bar 1 true).endSprint 4).requestVcore 800 else h)

/-! ### Memory errors (R551, R553) -/

/-- A Depot page is retired: its content moves to a free page, if there is one. -/
def Hub.retirePage (h : Hub) (head page : Nat) : Hub :=
  let free := 64 ≤ h.depotFree head
  let h1 := if free then { h with retired := h.retired.write (fun _ => 0) head (h.retired.read (fun _ => 0) head + 1) }.add F.THERMAL.PAGES_RETIRED 12 1 else h
  h1.notify 499 (head + page * 4 + ofB (!free) * 2 ^ 24)

/-- A corrected error; 16 on one Depot page within 24 h retire it. -/
def Hub.eccCorrected (h : Hub) (memory head page : Nat) : Hub :=
  let h1 := (h.add F.THERMAL.ECC_CORRECTED 12 1).notify 490 (memory + 2 ^ 32)
  if memory != 6 then h1
  else
    let k := head * 2 ^ 14 + page
    let seen := (h1.governor.pageErrors.read (fun _ => []) k).filter (fun t => h.now < t + 86400 * sec) ++ [h.now]
    let put (l : List Nat) (g : Hub) : Hub := g.modGov (fun r => { r with pageErrors := r.pageErrors.write (fun _ => []) k l })
    if 16 ≤ seen.length then (put [] h1).retirePage head page else put seen h1

def execEccCorrectedError (memory head page : Nat) (s : State) : Host.Outcome State Fault Refusal :=
  actIf (decide (1 ≤ memory ∧ memory ≤ 6 ∧ head < 4 ∧ page < 16384)) s (fun h => h.eccCorrected memory head page)

/-- A message inside the Yard is discarded for an error in its cells: counted in FLUSHED of its egress port, its credits returned, a posted write
logged and a non-posted storage request answered with Completer Abort (R544, R551). -/
def Hub.loseMessage (h : Hub) (id : Nat) (abort : Bool) : Hub :=
  let leaf := h.yard.leaves.cells.find? (fun c => c.2.any (fun e => e.id == id))
  let voq := h.yard.voqs.cells.find? (fun c => c.2.any (fun d => d.id == id))
  let pkt : Option Pkt := match leaf with
    | some c => (c.2.find? (fun e => e.id == id)).map (fun e => e.pkt)
    | none => (h.yard.slices.find? (fun s => s.id == id)).map (fun s => s.pkt)
  let port := match leaf, voq with
    | some c, _ => c.1 / 128
    | none, some c => c.1 / 8 % 16
    | none, none => 0
  match pkt with
  | none => h
  | some p =>
    let h1 := if (port == 4 || port == 5) && p.cls == 2 then
        let g := h.storageLost (port - 4) p
        match (g.slot (port - 4)).down.find? (fun r => r.l == p.port && reqKey r.hdr == reqKey (storageTlp p.bytes)) with
        | some r => if abort then g.abortReq (port - 4) r else g
        | none => g
      else h
    (h1.add F.YARDPORT.FLUSHED port 1).modYard (fun y => { y with
      leaves := ⟨(y.leaves.cells.map (fun c => (c.1, c.2.filter (fun e => e.id != id)))).filter (fun c => !c.2.isEmpty)⟩,
      voqs := ⟨(y.voqs.cells.map (fun c => (c.1, c.2.filter (fun d => d.id != id)))).filter (fun c => !c.2.isEmpty)⟩,
      slices := y.slices.filter (fun s => s.id != id) })

/-! ### The Ledger (R544–R546, R564) -/

/-- The terms of an audited sum as they stand. -/
def Hub.ledgerTerms (h : Hub) (i : Nat) : List Nat :=
  let kinds (t : Nat) (p : Nat → Bool) : Nat := (h.yard.routes.cells.filter (fun c => entryType c.2 == t && p c.2)).length
  if i < 4 then
    let k := h.link i
    let acc := (List.range 8).map (fun c => k.taken.read (fun _ => 0) c)
    let held := (List.range 8).map (fun c => h.heldFlits i c)
    acc ++ (acc.zip held).map (fun p => (p.1 + 2 ^ 32 - p.2) % 2 ^ 32) ++ held
  else if i == 4 then
    let inVoq := ((List.range 16).map (fun y => h.yard.sliceCells y)).sum
    let inLeaf := ((List.range 16).map (fun y => h.yard.portCells y)).sum
    let flying := (h.yard.flight.map (fun f => f.reserve + f.shared)).sum
    [65536 - inVoq, inVoq, 0, 262144 - inLeaf - flying, inLeaf, flying]
  else if i == 5 then
    (List.range 6).map (fun n => ((List.range 64).filter (fun k => h.holds n k)).length) ++ [((List.range 64).filter (fun k => 6 ≤ h.holder k)).length]
  else if i < 10 then
    let pages (st : Nat) : Nat := ((List.range 1024).map (fun s =>
      if h.get F.SURFACE.STATE s == st && h.get F.SURFACE.HEAD s == i - 6 then h.get F.SURFACE.SIZE s / 64 else 0)).sum
    [h.depotFree (i - 6) / 64, pages 1, pages 2, 128, h.retired.read (fun _ => 0) (i - 6)]
  else if i < 26 then [h.get F.FEED.ENERGY (i - 10), (h.feed (i - 10)).samples, h.feedEvals]
  else if i == 26 then
    let sums (f : NoticeRec → Nat) (n : Nat) : Nat := ((h.pend.cells.filter (fun c => c.1 / 512 == n)).map (fun c => f c.2)).sum
    let pend := (List.range 6).map (sums (fun r => r.count))
    let ring := (List.range 6).map (fun n => ((h.ctx n).ring.map (fun r => r.count)).sum)
    let done := (List.range 6).map (fun n => h.delivered.read (fun _ => 0) n)
    ((pend.zip ring).zip done).map (fun p => p.1.1 + p.1.2 + p.2) ++ done ++ pend ++ ring
  else if i == 27 then
    ((List.range 6).map (fun n =>
      let out := ([0, 1].map (fun s => ((h.slot s).posted.filter (fun w => w.ctx == n)).length)).sum
      let far := ((List.range 6).map (fun b => ((h.farBus b).queue.filter (fun a => a.posted && a.ctx == n)).length +
        (match (h.farBus b).job with | some (.access a) => ofB (a.posted && a.ctx == n) | _ => 0))).sum
      let bad := h.get F.CONTEXT.PFL_HEAD n + h.get F.CONTEXT.PFL_OVERFLOW n
      let done := h.postedDone.read (fun _ => 0) n
      [done + bad + out + far, done, bad, out + far])).flatten
  else if i == 28 then [h.get F.FEED.CHARGE_BUDGET 0, h.get F.FEED.ALLOTTED 0] ++ (List.range 4).map (fun l => (h.contract l).allotted)
  else if i == 29 then
    [h.freeRoutes, kinds 1 (fun _ => true), kinds 2 (fun e => bitB e 4), kinds 2 (fun e => !bitB e 4), 16 + kinds 3 (fun _ => true)]
  else if i == 30 then
    let sum (f : Nat → Nat) : Nat := ((List.range 1024).map (fun s => if h.get F.SURFACE.STATE s == 0 then 0 else f s)).sum
    [sum (fun s => h.get F.SURFACE.REFS s), sum h.ownerRefs, sum h.layerRefs, sum h.presentRefs, sum h.cloneRefs, sum h.copyRefs]
  else []

/-- An audit: errors names the sums that a fault has put wrong, with the TERM element and the discrepancy read. -/
def Hub.audit (h0 : Hub) (errors : List (Nat × Nat × Int)) : Hub :=
  let h := (match h0.due T.ledger 0 with | some t => h0.advanceTo t | none => h0).arm T.ledger 0 msec
  (List.range 31).foldl (fun g i =>
    let terms := g.ledgerTerms i
    let err := errors.find? (fun e => e.1 == i)
    let shown : List Nat := match err with
      | some (_, e, d) => terms.zipIdx.map (fun t => if t.2 == e then ((t.1 : Int) + d).toNat else t.1)
      | none => terms
    let g1 := (shown.zipIdx.foldl (fun g t => g.set F.LEDGER.TERM i t.1 t.2) g).add F.LEDGER.AUDITS i 1
    let calm := g1.get F.LEDGER.STATE i == 3 && g1.get F.LEDGER.LAST_MISMATCH i + 600 * sec ≤ g1.now
    let g2 := if calm then g1.set F.LEDGER.STATE i 1 else g1
    match err with
    | some (_, e, d) =>
      ({ g2 with ledger := { g2.ledger with failed := g2.ledger.failed.write (fun _ => none) i (some (e, d)) } }).arm T.ledgerReread i (10 * usec)
    | none => g2) h

def execLedgerAudit (errors : List (Nat × Nat × Int)) (s : State) : Host.Outcome State Fault Refusal := act s (fun h => h.audit errors)

/-- NT_LEDGER_FAULT. -/
def Hub.ledgerFault (h : Hub) (i cause : Nat) (d : Int) : Hub :=
  ((h.set F.LEDGER.STATE i 3).add F.LEDGER.FAULTS i 1).notify 489 (i + cause * 2 ^ 8 + encInt 32 d * 2 ^ 16)

/-- The second read: whether the sum still fails. An energy integrator is never recounted: without a majority it goes on (R545). -/
def execLedgerReread (i : Nat) (fails : Bool) (s : State) : Host.Outcome State Fault Refusal :=
  actIf (decide (i < 31)) s (fun h => h.expire T.ledgerReread i (fun g =>
    match g.ledger.failed.read (fun _ => none) i with
    | none => g
    | some (e, d) =>
      let l := { g.ledger with failed := g.ledger.failed.write (fun _ => none) i none }
      if !fails then { g with ledger := l }
      else
        let g1 := (((({ g with ledger := { l with correcting := l.correcting.write (fun _ => none) i (some (e, d)) } }).add F.LEDGER.MISMATCHES i 1).set
          F.LEDGER.STATE i 2).set F.LEDGER.LAST_MISMATCH i g.now48).setI F.LEDGER.LAST_DELTA i d
        if 10 ≤ i && i < 26 then
          ({ g1 with ledger := { g1.ledger with correcting := g1.ledger.correcting.write (fun _ => none) i none } }).ledgerFault i 1 d
        else g1))

/-- A recount ends after a pause in µs (R544, R546). -/
def Hub.recounted (h : Hub) (i pause : Nat) : Hub :=
  match h.ledger.correcting.read (fun _ => none) i with
  | none => h
  | some (e, d) =>
    let us := min pause 1000
    let seen := ((h.ledger.corrected.read (fun _ => []) i).filter (fun t => h.now < t + 60 * sec)) ++ [h.now]
    let l := { h.ledger with correcting := h.ledger.correcting.write (fun _ => none) i none, corrected := h.ledger.corrected.write (fun _ => []) i seen }
    let h1 := ((({ h with ledger := l }).set F.LEDGER.STATE i 1).add F.LEDGER.CORRECTIONS i 1).set F.LEDGER.LAST_PAUSE i us
    let h2 := h1.notify 488 (i + e * 2 ^ 8 + encInt 32 d * 2 ^ 16 + us * 2 ^ 48)
    if 3 ≤ seen.length then h2.ledgerFault i 2 d else h2

/-! ### Stalled ports (R550) -/

/-- Whether a port has an eligible leaf. -/
def Hub.portEligible (h : Hub) (port : Nat) : Bool :=
  h.yard.leaves.cells.any (fun c => c.1 / 128 == port && (h.leafChild c.1).isSome)

/-- The Ledger watches a port that could send; 100 ms without a cell take it down. -/
def Hub.portStall (h : Hub) (port : Nat) : Hub :=
  let out := h.get F.YARDPORT.CELLS_OUT port
  let watch (g : Hub) : Hub := (g.modYard (fun y => { y with stallMark := y.stallMark.write (fun _ => 0) port (out + 1) })).arm T.portStall port (100 * msec)
  if h.get F.YARDPORT.UP port == 0 || !h.portEligible port then h.disarm T.portStall port
  else if (h.due T.portStall port).isNone || h.yard.stallMark.read (fun _ => 0) port != out + 1 then watch h
  else h.expire T.portStall port (fun g =>
    let g1 := (g.modYard (fun y => { y with stalled := y.stalled.write (fun _ => false) port true })).notify 492 (port + 16)
    if port == 6 then (g1.unitDown 6 1).unitDown 6 2 |>.unitDown 6 0 else g1.unitDown port 0)

def execPortStall (port : Nat) (s : State) : Host.Outcome State Fault Refusal :=
  actIf (decide (port < 16)) s (fun h => h.portStall port)

end Sys2Proof.Machine
end

