-- ==== Sys2Proof/Machine/Tokens.lean ====
section
/-! DEFINITION. Token moves with what follows them, the passing of K0, AUTH success and loss, and contexts coming up and resetting (R33–R40,
R126, R146–R149, R583). -/

namespace Sys2Proof.Machine

/-! ### Moves (R149, R163) -/

/-- What a resource does when its token has moved from a holder. -/
def Hub.tokenFollows (h : Hub) (k old : Nat) : Hub :=
  if k == 1 then h.clockToken
  else if 3 ≤ k && k < 11 then h.usbTokenMoved (k - 3) old
  else if k == 11 || k == 12 then h.slotMoved (k - 11) old
  else if 13 ≤ k && k < 45 then h.layerMoved (k - 13)
  else if 45 ≤ k && k < 51 then h.farTokenMoved (k - 45) old
  else h

/-- NT_SYSTEM_START, once K0 has a holder (R591), and with it the notices of the start that waited for one (R579). -/
def Hub.noteStart (h : Hub) : Hub :=
  if h.startNoted || h.holder 0 == 0xF then h
  else
    let h1 := ({ h with startNoted := true, startRaises := [] }).notify 508
      (h.get F.SYSTEM.RESET_CAUSE 0 + h.get F.SYSTEM.START_FAULTS 0 * 2 ^ 8 + h.get F.SYSTEM.BOOT_TIME 0 * 2 ^ 16)
    h.startRaises.foldl (fun g r => g.notify r.1 r.2) h1

/-- A token moves to a holder code; acting is the context of a YIELD, 0xE a FORCE, 0xF the device. A context that takes a token by its own OWN
receives no Notice of it, not of the loss either (R149); the raises count as any other (R163). -/
def Hub.moveToken (h : Hub) (k new acting : Nat) (own : Bool) : Hub :=
  let old := h.holder k
  if old == new then h
  else
    let pay := k + old * 2 ^ 8 + new * 2 ^ 12 + acting * 2 ^ 16
    let h1 := (({ h with replayTokens := h.replayTokens.filter (fun x => x.1 != k) }.set F.TOKEN.HOLDER k new).add F.TOKEN.MOVES k 1).set F.TOKEN.LAST_MOVE k h.now48
    let h2 := if old < 6 then h1.raise 504 pay [old] (if own then some new else none) else h1
    let h3 := if new < 6 then h2.raise 505 pay [new] (if own then some new else none) else h2
    (h3.tokenFollows k old).noteStart

/-! ### K0 (R36, R37) -/

/-- K0 passes as its holder leaves: to C4, else to the lowest authenticated landing, else to the free pool. -/
def Hub.passK0 (h : Hub) (leaving : Nat) : Hub :=
  if h.holder 0 != leaving then h
  else if h.up 4 && leaving != 4 then h.moveToken 0 4 0xF false
  else match (List.range 4).find? (fun l => l != leaving && h.authOrder.contains l) with
    | some l => h.moveToken 0 l 0xF false
    | none => h.moveToken 0 0xF 0xF false

/-- A context that comes up or reaches AUTH success is offered K0 from the free pool; inside the start-up window only C4 is. -/
def Hub.offerK0 (h : Hub) (n : Nat) : Hub :=
  if h.holder 0 == 0xF && !h.guest n && (!h.k0Window || n == 4) then ({ h with k0Window := false }).moveToken 0 n 0xF false else h

/-- The start-up window ends: K0 goes to the landing that first reached AUTH success; where its authentication is lost by then, to the first of those
still authenticated (DESIGN CHOICE, log entry 71). -/
def Hub.endK0Window (h : Hub) : Hub :=
  let h1 := { h with k0Window := false }
  if h.holder 0 != 0xF then h1
  else match h.authOrder with
    | l :: _ => h1.moveToken 0 l 0xF false
    | [] => h1

def execK0WindowEnd (s : State) : Host.Outcome State Fault Refusal :=
  act s (fun h => h.expire T.k0Window 0 (fun g => g.endK0Window))

/-! ### AUTH success and loss -/

/-- A landing's host has authenticated on one of its channels. -/
def Hub.authSuccess (h : Hub) (l : Nat) (guest : Bool) (leaf : List Byte) : Hub :=
  let h1 := ({ h with leafKeys := h.leafKeys.write (fun _ => []) l leaf }).set F.CONTEXT.GUEST l (ofB guest)
  if guest then
    let h2 := { h1 with authOrder := h1.authOrder.erase l }
    ([1, 2].foldl (fun g k => if g.holds l k then g.moveToken k 0xF 0xF false else g) h2).passK0 l
  else
    let h2 := { h1 with authOrder := if h1.authOrder.contains l then h1.authOrder else h1.authOrder ++ [l] }
    h2.offerK0 l

/-- A landing's host has lost its authentication, unless its other channel keeps it. -/
def Hub.authLost (h : Hub) (l : Nat) : Hub :=
  if ((h.session l).up || (h.session (4 + l)).up) && !h.guest l then h
  else ({ h with authOrder := h.authOrder.erase l }).passK0 l

/-- The AUTH exchange of a landing's pairs starts afresh with re-authentication. -/
def Hub.endReauth (h : Hub) (l : Nat) : Hub :=
  let x := h.exchange l
  h.setExchange l { inits := x.inits, limited := x.limited, notBefore := x.notBefore }

/-! ### Context reset (R583) -/

/-- A ring entry is pending again (R161): counts add, and the payload is that of the later raise. -/
def Hub.pendAgain (h : Hub) (n : Nat) (r : NoticeRec) : Hub :=
  let p := h.pendRec n r.src
  h.setPend n r.src (if p.count == 0 then r
    else { p with count := satAdd 4095 p.count r.count, payload := mergePayload r.src r.payload p.payload })

/-- A ring entry that a fault lost, of those no message carries (R544). -/
def Hub.ringLost (h : Hub) (n i : Nat) : Hub :=
  let c := h.ctx n
  match c.ring[i]? with
  | some r =>
    if i < (c.inMessages.map (fun m => m.2)).sum + c.inTransfer then h
    else (h.pendAgain n r).modCtx n (fun c => { c with ring := c.ring.eraseIdx i })
  | none => h

/-- Ring entries not yet taken return to their pending records (R161); keep is how many stay with a message being read. Messages under way carry none
from here on. -/
def Hub.ringBack (h : Hub) (n keep : Nat) : Hub :=
  let ring := (h.ctx n).ring
  let h1 := (ring.drop keep).reverse.foldl (fun (g : Hub) r => g.pendAgain n r) h
  h1.modCtx n (fun c => { c with ring := ring.take keep, inMessages := c.inMessages.map (fun m => (m.1, 0)), inTransfer := 0 })

/-- The accesses of a context's Manifest leave the far buses; one on its bus ends unseen. -/
def Hub.dropXfers (h : Hub) (n : Nat) : Hub :=
  let mine (a : Access) : Bool := a.xfer && a.ctx == n
  let h1 := (List.range 6).foldl (fun g b =>
    if (g.farBus b).queue.any mine || (g.farBus b).overflow.any mine || (match (g.farBus b).job with | some (.access a) => mine a | _ => false) then
      g.modFar b (fun x => { x with queue := x.queue.filter (fun a => !mine a), overflow := x.overflow.filter (fun a => !mine a),
                                    job := match x.job with | some (.access a) => some (.access (if mine a then { a with ctx := 15 } else a)) | j => j })
    else g) h
  { h1 with xferDone := h1.xferDone.write (fun _ => none) n none }

/-- A context's running Manifest, its queue and its waiting sets are discarded (R141). -/
def Hub.dropWork (h : Hub) (n : Nat) : Hub :=
  let h1 := (({ h with progs := h.progs.write (fun _ => none) n none, sets := h.sets.filter (fun w => w.head.ctx != n) }.dropXfers n).farManifestEnd n).idleWatch
  h1.modCtx n (fun c => { c with queue := [] })

/-- A message as the local port's outbound FIFO of 32 KiB holds it, with its CRC (R122). -/
def fifoBytes (m : OutMsg) : List Byte := m.bytes ++ leBytes 4 (crc32c m.bytes)

/-- The messages of C4 that have room in the FIFO. -/
def fittingOut : Nat → List OutMsg → List OutMsg
  | _, [] => []
  | room, m :: t => if (fifoBytes m).length ≤ room then m :: fittingOut (room - (fifoBytes m).length) t else []

/-- How many of a context's messages stand in the outbound FIFO. -/
def Hub.inFifo (h : Hub) (n : Nat) : Nat := if n == 4 then (fittingOut 32768 (h.ctx 4).out).length else 0

/-- Whether a message stays at a context reset: one being read, and all but NOTICEs and PEEK_REPLYs not yet sent; what stands in C4's FIFO has been
answered (R152, R161). -/
def staysAtReset (reading : Bool) (fifo : Nat) (m : OutMsg × Nat) : Bool :=
  (m.2 == 0 && reading) || (m.1.type != 4 && (m.1.type != 6 || decide (m.2 < fifo)))

/-- Context reset, with a cause of R591: 1 HELLO, 2 unplug, 3 legacy idle, 4 RESET, 5 session end, 6 hold expired. -/
def Hub.resetContext (h : Hub) (n cause : Nat) : Hub :=
  let h1 := h.dropWork n
  let c := h1.ctx n
  let reading := c.readPos != 0 && n == 4
  let first := c.out.head?
  let keep := if reading then (match first with | some m => if m.type == 4 then m.entries else 0 | none => 0) else 0
  let h2 := (h1.modCtx n (fun c => { c with
    out := (c.out.zipIdx.filter (staysAtReset reading (h1.inFifo n))).map (fun m => m.1) })).ringBack n keep
  let h3 := (((h2.set F.CONTEXT.STATE n 0).set F.CONTEXT.CHANNEL n 0).add F.CONTEXT.RESETS n 1).modCtx n (fun c => { c with noticeSeq := 0 })
  let h4 := (List.range 63).foldl (fun g i => if g.holds n (i + 1) then g.moveToken (i + 1) 0xF 0xF false else g) h3
  let h5 := ((h4.passK0 n).dropSurfaces n).freeKeyslots n
  let h6 := if n < 4 then
      (if h5.lState n == 5 then h5.modLink n (fun k => { k with closeAll := true }) else h5.closeTunnels n 2).focusLost n false
    else h5
  h6.raise 511 (n + cause * 2 ^ 8) [n]

/-- A context comes up (R126): a HELLO opens it. -/
def Hub.contextUp (h : Hub) (ch : Chan) (level maxBody tag : Nat) : Hub :=
  let n := ch.ctx
  let h1 := ((((h.set F.CONTEXT.STATE n 1).set F.CONTEXT.CHANNEL n ch.code).set F.CONTEXT.PARTY_LEVEL n level).set F.CONTEXT.PARTY_TAG n tag).set
    F.CONTEXT.UP_SINCE n h.now48
  (h1.modCtx n (fun c => { c with noticeSeq := 0, maxBody := maxBody, out := c.out.filterMap (fun m => m.within maxBody) })).offerK0 n |> fun g => if n < 4 then g.legacyIdleWatch n else g

/-- An unplug resets the landing's context and ends its authentication (R172, R37); a context that is not up has nothing to reset but its tokens. -/
def Hub.lostLanding (h : Hub) (l : Nat) : Hub := (h.resetContext l 2).authLost l

/-- The management session ends by idleness (R507). -/
def Hub.mgmtIdle (h : Hub) : Hub := (h.endMgmt 1).resetContext 5 5

def execMgmtSessionIdle (s : State) : Host.Outcome State Fault Refusal :=
  act s (fun h => if (h.session 8).up then h.expire T.mgmtIdle 0 (fun g => g.mgmtIdle) else h)

/-- A legacy context idle for IDLE_RESET seconds (R465). -/
def execLegacyIdleReset (l : Nat) (s : State) : Host.Outcome State Fault Refusal :=
  actIf (decide (l < 4)) s (fun h => h.expire T.legacyIdle l (fun g =>
    if g.up l || g.get F.CONTEXT.STATE l == 2 then g.resetContext l 3 else g))

/-- 60 s after power-good a token that replay acquired returns to the pool while its context is not up; C4 keeps its own (R156). -/
def Hub.dropStandingTokens (h : Hub) : Hub :=
  let late := h.replayTokens.filter (fun x => x.2 != 4 && !h.up x.2 && h.holds x.2 x.1)
  { late.foldl (fun g x => g.moveToken x.1 0xF 0xF false) h with replayTokens := [] }

/-- Contexts still held 60 s after a warm reset (R582). -/
def execHeldContextExpiry (n : Nat) (s : State) : Host.Outcome State Fault Refusal :=
  actIf (decide (n < 6)) s (fun h => h.expire T.heldContext n (fun g => if g.get F.CONTEXT.STATE n == 2 then g.resetContext n 6 else g))

def execStandingTokenTimeout (s : State) : Host.Outcome State Fault Refusal :=
  act s (fun h => h.expire T.standingToken 0 (fun g => g.dropStandingTokens))

end Sys2Proof.Machine
end

