-- ==== Sys2Proof/Machine/Link.lean ====
section
/-! DEFINITION. The commands of the link (R170–R208): what arrives on the sideband and on the pairs, the link's timers, and
the quiet point. -/

namespace Sys2Proof.Machine

/-- Ports that Desk Standby suspended resume. -/
def Hub.deskPortsResume (h : Hub) (p : Nat → Bool) : Hub :=
  (List.range 8).foldl (fun g n =>
    if (g.usb n).byDesk && p n then
      let g1 := g.modUsb n (fun u => { u with byDesk := false })
      if g1.get F.USBPORT.STATE n == 5 then g1.startResume n else g1
    else g) h

/-- A landing that becomes ACTIVE in Desk Standby has its ports resumed (R568). -/
def Hub.portsFollow (h : Hub) (l : Nat) : Hub :=
  if h.lState l == 5 then h.deskPortsResume (fun n => h.holder (3 + n) == l) else h

/-- A command of a landing's link: an activation of link firmware that awaits the landing goes on once its state lets it (R535). -/
def onLink (ok : Bool) (l : Nat) (s : State) (f : Hub → Hub) : Host.Outcome State Fault Refusal := actAnyIf ok s (fun h => ((f h).lkfCheck l).portsFollow l)

/-! ### Sideband (R170–R177) -/

/-- A sideband poll (R172), with PING as nothing else is due. -/
def Hub.poll (h : Hub) (l : Nat) : Hub :=
  if !h.feedPowered then h
  else (match h.feedDue T.sbPoll l with | some t => h.feedAdvance t | none => h).sideband l 1 []

def execSidebandPoll (l : Nat) (s : State) : Host.Outcome State Fault Refusal :=
  onLink (decide (l < 4)) l s (fun h => h.poll l)

/-- An unplug (R172): the link ends and the landing's context is reset. -/
def Hub.unplug (h : Hub) (l : Nat) : Hub := (h.linkDown l false).lostLanding l

def execSidebandUnplug (l : Nat) (s : State) : Host.Outcome State Fault Refusal :=
  onLink (decide (l < 4)) l s (fun h =>
    if 150 ≤ (h.link l).missed && h.lState l != 0 && h.lState l != 11 then h.unplug l else h)

def execSidebandBadFrame (l : Nat) (s : State) : Host.Outcome State Fault Refusal :=
  onLink (decide (l < 4)) l s (fun h => h.notify (nLanding l 20) 1)

/-- What the two LINK_HELLOs agree on (R176): status, version, rate, common pairs, features. -/
def Hub.agreement (h : Hub) (l : Nat) (b : List Byte) : Nat × Nat × Nat × Nat × Nat :=
  let vs := byteAt b 1 % 8
  let version := if bitB vs 2 then 0x20 else if bitB vs 1 then 0x11 else if bitB vs 0 then 0x10 else 0
  let rs := byteAt b 2 % 4
  let rate := if bitB rs 1 && version == 0x20 then 2 else if bitB rs 0 then 1 else 0
  let common := byteAt b 3 % 16 &&& h.pairMask l
  let both := leAt b 4 2 &&& 0x2F
  let denied := if version == 0x10 then 0x0B else 0
  let features := both - (both &&& denied) + bitN (leAt b 4 2) 4 * 16
  let status := if byteAt b 0 != 1 then 1 else if version == 0 then 2 else if rate == 0 then 3 else if pairCount common < 2 then 4
    else if h.lState l == 11 then 5 else if !h.mainUp then 6 else 0
  (status, version, rate, common, features)

/-- The pairs LINK_SELECT allots to host→dock: the lowest-numbered common pairs. -/
def allottedIn (common want : Nat) : List Nat :=
  ((List.range 4).filter (fun m => bitB common m)).take (min want (pairCount common - 1))

/-- A LINK_HELLO in its window (R174–R177): LINK_SELECT answers it. A landing that is DISABLED stays so (R173). One whose LINK_SELECT of STATUS 0x00
the host never echoes stays in HELLO until unplug (DESIGN CHOICE, log entry 76). -/
def Hub.linkHello (h : Hub) (l : Nat) (b : List Byte) : Hub :=
  let (status, version, rate, common, features) := h.agreement l b
  let ins := maskOf (allottedIn common (h.use F.LANDING.ALLOT_IN l))
  let (h1, grant) := if status == 0 || status == 6 then h.helloContract l (leAt b 32 2) (leAt b 34 2) else (h, 0)
  let body := leBytes 1 status ++ leBytes 1 version ++ leBytes 1 rate ++ leBytes 1 (ins + (common - ins) * 16) ++ leBytes 2 features ++
    leBytes 2 grant ++ (b.drop 28).take 4 ++ leBytes 4 0
  let h2 := (h1.disarm T.hello l).modLink l (fun k => { k with hostHello := b, select := body, features := features, common := common, trainRate := rate })
  let h3 := if status == 6 then h2.arm T.hello l (20 * msec) else h2
  let h4 := h3.sideband l 4 body
  if 1 ≤ status && status ≤ 5 then
    (if h.lState l == 11 then h4 else h4.setLState l 10).notify (nLanding l 2) (status + byteAt b 0 * 256 + byteAt b 1 * 65536)
  else h4

def execLinkHello (l : Nat) (body : List Byte) (s : State) : Host.Outcome State Fault Refusal :=
  onLink (decide (l < 4)) l s (fun h => h.hostFrame l (body.length == 48) (fun g =>
    if g.lState l == 1 || g.lState l == 11 then g.linkHello l body else g))

def execLinkHelloTimeout (l : Nat) (s : State) : Host.Outcome State Fault Refusal :=
  onLink (decide (l < 4)) l s (fun h =>
    if h.lState l == 1 then
      h.expire T.hello l (fun g =>
        if (g.link l).helloTries < 3 then g.sendHello l
        else (((g.modLink l (fun k => { k with helloTries := 0, pongs := 0 })).setPast l false).setLState l 0).notify (nLanding l 2) 0xFF)
    else h)

/-- The host's echo of LINK_SELECT (R175): everything of an earlier link HELLO is gone (R177), and training is due 200 µs on. -/
def Hub.selectEcho (h : Hub) (l : Nat) (b : List Byte) : Hub :=
  let k := h.link l
  if k.select.isEmpty || b != k.select then h
  else
    let h1 := h.setPast l true
    if byteAt b 0 != 0 then h1
    else
      let ins := byteAt b 3 % 16
      let host := k.hostHello
      let kept : Link := { hostHello := host, select := k.select, features := k.features, common := k.common, trainRate := k.trainRate, answered := k.answered, windowEnd := k.windowEnd, swapCount := k.swapCount, grantSent := k.grantSent, granted := ⟨k.grantSent.zipIdx.map (fun p => (p.2, p.1)) |>.filter (fun p => p.2 != 0)⟩ }
      let h2 := (List.range 4).foldl (fun g m =>
        let i := 4 * l + m
        ((g.set F.PAIR.DIR i (if !bitB k.common m then 0 else if bitB ins m then 1 else 2)).set F.PAIR.SWAP_READY i 0).setPair l m
          (if g.use F.PAIR.ENABLE i == 1 then 0 else 6)) (h1.modLink l (fun _ => kept))
      let h3 := (List.range 8).foldl (fun g c => g.set F.LANDING.PARTNER_CREDITS l (leAt host (8 + 2 * c) 2) c) h2
      ((((((h3.set F.LANDING.VERSION l (byteAt b 1)).set F.LANDING.RATE l (byteAt b 2)).set F.LANDING.PARTNER_VENDOR l (leAt host 24 2)).set
        F.LANDING.PARTNER_PRODUCT l (leAt host 26 2)).set F.LANDING.PAIRS_FAILED l 0).setSession l {}).arm T.trainStart l (200 * usec)

def execLinkSelectEcho (l : Nat) (body : List Byte) (s : State) : Host.Outcome State Fault Refusal :=
  onLink (decide (l < 4)) l s (fun h => h.hostFrame l (body.length == 16) (fun g => if g.lState l == 1 then g.selectEcho l body else g))

/-! ### Training (R178–R182) -/

/-- Landing training begins after the last standing slot (R575), and not in recovery (R589). -/
def execTrainingStart (l : Nat) (s : State) : Host.Outcome State Fault Refusal :=
  onLink (decide (l < 4)) l s (fun h =>
    if h.lState l == 1 && h.get F.SYSTEM.START_STATE 0 == 3 then h.expire T.trainStart l (fun g => g.fullTraining l) else h)

/-- ALIGN is entered: the ALIGN pattern on every transmitting pair, for 1 ms at most (R173, R181). -/
def Hub.enterAlign (h : Hub) (l : Nat) : Hub := (h.alignOut l (fun st => st == 1 || st == 2)).arm T.align l msec

/-- A full training ends (R178, R180): allotted and reversed are the pairs that passed in each direction, eyes the eye height
of each pair in mV. -/
def Hub.trained (h : Hub) (l allotted reversed : Nat) (eyes : List Nat) : Hub :=
  let ms := h.training l
  let swap := bitB (h.link l).features 0
  let h1 := ms.foldl (fun g m =>
    let i := 4 * l + m
    let d := g.pairDir l m
    let ready := (if bitB allotted m then 2 ^ (d - 1) else 0) + (if bitB reversed m && swap then 2 ^ (2 - d) else 0)
    ((g.set F.PAIR.SWAP_READY i ready).set F.PAIR.LAST_TRAIN i g.now48).set F.PAIR.EYE_HEIGHT i (if d == 1 then eyes.getD m 0 else 0)) h
  let pass (d : Nat) : Bool := ms.any (fun m => h.pairDir l m == d && bitB allotted m)
  let passed := maskOf (ms.filter (fun m => bitB allotted m))
  if pass 1 && pass 2 then
    let h2 := h1.set F.LANDING.PAIRS_FAILED l 0
    let h3 := ms.foldl (fun g m => if bitB allotted m then g else g.pairGone l m 5 false) h2
    ((h3.sendTraining l (ms.filter (fun m => bitB allotted m))).setLState l 3).enterAlign l
  else if h.get F.LANDING.RATE l == 2 then
    ((h1.notify (nLanding l 5) passed).set F.LANDING.RATE l 1).fullTraining l
  else
    let n := (h1.link l).trainTries + 1
    let h2 := (h1.modLink l (fun k => { k with trainTries := n })).notify (nLanding l 4) (passed + 16 + min n 255 * 256)
    (ms.foldl (fun g m => g.setPair l m 0) h2).arm T.trainRetry l (if n ≤ 5 then sec else 10 * sec)

def execTrainingComplete (l : Nat) (allotted reversed : List TrainingResult) (eyes : List Nat) (s : State) : Host.Outcome State Fault Refusal :=
  onLink (decide (l < 4)) l s (fun h =>
    let ms := h.training l
    if h.lState l == 2 && !ms.isEmpty then
      h.trained l (maskOf (passedPairs allotted ms (h.pairDir l))) (maskOf (passedPairs reversed ms (fun m => 3 - h.pairDir l m))) eyes
    else h)

def execTrainingRetryTimer (l : Nat) (s : State) : Host.Outcome State Fault Refusal :=
  onLink (decide (l < 4)) l s (fun h =>
    if h.lState l == 2 then
      h.expire T.trainRetry l (fun g => (g.set F.LANDING.RATE l (g.link l).trainRate).fullTraining l)
    else h)

/-- A retrain has ended (R182, R208). -/
def Hub.retrainEnd (h : Hub) (l : Nat) : Hub :=
  let k := h.link l
  if k.retrainCause == 0 then h
  else (((h.storageHeld l (h.now - k.retrainStart)).add F.LANDING.RETRAINS l 1).modLink l (fun k => { k with retrainCause := 0 })).notify (nLanding l 7)
    (ofB k.trainFull + k.retrainCause * 256 + min ((h.now - k.retrainStart) / usec) (2 ^ 32 - 1) * 2 ^ 16)

/-- Alignment completes (R173, R181, R182). -/
def Hub.aligned (h : Hub) (l : Nat) : Hub :=
  let h1 := ((h.training l).foldl (fun g m => g.setPair l m 2) (h.disarm T.align l)).modLink l (fun k => { k with trainTries := 0 })
  let h2 := ((h1.modLink l (fun k => { k with aligned := true })).arm T.ack l 10000).arm T.demand l msec
  let h3 := if (h2.link l).unacked.isEmpty then h2 else h2.arm T.replay l 10000
  let h4 := h3.retrainEnd l
  if h4.authed l then
    let h5 := (h4.toActive l).pairsChanged l
    if (h5.link l).rekeyOwed then h5.sendRekey l false else h5
  else ((h4.setLState l 4).pairsChanged l).arm T.auth l (h4.get F.LANDING.AUTH_TIMEOUT l * msec)

def execAlignComplete (l : Nat) (s : State) : Host.Outcome State Fault Refusal :=
  onLink (decide (l < 4)) l s (fun h => if h.lState l == 3 then h.aligned l else h)

def execAlignTimeout (l : Nat) (s : State) : Host.Outcome State Fault Refusal :=
  onLink (decide (l < 4)) l s (fun h => if h.lState l == 3 then h.expire T.align l (fun g => g.fullTraining l) else h)

/-- A fast retrain ends with the pairs that passed (R182): of the others the device sends PAIR_OUT once flits run again, and they are spared, or all is
trained anew (R196). -/
def execRetrainComplete (l : Nat) (results : List TrainingResult) (s : State) : Host.Outcome State Fault Refusal :=
  onLink (decide (l < 4)) l s (fun h =>
    if h.lState l != 8 then h
    else
      let ms := h.training l
      let passed := passedPairs results ms (h.pairDir l)
      let pass (d : Nat) : Bool := passed.any (fun m => h.pairDir l m == d)
      let h1 := ms.foldl (fun g m => if passed.contains m then (g.set F.PAIR.LAST_TRAIN (4 * l + m) g.now48).freeEye l m else g.pairGone l m 3 true) h
      if pass 1 && pass 2 then (h1.setLState l 3).enterAlign l
      else h1.fullTraining l)

/-! ### Flits in (R183–R190, R204–R206) -/

/-- Counts a misplaced control or data flit (R185, R208). -/
def Hub.protocolError (h : Hub) (l ctype reason : Nat) : Hub := h.notify (nLanding l 16) (ctype + reason * 256 + 2 ^ 32)

/-- A NAK is due for the expected sequence, at most once in 10 µs (R188). -/
def Hub.wantNak (h : Hub) (l : Nat) : Hub :=
  let k := h.link l
  if k.nakSeq == k.rxSeq + 1 && h.now < k.nakAt + 10000 then h
  else h.modLink l (fun k => { k with nakDue := true, ackDue := true, nakSeq := k.rxSeq + 1, nakAt := h.now })

/-- The messages of an AUTH exchange on a landing's pairs. -/
def Hub.sendAuths (h : Hub) (l : Nat) (out : AuthOut) : Hub := out.foldl (fun g m => g.sendAuth l m.1 m.2) h

/-- The exchange on the pairs is over without success: the landing stays in AUTH, its context's authentication is lost. -/
def Hub.pairsRefused (h : Hub) (l : Nat) : Hub := ((h.disarm T.auth l).setSession l {}).authLost l

/-- A whole AUTH message on the pairs (R202–R205, R504, R505). -/
def Hub.authMessage (h : Hub) (l type : Nat) (msg : List Byte) : Hub :=
  if h.lState l != 4 then h.protocolError l 0x10 4
  else match type with
    | 1 =>
      let (h1, out) := h.authInit l msg
      if out.isEmpty then h1
      else
        let h2 := h1.sendAuths l out
        let first := (h.due T.auth l).isSome && (h.exchange l).phase % 3 == 0
        if (h2.exchange l).phase != 1 then h2.pairsRefused l
        -- The time from entering AUTH runs on at the first AUTH_INIT, and anew at each later one (R203).
        else if first then h2 else h2.arm T.auth l (h.get F.LANDING.AUTH_TIMEOUT l * msec)
    | 3 =>
      let (h1, out, ok) := h.authProof l msg
      let h2 := h1.sendAuths l out
      if ok then
        let x := h2.exchange l
        ((h2.setSession l { x.session false h.now with up := false }).modLink l (fun k => { k with sealOut := true, ackCount := 0, resyncSaid := 0, flitsOnKey := 0, groupCount := 0, groupText := [], groupAad := [], keyPhaseOut := false })).authSuccess
          l x.empty x.leafKey
      else if out.isEmpty then h2 else h2.pairsRefused l
    | 5 => ((h.endExchange l).authFailed l (byteAt msg 0)).pairsRefused l
    | 6 =>
      let (h1, ok) := h.authGo l
      if ok then
        let k := h1.link l
        let h2 := (((h1.setSession l { h1.session l with up := true }).disarm T.auth l).set F.LANDING.KEY_EPOCH l 0).modLink l
          (fun k => { k with sealIn := true, keyPhaseIn := false, groupIn := [], tagFails := [] })
        let h3 := (h2.toActive l).notify (nLanding l 3) (h2.get F.LANDING.VERSION l + h2.get F.LANDING.PAIRS_IN l * 256 + h2.get F.LANDING.PAIRS_OUT l * 4096 +
          h2.get F.LANDING.RATE l * 65536 + ofB (h2.session l).guest * 2 ^ 18)
        if k.rekeyOwed then h3.sendRekey l false else h3
      else h1.protocolError l 0x10 4
    | _ => h.protocolError l 0x10 2

/-- One AUTH segment (R202): of 1…120 bytes (none only of an empty message), in order, alike in count and total length, and the message whole at the last. -/
def Hub.authSegment (h : Hub) (l : Nat) (p : List Byte) : Hub :=
  let x := h.exchange l
  let type := byteAt p 0
  let i := byteAt p 1
  let n := byteAt p 2
  let total := leAt p 4 2
  let len := leAt p 6 2
  let follows := i == x.partNext && type == x.partType && n == x.partCount && total == x.partTotal
  if byteAt p 3 != 0 || n ≤ i || 120 < len || (len == 0 && total != 0) || 16384 < total || (0 < i && !follows) then
    (h.setExchange l { x with part := [], partNext := 0 }).protocolError l 0x10 4
  else
    let got := (if i == 0 then [] else x.part) ++ (p.drop 8).take len
    if i + 1 < n then h.setExchange l { x with part := got, partNext := i + 1, partType := type, partCount := n, partTotal := total }
    else
      let h1 := h.setExchange l { x with part := [], partNext := 0 }
      if got.length == total then h1.authMessage l type got else h1.protocolError l 0x10 4

/-- Which control types are sequenced and may come from the host (R185). -/
def ctlSequenced (c : Nat) : Bool := c != 0 && c != 1 && c != 0x14
def ctlFromHost (c : Nat) : Bool := [0, 1, 2, 5, 6, 7, 9, 0x0A, 0x0B, 0x0C, 0x10, 0x11, 0x12, 0x13, 0x14].contains c

/-- Control flits whose sender is the new transmitter: the host is it only of a pair that turns to host→dock (R185, R194, R197). -/
def Hub.wrongSide (h : Hub) (l ctype : Nat) (p : List Byte) : Bool :=
  let m := byteAt p 0 % 16
  let k := h.link l
  match ctype with
  | 7 => (match k.swap with | some w => w.dir == 2 && w.pair == m | none => false)
  | 0x13 => bits (byteAt p 0) 4 2 == 2 || k.rejoin.contains (m, 2)
  | _ => false

/-- Something waits to be sent, or is not yet acknowledged. -/
def Hub.busyOut (h : Hub) (l : Nat) : Bool :=
  let k := h.link l
  !k.txMsgs.isEmpty || !k.ctl.isEmpty || !k.replay.isEmpty || !k.unacked.isEmpty

/-- Whether a kind-5 set waits for a quiet point of a landing. -/
def Hub.quietWaits (h : Hub) (l : Nat) : Bool := h.sets.any (fun w => w.epoch == .quiet l)

/-- The pairs go to electrical idle, the open seal group closed before (R198, R204). -/
def Hub.enterIdle (h0 : Hub) (l : Nat) : Hub :=
  let h := h0.sendTag l
  (((h.activePairs l 1 ++ h.activePairs l 2).foldl (fun g m => g.setPair l m 3) (h.modLink l (fun k => { k with idleReqSent := false }))).setLState l 6).notify
    (nLanding l 14) (6 + 5 * 16)

/-- A host's IDLE_REQ: answered IDLE_ACK and followed, or declined by a sequenced flit: one that waits anyway, else a QUIET (R198; log entry 76). -/
def Hub.takeIdleReq (h : Hub) (l : Nat) : Hub :=
  let k := h.link l
  let busy := h.busyOut l || h.quietWaits l || k.swap.isSome || k.swapWanted.isSome || k.increases || k.quietStores
  if h.lState l != 5 then h
  else if bitB k.features 2 && h.on F.LANDING.LIDLE_ENABLE l && !busy then (h.sendCtl l 0x0B []).enterIdle l
  else if busy then h
  else (h.sendCtl l 3 (leBytes 4 k.quiet)).modLink l (fun k => { k with quiet := (k.quiet + 1) % 2 ^ 32 })

/-- EOS: the codeword in progress on a pair is completed, then one codeword of 0x155 goes out and the transmitter turns off (R194). -/
def Hub.sendEos (h : Hub) (l m : Nat) : Hub := (h.newFrame l m).emitCodewords l m 0x155 1

/-- A sequenced control flit from the host takes effect. A swap that the host leaves without its EOS or SWAP_DONE has no timeout and stays in progress
(DESIGN CHOICE, log entry 76). -/
def Hub.control (h : Hub) (l ctype : Nat) (p : List Byte) : Hub :=
  let k := h.link l
  let num := byteAt p 1
  match ctype with
  | 5 => match k.swap with
    | some w =>
      if w.number == num && w.phase == 0 then
        let h1 := ((h.disarm T.swapAck l).modLink l (fun k => { k with swap := some { w with phase := 1 } })).setPair l w.pair 4
        -- The device is the old transmitter when the pair turns to host→dock: it sends EOS at once.
        if w.dir == 1 then (h1.sendEos l w.pair).arm T.swapLock l 16000 else h1
      else h
    | none => h
  | 6 => match k.swap with
    | some w => if w.number == num && w.phase == 0 then
        let h1 := h.dropSwap l 4
        if w.sparing then h1.startRetrain l 4 else h1.waitingRejoins l
      else h
    | none => h
  | 7 => match k.swap with
    | some w => if w.dir == 1 && w.number == num && byteAt p 0 % 16 == w.pair && w.phase == 2 then (h.swapComplete l).waitingRejoins l else h
    | none => h
  | 9 =>
    let s := h.session l
    let e := s.epochIn + 1
    let h1 := ((((h.setSession l { s with epochIn := e, secretIn := nextSecret s.secretIn }).epochsEntered l 1).modLink l (fun k => { k with keyPhaseIn := !k.keyPhaseIn })).notify
      (nLanding l 13) (e * 2 ^ 32))
    if bitB (byteAt p 4) 0 then (h1.modLink l (fun k => { k with rekeyOwed := true })).arm T.rekeyAnswer l (100 * usec) else h1
  | 0x0A => h.takeIdleReq l
  | 0x0B => if h.lState l == 5 && k.idleReqSent then h.enterIdle l else h
  | 0x0C =>
    let ok := h.lState l == 5 && bitB k.features 3 && h.on F.LANDING.SLEEP_ENABLE l && k.unacked.isEmpty && k.ctl.isEmpty && k.reorder.isEmpty && k.swap.isNone
    let h1 := (h.sendCtl l 0x0D (leBytes 1 (ofB ok))).sendTag l
    if ok then (((List.range 4).foldl (fun g m => if g.pairState l m == 2 then g.setPair l m 0 else g) h1).setLState l 7).notify (nLanding l 14) (7 + 5 * 16) else h1
  | 0x10 => h.authSegment l p
  | 0x11 => h.startRetrain l 3
  | 0x12 =>
    let m := byteAt p 0 % 16
    if m < 4 && (h.pairState l m == 2 || h.pairState l m == 4) then h.failPair l m (byteAt p 1) false else h
  | 0x13 =>
    let m := byteAt p 0 % 16
    if k.rejoin.contains (m, 1) && bits (byteAt p 0) 4 2 == 1 then h.rejoined l m 1 else h
  | _ => h

/-- A control flit from the wrong side is discarded and counted (R185); any other takes effect. -/
def Hub.takeControlFlit (h : Hub) (l ctype : Nat) (p : List Byte) : Hub :=
  if h.wrongSide l ctype p then h.protocolError l ctype 2 else h.control l ctype p

/-- An authentic flit's content is delivered: i is the position of a data flit's text in its group. -/
def Hub.deliverFlit (h : Hub) (l : Nat) (s : Session) (first i : Nat) (f : List Byte) : Hub :=
  let hd := leAt f 0 4
  let p := (f.drop 4).take 128
  if hd < 2 ^ 31 then
    h.tunnelFlit l hd (gcmXor (secretKey s.secretIn) (sessionNonce s.saltIn 0 s.epochIn first) (128 * i) p)
  else h.takeControlFlit l (bits hd 28 3 * 16 + bits hd 24 4) p

/-- A third tag failure within 1 s begins re-authentication (R206). -/
def Hub.tagFailed (h : Hub) (l : Nat) : Hub :=
  let fails := ((h.link l).tagFails.filter (fun t => h.now < t + sec)) ++ [h.now]
  let h1 := h.modLink l (fun k => { k with tagFails := fails })
  if 3 ≤ fails.length then h1.reauth l 5 else h1

/-- A TAG closes the open inbound group (R204, R206): verified, its flits are delivered in order under the keys they were
sealed with; else they are discarded and asked for again. -/
def Hub.takeTag (h : Hub) (l : Nat) (p : List Byte) : Hub :=
  let g := (h.link l).groupIn
  let s := h.session l
  let first := (g.headD (0, [])).1
  let aad := (g.map (fun f => f.2.take 4 ++ (if leAt f.2 0 4 < 2 ^ 31 then [] else (f.2.drop 4).take 128))).flatten
  let text := (g.map (fun f => if leAt f.2 0 4 < 2 ^ 31 then (f.2.drop 4).take 128 else [])).flatten
  let tag := gcmTag (secretKey s.secretIn) (sessionNonce s.saltIn 0 s.epochIn first) aad text
  if !g.isEmpty && leAt p 16 4 == first && leAt p 20 4 == g.length && g.length ≤ 32 && p.take 16 == tag then
    let h1 := h.modLink l (fun k => { k with groupIn := [] })
    (g.foldl (fun (x : Hub × Nat) f => (x.1.deliverFlit l s first x.2 f.2, if leAt f.2 0 4 < 2 ^ 31 then x.2 + 1 else x.2)) (h1, 0)).1
  else
    let back (k : Link) : Table Nat := g.foldl (fun t f =>
      if leAt f.2 0 4 < 2 ^ 31 then
        let c := bits (leAt f.2 0 4) 28 3
        t.write (fun _ => 0) c ((t.read (fun _ => 0) c + 2 ^ 32 - 1) % 2 ^ 32) else t) k.taken
    let h1 := h.modLink l (fun k => { k with groupIn := [], taken := back k, rxSeq := if g.isEmpty then k.rxSeq else first })
    (h1.wantNak l).tagFailed l

/-- The flit at the expected sequence is accepted (R186, R189, R204): none when it lies beyond its credits. -/
def Hub.acceptFlit (h : Hub) (l : Nat) (f : List Byte) : Option Hub :=
  let k := h.link l
  let hd := leAt f 0 4
  let data := hd < 2 ^ 31
  let cls := bits hd 28 3
  let ctype := bits hd 28 3 * 16 + bits hd 24 4
  if data && k.granted.read (fun _ => 0) cls ≤ h.heldFlits l cls then none
  else
    let h1 := (((h.modLink l (fun k => { k with rxSeq := (k.rxSeq + 1) % 2 ^ 32, sinceAck := k.sinceAck + 1, ackDue := k.ackDue || 64 ≤ k.sinceAck + 1, lastBusy := h.now })).add
      F.LANDING.FLITS_RX l 1).arm T.ack l (min 1000 ((h.due T.ack l).getD (h.now + 1000) - h.now))).arm T.lidle l (h.get F.LANDING.LIDLE_ENTRY l * usec)
    let declined := data || (ctype != 0x0B && ctype != 2)
    let h1 := if declined then h1.modLink l (fun k => { k with idleReqSent := false }) else h1
    let h2 := if data then h1.modLink l (fun k => { k with taken := k.taken.write (fun _ => 0) cls ((k.taken.read (fun _ => 0) cls + 1) % 2 ^ 32) }) else h1
    if !k.sealIn then
      some (if data then h2.protocolError l 0xFF 3 else if ctype == 2 then h2.protocolError l 2 3 else h2.takeControlFlit l ctype ((f.drop 4).take 128))
    else if !data && ctype == 2 then some (h2.takeTag l ((f.drop 4).take 128))
    else some (h2.modLink l (fun k => { k with groupIn := k.groupIn ++ [(k.rxSeq + 2 ^ 32 - 1, f)].map (fun x => (x.1 % 2 ^ 32, x.2)) }))

/-- Flits that waited for the one just accepted follow it. -/
def Hub.acceptRun : Nat → Nat → Hub → Hub
  | 0, _, h => h
  | n + 1, l, h =>
    match (h.link l).reorder.find? (fun r => r.1 == (h.link l).rxSeq % 4096) with
    | none => h
    | some r =>
      match h.acceptFlit l r.2 with
      | none => ((h.modLink l (fun k => { k with reorder := k.reorder.filter (fun x => x.1 != r.1) })).wantNak l).notify (nLanding l 15) (bits (leAt r.2 0 4) 28 3 + 2 ^ 32)
      | some g => Hub.acceptRun n l (g.modLink l (fun k => { k with reorder := k.reorder.filter (fun x => x.1 != r.1) }))

/-- A sequenced flit arrives (R186, R188, R207). While RESYNC is exchanged it lies at or beyond the sequence announced and is discarded (R206). -/
def Hub.sequenced (h : Hub) (l : Nat) (f : List Byte) : Hub :=
  let k := h.link l
  if k.resync then h.modLink l (fun k => { k with resyncLost := k.resyncLost + 1 }) else
  let seq := leAt f 0 4 % 4096
  let ahead := (seq + 4096 - k.rxSeq % 4096) % 4096
  if ahead == 0 then
    match h.acceptFlit l f with
    | none => (h.wantNak l).notify (nLanding l 15) (bits (leAt f 0 4) 28 3 + 2 ^ 32)
    | some g =>
      let g1 := Hub.acceptRun 256 l g
      if (g1.link l).reorder.isEmpty then g1.disarm T.nak l else g1.arm T.nak l 2000
  else if ahead < 256 then
    if k.reorder.any (fun r => r.1 == seq) then h
    else
      let h1 := (h.modLink l (fun k => { k with reorder := k.reorder ++ [(seq, f)] })).armOnce T.nak l 2000
      if 255 ≤ k.reorder.length + 1 then h1.wantNak l else h1
  else h

/-- The device's replay from a sequence on (R188): the eighth without progress retrains (R182). -/
def Hub.replayFrom (h : Hub) (l seq : Nat) : Hub :=
  let k := h.link l
  let list := k.unacked.filter (fun f => (f.seq + 2 ^ 32 - seq) % 2 ^ 32 < 2 ^ 31)
  if list.isEmpty then h
  else
    let n := if k.sameReplay.1 == (list.headD default).seq + 1 then k.sameReplay.2 + 1 else 1
    let h1 := ((h.modLink l (fun k => { k with replay := list, sameReplay := ((list.headD default).seq + 1, n) })).add F.LANDING.REPLAYS l 1).notify
      (nLanding l 12) (1 + list.length * 2 ^ 32)
    if 8 ≤ n then (h1.modLink l (fun k => { k with sameReplay := (0, 0) })).startRetrain l 2 else h1.arm T.replay l 10000

/-- An ACK (R187, R189, R194, R205). -/
def Hub.takeAck (h : Hub) (l : Nat) (p : List Byte) : Hub :=
  let k := h.link l
  let s := h.session l
  let cnt := leAt p 40 4
  let authentic := !k.sealIn || (p.drop 112).take 16 == gcmTag (secretKey s.secretIn) (sessionNonce s.saltIn 1 s.epochIn cnt) (p.take 112) []
  if !authentic then h
  else
    let seq := leAt p 0 4
    let before (f : TxFlit) : Bool := decide (0 < (seq + 2 ^ 32 - f.seq) % 2 ^ 32 && (seq + 2 ^ 32 - f.seq) % 2 ^ 32 < 2 ^ 31)
    let left := k.unacked.filter (fun f => !before f)
    let moved := left.length < k.unacked.length
    -- R never decreases: an older ACK's returns are behind those already heard (R190).
    let rets : Table Nat := (List.range 8).foldl (fun t c =>
      let r := leAt p (8 + 4 * c) 4
      if (r + 2 ^ 32 - t.read (fun _ => 0) c) % 2 ^ 32 < 2 ^ 31 then t.write (fun _ => 0) c r else t) k.returned
    let train := leAt p 44 4
    let done := (k.unacked.filter (fun f => before f && f.last)).map (fun f => (f.msg, f.slot))
    let h0 := (k.unacked.filter (fun f => before f && f.notice.1 != 0)).foldl (fun g f => g.noticeAcked l (f.notice.1 - 1) f.notice.2 f.last) (h.landed l done)
    let h1 := h0.modLink l (fun k => { k with unacked := left, replay := k.replay.filter (fun f => !before f), returned := rets, ackHeard := cnt, sameReplay := if moved then (0, 0) else k.sameReplay, demandSum := k.demandSum + byteAt p 5, demandCount := k.demandCount + 1, trainHeard := if bitB train 6 then k.trainHeard.write (fun _ => 0) (train % 16) train else k.trainHeard })
    let h2 := if left.isEmpty then (if moved then (h1.disarm T.replay l).arm T.lidle l (h1.get F.LANDING.LIDLE_ENTRY l * usec) else h1.disarm T.replay l) else if moved then h1.arm T.replay l 10000 else h1
    let h3 := if bitB (byteAt p 4) 0 then h2.replayFrom l seq else h2
    -- The host, as old transmitter, reports the pair locked: SWAP_DONE or PAIR_JOIN follows from the device.
    (fun g : Hub => g.stallWatch l) <| if bitB (byteAt p 4) 1 then
      let locked := byteAt p 6
      let h4 := match (h3.link l).swap with
        | some w => if w.dir == 2 && w.phase == 2 && bitB locked w.pair && h3.windowOpen l then
            ((h3.swapComplete l).sendCtlOn l w.pair 7 (leBytes 1 w.pair ++ leBytes 1 w.number)).waitingRejoins l
          else h3
        | none => h3
      (h4.link l).rejoin.foldl (fun g r =>
        if r.2 == 2 && bitB locked r.1 && g.windowOpen l then (g.rejoined l r.1 2).sendCtlOn l r.1 0x13 (leBytes 1 (r.1 + 32)) else g) h4
    else h3

/-- A RESYNC arrives (R206): the flits it names are discarded, both sequences restart where announced, and the landing enters AUTH. A host that has not
heard the device's own is answered with it again. Messages cut short are counted once each (R221), and no cell stays in flight. -/
def Hub.takeResync (h : Hub) (l seq : Nat) : Hub :=
  let h0 := h.reauth l 0
  let k := h0.link l
  if !k.resync then (if h0.lState l == 4 && k.resyncSaid != 0 then h0.sendPlain l 0x14 (leBytes 4 (k.resyncSaid - 1)) else h0)
  else
    let gone := k.unacked.filter (fun f => (f.seq + 2 ^ 32 - seq) % 2 ^ 32 < 2 ^ 31)
    let sentNow : Table Nat := gone.foldl (fun t f =>
      if f.cls < 8 then t.write (fun _ => 0) f.cls ((t.read (fun _ => 0) f.cls + 2 ^ 32 - 1) % 2 ^ 32) else t) k.sent
    let cut := (h0.tunnels.cells.filter (fun c => c.1 / 2048 == l && c.2.isOpen && !c.2.bad)).map (fun c => c.1)
    let h1 := cut.foldl (fun g t => (g.add F.TUNNEL.MSG_DISCARDED t 1).modTunnelRx t (fun r => { r with isOpen := false, bytes := [], flits := 0 })) h0
    let sentOf : List (Nat × Nat) := (gone.filter (fun f => f.msg != 0)).map (fun f => (f.msg, f.slot))
    let rest : List (Nat × Nat) := k.txMsgs.map (fun m => (m.id + 1, m.slot))
    let h2 := (sentOf ++ rest).eraseDups.foldl (fun g m => g.add F.TUNNEL.MSG_DISCARDED (tunnelOf l m.2) 1) (h1.flightsEnd l)
    let h3 := (((h2.disarm T.replay l).disarm T.nak l).disarm T.sealGroup l).modLink l (fun k => { k with resync := false, unacked := [], replay := [], reorder := [], txSeq := seq, sent := sentNow, ctl := k.ctl.filter (fun c => c.1 == 0x12), groupCount := 0, groupText := [], groupAad := [], groupIn := [], sealIn := false, sealOut := false, tagFails := [], txMsgs := [], swapWanted := none })
    let h4 := if (h3.link l).swap.isSome then h3.dropSwap l 6 else h3
    let h5 := ((h4.setSession l {}).endReauth l).setLState l 4
    (h5.notify (nLanding l 21) (k.resyncLost % 2 ^ 32 + gone.length * 2 ^ 32)).arm T.auth l (h.get F.LANDING.AUTH_TIMEOUT l * msec)

/-- The pairs a host's flit can arrive on: those that run host→dock, a swapping or rejoining pair once the device reports it locked (its
SWAP_DONE or PAIR_JOIN comes on it), and while no pair runs host→dock any common pair, as the swap of R196 needs. -/
def Hub.hearsOn (h : Hub) (l pair : Nat) : Bool :=
  let k := h.link l
  let ins := h.activePairs l 1
  ins.contains pair || (ins.isEmpty && bitB k.common pair) ||
    (match k.swap with | some w => w.pair == pair && w.dir == 1 && w.phase == 2 | none => false) || k.rejoin.contains (pair, 1)

/-- A flit arrives on a pair, fec symbols of its codeword in error (R183–R188): beyond 15 the codeword is uncorrectable. -/
def Hub.rxFlit (h : Hub) (l pair fec : Nat) (f : List Byte) : Hub :=
  if !h.flitsRun l || !h.hearsOn l pair then h
  else
    let i := 4 * l + pair
    if 15 < fec then
      ((h.add F.PAIR.FEC_UNCORRECTABLE i 1).modLink l (fun k => { k with
        badCodes := k.badCodes.write (fun _ => []) pair ((k.badCodes.read (fun _ => []) pair).filter (fun t => h.now < t + msec) ++ [h.now]) })).wantNak l
    else
      let h0 := h.add F.PAIR.FEC_CORRECTED i fec
      let hd := leAt f 0 4
      let ctype := bits hd 28 3 * 16 + bits hd 24 4
      if f.length != 136 || leAt f 132 4 != crc32c (f.take 132) then (h0.add F.PAIR.CRC_ERRORS i 1).wantNak l
      else if hd < 2 ^ 31 then (if bitB hd 12 then h0.protocolError l 0xFF 4 else h0.sequenced l f)
      else if 0x14 < ctype then h0.protocolError l ctype 1
      else if !ctlFromHost ctype then h0.protocolError l ctype 2
      else if bitB hd 15 != ctlSequenced ctype || bits hd 16 8 != 0 || bitB hd 14 || bitB hd 12 then h0.protocolError l ctype 4
      else if ctype == 0 then h0
      else if ctype == 1 then h0.takeAck l ((f.drop 4).take 128)
      else if ctype == 0x14 then h0.takeResync l (leAt f 4 4)
      else h0.sequenced l f

/-- The command of a flit takes place when the flit spells it: data, or a control flit of the given types. -/
def rxCommand (ctypes : Option (List Nat)) (l pair fec : Nat) (flit : List Byte) (s : State) : Host.Outcome State Fault Refusal :=
  onLink (decide (l < 4 ∧ pair < 4)) l s (fun h =>
    let hd := leAt flit 0 4
    let fits := match ctypes with
      | none => decide (hd < 2 ^ 31)
      | some cs => decide (2 ^ 31 ≤ hd) && cs.contains (bits hd 28 3 * 16 + bits hd 24 4)
    if fits then h.rxFlit l pair fec flit else h)

def execDataFlit (l pair fec : Nat) (flit : List Byte) (s : State) : Host.Outcome State Fault Refusal := rxCommand none l pair fec flit s
def execIdleFlit (l pair fec : Nat) (flit : List Byte) (s : State) : Host.Outcome State Fault Refusal := rxCommand (some [0]) l pair fec flit s
def execAckFlit (l pair fec : Nat) (flit : List Byte) (s : State) : Host.Outcome State Fault Refusal := rxCommand (some [1]) l pair fec flit s
def execTagFlit (l pair fec : Nat) (flit : List Byte) (s : State) : Host.Outcome State Fault Refusal := rxCommand (some [2]) l pair fec flit s
def execSwapAck (l pair fec : Nat) (flit : List Byte) (s : State) : Host.Outcome State Fault Refusal := rxCommand (some [5]) l pair fec flit s
def execSwapNak (l pair fec : Nat) (flit : List Byte) (s : State) : Host.Outcome State Fault Refusal := rxCommand (some [6]) l pair fec flit s
def execSwapDone (l pair fec : Nat) (flit : List Byte) (s : State) : Host.Outcome State Fault Refusal := rxCommand (some [7]) l pair fec flit s
def execRekeyFlit (l pair fec : Nat) (flit : List Byte) (s : State) : Host.Outcome State Fault Refusal := rxCommand (some [9]) l pair fec flit s
def execIdleReq (l pair fec : Nat) (flit : List Byte) (s : State) : Host.Outcome State Fault Refusal := rxCommand (some [0x0A]) l pair fec flit s
def execIdleAck (l pair fec : Nat) (flit : List Byte) (s : State) : Host.Outcome State Fault Refusal := rxCommand (some [0x0B]) l pair fec flit s
def execSleepReq (l pair fec : Nat) (flit : List Byte) (s : State) : Host.Outcome State Fault Refusal := rxCommand (some [0x0C]) l pair fec flit s
def execRetrainReq (l pair fec : Nat) (flit : List Byte) (s : State) : Host.Outcome State Fault Refusal := rxCommand (some [0x11]) l pair fec flit s
def execPairOut (l pair fec : Nat) (flit : List Byte) (s : State) : Host.Outcome State Fault Refusal := rxCommand (some [0x12]) l pair fec flit s
def execPairJoin (l pair fec : Nat) (flit : List Byte) (s : State) : Host.Outcome State Fault Refusal := rxCommand (some [0x13]) l pair fec flit s
def execResync (l pair fec : Nat) (flit : List Byte) (s : State) : Host.Outcome State Fault Refusal := rxCommand (some [0x14]) l pair fec flit s

/-- A control flit R185 discards: of a reserved type, of the wrong SEQD, or from the wrong side. -/
def execReservedControlFlit (l pair fec : Nat) (flit : List Byte) (s : State) : Host.Outcome State Fault Refusal :=
  onLink (decide (l < 4 ∧ pair < 4)) l s (fun h =>
    let hd := leAt flit 0 4
    let ctype := bits hd 28 3 * 16 + bits hd 24 4
    if decide (2 ^ 31 ≤ hd) && (0x14 < ctype || !ctlFromHost ctype || bitB hd 15 != ctlSequenced ctype) then h.rxFlit l pair fec flit else h)

/-! ### Flits out (R187, R229) -/

/-- RESYNC is said again, every 10 µs until the partner's has come (R206). -/
def Hub.sendResync (h : Hub) (l : Nat) : Hub :=
  ((h.modLink l (fun k => { k with resyncAt := h.now })).sendPlain l 0x14 (leBytes 4 (h.link l).rxSeq)).arm T.ack l 10000

/-- An ACK goes out (R187, R197, R205). -/
def Hub.sendAck (h : Hub) (l : Nat) : Hub :=
  let k := h.link l
  let s := h.session l
  let solo := (List.range 4).find? (fun m => k.soloRunning.read (fun _ => false) m)
  let locked := maskOf (h.activePairs l 1) ||| maskOf k.locked
  let credits := ((List.range 8).map (fun c =>
    leBytes 4 ((k.taken.read (fun _ => 0) c + 2 ^ 32 - h.heldFlits l c) % 2 ^ 32))).flatten
  let (h1, train) := match solo with
    -- Requests and limit are the receiver's adaptation, free (log entry 77); it is ready once the retraining has passed.
    | some m => (h.drawn, m + h.pairDir l m * 16 + 64 + h.freeVal % 64 * 256 + h.freeVal / 64 % 2 * 2 ^ 15)
    | none => (h, 0)
  let body := leBytes 4 k.rxSeq ++ leBytes 1 (ofB k.nakDue + ofB (!k.locked.isEmpty) * 2) ++ leBytes 1 (min k.loadOut 255) ++ leBytes 1 locked ++ leBytes 1 0 ++ credits ++
    leBytes 4 k.ackCount ++ leBytes 4 train ++ leBytes 64 0
  let tag := if k.sealOut then gcmTag (secretKey s.secretOut) (sessionNonce s.saltOut 1 s.epochOut k.ackCount) body [] else leBytes 16 0
  ((h1.modLink l (fun k => { k with ackCount := (k.ackCount + 1) % 2 ^ 32, sinceAck := 0, ackDue := false, nakDue := false })).sendPlain l 1 (body ++ tag)).arm T.ack l 10000

def execAckTimer (l : Nat) (s : State) : Host.Outcome State Fault Refusal :=
  onLink (decide (l < 4)) l s (fun h =>
    if !h.flitsRun l then h
    else if (h.link l).resync then h.expire T.ack l (fun g => g.sendResync l)
    else if (h.link l).ackDue then h.sendAck l
    else h.expire T.ack l (fun g => g.sendAck l))

def execNakTimer (l : Nat) (s : State) : Host.Outcome State Fault Refusal :=
  onLink (decide (l < 4)) l s (fun h =>
    if h.flitsRun l && !(h.link l).reorder.isEmpty then h.expire T.nak l (fun g => (g.wantNak l).sendAck l) else h)

def execReplayTimer (l : Nat) (s : State) : Host.Outcome State Fault Refusal :=
  onLink (decide (l < 4)) l s (fun h =>
    if h.flitsRun l then
      match (h.link l).unacked with
      | [] => h
      | f :: _ => h.expire T.replay l (fun g => g.replayFrom l f.seq)
    else h)

def execSealGroupTimer (l : Nat) (s : State) : Host.Outcome State Fault Refusal :=
  onLink (decide (l < 4)) l s (fun h => h.expire T.sealGroup l (fun g => g.sendTag l))

/-- Time and Control flits are held to 1 % and 2 % of the direction's capacity in each 100 µs (R229). -/
def Hub.shareLeft (h : Hub) (l cls : Nat) : Bool :=
  let k := h.link l
  let cap := h.capacity l false * 100 / 8 / 128
  if cls == 6 then k.shares.1 * 100 < cap + 99 else if cls == 0 then k.shares.2 * 50 < cap + 49 else true

/-- Of a NOTICE message being sent: its sequence plus 1, and how many of its entries of 16 bytes end in its next flit (R161). -/
def TxMsg.notice (m : TxMsg) : Nat × Nat :=
  let b := m.pkt.bytes
  let i := (b.length + 127) / 128 - m.flits.length
  let n := (b.length - 16) / 16
  if m.cls == 0 && byteAt b 8 == 4 then (leAt b 12 2 + 1, min n (8 * i + 7) - min n (8 * i - 1)) else (0, 0)

/-- One flit of a message that is being sent leaves; with its last flit the message is no longer being sent. -/
def Hub.sendMsgFlit (h : Hub) (l : Nat) (m : TxMsg) (som : Bool) : Hub :=
  match m.flits with
  | [] => h
  | p :: rest =>
    let h1 := h.sendData l m.cls m.index som rest.isEmpty p (m.id + 1) m.slot m.notice
    h1.modLink l (fun k => { k with
      txMsgs := (k.txMsgs.filter (fun x => x.id != m.id || x.leaf != m.leaf)) ++ (if rest.isEmpty then [] else [{ m with flits := rest }]),
      shares := if m.cls == 6 then (k.shares.1 + 1, k.shares.2) else if m.cls == 0 then (k.shares.1, k.shares.2 + 1) else k.shares })

/-- Whether a leaf may begin a message on a landing's pairs: its class has a credit, and neither the leaf nor the tunnel has one being sent (R189, R217). -/
def Hub.leafMay (h : Hub) (l q : Nat) : Bool :=
  match h.yard.leaf q with
  | [] => false
  | e :: _ => 0 < h.avail l (h.leafService q) && !(h.link l).txMsgs.any (fun m => m.leaf == q || m.slot == e.slot)

/-- A message begins to leave on a landing's pairs: what the egress adapter writes is written as its first flit goes (R105, R106, R378). -/
def Hub.beginMessage (h : Hub) (l q node : Nat) (green : Bool) (e : LeafPkt) : Hub :=
  let x := ((h.dequeue q node green e).poolWatch).leaving l 0 e
  let y := x.1.toLanding l q e x.2
  (y.1.sendMsgFlit l y.2 true).ptpLeaves l x.2

/-- Begins the message selected among the leaves that may (R290), and whether there was one. -/
def Hub.beginFrom (h : Hub) (l : Nat) (may : Nat → Bool) : Hub × Bool :=
  let leaves := (h.yard.leaves.cells.map (fun c => c.1)).filter (fun q => h.leafOf l 0 q && may q)
  let x := (leaves.foldl (fun g q => g.purgeLeaf q) h).pick (h.yard.portMessages l) l 0 (fun g q => may q && g.leafMay l q)
  match x.2 with
  | none => (x.1.poolWatch, false)
  | some (q, node, green, e) => (x.1.beginMessage l q node green e, true)

/-- What sends only when nothing before it did. -/
def Hub.orElse (x : Hub × Bool) (f : Hub → Hub × Bool) : Hub × Bool := if x.2 then x else f x.1

/-- A flit of a message that is being sent and has a credit, the one that has waited longest. -/
def Hub.continueMessage (h : Hub) (l : Nat) (p : TxMsg → Bool) : Hub × Bool :=
  match (h.link l).txMsgs.find? (fun m => p m && decide (0 < h.avail l m.cls)) with
  | some m => (h.sendMsgFlit l m false, true)
  | none => (h, false)

/-- Step 3 of R229 for one class: a flit of it, of a message being sent or a new one, within its share. -/
def Hub.classTurn (h : Hub) (l cls : Nat) : Hub × Bool :=
  if h.shareLeft l cls then Hub.orElse (h.continueMessage l (fun m => m.cls == cls)) (fun g => g.beginFrom l (fun q => g.leafService q == cls)) else (h, false)

/-- A new 100 µs of the shares of Time and Control. -/
def Hub.freshShares (h : Hub) (l : Nat) : Hub :=
  if (h.link l).shareStart + 100 * usec ≤ h.now then h.modLink l (fun k => { k with shares := (0, 0), shareStart := h.now }) else h

/-- Steps 3 to 5 of R229: Time, then Control, each within its share; then messages being sent; then the message selected. Without any, IDLE. -/
def Hub.dataSlot (h : Hub) (l : Nat) : Hub :=
  let x := Hub.orElse ((h.freshShares l).classTurn l 6) (fun g => g.classTurn l 0)
  let y := Hub.orElse (Hub.orElse x (fun g => g.continueMessage l (fun _ => true))) (fun g => g.beginFrom l (fun _ => true))
  (if y.2 then y.1 else y.1.sendPlain l 0 []).stallWatch l

/-- Whether a stored or owed REKEY can go out now. -/
def Hub.rekeyReady (h : Hub) (l : Nat) : Bool :=
  let k := h.link l
  (k.rekeyAsk || k.rekeyOwed) && k.sealOut && h.lState l == 5 && h.windowRoom l 2 && !k.holdCtl

/-- Whether a slot is free for steps 3 to 5 of R229. -/
def Hub.slotFree (h : Hub) (l : Nat) : Bool :=
  let k := h.link l
  !k.resync && !h.rekeyReady l && (k.ctl.isEmpty || !h.windowOpen l) && !k.ackDue && k.replay.isEmpty && h.lState l == 5 && h.windowOpen l &&
    k.sealOut && !(h.carriers l).isEmpty

/-- One flit slot of a running landing, in the order of R229: control flits, ACK, replays, data, else IDLE. -/
def Hub.flitSlot (h : Hub) (l : Nat) : Hub :=
  let k := h.link l
  if k.resync then (if k.resyncAt + 10000 ≤ h.now then h.sendResync l else h.sendPlain l 0 [])
  else if h.rekeyReady l then (h.modLink l (fun k => { k with rekeyAsk := false })).sendRekey l k.rekeyAsk
  else match k.ctl, h.windowOpen l && !k.holdCtl with
    | c :: rest, true => (h.modLink l (fun k => { k with ctl := rest })).putCtl l c.1 c.2
    | _, _ =>
      if k.ackDue then h.sendAck l
      else match k.replay with
        | f :: rest => (h.modLink l (fun k => { k with replay := rest })).emitFlit l f.bytes
        | [] => if h.slotFree l then h.dataSlot l else (h.sendPlain l 0 []).stallWatch l

/-- Whether a landing in L-sleep has anything for its host. -/
def Hub.hasTraffic (h : Hub) (l : Nat) : Bool :=
  !(h.link l).txMsgs.isEmpty || !(h.link l).ctl.isEmpty || (h.link l).rekeyAsk || (h.link l).rekeyOwed || !(h.link l).replay.isEmpty || (h.link l).resync ||
    h.yard.leaves.cells.any (fun c => c.1 / 128 == l && !c.2.isEmpty) || (h.ctx l).out.any (fun m => m.chan == .ldl l)

/-- A flit slot of a landing comes. In L-sleep what waits for the host wakes the link where WAKE_HOST allows it, in L-idle it ends the idleness
(R198, R199). -/
def execFlitTransmit (l : Nat) (s : State) : Host.Outcome State Fault Refusal :=
  onLink (decide (l < 4)) l s (fun h =>
    if h.flitsRun l then h.flitSlot l
    else if h.lState l == 7 && h.on F.LANDING.WAKE_HOST l && h.hasTraffic l then (h.sideband l 5 []).wake l
    else if h.lState l == 6 && h.hasTraffic l then h.exitIdle l
    else h)

/-- A port that can send picks a message and sends it (R290). On a landing's port the selection fills a flit slot that nothing of steps 1 to 3 of R229
needs (R289), and the message's first flit leaves in it. -/
def Hub.egressSelect (h : Hub) (port unit : Nat) : Hub :=
  if port == 8 then (h.portSelect port unit).legacyArrivals
  else if 4 ≤ port then h.portSelect port unit
  else if h.slotFree port && h.unitUp port 0 then
    let x := Hub.orElse ((h.freshShares port).beginFrom port (fun q => h.leafService q == 6 && h.shareLeft port 6))
      (fun g => g.beginFrom port (fun q => g.leafService q == 0 && g.shareLeft port 0))
    ((Hub.orElse x (fun g => g.beginFrom port (fun _ => true))).1).stallWatch port
  else h

def execEgressSelect (port unit : Nat) (s : State) : Host.Outcome State Fault Refusal :=
  actIf (unitExists port unit) s (fun h => h.egressSelect port unit)

/-! ### Swaps, pairs, demand -/

/-- EOS from the host: the device, as new transmitter, sends the ALIGN pattern on the pair (R194). -/
def execSwapEosReceived (l : Nat) (s : State) : Host.Outcome State Fault Refusal :=
  onLink (decide (l < 4)) l s (fun h =>
    match (h.link l).swap with
    | some w =>
      if w.dir == 2 && w.phase == 1 then
        ((h.modLink l (fun k => { k with swap := some { w with phase := 2 } })).emitAlign l w.pair).arm T.swapLock l 16000
      else h
    | none => h)

def execSwapPairLocked (l : Nat) (s : State) : Host.Outcome State Fault Refusal :=
  onLink (decide (l < 4)) l s (fun h =>
    match (h.link l).swap with
    | some w =>
      if w.dir == 1 && w.phase == 1 then
        (h.disarm T.swapLock l).modLink l (fun k => { k with swap := some { w with phase := 2 }, locked := k.locked ++ [w.pair], ackDue := true })
      else h
    | none =>
      match (h.link l).rejoin.find? (fun r => r.2 == 1 && !(h.link l).locked.contains r.1) with
      | some r => h.modLink l (fun k => { k with locked := k.locked ++ [r.1], ackDue := true })
      | none => h)

def execSwapAckTimeout (l : Nat) (s : State) : Host.Outcome State Fault Refusal :=
  onLink (decide (l < 4)) l s (fun h =>
    match (h.link l).swap with
    | some w =>
      if w.phase == 0 then
        h.expire T.swapAck l (fun g =>
          let g1 := ((g.sendCtl l 8 (leBytes 1 0 ++ leBytes 1 w.number)).dropSwap l 5)
          if w.sparing then g1.startRetrain l 4 else g1.waitingRejoins l)
      else h
    | none => h)

/-- No lock in time (R195): the pair is reversed, and restores or fails. -/
def execSwapLockTimeout (l : Nat) (restored : Bool) (s : State) : Host.Outcome State Fault Refusal :=
  onLink (decide (l < 4)) l s (fun h =>
    match (h.link l).swap with
    | some w =>
      h.expire T.swapLock l (fun g =>
        if restored then
          let g1 := g.dropSwap l 8
          if w.sparing then g1.startRetrain l 4 else g1.waitingRejoins l
        else
          let g1 := (g.modLink l (fun k => { k with swap := none, locked := k.locked.filter (fun x => x != w.pair) })).pairGone l w.pair 4 true
          let g2 := if w.sparing then g1.startRetrain l 4 else g1.spare l 4
          if (g2.link l).toAllot then g2.arm T.allotRetry l sec else g2)
    | none => h)

/-- A pair fails (R196): 16 of its codewords were uncorrectable within 1 ms, or its receiver has lost lock for 1 µs. -/
def execPairFailure (l pair cause : Nat) (s : State) : Host.Outcome State Fault Refusal :=
  onLink (decide (l < 4 ∧ pair < 4)) l s (fun h =>
    let bad := ((h.link l).badCodes.read (fun _ => []) pair).filter (fun t => h.now < t + msec)
    if h.flitsRun l && ((cause == 1 && decide (16 ≤ bad.length)) || cause == 2) && (h.activePairs l 1).contains pair then h.failPair l pair cause true else h)

/-- Demand windows (R193): load is the device's own offered load, in 1/200 of the direction's capacity. The mean of no DEMAND byte is 0 (DESIGN
CHOICE, log entry 76). Windows do not count in HOLD (R201). An automatic swap that R192 does not allow is refused and reported (R195). -/
def execDemandWindow (l load : Nat) (s : State) : Host.Outcome State Fault Refusal :=
  onLink (decide (l < 4)) l s (fun h =>
    h.expire T.demand l (fun g0 =>
      let g := g0.arm T.demand l msec
      let k := g.link l
      let busyIn := 170 * k.demandCount < k.demandSum
      let calmIn := k.demandSum < 60 * k.demandCount || k.demandCount == 0
      let dir := if g.lState l == 9 then 0 else if busyIn && load < 60 then 1 else if 170 < load && calmIn then 2 else 0
      let n := if dir == 0 then 0 else if dir == k.lopsidedDir then k.lopsided + 1 else 1
      let g1 := g.modLink l (fun k => { k with loadOut := load, demandSum := 0, demandCount := 0, lopsided := n, lopsidedDir := dir })
      if 50 ≤ n && g.on F.LANDING.AUTO_SWAP l && bitB k.features 5 && k.noSwapUntil ≤ g.now && g.lState l == 5 && k.swap.isNone && k.swapWanted.isNone then
        match ((g.activePairs l (3 - dir)).filter (fun m => g.swapReady l m)).getLast? with
        | some m =>
          let g2 := g1.modLink l (fun k => { k with lopsided := 0 })
          match g.swapFault l m with
          | none => g2.modLink l (fun k => { k with swapWanted := some { pair := m, dir := dir, auto := true } })
          | some r => g2.notify (nLanding l 11) (m + r * 256)
        | none => g1
      else g1))

def execAllotRetryTimer (l : Nat) (s : State) : Host.Outcome State Fault Refusal :=
  onLink (decide (l < 4)) l s (fun h =>
    if h.lState l == 5 then h.expire T.allotRetry l (fun g => g.workToAllot l) else h)

def execSoloRetrainTimer (pair : Nat) (s : State) : Host.Outcome State Fault Refusal :=
  onLink (decide (pair < 16)) (pair / 4) s (fun h =>
    let l := pair / 4
    let m := pair % 4
    if h.lState l == 5 && h.pairState l m == 5 then
      h.expire T.solo pair (fun g =>
        ((g.setPair l m 1).modLink l (fun k => { k with soloRunning := k.soloRunning.write (fun _ => false) m true, trainHeard := k.trainHeard.write (fun _ => 0) m 0 })).emitTraining
          l m m 0 false)
    else h)

/-- Whether a pair retrained on its own passes in both directions (R197): by the device's receiver, and by what PAIR_TRAIN told of the host's. -/
def Hub.soloPasses (h : Hub) (l m : Nat) (results : List TrainingResult) : Bool :=
  let heard := (h.link l).trainHeard.read (fun _ => 0) m
  results.any (fun r => r.pair == m && resultPasses r 1) && bits heard 4 2 == 2 && bitB heard 14

/-- A solo retraining ends (R197): the pair rejoins, or tries again 10 s and 100 s after it failed. -/
def execSoloRetrainDone (pair : Nat) (results : List TrainingResult) (s : State) : Host.Outcome State Fault Refusal :=
  onLink (decide (pair < 16)) (pair / 4) s (fun h =>
    let l := pair / 4
    let m := pair % 4
    let k := h.link l
    if !k.soloRunning.read (fun _ => false) m then h
    else
      let n := k.soloTries.read (fun _ => 0) m + 1
      let h1 := (h.modLink l (fun k => { k with soloRunning := k.soloRunning.write (fun _ => false) m false, soloTries := k.soloTries.write (fun _ => 0) m n })).set
        F.PAIR.LAST_TRAIN pair h.now48
      if h.soloPasses l m results then h1.startRejoin l m
      else
        let at_ := k.failAt.read (fun _ => 0) m
        let h2 := h1.setPair l m 5
        -- An attempt made as PAIR.ENABLE returned counts before the three.
        if at_ == 0 then ((h2.modLink l (fun k => { k with soloTries := k.soloTries.write (fun _ => 0) m 0, failAt := k.failAt.write (fun _ => 0) m h.now })).set
            F.LANDING.PAIRS_FAILED l (setBit (h2.get F.LANDING.PAIRS_FAILED l) m)).arm T.solo pair sec
        else if n == 1 then h2.armAt T.solo pair (max h.now (at_ + 10 * sec))
        else if n == 2 then h2.armAt T.solo pair (max h.now (at_ + 100 * sec))
        else h2)

/-! ### Low power, keys, credits -/

def execLidleEntryTimer (l : Nat) (s : State) : Host.Outcome State Fault Refusal :=
  onLink (decide (l < 4)) l s (fun h =>
    let k := h.link l
    if h.lState l == 5 && bitB k.features 2 && h.on F.LANDING.LIDLE_ENABLE l && !h.busyOut l && !h.quietWaits l && k.swap.isNone && k.swapWanted.isNone && !k.idleReqSent then
      h.expire T.lidle l (fun g => (g.sendCtl l 0x0A []).modLink l (fun k => { k with idleReqSent := true }))
    else h)

def execLidleExit (l : Nat) (s : State) : Host.Outcome State Fault Refusal :=
  onLink (decide (l < 4)) l s (fun h => h.exitIdle l)

/-- The flit limit of a key (R206); the answer a host's REKEY asks for goes the same way. -/
def execRekeyFlitLimit (l : Nat) (s : State) : Host.Outcome State Fault Refusal :=
  onLink (decide (l < 4)) l s (fun h =>
    if !h.flitsRun l then h
    else if 0xFFF00000 ≤ (h.link l).flitsOnKey || (h.link l).rekeyOwed then h.sendRekey l false else h)

/-- 100 ms with a flit of a class waiting and no credit for it (R207). -/
def execCreditStallTimer (l cls : Nat) (s : State) : Host.Outcome State Fault Refusal :=
  onLink (decide (l < 4 ∧ cls < 8)) l s (fun h => h.expire T.creditStall (8 * l + cls) (fun g => if g.stalled l cls then g.notify (nLanding l 19) cls else g))

def execCeilingWindow (l slot : Nat) (s : State) : Host.Outcome State Fault Refusal :=
  onLink (decide (l < 4 ∧ slot < 2048)) l s (fun h => h.ceilingWindow (tunnelOf l slot))

end Sys2Proof.Machine
end

