-- ==== Sys2Proof/Machine/Receipt.lean ====
section
/-! DEFINITION. How a Manifest is reported: Receipts (R142–R145), standing records (R153, R154) and the outcome of a replay (R155). -/

namespace Sys2Proof.Machine

/-- What a Receipt says beside its Manifest's own header: status and detail (R143), LATE and REPLAYED, steps, the faulting address, notes, the epoch
kind of the COMMIT and the clamp entries. -/
structure Report where
  status : Nat
  detail : Nat := 0
  late : Bool := false
  replayed : Bool := false
  steps : Nat := 0
  addr : Nat := 0
  notes : List (Word × Word) := []
  kind : Nat := 0xFF
  clamps : List Clamp := []

/-- The 16 bytes of a clamp entry (R144). -/
def Clamp.bytes (c : Clamp) : List Byte :=
  leBytes 8 (c.object % 2 ^ 24 + c.num * 2 ^ 24 + c.reason * 2 ^ 36 + c.elem * 2 ^ 44 + ofB c.high * 2 ^ 54) ++ leBytes 4 c.requested ++ leBytes 4 c.applied

/-- A Receipt's body (R142), with at most 1,024 clamp entries and no more than its party takes. -/
def receiptBody (head : ManHead) (r : Report) (detail : Nat) (stored : Bool) (maxBody now48 : Nat) : List Byte :=
  let room := min 1024 ((maxBody - 32 - 8 * r.notes.length) / 16)
  let shown := r.clamps.take room
  let left := r.clamps.length - shown.length
  leBytes 1 r.status ++ leBytes 1 (ofB stored + ofB r.late * 2 + ofB r.replayed * 4 + ofB (left != 0) * 8) ++ leBytes 2 detail ++ leBytes 4 head.tag ++
    leBytes 4 r.steps ++ leBytes 2 r.addr ++ leBytes 1 r.notes.length ++ leBytes 1 r.kind ++ leBytes 2 shown.length ++ leBytes 2 (min left 65535) ++
    leBytes 6 now48 ++ leBytes 6 0 ++ (r.notes.map (fun n => leBytes 4 n.1.toNat ++ leBytes 4 n.2.toNat)).flatten ++ (shown.map Clamp.bytes).flatten

/-! ### Standing slots (R153, R154) -/

/-- Whether a context may store into a slot: it is empty, its own, or the context holds K0. -/
def Hub.slotAccepted (h : Hub) (n slot : Nat) : Bool :=
  slot < 16 && (h.get F.STANDING.STATE slot == 0 || h.get F.STANDING.OWNER slot == n || h.holds n 0)

/-- Whether R153 refuses a STANDING Manifest before execution. -/
def Hub.standingBarred (h : Hub) (n slotByte : Nat) : Bool :=
  !(n == 4 || h.holds n 0) || (slotByte != 0xFF && !h.slotAccepted n slotByte)

/-- The slot a committed standing Manifest is stored in, if one is available. -/
def Hub.standingSlot (h : Hub) (head : ManHead) : Option Nat :=
  if head.slotByte == 0xFF then firstWhere 16 (fun k => h.get F.STANDING.STATE k == 0)
  else if h.slotAccepted head.ctx head.slotByte then some head.slotByte
  else none

/-- The Manifest header (R127) and words as bytes. -/
def manifestBytes (head : ManHead) (words : List Word) : List Byte :=
  leBytes 1 head.level ++ leBytes 1 head.slotByte ++ leBytes 2 words.length ++ leBytes 4 head.tag ++ (words.map (fun w => leBytes 4 w.toNat)).flatten

/-- A record is written to flash with its commit flag last. -/
def Hub.storeStanding (h : Hub) (slot : Nat) (head : ManHead) (words : List Word) : Hub :=
  let h1 := { h with standing := h.standing.write (fun _ => {}) slot { level := head.level, tag := head.tag, words := words, sum := digest (manifestBytes head words) } }
  (((((h1.set F.STANDING.STATE slot 1).set F.STANDING.OWNER slot head.ctx).set F.STANDING.ENABLE slot 1).set F.STANDING.LENGTH slot words.length).set
    F.STANDING.DIGEST slot (leNat ((digest (manifestBytes head words)).take 8))).set F.STANDING.DESK slot (ofB (h.holds head.ctx 0))

/-- STANDING.CLEAR erases a slot. -/
def Hub.clearStanding (h : Hub) (slot : Nat) : Hub :=
  let h1 := { h with standing := h.standing.write (fun _ => {}) slot {} }
  (((((h1.set F.STANDING.STATE slot 0).set F.STANDING.OWNER slot 0xF).set F.STANDING.ENABLE slot 0).set F.STANDING.LENGTH slot 0).set
    F.STANDING.DIGEST slot 0).set F.STANDING.DESK slot 0

/-- A standing Manifest that committed: what its detail says and whether it is stored. Whether the flash write succeeds is a free value. -/
def Hub.keepStanding (h : Hub) (head : ManHead) (words : List Word) : Hub × Nat × Bool :=
  match h.standingSlot head with
  | none => (h, 0x8001, false)
  | some slot => if h.freeVal % 2 == 1 then (h.drawn, 0x8002, false) else (h.drawn.storeStanding slot head words, 0, true)

/-! ### Reporting -/

/-- A Manifest or set has ended: its Receipt joins its context's messages, or a replay leaves its outcome in its slot. -/
def Hub.report (h : Hub) (head : ManHead) (words : List Word) (r : Report) : Hub :=
  match head.replay with
  | some slot =>
    let h1 := (h.set F.STANDING.LAST_STATUS slot r.status).set F.STANDING.LAST_DETAIL slot r.detail
    if 1 < r.status then h1.notify 506 (slot + r.status * 2 ^ 8 + r.detail * 2 ^ 16) else h1
  | none =>
    let kept := head.standing && r.status ≤ 1
    let (h1, detail, stored) := if kept then h.keepStanding head words else (h, r.detail, false)
    (h1.send head.chan 3 head.seq (receiptBody head r detail stored (h.ctx head.ctx).maxBody h.now48)).drainOut head.ctx

/-- A program of a context ends: its far-bus locks are released (R95) and its next Manifest may start. -/
def Hub.endManifest (h : Hub) (n : Nat) : Hub :=
  ({ h with progs := h.progs.write (fun _ => none) n none, turnLeft := 0 }.farManifestEnd n).idleWatch.add F.CONTEXT.MANIFESTS n 1

/-- A Manifest's program of a context, when one runs. -/
def Hub.prog (h : Hub) (k : Nat) : Option Prog := h.progs.read (fun _ => none) k
def Hub.setProg (h : Hub) (k : Nat) (p : Prog) : Hub := { h with progs := h.progs.write (fun _ => none) k (some p) }

/-- The running Manifest of a context ends without a commit: its staged set is discarded and it is reported. -/
def Hub.finish (h : Hub) (n : Nat) (p : Prog) (r : Report) : Hub :=
  (h.endManifest n).report p.head p.words { r with steps := p.steps, notes := p.notes, clamps := p.clamps }

/-- A Manifest that nothing holds goes on at its pc; past its last word it faults there with FAULT_PC (R71). -/
def Hub.manifestOn (h : Hub) (n : Nat) (p : Prog) : Hub :=
  if p.block.isNone && p.words.length ≤ p.pc then h.finish n p { status := 3, detail := 7, addr := p.pc } else (h.setProg n p).idleWatch

/-- A waiting set leaves the commit stage without its application. -/
def Hub.discardSet (h : Hub) (w : WaitSet) (status detail : Nat) (clamps : List Clamp) : Hub :=
  h.report w.head w.words { status := status, detail := detail, late := w.late, steps := w.steps, notes := w.notes, kind := w.kind, clamps := w.clamps ++ clamps }

end Sys2Proof.Machine
end

