-- ==== Sys2Proof/Machine/Auth.lean ====
section
/-! DEFINITION. The AUTH commands (R202, R203, R504, R505, R507, R508): on a landing's pairs, on its legacy interface and in the management
session. -/

namespace Sys2Proof.Machine

/-! ### The legacy interface (R508) -/

/-- AUTH messages for the host on a legacy interface: whole, unsealed, each in a Control message of TYPE 0x0B on bulk IN,
through the Yard from Y10 to Y8 (R42). -/
def Hub.legacyAuths (h : Hub) (l seq : Nat) (out : AuthOut) : Hub :=
  out.foldl (fun g m =>
    g.originate 10 0 ([0x0B, 1] ++ leBytes 1 l ++ [0] ++ leBytes 2 seq ++ leBytes 2 (m.2.length + 1) ++ leBytes 1 m.1 ++ m.2) [(portLeaf 8 10 0, l)]) h

/-- Whether the new exchange's host may go on without a HELLO: its leaf key is the one the interface's previous session presented. -/
def Hub.sameLeaf (h : Hub) (l : Nat) (leaf : List Byte) : Bool :=
  !leaf.isEmpty && h.leafKeys.read (fun _ => []) (16 + l) == leaf

/-- A whole AUTH message on a legacy interface. -/
def Hub.legacyAuth (h : Hub) (l type seq : Nat) (msg : List Byte) : Hub :=
  let k := 4 + l
  match type with
  | 1 =>
    let (h1, out) := h.authInit k msg
    let h2 := h1.legacyAuths l seq out
    if out.isEmpty then h2
    else if (h2.exchange k).phase == 1 then h2.arm T.auth k (h.get F.LANDING.AUTH_TIMEOUT l * msec)
    else (h2.disarm T.auth k).authLost l
  | 3 =>
    let (h1, out, ok) := h.authProof k msg
    let h2 := h1.legacyAuths l seq out
    if ok then
      let x := h2.exchange k
      let h3 := (h2.endLegacySession l).setSession k { helloOnly := !h.sameLeaf l x.leafKey }
      ({ h3 with leafKeys := h3.leafKeys.write (fun _ => []) (16 + l) x.leafKey }).authSuccess l x.empty x.leafKey
    else if out.isEmpty then h2 else (h2.disarm T.auth k).authLost l
  | 5 => (((h.endExchange k).authFailed k (byteAt msg 0)).disarm T.auth k).authLost l
  | 6 =>
    let only := (h.session k).helloOnly
    let (h1, ok) := h.authGo k
    if ok then ((h1.setSession k { h1.session k with helloOnly := only }).disarm T.auth k).drainOut l else h1
  | _ => h.refuseControl (.legacy l) ([0x0B, 1] ++ leBytes 2 0 ++ leBytes 2 seq) 4

/-- A Control message of TYPE 0x0B whose content is of a given AUTH type. -/
def Hub.legacyAuthMessage (h : Hub) (l type : Nat) (msg : List Byte) : Hub :=
  let b := ctlBody msg
  if byteAt msg 0 != 0x0B || byteAt b 0 != type then h
  else match h.takeBulk l msg with
    | none => h.bulkOut l msg
    | some g => match g.controlFault (.legacy l) true msg with
      | some r => g.refuseControl (.legacy l) msg r
      | none => if b.isEmpty || 16384 < b.length then g.refuseControl (.legacy l) msg 4 else g.legacyAuth l type (ctlSeq msg) (b.drop 1)

/-! ### The management session (R507) -/

/-- AUTH messages for the management peer, a segment a datagram. -/
def Hub.mgmtAuths (h : Hub) (peer : Nat × List Byte) (out : AuthOut) : Hub :=
  out.foldl (fun g m => (authSegments m.1 m.2).foldl (fun g s => g.sendDatagram peer.1 peer.2 (1 :: padFlit s)) g) h

/-- A whole AUTH message from a peer. -/
def Hub.mgmtAuth (h : Hub) (peer : Nat × List Byte) (type : Nat) (msg : List Byte) : Hub :=
  let s := h.session 8
  match type with
  | 1 =>
    if s.up && h.now < s.lastHeard + 30 * sec then h
    else
      let x := h.exchange 8
      let expired := x.limited && x.inits.all (fun t => t + 60 * sec ≤ h.now)
      let (h1, out) := (if expired then h.setExchange 8 { x with limited := false, inits := [] } else h).authInit 8 msg
      let h2 := (h1.setExchange 8 { h1.exchange 8 with peer := peer }).mgmtAuths peer out
      if (h2.exchange 8).phase == 1 && !out.isEmpty then h2.arm T.auth 8 (2 * sec) else if out.isEmpty then h2 else h2.disarm T.auth 8
  | 3 =>
    let (h1, out, ok) := h.authProof 8 msg
    let h2 := h1.mgmtAuths peer out
    if ok then { h2 with leafKeys := h2.leafKeys.write (fun _ => []) 5 (h2.exchange 8).leafKey }
    else if out.isEmpty then h2 else h2.disarm T.auth 8
  | 5 => (h.endExchange 8).disarm T.auth 8
  | 6 =>
    let (h1, ok) := (h.endMgmt 4).authGo 8
    if ok && (h.exchange 8).phase == 2 then
      (((({ h1 with mgmtPeer := peer, opened := h1.opened.write (fun _ => []) 8 [] }).disarm T.auth 8).arm T.mgmtIdle 0 (120 * sec)).notify 475 1).drainOut 5
    else h
  | _ => h

/-- One AUTH segment from a peer (R202). -/
def Hub.mgmtAuthSegment (h : Hub) (peer : Nat × List Byte) (p : List Byte) : Hub :=
  let x := h.exchange 8
  let type := byteAt p 0
  let i := byteAt p 1
  let n := byteAt p 2
  let total := leAt p 4 2
  let len := leAt p 6 2
  let follows := i == x.partNext && type == x.partType && n == x.partCount && total == x.partTotal
  if byteAt p 3 != 0 || n ≤ i || 120 < len || (len == 0 && total != 0) || 16384 < total || (0 < i && !follows) then
    { (h.setExchange 8 { x with part := [], partNext := 0 }) with mgmtDiscards := h.mgmtDiscards + 1 }
  else
    let got := (if i == 0 then [] else x.part) ++ (p.drop 8).take len
    if i + 1 < n then h.setExchange 8 { x with part := got, partNext := i + 1, partType := type, partCount := n, partTotal := total }
    else
      let h1 := h.setExchange 8 { x with part := [], partNext := 0 }
      if got.length == total then h1.mgmtAuth peer type got else { h1 with mgmtDiscards := h.mgmtDiscards + 1 }

/-- A kind-0x01 datagram whose payload is of a given AUTH type. -/
def Hub.mgmtAuthDatagram (h : Hub) (mac type : Nat) (frame : List Byte) : Hub :=
  match h.takeDatagram mac [frame] with
  | some (h1, d) =>
    if byteAt d 0 == 1 && byteAt d 1 == type then
      (if d.length == 129 then h1.mgmtAuthSegment (mac, frame.take 54) (d.drop 1) else { h1 with mgmtDiscards := h1.mgmtDiscards + 1 })
    else h
  | none => h

/-! ### The commands -/

/-- An AUTH command: on the pairs an AUTH flit of its type, received as the link receives any flit. -/
def authCommand (type : Nat) (ch : Chan) (pair fec : Nat) (data : List Byte) (s : State) : Host.Outcome State Fault Refusal :=
  match ch with
  | .ldl l => onLink (decide (l < 4 ∧ pair < 4)) l s (fun h =>
      let hd := leAt data 0 4
      let ctype := bits hd 28 3 * 16 + bits hd 24 4
      if decide (2 ^ 31 ≤ hd) && ctype == 0x10 && byteAt data 4 == type then h.rxFlit l pair fec data else h)
  | .legacy l => actIf (decide (l < 4)) s (fun h => h.legacyAuthMessage l type data)
  | .localPort => act s (fun h => h)
  | .mgmt => actIf (decide (pair < 2)) s (fun h => h.mgmtAuthDatagram pair type data)

def execAuthInit (ch : Chan) (pair fec : Nat) (data : List Byte) (s : State) : Host.Outcome State Fault Refusal := authCommand 1 ch pair fec data s
def execAuthProof (ch : Chan) (pair fec : Nat) (data : List Byte) (s : State) : Host.Outcome State Fault Refusal := authCommand 3 ch pair fec data s
def execAuthAbort (ch : Chan) (pair fec : Nat) (data : List Byte) (s : State) : Host.Outcome State Fault Refusal := authCommand 5 ch pair fec data s
def execAuthGo (ch : Chan) (pair fec : Nat) (data : List Byte) (s : State) : Host.Outcome State Fault Refusal := authCommand 6 ch pair fec data s

/-- An exchange not completed in time (R203, R507). -/
def Hub.authTimeout (h : Hub) (ch : Chan) : Hub :=
  match ch with
  | .ldl l => h.expire T.auth l (fun g =>
      if g.lState l == 4 then (((g.sendAuth l 5 (leBytes 1 3)).endExchange l).authFailed l 3).pairsRefused l else g)
  | .legacy l => h.expire T.auth (4 + l) (fun g =>
      (((g.legacyAuths l 0 [(5, leBytes 1 3)]).endExchange (4 + l)).authFailed (4 + l) 3).authLost l)
  | .mgmt => h.expire T.auth 8 (fun g => (g.mgmtAuths (g.exchange 8).peer [(5, leBytes 1 3)]).endExchange 8)
  | .localPort => h

def execAuthTimeout (ch : Chan) (s : State) : Host.Outcome State Fault Refusal := actIf (chanOk ch) s (fun h => h.authTimeout ch)

end Sys2Proof.Machine
end

