-- ==== Sys2Proof/Machine/Limits.lean ====
section
/-! DEFINITION. Checks 8 and 9 of R133: the limits other fields, shared budgets and floor-pace capacity set on a store, read
against what would be committed if the set's earlier stores committed now (R134). -/

namespace Sys2Proof.Machine

/-- What a store is checked against: the hub as it is, the hub as if the set's earlier stores were committed, the storing
context, and whether a standing slot replays as DESK (R155). -/
structure Storing where
  now : Hub
  view : Hub
  ctx : Nat
  desk : Bool

/-- The hub as if staged stores, oldest first, were committed; a surface allocated by them is its context's (R134). -/
def Hub.withStaged (h : Hub) (ctx : Nat) (sts : List Staged) : Hub :=
  sts.foldl (fun g s =>
    let g1 := g.setN s.cls s.inst s.num s.elem s.value
    if s.cls == 19 && s.num == 0 && s.value == 1 && h.get F.SURFACE.STATE s.inst == 0 then g1.set F.SURFACE.OWNER s.inst ctx else g1) h

/-- The view with one more field element as a store would make it. -/
def Storing.try_ (q : Storing) (f : Fld) (i v : Nat) (e : Nat := 0) : Hub := q.view.setN f.cls i f.num e v

/-- The greatest number from lo to hi that meets a property met below some bound and not above it. -/
def bisect (p : Nat → Bool) : Nat → Nat → Nat → Nat
  | 0, lo, _ => lo
  | n + 1, lo, hi =>
    if hi ≤ lo + 1 then lo
    else let m := (lo + hi) / 2; if p m then bisect p n m hi else bisect p n lo m

def greatest (p : Nat → Bool) (lo hi : Nat) : Option Nat :=
  if p hi then some hi else if hi < lo || !p lo then none else some (bisect p 40 lo hi)

/-- The least number from lo to hi that meets a property met above some bound and not below it. -/
def least (p : Nat → Bool) (lo hi : Nat) : Option Nat :=
  if p lo then some lo else if hi < lo || !p hi then none else some (bisect (fun x => !p x) 40 lo hi + 1)

/-- A value between bounds, or a kept one when they leave none. -/
def within (kept lo hi v : Nat) : Nat := if hi < lo then kept else max lo (min v hi)

/-! ### Landings (R192, R210, R211) -/

/-- The reservations of a landing in a direction over its open tunnels but one, with a condition on each. -/
def Storing.resSum (q : Storing) (l but : Nat) (inward : Bool) (p : Nat → Bool) : Nat :=
  (((q.view.nonzero F.TUNNEL.STATE).filter (fun t => t / 2048 == l && t != but && p t)).map (fun t => q.view.get (resF inward) t)).sum

/-- A landing's usable pairs and those of a direction, with PAIR.ENABLE as staged or committed (R134). -/
def Storing.enabled (q : Storing) (l m : Nat) : Bool := q.view.on F.PAIR.ENABLE (4 * l + m)
def Storing.usable (q : Storing) (l : Nat) : Nat := q.now.usableBy l (q.enabled l)
def Storing.sidePairs (q : Storing) (l dir : Nat) : List Nat := (q.now.heldPairs l dir).filter (q.enabled l)

/-- Whether an allotment meets R192. -/
def Storing.allotOk (q : Storing) (l v : Nat) : Bool :=
  let u := q.usable l
  let inn := min v (u - 1)
  let out := u - inn
  let have_ := (q.sidePairs l 1).length
  let need := if have_ < inn then inn - have_ else have_ - inn
  let ready := ((q.sidePairs l (if have_ < inn then 2 else 1)).filter (fun m => q.now.swapReady l m)).length
  1 ≤ inn && 1 ≤ out && q.resSum l 65536 true (fun _ => true) ≤ limitOf (inn * q.now.pairFigure l) &&
    q.resSum l 65536 false (fun _ => true) ≤ limitOf (out * q.now.pairFigure l) && (need == 0 || (bitB (q.now.link l).features 0 && need ≤ ready))

/-- ALLOT_IN: the nearest value that meets R192, once the landing has reached ACTIVE. -/
def Storing.allotIn (q : Storing) (l v : Nat) : Nat :=
  if !(q.now.link l).reached || q.allotOk l v then v
  else
    let order := match v with
      | 1 => [2, 3]
      | 2 => [1, 3]
      | _ => [2, 1]
    (order.find? (fun a => q.allotOk l a)).getD (q.now.get F.LANDING.ALLOT_IN l)

/-- CREDIT_GRANT: the sum over the classes at most 4,096, and element 0 at least 16. -/
def Storing.creditGrant (q : Storing) (l e v : Nat) : Nat :=
  let others := ((List.range 8).map (fun k => if k == e then 0 else q.view.get F.LANDING.CREDIT_GRANT l k)).sum
  within (q.view.get F.LANDING.CREDIT_GRANT l e) (if e == 0 then 16 else 0) (4096 - others) v

/-- PAIR.ENABLE: one pair per direction remains. -/
def Storing.pairEnable (q : Storing) (i v : Nat) : Nat :=
  let l := i / 4
  let m := i % 4
  let stays (k : Nat) : Bool := k != m && q.view.on F.PAIR.ENABLE (4 * l + k)
  let side := q.now.heldPairs l (q.now.pairDir l m)
  if v == 0 && (((List.range 4).filter stays).length < 2 || (side.contains m && !side.any stays)) then 1 else v

/-! ### Tunnels (R218, R228, R233, R242) -/

/-- How many tunnels of a class a landing may have (R212); none where any number. -/
def classCount (cls : Nat) : Option Nat := match cls with | 2 => some 1 | 3 => some 8 | 4 => some 1 | 7 => some 0 | _ => none

/-- The other tunnels of the landing that are open or staged open. -/
def Storing.otherOpen (q : Storing) (t : Nat) : List Nat := (q.view.nonzero F.TUNNEL.STATE).filter (fun x => x / 2048 == t / 2048 && x != t)

/-- The keys of the groups that the set's earlier stores make (R425), but one. -/
def Storing.newGroups (q : Storing) (but : Nat × Nat × Nat × Nat × Nat) : List (Nat × Nat × Nat × Nat × Nat) :=
  ((q.view.sourced.map q.view.groupKey).filter (fun k => k != but && !(q.now.sourced.map q.now.groupKey).contains k)).eraseDups

/-- Route entries left after those that the set's earlier stores take: for tunnels opened but one, and for new groups but one (R134, R226). -/
def Storing.routesLeft (q : Storing) (but : Nat) (key : Nat × Nat × Nat × Nat × Nat) : Nat :=
  q.now.freeRoutes - ((q.view.nonzero F.TUNNEL.STATE).filter (fun x => x != but && !q.now.on F.TUNNEL.STATE x)).length - (q.newGroups key).length

/-- Whether R218 refuses an open. -/
def Storing.openBarred (q : Storing) (t : Nat) : Bool :=
  let l := t / 2048
  let v := q.view
  let cls := v.get F.TUNNEL.CLASS t
  let others := q.otherOpen t
  let same := others.filter (fun x => v.get F.TUNNEL.CLASS x == cls)
  !(q.now.link l).reached || cls == 0 || cls == 6 || v.get F.TUNNEL.INDEX t < 2 ||
    others.any (fun x => v.get F.TUNNEL.INDEX x == v.get F.TUNNEL.INDEX t) ||
    (match classCount cls with | some n => decide (n ≤ same.length) | none => false) ||
    (cls == 3 && same.any (fun x => v.get F.TUNNEL.BINDING x == v.get F.TUNNEL.BINDING t)) ||
    (!q.now.on F.TUNNEL.STATE t && q.routesLeft t (0, 0, 0, 0, 0) == 0) ||
    (q.now.guest q.ctx && !v.on F.CLASSBUDGET.GUEST_ALLOW (8 * l + cls))

/-- Whether a dedicated leaf is there for a tunnel that needs one (R228). -/
def Storing.leafThere (q : Storing) (t : Nat) : Bool :=
  q.now.get F.TUNNEL.LEAF_OUT t != 0xFFF ||
    decide (((q.otherOpen t).filter (fun x => ownLeaf (q.view.get F.TUNNEL.RES_OUT x) (q.view.get F.TUNNEL.CEIL_OUT x))).length < 120)

/-- Steps 1 to 5 of R233. -/
def Storing.res8 (q : Storing) (t : Nat) (inward : Bool) (v : Nat) : Nat :=
  let l := t / 2048
  let cls := q.view.get F.TUNNEL.CLASS t
  let others := q.resSum l t inward (fun x => q.view.get F.TUNNEL.CLASS x == cls)
  let v1 := min v (q.view.get (ceilF inward) t)
  let v2 := min v1 (q.view.get (resMaxF inward) (8 * l + cls) - others)
  let v3 := if q.now.guest q.ctx then min v2 (q.view.get F.CLASSBUDGET.GUEST_RES_MAX (8 * l + cls) - others) else v2
  let v4 := if !inward && !q.leafThere t then 0 else v3
  floorStep 0 10 (if cls == 0 || cls == 6 then 0 else v4)

/-- What the programmed tunnels but one charge, in units of 1,000,000 / 1,024 steps per second (R269): RES_IN × STEP_BOUND. The
budget of 2,800,000,000 steps per second is 2,867,200 of them. -/
def Storing.stepCharge (q : Storing) (but : Nat) : Nat :=
  (((q.view.nonzero F.TUNNEL.STATE).filter (fun t => t != but && q.view.on F.TUNNEL.PROGRAM_EN t)).map
    (fun t => q.view.get F.TUNNEL.RES_IN t * q.view.get F.PROGRAM.STEP_BOUND (q.view.get F.TUNNEL.PROGRAM t))).sum

/-- Steps 6 to 8 of R233. -/
def Storing.res9 (q : Storing) (t : Nat) (inward : Bool) (v : Nat) : Nat :=
  let l := t / 2048
  let cls := q.view.get F.TUNNEL.CLASS t
  let v6 := min v (q.now.limitFor l (q.usable l) inward (q.view.get F.LANDING.ALLOT_IN l) - q.resSum l t inward (fun _ => true))
  let port := classDest cls
  let v7 := if inward && (cls == 1 || cls == 4 || cls == 5) then
      min v6 (q.view.get F.YARDPORT.RES_RATE port -
        ((List.range 4).map (fun k => q.resSum k t true (fun x => q.view.get F.TUNNEL.CLASS x == cls))).sum)
    else v6
  let v8 := if inward && q.view.on F.TUNNEL.PROGRAM_EN t then
      min v7 ((2867200 - q.stepCharge t) / max 1 (q.view.get F.PROGRAM.STEP_BOUND (q.view.get F.TUNNEL.PROGRAM t)))
    else v7
  floorStep 0 10 v8

/-- Whether a policer is enabled on a tunnel of another landing than l (R242). -/
def Storing.policerElsewhere (q : Storing) (p l : Nat) : Bool :=
  (q.view.nonzero F.TUNNEL.POLICER_EN).any (fun t => t / 2048 != l && q.view.get F.TUNNEL.POLICER t == p)

/-- Whether a program slot's STEP_BOUND would keep the charges within the budget (R269). -/
def Storing.boundFits (q : Storing) (slot b : Nat) : Bool :=
  decide ({ q with view := q.try_ F.PROGRAM.STEP_BOUND slot b : Storing }.stepCharge 65536 ≤ 2867200)

/-! ### Yard, scheduling and network ports (R256, R270, R277, R295, R313–R315) -/

/-- Committed rates of a port's leaves bound as the given one is, but that leaf's own (R295). On Y6 each landing's HOST_SHARE of the MAC counts
once for the eight leaves that carry it (R315; DEDUCED, log entry 82). -/
def Storing.cirSum (q : Storing) (port mac but : Nat) (shares : Bool) : Nat :=
  let leaves := (q.view.nonzero F.SHAPER.CIR).filter (fun n => n < 2048 && n / 128 == port && n != but &&
    (port != 6 || (q.view.leafMac n == mac && 8 ≤ n % 128 / 8)))
  (leaves.map (fun n => q.view.get F.SHAPER.CIR n)).sum +
    (if port == 6 && shares then ((List.range 4).map (fun l => q.view.get F.ETHPORT.HOST_SHARE mac l)).sum else 0)

/-- The limit of those sums: RES_RATE, and on Y6 0.9 of the MAC's speed. -/
def Storing.cirLimit (q : Storing) (port mac : Nat) : Nat :=
  let r := q.view.get F.YARDPORT.RES_RATE port
  if port == 6 then min r (limitOf (q.now.get F.ETHPORT.SPEED mac)) else r

/-- Whether a MIRROR session's host tunnel is an open Network tunnel (R277). -/
def Storing.mirrorReady (q : Storing) (m : Nat) : Bool :=
  let t := tunnelOf (q.view.get F.MIRROR.DEST_LANDING m) (q.view.get F.MIRROR.DEST_SLOT m)
  q.view.get F.MIRROR.DEST m != 2 || (q.view.on F.TUNNEL.STATE t && q.view.get F.TUNNEL.CLASS t == 3)

/-! ### Heads, layers and surfaces (R329, R339, R344, R345, R347, R351) -/

/-- Whether a head's stream fits its link, and its link and stream the sink. -/
def streamOk (g : Hub) (n : Nat) : Bool :=
  headStream g.view n (linkLimit (g.get F.HEAD.LINK_RATE n) (g.get F.HEAD.LANES n))

def sinkOk (g : Hub) (n : Nat) : Bool :=
  let caps := g.get F.HEAD.SINK_CAPS n
  !(g.head n).sink || (sinkTakes caps (g.get F.HEAD.LINK_RATE n) (g.get F.HEAD.LANES n) &&
    (!g.on F.HEAD.DSC_ENABLE n || (bitB caps 11 && (g.get F.HEAD.BPC n != 10 || bitB caps 12))))

/-- Check 8 of a mode store (R351). -/
def Storing.mode8 (q : Storing) (n num v : Nat) : Nat :=
  let kept := q.view.getN 17 n num 0
  if num == F.HEAD.TIMING_PIXCLK.num then
    (greatest (fun x => streamOk (q.try_ F.HEAD.TIMING_PIXCLK n x) n) 25000 v).getD kept
  else if num == 12 || num == 13 || num == 14 || num == 16 || num == 17 then
    let v1 := if num == 14 then min v (48 * q.view.get F.HEAD.BPC n) else v
    let g := q.view.setN 17 n num 0 v1
    if streamOk g n && sinkOk g n then v1 else kept
  else v

/-- Check 9 of a mode store: the layers of the head fit (R345, R351). -/
def Storing.mode9 (q : Storing) (n num v hi : Nat) (step : Nat) : Nat :=
  let fits (x : Nat) : Bool := layersFit (q.view.setN 17 n num 0 x).view n
  let kept := q.view.getN 17 n num 0
  if num == F.HEAD.TIMING_PIXCLK.num then (greatest fits 25000 v).getD kept
  else if 3 ≤ num && num ≤ 10 && num != 11 then
    match least fits v hi with
    | some x => v + (x - v + step - 1) / step * step
    | none => kept
  else v

/-- Check 8 of a layer's geometry (R344). -/
def Storing.geometry (q : Storing) (y num v : Nat) : Nat :=
  let g := q.view
  let n := y / 8
  let kept := g.getN 18 y num 0
  let s := g.get F.LAYER.SURFACE y
  let side (other dim : Fld) (lo : Nat) : Nat :=
    if s == 0x7FF then v
    else if g.get dim s < g.get other y + lo then kept else within kept lo (g.get dim s - g.get other y) v
  let dst (src pos act : Fld) : Nat :=
    if g.get act n < g.get pos y then kept
    else within kept ((g.get src y + 3) / 4) (min (8 * g.get src y) (g.get act n - g.get pos y)) v
  let pos (dstF act : Fld) : Nat := if g.get act n < g.get dstF y then kept else min v (g.get act n - g.get dstF y)
  match num with
  | 3 => side F.LAYER.SRC_W F.SURFACE.WIDTH 0
  | 4 => side F.LAYER.SRC_H F.SURFACE.HEIGHT 0
  | 5 => side F.LAYER.SRC_X F.SURFACE.WIDTH 1
  | 6 => side F.LAYER.SRC_Y F.SURFACE.HEIGHT 1
  | 7 => pos F.LAYER.DST_W F.HEAD.TIMING_HACT
  | 8 => pos F.LAYER.DST_H F.HEAD.TIMING_VACT
  | 9 => dst F.LAYER.SRC_W F.LAYER.POS_X F.HEAD.TIMING_HACT
  | _ => dst F.LAYER.SRC_H F.LAYER.POS_Y F.HEAD.TIMING_VACT

/-- Whether a surface may serve as a CLONE_SURF of a clone layer (R347). -/
def Storing.cloneSurf (q : Storing) (y s : Nat) : Bool :=
  let g := q.view
  let src := g.get F.LAYER.CLONE_OF y
  let turned := bitB (g.get F.LAYER.CLONE_ROTATE y) 0
  let w := g.get F.LAYER.SRC_W src
  let hgt := g.get F.LAYER.SRC_H src
  s < 1024 && g.get F.SURFACE.STATE s == 1 && g.get F.SURFACE.OWNER s == q.now.holder (13 + y) && g.get F.SURFACE.HEAD s == y / 8 &&
    g.get F.SURFACE.FORMAT s == g.get F.LAYER.FORMAT src && g.get F.SURFACE.WIDTH s == (if turned then hgt else w) &&
    g.get F.SURFACE.HEIGHT s == (if turned then w else hgt)

/-- Check 8 of a LAYER store. -/
def Storing.layer8 (q : Storing) (y num elem v : Nat) : Nat :=
  let g := q.view
  if num == F.LAYER.SURFACE.num then
    if v == 0x7FF || (g.get F.LAYER.CLONE_OF y == 0xFF && g.mayPresent g.view q.ctx y v) then v else q.now.get F.LAYER.SURFACE y
  else if 3 ≤ num && num ≤ 10 then q.geometry y num v
  else if num == F.LAYER.CLONE_OF.num then
    let q1 : Storing := { q with view := q.try_ F.LAYER.CLONE_OF y v }
    if v == 0xFF || ([0, 1] : List Nat).all (fun k => q1.cloneSurf y (g.get F.LAYER.CLONE_SURF y k)) then v else 0xFF
  else if num == F.LAYER.CLONE_SURF.num then
    if g.get F.LAYER.CLONE_OF y == 0xFF || q.cloneSurf y v then v else g.get F.LAYER.CLONE_SURF y elem
  else v

/-- Check 9 of a LAYER store (R345, R347). -/
def Storing.layer9 (q : Storing) (y num v : Nat) : Nat :=
  let n := y / 8
  let g (x : Nat) : Hub := q.view.setN 18 y num 0 x
  let fits (x : Nat) : Bool := layersFit (g x).view n
  let kept := q.view.getN 18 y num 0
  if num == F.LAYER.ENABLE.num then if v == 1 && !fits 1 then 0 else v
  else if num == F.LAYER.FORMAT.num then if fits v then v else kept
  else if num == 5 || num == 6 then (greatest fits 1 v).getD kept
  else if num == 9 || num == 10 then
    (greatest fits ((q.view.get (if num == 9 then F.LAYER.SRC_W else F.LAYER.SRC_H) y + 3) / 4) v).getD kept
  else if num == F.LAYER.CLONE_OF.num then
    if v == 0xFF || (clonesFit (g v).view n && clonesFit (g v).view (v / 8)) then v else 0xFF
  else v

/-- Whether an allocation fits the head's Depot and the context's quota (R329), earlier allocations of the set included. -/
def Storing.surfaceFits (q : Storing) (s : Nat) : Bool :=
  let g := q.view
  let n := g.get F.SURFACE.HEAD s
  let size (x : Nat) : Nat := surfaceKiB (g.get F.SURFACE.FORMAT x) (g.get F.SURFACE.WIDTH x) (g.get F.SURFACE.HEIGHT x)
  let fresh := (g.nonzero F.SURFACE.STATE).filter (fun x => x != s && g.get F.SURFACE.STATE x == 1 && q.now.get F.SURFACE.STATE x == 0 &&
    g.get F.SURFACE.HEAD x == n)
  let staged := (fresh.map size).sum
  let own := (q.now.nonzero F.SURFACE.STATE).filter (fun x => q.now.get F.SURFACE.HEAD x == n &&
    (if q.now.get F.SURFACE.STATE x == 1 then q.now.get F.SURFACE.OWNER x else q.now.freedBy.read (fun _ => 0) x) == q.ctx)
  decide (staged + size s ≤ q.now.depotFree n) &&
    decide ((own.map (fun x => q.now.get F.SURFACE.SIZE x)).sum + staged + size s ≤ 1024 * g.get F.HEAD.QUOTA n q.ctx)

/-- Check 8 of a SURFACE store (R329, R367). -/
def Storing.surface8 (q : Storing) (s num v : Nat) : Nat :=
  let was := q.now.get F.SURFACE.STATE s
  if num == 0 then
    if v == 2 then was else if v == 1 && was == 0 && !q.surfaceFits s then 0 else v
  else if 1 ≤ num && num ≤ 4 then
    if q.view.get F.SURFACE.STATE s != 0 || was != 0 then q.now.getN 19 s num 0
    else if (num == 3 || num == 4) && isYuv (q.view.get F.SURFACE.FORMAT s) then (v + 1) / 2 * 2
    else v
  else v

/-! ### Signals (R425, R428) -/

/-- Why ENABLE = 1 of a signal-map entry is limited to 0: its reason. -/
def Storing.signalBarred (q : Storing) (e : Nat) : Option Nat :=
  let g := q.view
  let src := g.get F.SIGNAL.SOURCE e
  let dest := g.get F.SIGNAL.DEST e
  let holds (k : Nat) : Bool := q.now.satisfies q.ctx q.desk (.token (45 + k))
  let dl := g.get F.SIGNAL.DEST_LANDING e
  let t := tunnelOf dl (g.get F.SIGNAL.DEST_SLOT e)
  let frame := g.get F.SIGNAL.DEST_FRAME e
  let can := src == 1 || src == 2
  let key := g.groupKey e
  let group := g.sourced.filter (fun x => x != e && g.groupKey x == key)
  let heads := g.groupHeads.filter (fun x => g.get F.SIGNAL.SOURCE x == 1 && g.get F.SIGNAL.SRC_IF x == g.get F.SIGNAL.SRC_IF e && x != e)
  if (can && !holds (g.get F.SIGNAL.SRC_IF e)) || (dest == 2 && !holds (g.get F.SIGNAL.DEST_IF e)) then some 7
  else if src == 0 || (dest == 1 && (!(g.on F.TUNNEL.STATE t && g.get F.TUNNEL.CLASS t == 5) ||
      (q.ctx < 4 && dl != q.ctx && !q.now.satisfies q.ctx q.desk (.token 0)))) ||
      (dest == 2 && 8 * g.get F.BRANCH.TX_LEN (g.get F.SIGNAL.DEST_IF e) frame < g.get F.SIGNAL.BIT_START e + g.get F.SIGNAL.LENGTH e) ||
      (can && (10 ≤ group.length || (group.isEmpty && ((src == 1 && 64 ≤ heads.length) || q.routesLeft 65536 key == 0)))) then some 5
  else none

/-- Whether a field of BRANCH applies to an interface (R438): CAN0 and CAN1, I2C0 and I2C1, SPI0, GPIO. -/
def branchApplies (n num : Nat) : Bool :=
  let has (fs : List Fld) : Bool := fs.any (fun f => f.num == num)
  if has [F.BRANCH.DATA_RATE, F.BRANCH.SAMPLE_POINT, F.BRANCH.DATA_SAMPLE, F.BRANCH.AUTO_RECOVER, F.BRANCH.TX_ID, F.BRANCH.TX_LEN, F.BRANCH.TX_PERIOD,
      F.BRANCH.RAW_ENABLE, F.BRANCH.CAN_STATE, F.BRANCH.TEC, F.BRANCH.REC] then n < 2
  else if has [F.BRANCH.POLICER, F.BRANCH.POLICER_EN] then n < 4
  else if has [F.BRANCH.TGT_ADDR, F.BRANCH.TGT_DATA, F.BRANCH.SPLIT_HOLD, F.BRANCH.STRETCH_MAX, F.BRANCH.I2C_PAGE] then n == 2 || n == 3
  else if has [F.BRANCH.GPIO_DIR, F.BRANCH.GPIO_OUT, F.BRANCH.GPIO_OD, F.BRANCH.GPIO_PULL_UP, F.BRANCH.GPIO_PULL_DOWN, F.BRANCH.GPIO_RISE,
      F.BRANCH.GPIO_FALL, F.BRANCH.GPIO_DEBOUNCE, F.BRANCH.GPIO_IN] then n == 5
  else if has [F.BRANCH.BIT_RATE] then n < 5
  else true

/-- The highest MODE an interface of the Branch Line has (R438). -/
def branchModes (n : Nat) : Nat := if n < 2 then 2 else if n < 4 then 3 else 1

/-- The next CAN FD length at or above a length. -/
def canLength (v : Nat) : Nat := (([8, 12, 16, 20, 24, 32, 48, 64] : List Nat).find? (fun x => v ≤ x)).getD 64

/-! ### Feeds (R469, R489) -/

/-- The rating of a feed in mA. -/
def Storing.rating (q : Storing) (n : Nat) : Nat :=
  if n < 4 then 5000
  else if n < 12 then (match q.view.get F.FEED.USB_CLASS n with | 0 => 500 | 1 => 900 | _ => 1500)
  else if n < 14 then 2500
  else 3000

/-- FAST_TRIP within 10…160 mV across a shunt. -/
def fastTripIn (shunt v : Nat) : Nat := within v ((10000000 + shunt - 1) / max 1 shunt) (160000000 / max 1 shunt) v

/-- F15_CONFIG: each element as the matching FEED field is (R574), by checks 5 to 8 at once. -/
def Storing.f15Element (q : Storing) (e v : Nat) : Nat :=
  let shunt := q.view.get F.SYSTEM.F15_CONFIG 0 1
  if e == 0 then v
  else if e == 1 then within v 100 100000 v
  else if e == 2 then fastTripIn shunt (within v 100 100000 v)
  else if e == 3 then within v 500 3000 ((v + 49) / 100 * 100)
  else if e == 4 then within v 2 20 v
  else if e < 8 then 0
  else if e < 16 then min (min v 100000) (80000000 / max 1 shunt)
  else min v 600000

/-! ### Checks 8 and 9 -/

/-- Check 8 of R133: the value that leaves it and its reason. v is the value as the field's bits. -/
def Storing.check8 (q : Storing) (cls inst num elem v : Nat) : Nat × Nat :=
  let g := q.view
  let kept := g.getN cls inst num elem
  let five (x : Nat) : Nat × Nat := (x, 5)
  match cls with
  | 0 => five (if num == F.SYSTEM.F15_CONFIG.num then q.f15Element elem v else v)
  | 1 =>
    if num == F.CONTEXT.PFL_ACK.num then
      let ack := g.get F.CONTEXT.PFL_ACK inst
      let span := (q.now.get F.CONTEXT.PFL_HEAD inst + 2 ^ 32 - ack) % 2 ^ 32
      let d := (v + 2 ^ 32 - ack) % 2 ^ 32
      five (if d ≤ span then v else if d - span ≤ 2 ^ 32 - d then q.now.get F.CONTEXT.PFL_HEAD inst else ack)
    else five v
  | 3 =>
    five (if num == F.LANDING.ALLOT_IN.num then q.allotIn inst v
      else if num == F.LANDING.CREDIT_GRANT.num then q.creditGrant inst elem v else v)
  | 4 => five (if num == F.PAIR.ENABLE.num then q.pairEnable inst v else v)
  | 5 =>
    let fixed := q.now.on F.TUNNEL.STATE inst
    match num with
    | 0 => five (if v == 1 && q.openBarred inst then 0 else v)
    | 1 => five (if fixed then q.now.getN 5 inst num 0 else v)
    | 2 => five (if fixed then q.now.getN 5 inst num 0 else v)
    | 3 => five (if fixed then q.now.getN 5 inst num 0 else v)
    | 4 => five (if fixed then q.now.getN 5 inst num 0 else if g.get F.TUNNEL.CLASS inst == 3 then v else 0)
    | 5 => five (q.res8 inst true v)
    | 6 => five (q.res8 inst false v)
    | 7 => five (max v (g.get F.TUNNEL.RES_IN inst))
    | 8 =>
      let v1 := max v (g.get F.TUNNEL.RES_OUT inst)
      five (if v1 < 170700 && !q.leafThere inst then 170700 else v1)
    | 12 =>
      let scope := g.get F.PROGRAM.SCOPE (g.get F.TUNNEL.PROGRAM inst)
      five (if v == 1 && scope != 0xF && scope != inst / 2048 then 0 else v)
    | 13 => five (if g.on F.TUNNEL.POLICER_EN inst && q.policerElsewhere v (inst / 2048) then kept else v)
    | 14 => five (if v == 1 && q.policerElsewhere (g.get F.TUNNEL.POLICER inst) (inst / 2048) then 0 else v)
    | _ => five v
  | 6 => five (if num == F.CLASSBUDGET.GUEST_ALLOW.num && (inst % 8 == 2 || inst % 8 == 7) then 0 else v)
  | 7 =>
    five (if num == F.YARDPORT.HIGH_SERVICES.num then v % 128
      else if num == F.YARDPORT.LEARN_ENABLE.num && !(inst < 4 || inst == 6) then 0 else v)
  | 8 => five (if num == F.POOL.RESERVE.num then min v (floorStep 0 16 (131072 - (g.reserveSum - kept))) else v)
  | 11 =>
    if num == F.SHAPER.CIR.num then
      let v1 := min v (g.get F.SHAPER.PIR inst)
      five (if inst < 2048 && (inst / 128 < 4 || g.get F.YARDPORT.RES_RATE (inst / 128) == 0) then 0 else v1)
    else five v
  | 12 => five (if num == F.POLICER.CIR.num then min v (g.get F.POLICER.PIR inst) else v)
  | 13 =>
    five (if num == F.TIMETABLE.MACS.num && inst == 6 && !q.now.holds q.ctx 56 then v % 2
      else if num == F.TIMETABLE.ENTRY.num && v % 2 ^ 24 == 0 then v + 1 else v)
  | 14 =>
    five (if num == F.MIRROR.ENABLE.num then (if v == 1 && !q.mirrorReady inst then 0 else v)
      else if num == F.MIRROR.SOURCE_PORT.num && v == 12 then 11 else v)
  | 15 =>
    five (if num == F.SHUNTER.ENABLE.num && v == 0 &&
      ((List.range 8).filter (fun k => k != inst && g.on F.SHUNTER.ENABLE k)).length < 7 then 1 else v)
  | 16 =>
    five (if num == F.PROGRAM.STATE.num then
        (if v == 2 then q.now.get F.PROGRAM.STATE inst
          else if v == 1 && g.get F.PROGRAM.LEVEL inst == 0 then 0
          else if v == 0 && 0 < q.now.programUsers inst then 1 else v)
      else v)
  | 17 => five (q.mode8 inst num v)
  | 18 => five (q.layer8 inst num elem v)
  | 19 => five (q.surface8 inst num v)
  | 20 =>
    five (if num == F.CLOCK.STEP.num && decInt 64 v != 0 && !g.on F.CLOCK.STEP_FORCE 0 &&
      !({ q.now with fields := g.fields } : Hub).stepAllowed (decInt 64 v) then 0 else v)
  | 21 =>
    if num == F.TRIGGER.TIME.num then five (if (2 ^ 47 : Int) ≤ ((v : Int) - q.now.networkInt).natAbs then q.now.get F.TRIGGER.TIME inst else v)
    else if num == F.TRIGGER.PERIOD.num then five (if 0 < v && v < 1000 then 1000 else v)
    else if num == F.TRIGGER.TARGET.num then
      five (match g.get F.TRIGGER.ACTION inst with | 2 => min v 3 | 3 => min v 15 | 4 => min v 7 | _ => v)
    else if num == F.TRIGGER.ENABLE.num && v == 1 then
      let action := g.get F.TRIGGER.ACTION inst
      let target := g.get F.TRIGGER.TARGET inst
      let range := match action with | 2 => 4 | 3 => 16 | 4 => 8 | _ => 2048
      if target < range && q.now.triggerGuard q.ctx q.desk action target then (v, 7) else if action == 0 then (v, 7) else (0, 7)
    else five v
  | 22 => five (if num == F.PTPPORT.DELAY_MECH.num && inst < 4 then 1 else v)
  | 23 =>
    if num == F.ETHPORT.FEC.num then five (if v == 2 && g.get F.ETHPORT.IFACE inst != 1 then 1 else v)
    else if num == F.ETHPORT.VNIC_MAC.num then
      five (if multicast (wireMac v) || (v != 0 && (List.range 32).any (fun k => k != elem && g.get F.ETHPORT.VNIC_MAC 0 k == v)) then 0 else v)
    else if num == F.ETHPORT.VNIC_FLOOD.num then
      five (if v == 1 && 14 ≤ ((List.range 32).filter (fun k => k != elem && g.on F.ETHPORT.VNIC_FLOOD 0 k)).length then 0 else v)
    else five v
  | 24 => five (if num == F.STORAGE.WIN_LIMIT.num then max v (g.get F.STORAGE.WIN_BASE inst elem + 0xFFF) else v)
  | 25 =>
    five (if !branchApplies inst num then 0 else match num with
      | 1 => if inst < 2 then within v 125 1000 v else if inst < 4 then min v 1000 else if inst == 4 then max v 1000 else v
      | 7 => if bitB (g.get F.BRANCH.TX_ID inst elem) 30 then (if v ≤ 8 then v else canLength v) else min v 8
      | 9 => if v == 1 then 2 else v
      | 12 => if v == 1 && q.policerElsewhere (g.get F.BRANCH.POLICER inst) q.ctx then 0 else v
      | 22 => v &&& (0xFFFFFFFF ^^^ g.get F.BRANCH.GPIO_PULL_UP inst)
      | _ => v)
  | 26 =>
    if num != F.SIGNAL.ENABLE.num && g.on F.SIGNAL.ENABLE inst then five (q.now.getN cls inst num elem)
    else if num == F.SIGNAL.ENABLE.num && v == 1 then (match q.signalBarred inst with | some r => (0, r) | none => (1, 5))
    else if num == F.SIGNAL.SRC_IF.num then five (match g.get F.SIGNAL.SOURCE inst with | 1 => min v 1 | 2 => max v 2 | _ => v)
    else if num == F.SIGNAL.CAN_ID.num then five (if g.on F.SIGNAL.CAN_EXT inst then v else min v 0x7FF)
    else if num == F.SIGNAL.MAX.num then
      five (if decInt 32 v < g.getI F.SIGNAL.MIN inst then g.get F.SIGNAL.MIN inst else v)
    else five v
  | 29 =>
    let shunt := g.get F.FEED.SHUNT inst
    five (match num with
      | 4 => if q.now.get F.FEED.STATE inst != 0 then q.now.get F.FEED.SHUNT inst else v
      | 5 => fastTripIn shunt v
      | 6 =>
        let v1 := min v (80000000 / max 1 shunt)
        if 10000 ≤ g.get F.FEED.CURVE_T inst elem then min v1 (q.rating inst * 11 / 10) else v1
      | _ => v)
  | 30 =>
    five (match num with
      | 0 => if 1 ≤ v && v ≤ 3 then q.now.get F.KEYSLOT.KIND inst else v
      | 2 => if g.get F.KEYSLOT.KIND inst != 0 then kept else v
      | 3 => if g.get F.KEYSLOT.KIND inst != 0 then kept else v
      | 5 => if g.get F.KEYSLOT.KIND inst != 4 then kept else v
      | 7 =>
        let kind := g.get F.KEYSLOT.KIND inst
        if v == 1 && (q.now.get F.KEYSLOT.STATUS inst == 1 || (kind != 5 && kind != 6)) then 0 else v
      | 12 =>
        let st := q.now.get F.KEYSLOT.LC_STATE 0
        if v == st + 1 && 1 ≤ st && st ≤ 3 && q.ctx == 4 && q.now.holds 4 0 && (v == 4 || q.now.on F.KEYSLOT.KEYS_READY 0) then v else 0
      | 20 => if q.now.tamperLow then 0 else v
      | _ => v)
  | 31 => five (if num == F.UPDATE.ACTIVATE.num && v == 1 && q.now.activateBarred (fun p => g.get F.UPDATE.ARM p) then 0 else v)
  | 33 => five (if inst < 12 then kept else v)
  | _ => five v

/-- Check 9 of R133: the value that leaves it. -/
def Storing.check9 (q : Storing) (f : FieldInfo) (cls inst num elem v : Nat) : Nat :=
  match cls with
  | 5 =>
    match num with
    | 5 => q.res9 inst true v
    | 6 => q.res9 inst false v
    | 12 =>
      if v == 1 && 2867200 < q.stepCharge inst + q.view.get F.TUNNEL.RES_IN inst * q.view.get F.PROGRAM.STEP_BOUND (q.view.get F.TUNNEL.PROGRAM inst)
      then 0 else v
    | _ => v
  | 11 =>
    if num == F.SHAPER.CIR.num && inst < 2048 then
      let port := inst / 128
      let mac := q.view.leafMac inst
      floorStep 0 10 (min v (q.cirLimit port mac - q.cirSum port mac inst true))
    else v
  | 16 => if num == F.PROGRAM.STEP_BOUND.num then (greatest (q.boundFits inst) 1 v).getD (q.view.getN cls inst num elem) else v
  | 17 => q.mode9 inst num v f.hi.toNat f.step
  | 18 => q.layer9 inst num v
  | 23 =>
    if num == F.ETHPORT.HOST_SHARE.num then
      let others := ((List.range 4).map (fun l => if l == elem then 0 else q.view.get F.ETHPORT.HOST_SHARE inst l)).sum
      floorStep 0 10 (min v (q.cirLimit 6 inst - (q.cirSum 6 inst 65536 false + others)))
    else v
  | _ => v

end Sys2Proof.Machine
end

