-- ==== Sys2Proof/Machine/Power.lean ====
section
/-! DEFINITION. Power states, the rail sequence and resets (R566–R582), all but what the boot ROM does from power-good on. -/

namespace Sys2Proof.Machine

/-- NT_SYSTEM_POWER (R591), cause 1 commit, 2 idle, 3 wake source, 4 button. -/
def Hub.powerNotice (h : Hub) (new old cause mask : Nat) : Hub := h.notify 509 (new + old * 2 ^ 4 + cause * 2 ^ 8 + mask * 2 ^ 16)

def Hub.modIsland (h : Hub) (f : Island → Island) : Hub := { h with island := f h.island }

/-! ### Desk Standby (R566–R569) -/

/-- A head stops for Desk Standby: its timing generator and DisplayPort link with it. -/
def Hub.headStops (h : Hub) (n : Nat) : Hub :=
  (((h.modHead n (fun k => { k with standby := true, gap := 0, inBlank := false, training := false })).set F.HEAD.LINK_ACTIVE n 0).syncLock n 3).syncHead n

/-- The Depot is in self-refresh once no head scans. -/
def Hub.depotRests (h : Hub) : Hub :=
  if h.depot == 0 && h.get F.SYSTEM.POWER_STATE 0 == 1 && (List.range 4).all (fun n => !h.scanning n) && (h.due T.selfRefresh 0).isNone then { h with depot := 2 } else h

/-- Whether a port in tunnel mode stays as its owner leaves it: the owner's landing is ACTIVE, L_IDLE or HOLD. -/
def Hub.portServed (h : Hub) (n : Nat) : Bool := h.holder (3 + n) < 4 && ([5, 6, 9] : List Nat).contains (h.lState (h.holder (3 + n)))

/-- Desk Standby begins, by a commit (1) or by idleness (2). -/
def Hub.deskEnter (h : Hub) (cause : Nat) : Hub :=
  if h.get F.SYSTEM.POWER_STATE 0 != 0 then h
  else
    let h1 := (h.set F.SYSTEM.POWER_STATE 0 1).powerNotice 1 0 cause 0
    let h2 := if h1.sprinting then h1 else h1.requestVcore h1.restVcore
    let h3 := (List.range 4).foldl (fun g n => if g.scanning n then g else g.headStops n) h2
    let h4 := (List.range 8).foldl (fun g n =>
      if g.get F.USBPORT.MODE n == 0 && g.get F.USBPORT.STATE n == 4 && !g.portServed n then (g.portSuspend n false).modUsb n (fun u => { u with byDesk := true }) else g) h3
    let h5 := [0, 1].foldl (fun g m => if g.on F.ETHPORT.LINK m && !g.on F.ETHPORT.MGMT_ENABLE m then g.macLink m false 0 0 else g) h4
    h5.depotRests

/-- The blocks leave Desk Standby (R569): VCORE and the Depot, heads whose SCANOUT is 1 as after a class-2 change, and USB ports. -/
def Hub.deskResumes (h1 : Hub) : Hub :=
  let h2 := if h1.sprinting then h1 else h1.requestVcore h1.restVcore
  let h3 := ({ h2 with depot := if h2.depot == 2 then 0 else h2.depot }).disarm T.selfRefresh 0
  let h4 := (List.range 4).foldl (fun g n =>
    if (g.head n).standby then
      let g1 := g.modHead n (fun k => { k with standby := false })
      if g1.scanning n then (((g1.modHead n (fun k => { k with gap := 3, gapStart := g1.clk, inBlank := false })).add F.HEAD.RESTARTS n 1).trainHead n).syncHead n
      else g1.syncHead n
    else g) h3
  ((h4.headsScanning h1).deskPortsResume (fun _ => true)).idleWatch

/-- Desk Standby ends, by a commit (1) or a wake source (3) whose bit of WAKE_SOURCES the mask shows. -/
def Hub.deskLeave (h : Hub) (cause mask : Nat) : Hub :=
  if h.get F.SYSTEM.POWER_STATE 0 != 1 then h
  else ((h.set F.SYSTEM.POWER_STATE 0 0).powerNotice 0 1 cause mask).deskResumes

/-- A wake source takes place (R569, R590): it ends Desk Standby, or cancels an entry into Deep Standby not yet 100 ms old. -/
def Hub.wakeBy (h : Hub) (source : Nat) : Hub :=
  if !bitB (h.get F.SYSTEM.WAKE_SOURCES 0) source then h
  else if h.get F.SYSTEM.POWER_STATE 0 == 1 then h.deskLeave 3 (2 ^ source)
  else if h.get F.SYSTEM.POWER_STATE 0 == 2 && (h.due T.deepEntry 0).isSome then
    ((((h.disarm T.deepEntry 0).set F.SYSTEM.POWER_STATE 0 0).set F.SYSTEM.POWER_TARGET 0 0).powerNotice 0 2 3 (2 ^ source)).deskResumes
  else h

def execDeskStandbyWake (source : Nat) (s : State) : Host.Outcome State Fault Refusal :=
  actIf (decide (source < 10)) s (fun h => h.wakeBy source)

def execStandbyIdleExpiry (s : State) : Host.Outcome State Fault Refusal :=
  act s (fun h => h.expire T.standbyIdle 0 (fun g => if g.get F.SYSTEM.STANDBY_IDLE 0 != 0 && g.deskIdle then g.deskEnter 2 else g))

/-! ### Losing the main die (R580, R581) -/

/-- The fields that outlast a reset of the main die: the retained block, fuses and flash records; with model also what the governor goes on with
through RESET_N and the watchdog (R554, R584). -/
def keptField (model : Bool) (k : Nat) : Bool :=
  let num := k / 2 ^ 10 % 2 ^ 12
  let any (fs : List Fld) : Bool := fs.any (fun f => f.num == num)
  match k / 2 ^ 38 with
  | 0 => any [F.SYSTEM.DEEP_WAKE, F.SYSTEM.AUTO_START, F.SYSTEM.STARTS, F.SYSTEM.WATCHDOG_RESETS, F.SYSTEM.F15_CONFIG, F.SYSTEM.START_FAULTS] || (model && num == F.SYSTEM.RING_WRITES.num)
  | 20 => model && num == F.CLOCK.REF_SOURCE.num
  | 29 => true
  | 30 => any [F.KEYSLOT.TAMPER_LATCH, F.KEYSLOT.TAMPER_HOLD, F.KEYSLOT.TAMPER_COUNT]
  | 31 => any [F.UPDATE.RUNNING_SLOT, F.UPDATE.AUTO_CONFIRM, F.UPDATE.OEM_DIGEST]
  | 33 => num == F.THERMAL.SPRINT_LIFETIME.num ||
    (model && (match fieldInfo 33 num with | some f => f.apply == .ro | none => false))
  | 35 => any [F.STANDING.STATE, F.STANDING.OWNER, F.STANDING.ENABLE, F.STANDING.LENGTH, F.STANDING.DIGEST, F.STANDING.DESK]
  | _ => false

/-- The governor's moments before the local counter restarts. -/
def Governor.rebase (r : Governor) (now : Int) : Governor :=
  { r with waitedAt := r.waitedAt - now, since := r.since - now, rampAt := r.rampAt - now, far := {}, near := {}, hot := {}, pageErrors := {} }

/-- The main die is unpowered or held in reset: what it held is gone. model marks RESET_N and the watchdog, which leave it powered. -/
def Hub.dieDown (h : Hub) (model : Bool) : Hub :=
  { fields := ⟨h.fields.cells.filter (fun c => keptField model c.1)⟩, free := h.free, standing := h.standing, helper := h.helper, fuses := h.fuses, out := h.out, feedTime := h.feedNow,
    feedTimers := h.feedTimers, feeds := h.feeds, feedEvals := h.feedEvals, contracts := h.contracts, linkHold := h.linkHold, holdSince := h.holdSince, f15Next := h.f15Next, f15Request := h.f15Request, f15 := h.f15, mainUp := false,
    transitions := h.transitions, tamperLow := h.tamperLow, tamperUnpowered := h.tamperUnpowered,
    parts := ⟨h.parts.cells.map (fun c => (c.1, { c.2 with awaiting := [] }))⟩, governor := if model then h.governor.rebase h.now else {},
    retired := if model then h.retired else {}, activation := h.activation, trialGroups := h.trialGroups, switchCopies := h.switchCopies,
    ring := h.ring, ringSeq := h.ringSeq, island := h.island }

/-- The main-die reset is released: the boot ROM starts, with a RESET_CAUSE of R592. RESET_N low holds it back (R590). -/
def Hub.dieRelease (h : Hub) (cause : Nat) : Hub :=
  if h.island.resetLow then h.modIsland (fun i => { i with cause := cause })
  else
    let power := cause != 2 && cause != 3
    let h1 := if power then (List.range 15).foldl (fun g n => if g.get F.FEED.STATE n == 6 then g.set F.FEED.STATE n 0 else g) h else h
    let faults := if power then h.island.faults else h.island.faults ||| h.get F.SYSTEM.START_FAULTS 0
    (({ h1 with mainUp := true }).set F.SYSTEM.RESET_CAUSE 0 cause).set F.SYSTEM.START_FAULTS 0 faults |>.modIsland (fun i => { i with faults := 0 })

/-! ### Rails (R571–R573) -/

/-- A board output of the feed die: 0 EN_VIO33, 1 EN_VIO18, 2 EN_VSERDES, 3 EN_VDEPOT_PP, 4 EN_VDEPOT, 5 the main-die reset. -/
def Hub.boardPin (h : Hub) (k : Nat) (level : Bool) : Hub := h.emit .board k [BitVec.ofNat 8 (ofB level)]

/-- The rails go off in reverse order: those enabled by the step that runs. -/
def Hub.railsOff (h : Hub) : Hub :=
  let s := h.island.step
  let h1 := if 6 ≤ s then (h.boardPin 5 true).requestFeed 15 false else h
  [(5, 4), (4, 3), (4, 2), (3, 1), (2, 0)].foldl (fun g p => if p.1 ≤ s then g.boardPin p.2 false else g) { h1 with f15Request := false }

/-- Deep Standby: every feed off, contracts over, rails off, the main die gone; byOrder marks an entry by R570. -/
def Hub.deepDown (h : Hub) (byOrder : Bool) : Hub :=
  let h1 := (List.range 15).foldl (fun g n => g.requestFeed n false) h
  let h2 := h1.railsOff.dieDown false
  { h2 with contracts := {}, feedTimers := ({} : Hub).feedTimers }.modIsland (fun i => { i with step := 0, tries := 0, retrying := false, barred := false, byOrder := byOrder, feedsOn := false })

/-- The rail sequence starts from Deep Standby for a wake source; nothing wakes without VWAKE (R615). -/
def Hub.startRails (h : Hub) (cause : Nat) : Hub :=
  if h.island.step == 0 && h.island.vwake then
    h.modIsland (fun i => { i with step := 1, tries := 0, retrying := false, barred := false, byOrder := false, feedsOn := false, cause := if i.cause == 0 && h.get F.SYSTEM.STARTS 0 == 0 then 0 else cause })
  else h

/-- A step of R572 begins: its outputs. -/
def Hub.railStep (h : Hub) (k : Nat) : Hub :=
  let h1 := h.modIsland (fun i => { i with step := k })
  match k with
  | 2 => h1.boardPin 0 true
  | 3 => h1.boardPin 1 true
  | 4 => (h1.boardPin 2 true).boardPin 3 true
  | 5 => h1.boardPin 4 true
  | 6 => { h1 with f15Request := true }.requestFeed 15 true
  | _ => h1

/-- The step that runs completes (R572). Step 6 completes with F15 GOOD; after step 8 comes power-good. -/
def Hub.railComplete (h : Hub) : Hub :=
  let k := h.island.step
  if k == 0 || 9 ≤ k || (k == 6 && h.get F.FEED.STATE 15 != 3) then h
  else if k < 8 then h.railStep (k + 1)
  else ((h.modIsland (fun i => { i with step := 9, tries := 0 })).boardPin 5 false).dieRelease h.island.cause

/-- The sequence fails, or a rail or F15 is lost while running (R573): bit of START_FAULTS. Three failed attempts leave the device in Deep
Standby. -/
def Hub.railsFail (h : Hub) (bit : Nat) : Hub :=
  let running := h.island.step == 9
  let h1 := h.railsOff
  let h2 := if running then h1.dieDown false else h1
  h2.modIsland (fun i =>
    let tries := if running then 0 else i.tries + 1
    { i with step := 0, faults := setBit i.faults bit, tries := tries, retrying := decide (tries < 3), barred := decide (3 ≤ tries), byOrder := false, cause := 5 })

def execRailStepComplete (s : State) : Host.Outcome State Fault Refusal := actAny s (fun h => h.railComplete)

def execRailStepTimeout (s : State) : Host.Outcome State Fault Refusal :=
  actAny s (fun h => if 2 ≤ h.island.step && h.island.step ≤ 7 then h.railsFail 0 else h)

def execRailSequenceRetry (s : State) : Host.Outcome State Fault Refusal :=
  actAny s (fun h =>
    if h.island.step == 0 && h.island.retrying then
      ((h.feedAdvance (h.feedNow + sec)).modIsland (fun i => { i with retrying := false })).railStep 2
    else h)

def execRailLost (s : State) : Host.Outcome State Fault Refusal :=
  actAny s (fun h => if h.island.step == 9 then h.railsFail 1 else if 2 ≤ h.island.step then h.railsFail 0 else h)

/-- VHV reaches 9.0 V: it starts the sequence with AUTO_START unless Deep Standby was entered by R570 or three attempts have failed. -/
def execVhvRise (s : State) : Host.Outcome State Fault Refusal :=
  actAny s (fun h =>
    if h.on F.SYSTEM.AUTO_START 0 && !h.island.byOrder && !h.island.barred && !h.island.retrying then h.startRails 1 else h)

/-- VHV is lost: running, the device goes to Deep Standby; in the sequence the step fails (R571, R590). -/
def execVhvLoss (s : State) : Host.Outcome State Fault Refusal :=
  actAny s (fun h => if h.island.step == 9 then h.deepDown false else if 2 ≤ h.island.step then h.railsFail 0 else h)

def execSidebandWakePulse (l : Nat) (s : State) : Host.Outcome State Fault Refusal :=
  actAnyIf (decide (l < 4)) s (fun h => if bitB (h.get F.SYSTEM.DEEP_WAKE 0) l then h.startRails 6 else h)

/-! ### Deep Standby (R570) -/

/-- Entry begins, by a commit (1) or the button (4). A commit waits for the end of an activation group (R538). -/
def Hub.deepEnter (h : Hub) (cause : Nat) : Hub :=
  let old := h.get F.SYSTEM.POWER_STATE 0
  if old == 2 then h
  else if cause == 1 && h.activation.isSome then { h with deepWanted := true }
  else (({ h with deepWanted := false }.set F.SYSTEM.POWER_STATE 0 2).powerNotice 2 old cause 0).arm T.deepEntry 0 (100 * msec)

/-- 100 ms on, and the feed die's part: the heads stop, grants end, SnPERST_N and USB port power go, then the rails. -/
def Hub.deepShutdown (h : Hub) : Hub :=
  let h1 := (List.range 4).foldl (fun g l => if 0 < g.get F.FEED.GRANT l then g.startReduce l 0 else g) h
  let h2 := [0, 1].foldl (fun g n => g.perst n false) h1
  h2.deepDown true

def execDeepStandbyShutdown (s : State) : Host.Outcome State Fault Refusal :=
  act s (fun h => if h.get F.SYSTEM.POWER_STATE 0 == 2 then h.expire T.deepEntry 0 (fun g => g.deepShutdown) else h)

/-- PWRBTN_N was low for a number of ms (R569, R571, R591): below 50 ms nothing; from Deep Standby it wakes. -/
def execPwrbtnPress (ms : Nat) (s : State) : Host.Outcome State Fault Refusal :=
  actAny s (fun h =>
    if ms < 50 then h
    else if h.mainUp then
      let h1 := h.wakeBy 5
      if ms ≤ 4000 then h1.notify 510 ms else h1
    else h.startRails 6)

def execPwrbtnHold (s : State) : Host.Outcome State Fault Refusal := act s (fun h => h.deepEnter 4)

/-- A committed POWER_TARGET. -/
def Hub.powerTarget (h : Hub) : Hub :=
  match h.get F.SYSTEM.POWER_TARGET 0 with
  | 0 => h.deskLeave 1 0
  | 1 => h.deskEnter 1
  | _ => h.deepEnter 1

/-! ### RESET_N, the watchdogs, VWAKE (R576, R580–R582, R615) -/

def execResetN (s : State) : Host.Outcome State Fault Refusal :=
  actAny s (fun h =>
    let h1 := h.modIsland (fun i => { i with resetLow := true })
    if h.mainUp then (h1.dieDown true).modIsland (fun i => { i with cause := 2 }) else h1)

def execResetNRelease (s : State) : Host.Outcome State Fault Refusal :=
  actAny s (fun h =>
    let h1 := h.modIsland (fun i => { i with resetLow := false })
    if h.island.resetLow && h1.island.step == 9 && !h1.mainUp then h1.dieRelease h1.island.cause else h1)

/-- The hardware watchdog resets the main die; parts of a group in trial or under activation return to their previous slots (R537). -/
def Hub.watchdogReset (h : Hub) : Hub :=
  let group := h.trialMask ||| (match h.activation with | some a => a.group | none => 0)
  let h1 := ((h.dieDown true).add F.SYSTEM.WATCHDOG_RESETS 0 1).dieRelease 3
  { h1.revertGroup group 1 with activation := none, trialGroups := [] }.keepSwitch

def execWatchdogReset (s : State) : Host.Outcome State Fault Refusal := act s (fun h => h.watchdogReset)

/-- The feed die restarts its power-manager core; protection goes on in hardware (R480), so nothing the hub holds changes. -/
def execPmfWatchdog (s : State) : Host.Outcome State Fault Refusal := actAny s (fun h => h)

/-- No reference edge within 10 ms of power-good: the main die is held in reset, and released again 1 s later (R576). -/
def execReferenceAbsent (s : State) : Host.Outcome State Fault Refusal :=
  act s (fun h =>
    if h.get F.SYSTEM.START_STATE 0 == 0 then
      { h with feedTime := h.feedNow + sec - h.now }.set F.SYSTEM.START_FAULTS 0 (setBit (h.get F.SYSTEM.START_FAULTS 0) 5)
    else h)

/-- VWAKE is applied for the first time, or again after a loss: the retained block takes its reset values and the first power-on reset is to
come. -/
def execVwakeFirstApplied (s : State) : Host.Outcome State Fault Refusal :=
  actAny s (fun h =>
    if h.island.vwake then h
    else
      let down := h.dieDown false
      let keep (c : Nat × Nat) : Bool :=
        !([F.SYSTEM.DEEP_WAKE, F.SYSTEM.AUTO_START, F.SYSTEM.STARTS, F.SYSTEM.WATCHDOG_RESETS].any (fun f => c.1 / 2 ^ 38 == 0 && c.1 / 2 ^ 10 % 2 ^ 12 == f.num)) &&
          c.1 / 2 ^ 38 != 29 && !([F.KEYSLOT.TAMPER_LATCH, F.KEYSLOT.TAMPER_HOLD, F.KEYSLOT.TAMPER_COUNT].any (fun f => c.1 / 2 ^ 38 == 30 && c.1 / 2 ^ 10 % 2 ^ 12 == f.num))
      { down with fields := ⟨down.fields.cells.filter keep⟩, island := { step := 0, resetLow := h.island.resetLow }, f15 := ({} : Hub).f15, f15Next := [], feeds := {}, feedEvals := 0, contracts := {}, feedTimers := ({} : Hub).feedTimers, linkHold := false, tamperUnpowered := false }.railStep 1)

/-- VWAKE is lost: the retained state, the tamper watch and Deep Standby wake with it. A main die that runs goes on. -/
def execVwakeLoss (s : State) : Host.Outcome State Fault Refusal :=
  actAny s (fun h => h.modIsland (fun i => { i with vwake := false, step := if i.step == 9 then 9 else 0, retrying := false }))

/-! ### Warm reset (R141, R577, R582) -/

/-- A Receipt of a warm reset, kept until its context is next up; a replay leaves its outcome in its slot instead (R155). -/
def Hub.keepReceipt (h : Hub) (head : ManHead) (r : Report) : Hub :=
  match head.replay with
  | some _ => h.report head [] r
  | none =>
    let body := receiptBody head r r.detail false (h.ctx head.ctx).maxBody h.now48
    h.modCtx head.ctx (fun c => { c with kept := c.kept ++ [{ chan := head.chan, ctx := head.ctx, type := 3, seq := head.seq % 65536, body := body }] })

/-- The Receipt ABANDONED of work a warm reset discards. -/
def Hub.keepAbandoned (h : Hub) (head : ManHead) (r : Report) : Hub := h.keepReceipt head { r with status := 2, detail := 0x4001 }

/-- A context's Manifests and waiting sets are discarded. -/
def Hub.warmDiscard (h : Hub) (n : Nat) : Hub :=
  let own := h.sets.filter (fun w => w.head.ctx == n)
  let h1 := own.foldl (fun g w => g.keepAbandoned w.head { status := 2, late := w.late, steps := w.steps, notes := w.notes, kind := w.kind, clamps := w.clamps }) h
  let h2 := match h1.prog n with
    | some p => h1.keepAbandoned p.head { status := 2, steps := p.steps, notes := p.notes, clamps := p.clamps }
    | none => h1
  ((h2.ctx n).queue.foldl (fun g m => g.keepAbandoned m.head { status := 2 }) h2).dropWork n

/-- The Yard's data paths stop for a warm reset and start again as at any reset: nothing queued, matcher and service pointers at 0 (R250), scheduling
afresh, buckets full (R294, R297). -/
def Hub.yardRestarts (h : Hub) : Hub :=
  let h1 := (h.listed F.SHAPER.CIR.cls).foldl (fun g n => g.setBuckets n (8000 * g.use F.SHAPER.CBS n : Nat) (8000 * g.use F.SHAPER.PBS n : Nat)) h
  h1.modYard (fun y => { y with slices := [], voqs := {}, leaves := {}, tickets := [], threads := {}, inbox := {}, backlog := [], flight := [], mirrored := {},
                                grantPtr := {}, acceptPtr := {}, servicePtr := {}, deficit := {}, lastChild := {}, meters := {}, bucketFrac := {} })

/-- The blocks at Y7…Y13 go down with a warm reset and come up with its end (R259). -/
def Hub.syncBlocks (h : Hub) : Hub := (List.range 7).foldl (fun g i => g.syncPort (7 + i) 0) h

/-- A warm reset begins: the Signal Box, Shunters, Yard and port adapters stop, and the landings return to DETECT without an unplug. It waits for
the end of an activation group (R538). -/
def Hub.warmBegin (h : Hub) : Hub :=
  if h.activation.isSome then { h with warmWanted := true }
  else if h.warming then h
  else
    let h1 := (List.range 6).foldl (fun g n => g.warmDiscard n) { h with warmWanted := false, warming := true }
    let h2 := [0, 1].foldl (fun g s => (g.abortAll s false).logPosted s 3 false) h1
    let h3 := (List.range 4).foldl (fun g l => g.linkCleared l false) h2
    let h4 := { h3.yardRestarts.syncBlocks with authOrder := [], progs := ⟨h3.progs.cells.filter (fun c => c.1 < 6)⟩ }
    ((List.range 6).foldl (fun g n => if g.up n then g.set F.CONTEXT.STATE n 2 else g) h4).set F.SYSTEM.START_STATE 0 1

/-- The warm reset ends with its images as they were measured; else it becomes a reset as by RESET_N. -/
def Hub.warmEnd (h : Hub) (same : Bool) : Hub :=
  if !same then (h.dieDown true).dieRelease 2
  else
    let h1 := (({ h with warming := false, startNoted := true }.set F.SYSTEM.START_STATE 0 3).add F.SYSTEM.WARM_RESETS 0 1).set F.SYSTEM.RESET_CAUSE 0 4
    let h2 := (List.range 6).foldl (fun g n => if g.get F.CONTEXT.STATE n == 2 then g.arm T.heldContext n (60 * sec) else g) h1
    h2.syncBlocks.notify 508 (4 + h2.get F.SYSTEM.START_FAULTS 0 * 2 ^ 8 + h2.get F.SYSTEM.BOOT_TIME 0 * 2 ^ 16)

/-- What waited for the end of an activation group (R538). -/
def Hub.afterGroup (h : Hub) : Hub :=
  if h.activation.isSome then h
  else if h.warmWanted then h.warmBegin
  else if h.deepWanted then h.deepEnter 1
  else h

end Sys2Proof.Machine
end

