-- ==== Sys2Proof/Machine/Apply.lean ====
section
/-! DEFINITION. What an applied set does (R139): its stores become committed at one instant, and each object's block takes them up as its
chapter says. -/

namespace Sys2Proof.Machine

/-! ### Quiet points (R14, R219, R220, R235–R237, R239) -/

/-- Closes that waited for a landing's quiet point: a reset context's tunnels, and a guest's of a class it lost. What they held is given out
again at that quiet point (R235). -/
def Hub.quietCloses (h : Hub) (l : Nat) : Hub :=
  let k := h.link l
  let gone (t : Nat) : Bool := 2 ≤ t % 2048 && h.on F.TUNNEL.STATE t && (k.closeAll || k.closing.contains (t % 2048))
  let ts := (h.tunnelsListed l).filter gone
  ts.foldl (fun g t => g.closeTunnel l (t % 2048)) (h.modLink l (fun k => { k with closing := [], closeAll := false, increases := k.increases || !ts.isEmpty }))

/-- A pair's committed ENABLE takes effect (R211, R196, R197). -/
def Hub.pairEnableTaken (h : Hub) (l m : Nat) : Hub :=
  let i := 4 * l + m
  let was := h.use F.PAIR.ENABLE i
  let h1 := h.take F.PAIR.ENABLE i
  let now_ := h.get F.PAIR.ENABLE i
  let runs := ([4, 5, 6, 7, 8, 9] : List Nat).contains (h.lState l)
  if was == now_ then h1
  else if now_ == 0 then
    let h2 := (h1.disarm T.solo i).set F.LANDING.PAIRS_FAILED l (clrBit (h1.get F.LANDING.PAIRS_FAILED l) m)
    let out := h.pairState l m == 5 || (h.link l).soloRunning.read (fun _ => false) m || (h.link l).rejoin.any (fun r => r.1 == m)
    if runs && h.pairDir l m != 0 && !out then (h2.pairGone l m 6 (h.lState l == 5)).spare l 1
    else (h2.setPair l m 6).modLink l (fun k => { k with soloRunning := k.soloRunning.write (fun _ => false) m false, rejoin := k.rejoin.filter (fun r => r.1 != m) })
  else if runs && bitB (h.link l).common m then
    (h1.setPair l m 1).modLink l (fun k => { k with soloRunning := k.soloRunning.write (fun _ => false) m true, soloTries := k.soloTries.write (fun _ => 0) m 0,
                                                    failAt := k.failAt.write (fun _ => 0) m 0 })
  else h1.setPair l m 0

/-- Everything Quiet that a landing's stores have waiting takes effect: closes, then fields, opens, pairs, the allotment, and one
recomputation. -/
def Hub.takeQuiet (h : Hub) (l : Nat) : Hub :=
  let h0 := (h.quietCloses l).modLink l (fun k => { k with quietStores := false })
  let ts := h0.tunnelsListed l
  let isOpen (g : Hub) (t : Nat) : Bool := g.get F.TUNNEL.ROUTE_ENTRY t != 0x3FFF
  let h1 := ts.foldl (fun g t => if isOpen g t && !g.on F.TUNNEL.STATE t then g.closeTunnel l (t % 2048) else g) h0
  let h2 := ts.foldl (fun g t => g.takeAll 5 t .quiet) h1
  let h3 := (List.range 8).foldl (fun g c => g.takeAll 6 (8 * l + c) .quiet) h2
  let h4 := ts.foldl (fun g t =>
    if !g.on F.TUNNEL.STATE t then g
    else if isOpen g t then (g.syncLeaf l (t % 2048)).rewriteTunnel t
    else g.openTunnel l (t % 2048)) h3
  let allot := h4.get F.LANDING.ALLOT_IN l != h4.use F.LANDING.ALLOT_IN l
  let h5 := ((List.range 4).foldl (fun g m => g.pairEnableTaken l m) (h4.takeAll 3 l .quiet)).readmit l true
  -- An increase beyond the capacity that automatic swaps left starts swaps back at once (R238).
  let short := !(h5.shortfalls l).isEmpty && (h5.allotSwap l).isSome
  let h6 := if (allot || short) && (h5.link l).reached then h5.workToAllot l else h5
  h6.syncStatics

/-! ### An applied set -/

/-- A set being applied: its context, whether a standing slot replays as DESK, the landing whose quiet point this is, the hub before it, and
the last store of each field element, in program order. -/
structure Applied where
  ctx : Nat
  desk : Bool
  quiet : Option Nat
  old : Hub
  sts : List Staged

/-- Whether two stores name the same field element. -/
def Staged.same (a b : Staged) : Bool := fieldKey a.cls a.inst a.num a.elem == fieldKey b.cls b.inst b.num b.elem

/-- Only the last store of each field element commits (R83). -/
def lastStores : List Staged → List Staged
  | [] => []
  | s :: t => if t.any s.same then lastStores t else s :: lastStores t

/-- Whether the set stores a field of an instance. -/
def Applied.has (a : Applied) (f : Fld) (i : Nat) : Bool := a.sts.any (fun s => s.cls == f.cls && s.num == f.num && (s.inst == i || deviceWide f.cls f.num))

/-- The instances of a class the set stores to, and those of which it stores a field. -/
def Applied.insts (a : Applied) (cls : Nat) : List Nat := (a.sts.filterMap (fun s => if s.cls == cls then some s.inst else none)).eraseDups
def Applied.of (a : Applied) (f : Fld) : List Nat :=
  (a.sts.filterMap (fun s => if s.cls == f.cls && s.num == f.num then some (if deviceWide f.cls f.num then 0 else s.inst) else none)).eraseDups

/-- What follows for each instance of a class, or for each instance of which a field is stored. -/
def Applied.each (a : Applied) (cls : Nat) (f : Hub → Nat → Hub) (h : Hub) : Hub := (a.insts cls).foldl f h
def Applied.eachOf (a : Applied) (fld : Fld) (f : Hub → Nat → Hub) (h : Hub) : Hub := (a.of fld).foldl f h

/-- The stores as committed values. -/
def Applied.write (a : Applied) (h : Hub) : Hub := a.sts.foldl (fun g s => g.setN s.cls s.inst s.num s.elem s.value) h

/-- Allocations and frees (R329, R330). -/
def Applied.surfaces (a : Applied) (h : Hub) : Hub :=
  let was (s : Nat) : Nat := a.old.get F.SURFACE.STATE s
  a.eachOf F.SURFACE.STATE (fun g s =>
    if was s == 0 && g.get F.SURFACE.STATE s == 1 then g.allocate s a.ctx
    else if was s == 1 && g.get F.SURFACE.STATE s == 0 then g.freeSurface s a.ctx
    else g) h

/-- Heads and layers (R339, R347, R352, R354): a stored surface flips for its context, clones begin or end, and a dark head takes its fields at
once. -/
def Applied.displays (a : Applied) (h : Hub) : Hub :=
  let h1 := a.eachOf F.LAYER.SURFACE (fun (g : Hub) y => { g with storedBy := g.storedBy.write (fun _ => 0) y (a.ctx + 1) }) h
  let heads := (a.insts 17 ++ (a.insts 18).map (fun y => y / 8)).eraseDups
  let h2 := heads.foldl (fun g n => g.darkHead n) h1
  let h3 := a.eachOf F.LAYER.CLONE_OF (fun g y => g.cloneChanged y) h2
  let h4 := (a.of F.HEAD.LOCK_ENABLE ++ a.of F.HEAD.LOCK_PERIOD ++ a.of F.HEAD.LOCK_BASE).eraseDups.foldl (fun g n => g.syncLock n 3) h3
  (heads.foldl (fun g n => g.syncHead n) h4).headsScanning a.old

/-- CUE_ENABLE has changed (R389): pins newly named take their cue's level, pins no longer named go back to the GPIO interface. -/
def Hub.cuesMoved (h : Hub) (old : Nat) : Hub :=
  let gone := (old - (old &&& h.get F.CLOCK.CUE_ENABLE 0)) * 2 ^ 24
  let g := h.cuesDriven old
  if gone == 0 then g else g.gpioDrive (g.get F.BRANCH.GPIO_OUT 5 ^^^ gone)

/-- The Station Clock, its triggers and PTP ports (R372–R377, R386–R390). -/
def Applied.clocks (a : Applied) (h : Hub) : Hub :=
  let h1 := if a.has F.CLOCK.RATE 0 then h.foldRate (a.old.getI F.CLOCK.RATE 0) else h
  let ns := h1.getI F.CLOCK.STEP 0
  let h2 := if a.has F.CLOCK.STEP 0 && ns != 0 then (h1.set F.CLOCK.STEP 0 0).clockStep ns true else h1
  let h3 := if a.has F.CLOCK.STEP_FORCE 0 then h2.set F.CLOCK.STEP_FORCE 0 0 else h2
  let h4 := if a.has F.CLOCK.HOST_LOCK 0 then h3.hostLock else h3
  let h5 := if a.has F.CLOCK.CUE_ENABLE 0 then h4.cuesMoved (a.old.get F.CLOCK.CUE_ENABLE 0) else h4
  let h6 := a.each 21 (fun g i =>
    if !g.on F.TRIGGER.ENABLE i then (if a.has F.TRIGGER.ENABLE i then g.disarmTrigger i else g)
    else
      let g1 := if a.has F.TRIGGER.ENABLE i then g.set F.TRIGGER.OWNER i a.ctx else g
      if a.has F.TRIGGER.ENABLE i || a.has F.TRIGGER.TIME i then g1.triggerArmed i else g1) h5
  let h7 := a.eachOf F.PTPPORT.ENABLE (fun g i => g.ptpEnable i) (if a.has F.CLOCK.SERVO_PORT 0 then (List.range 6).foldl (fun g i => g.ptpState i) h6 else h6)
  if (a.of F.PTPPORT.ENABLE).isEmpty && !a.has F.CLOCK.DOMAIN 0 && !a.has F.CLOCK.TC_MODE 0 then h7 else h7.syncTable1

/-- A policer's buckets keep their levels through a change, cut to a smaller burst (R297). -/
def Applied.meter (a : Applied) (h : Hub) (p : Nat) : Hub :=
  let s := a.old.meterNow p
  let spent (old new s : Nat) : Nat := new * 8000000 - min (old * 8000000 - s) (new * 8000000)
  h.modYard (fun y => { y with meters := y.meters.write (fun _ => {}) p {
    spentP := spent (a.old.get F.POLICER.PBS p) (h.get F.POLICER.PBS p) s.1, spentC := spent (a.old.get F.POLICER.CBS p) (h.get F.POLICER.CBS p) s.2, last := h.now } })

/-- NT_PROGRAM_LOADED to an OWNER of the slot (R280, R616). -/
def Hub.programNotice (h : Hub) (k owner : Nat) (loaded : Bool) : Hub := h.raise 109 (k + owner * 2 ^ 8 + ofB loaded * 2 ^ 12) (ctxCode owner)

/-- A program slot is loaded, or emptied (R271–R273). A set that stores STATE = 1 and afterwards LEVEL = 0 passes check 8, since neither store is
clamped by the other; such a slot is left EMPTY, for a program of another level is never loaded (R114; DESIGN CHOICE, log entry 84). -/
def Applied.program (a : Applied) (h : Hub) (k : Nat) : Hub :=
  let was := a.old.get F.PROGRAM.STATE k != 0
  if h.on F.PROGRAM.STATE k && h.get F.PROGRAM.LEVEL k != 0 then
    let words := (List.range (h.get F.PROGRAM.LENGTH k)).map (fun i => BitVec.ofNat 32 (h.get F.PROGRAM.CODE k i))
    let h1 := h.modYard (fun y => { y with loaded := y.loaded.write (fun _ => none) k (some (h.get F.PROGRAM.LEVEL k, words)) })
    let h2 := if was then h1 else h1.set F.PROGRAM.OWNER k a.ctx
    let h3 := h2.set F.PROGRAM.SCOPE k (if a.ctx < 4 then a.ctx else 0xF)
    h3.programNotice k (h3.get F.PROGRAM.OWNER k) true
  else
    let h1 := (((h.modYard (fun y => { y with loaded := y.loaded.write (fun _ => none) k none })).set F.PROGRAM.STATE k 0).set F.PROGRAM.OWNER k 0xF).set F.PROGRAM.SCOPE k 0xF
    if was then h1.programNotice k (a.old.get F.PROGRAM.OWNER k) false else h1

/-- The Yard, its Shunters, scheduling and network ports (R256, R270, R272, R275, R297, R302, R309–R315). -/
def Applied.yards (a : Applied) (h : Hub) : Hub :=
  let h1 := a.eachOf F.PROGRAM.STATE a.program h
  let h2 := a.eachOf F.SHUNTER.ENABLE (fun g e => g.syncEngine e) h1
  let h3 := a.eachOf F.MIRROR.ENABLE (fun g m =>
    if g.on F.MIRROR.ENABLE m then g.modYard (fun y => { y with selected := y.selected.write (fun _ => 0) m 0 }) else g) h2
  let h4 := a.each 12 a.meter h3
  let h5 := a.each 13 (fun g y => g.ttCommit y (a.has F.TIMETABLE.ENABLE y && g.on F.TIMETABLE.ENABLE y)) h4
  let h6 := if (a.insts 8).isEmpty then h5
    else (a.eachOf F.POOL.RESERVE (fun g y => (List.range 8).foldl (fun g s => g.trimReserve y s) g) h5).poolWatch
  let h7 := a.eachOf F.ETHPORT.MDIO_REQ (fun g m => g.startMdio m) h6
  -- A MAC whose interface changes loses its block lock (R311; DEDUCED, log entry 89).
  let h7 := a.eachOf F.ETHPORT.IFACE (fun g m => if a.old.get F.ETHPORT.IFACE m == g.get F.ETHPORT.IFACE m then g else g.macLink m false 0 0) h7
  if (a.insts 23).isEmpty then h7 else ((List.range 4).foldl (fun g l => g.syncShapers l) h7).syncStatics.flowWatch

/-- Landings and their tunnels (R14, R206, R239, R241): Quiet stores take effect now where this is the landing's quiet point or it has not
reached ACTIVE, and wait for the next one otherwise. -/
def Applied.landings (a : Applied) (h : Hub) : Hub :=
  let landing (s : Staged) : Nat := match s.cls with | 3 => s.inst | 4 => s.inst / 4 | 5 => s.inst / 2048 | _ => s.inst / 8
  let quiet (s : Staged) : Bool := 3 ≤ s.cls && s.cls ≤ 6 && (match fieldInfo s.cls s.num with | some f => f.apply == .quiet | none => false)
  let ls := ((a.sts.filter quiet).map landing).eraseDups
  let h1 := ls.foldl (fun g l =>
    if a.quiet == some l then g.takeQuiet l
    else if !(g.link l).reached then g.takeQuiet l
    else g.modLink l (fun k => { k with quietStores := true })) h
  let h2 := a.each 5 (fun g t => g.rewriteTunnel t) h1
  let h3 := a.eachOf F.LANDING.REKEY (fun g l => if g.on F.LANDING.REKEY l then (let g1 := g.set F.LANDING.REKEY l 0; if !(g1.link l).reached then g1 else if g1.authed l && g1.lState l == 5 then g1.sendRekey l true else g1.modLink l (fun k => { k with rekeyAsk := true })) else g) h2
  a.eachOf F.CLASSBUDGET.GUEST_ALLOW (fun g i =>
    let l := i / 8
    if g.on F.CLASSBUDGET.GUEST_ALLOW i || i % 8 == 0 || !(g.up l && g.guest l) then g
    else g.modLink l (fun k => { k with closing := k.closing ++ (g.openSlots l).filter (fun s => g.use F.TUNNEL.CLASS (tunnelOf l s) == i % 8) })) h3

/-- Storage, the Branch Line, USB and the legacy interfaces (R389, R403, R428, R431, R433, R435, R453, R461, R462, R465, R467). -/
def Applied.ports (a : Applied) (h : Hub) : Hub :=
  let h1 := a.eachOf F.STORAGE.SLOT_ENABLE (fun g s => g.slotEnable s) h
  let h2 := a.each 25 (fun g n =>
    let g1 := if [F.BRANCH.MODE, F.BRANCH.BIT_RATE, F.BRANCH.DATA_RATE, F.BRANCH.SAMPLE_POINT, F.BRANCH.DATA_SAMPLE].any (fun f => a.has f n) then g.farRestart n else g
    let frames := a.sts.filterMap (fun s => if s.cls == 25 && s.inst == n && s.num == F.BRANCH.TX_PERIOD.num then some s.elem else none)
    let g2 := if n < 2 then frames.foldl (fun g f => g.txPeriodCommitted n f) g1 else g1
    let v (x : Hub) (f : Fld) : Nat := x.get f n
    let moved := ((v a.old F.BRANCH.GPIO_DIR ^^^ v g F.BRANCH.GPIO_DIR) ||| (v a.old F.BRANCH.GPIO_OD ^^^ v g F.BRANCH.GPIO_OD) |||
      (v a.old F.BRANCH.GPIO_OUT ^^^ v g F.BRANCH.GPIO_OUT)) % 2 ^ 32
    if n == 5 && moved != 0 then g2.gpioDrive (v g F.BRANCH.GPIO_OUT ^^^ moved) else g2) h1
  let h3 := a.eachOf F.SIGNAL.ENABLE (fun g e => g.signalEnabled a.ctx e) h2
  let h4 := if (a.insts 25).isEmpty && (a.insts 26).isEmpty then h3 else h3.syncGroups
  let h5 := a.eachOf F.USBPORT.MODE (fun g n => if a.old.get F.USBPORT.MODE n == g.get F.USBPORT.MODE n then g else g.usbModeChanged n) h4
  let h6 := a.eachOf F.USBPORT.POWER (fun g n => if a.old.on F.USBPORT.POWER n then g.usbFeed n else g.portPower n (g.on F.USBPORT.POWER n)) h5
  let h7 := a.eachOf F.USBPORT.PORT_ENABLE (fun g n => g.usbFeed n) h6
  let focus := h7.get F.USBPORT.FOCUS 0
  let h8 := if a.has F.USBPORT.PROXY_HOSTS 0 && focus < 4 && !bitB (h7.get F.USBPORT.PROXY_HOSTS 0) focus then h7.focusLost focus true else h7
  let h9 := a.eachOf F.LEGACY.ENABLE (fun g l => g.legacyPullUp l) ((List.range 4).foldl (fun (g : Hub) l => g.proxyMoved a.old l) h8)
  a.eachOf F.LEGACY.IDLE_RESET (fun g l => (g.disarm T.legacyIdle l).legacyIdleWatch l) h9

/-- A feed's ALLOW has changed; a storage slot sees its feed go. -/
def Hub.gateFeedSeen (h : Hub) (n : Nat) : Hub :=
  let g := h.gateFeed n
  if (n == 12 || n == 13) && h.get F.FEED.STATE n == 3 && g.get F.FEED.STATE n != 3 then g.slotPowerLost (n - 12) else g

/-- Feeds, keys and standing slots (R154, R470, R476, R483, R497, R512, R513, R516). -/
def Applied.desk_ (a : Applied) (h : Hub) : Hub :=
  let h1 := a.eachOf F.FEED.ALLOW (fun g n => g.gateFeedSeen n) h
  let h2 := a.eachOf F.FEED.LATCH_CLEAR (fun g n =>
    let g1 := g.set F.FEED.LATCH_CLEAR n 0
    if g.on F.FEED.LATCH_CLEAR n && g.get F.FEED.STATE n == 6 then g1.feedState n 0 else g1) h1
  let h3 := if a.has F.FEED.CHARGE_BUDGET 0 then h2.budgetChanged else h2
  let h4 := a.eachOf F.KEYSLOT.KIND (fun g k =>
    if a.old.get F.KEYSLOT.KIND k == g.get F.KEYSLOT.KIND k && g.get F.KEYSLOT.OWNER k != 0xF then g else g.keyslotKind a.ctx k) h3
  let h5 := a.eachOf F.KEYSLOT.OP (fun g k => if g.on F.KEYSLOT.OP k then g.keyslotOp k else g) h4
  let h6 := if a.has F.KEYSLOT.EXTEND 0 then h5.extendStaged else h5
  let h7 := if a.has F.KEYSLOT.TAMPER_CLEAR 0 && h6.on F.KEYSLOT.TAMPER_CLEAR 0 then h6.tamperCleared else h6
  a.eachOf F.STANDING.CLEAR (fun g k => if g.on F.STANDING.CLEAR k then g.clearStanding k |>.set F.STANDING.CLEAR k 0 else g) h7

/-- A set is applied: everything but what its Receipt goes before. -/
def Hub.applySet (h : Hub) (ctx : Nat) (desk : Bool) (quiet : Option Nat) (sts : List Staged) : Hub :=
  let a : Applied := { ctx := ctx, desk := desk, quiet := quiet, old := h, sts := lastStores sts }
  a.desk_ (a.ports (a.landings (a.yards (a.clocks (a.displays (a.surfaces (a.write h)))))))

/-- What a set does once its Receipt is sent: link ends, re-authentications, activations, resets and power states (R145, R173, R241, R519, R533,
R536, R567, R582, R583). -/
def Hub.afterReceipt (h : Hub) (old : Hub) (ctx : Nat) (desk : Bool) (quiet : Option Nat) (sts : List Staged) : Hub :=
  let a : Applied := { ctx := ctx, desk := desk, quiet := quiet, old := old, sts := lastStores sts }
  let h1 := a.eachOf F.LANDING.DETECT_ENABLE (fun g l =>
    if !g.on F.LANDING.DETECT_ENABLE l then (if g.lState l == 11 then g else ((g.linkDown l true).lostLanding l).portsFollow l)
    else if g.lState l == 11 || g.lState l == 10 then g.linkCleared l false
    else g) h
  let h2 := a.eachOf F.CLASSBUDGET.GUEST_ALLOW (fun g i =>
    if g.on F.CLASSBUDGET.GUEST_ALLOW i || i % 8 != 0 || !(g.up (i / 8) && g.guest (i / 8)) then g else g.reauth (i / 8) 0) h1
  let h3 := if a.has F.KEYSLOT.LC_ADVANCE 0 && h2.get F.KEYSLOT.LC_ADVANCE 0 != 0 then h2.lifecycle else h2
  let h3 := if a.has F.UPDATE.AUTO_CONFIRM 0 then h3.keepSwitch else h3
  let h3 := if a.has F.SYSTEM.STANDBY_IDLE 0 then (h3.disarm T.standbyIdle 0).idleWatch else h3
  let h4 := if a.has F.UPDATE.ACTIVATE 0 && h3.on F.UPDATE.ACTIVATE 0 then h3.activate else h3
  let h5 := if a.has F.UPDATE.CONFIRM 0 && h4.on F.UPDATE.CONFIRM 0 then h4.confirm false else h4
  let h6 := a.eachOf F.CONTEXT.RESET (fun g n => if g.on F.CONTEXT.RESET n then (g.set F.CONTEXT.RESET n 0).resetContext n 4 else g) h5
  let h7 := if a.has F.SYSTEM.POWER_TARGET 0 then h6.powerTarget else h6
  if a.has F.SYSTEM.WARM_RESET 0 && h7.on F.SYSTEM.WARM_RESET 0 then (h7.set F.SYSTEM.WARM_RESET 0 0).warmBegin else h7

end Sys2Proof.Machine
end

