-- ==== Sys2Proof/Machine/Live.lean ====
section
/-! DEFINITION. What GET and PEEK read (R4, R78, R150): the committed value of a field, or for a field that mirrors other state the value it
has now. -/

namespace Sys2Proof.Machine

/-- The entry of a Timetable in effect (R299); 0 while it does not run. -/
def Hub.ttCurrent (h : Hub) (y : Nat) : Nat := if h.on F.TIMETABLE.ENABLE y then (entryAt (h.ttStarts y) (h.ttPhase y)).1 else 0

/-- The bits of a set of positions. -/
def bitsOf (n : Nat) (p : Nat → Bool) : Nat := ((indicesWhere n p).map (fun i => 2 ^ i)).sum

/-- The live value of a field element, as the field's bits. -/
def Hub.liveValue (h : Hub) (cls inst num elem : Nat) : Nat :=
  let is (f : Fld) : Bool := cls == f.cls && num == f.num
  if is F.CONTEXT.QUEUED then (h.ctx inst).queue.length + ofB (h.prog inst).isSome
  else if is F.CONTEXT.WAITING_SETS then (h.sets.filter (fun w => w.head.ctx == inst)).length
  else if is F.CONTEXT.RECEIPTS_WAITING then ((h.ctx inst).out.filter (fun m => m.type == 3)).length
  else if is F.CONTEXT.RING_ENTRIES then (h.ctx inst).ring.length
  else if is F.CONTEXT.TOKENS then bitsOf 64 (fun k => h.holds inst k)
  else if is F.NOTICE.PENDING then bitsOf 6 (fun n => (h.pendRec n inst).count != 0)
  else if is F.LANDING.GUEST then ofB ((h.session inst).up && (h.session inst).guest)
  else if is F.YARDPORT.SLICE_CELLS then h.yard.sliceCells inst
  else if is F.POOL.RESERVE_USED then h.reserveUsed inst elem
  else if is F.POOL.CELLS then h.yard.portCells inst
  else if is F.POOL.FREE_SHARED then h.freeShared
  else if is F.POOL.SHARED_TOTAL then h.sharedTotal
  else if is F.QUEUE.CELLS then h.yard.leafCells inst
  else if is F.QUEUE.HELD then (match (h.yard.leaf inst).head? with | some e => ofB (h.headHeld inst e) | none => 0)
  else if is F.QUEUE.MAC && inst / 128 == 6 then h.leafMac inst
  else if is F.SERVICE.GATE then
    (if inst / 8 == 6 then ofB (h.gateOpen 6 0 (inst % 8)) + 2 * ofB (h.gateOpen 6 1 (inst % 8)) else ofB (h.gateOpen (inst / 8) 0 (inst % 8)) + 2)
  else if is F.SERVICE.PAUSED then (if inst / 8 == 6 then ofB (h.pausedNow 0 (inst % 8)) + 2 * ofB (h.pausedNow 1 (inst % 8)) else 0)
  else if is F.POLICER.USERS then h.policerUsers inst
  else if is F.TIMETABLE.CURRENT then h.ttCurrent inst
  else if is F.PROGRAM.USERS then h.programUsers inst
  else if is F.HEAD.LAYER_PIXELS then perSecond h.useView inst (headArea h.useView inst)
  else if is F.HEAD.READ_RATE then perSecond h.useView inst (headRead2 h.useView inst) / 2
  else if is F.HEAD.TURN_RATE then h.turnRate inst
  else if is F.HEAD.DEPOT_FREE then h.depotFree inst
  else if is F.LAYER.COST then (if h.use F.LAYER.ENABLE inst == 1 then perSecond h.useView (inst / 8) (layerArea h.useView inst) else 0)
  else if is F.CLOCK.LOCAL then h.now % 2 ^ 64
  else if is F.CLOCK.NETWORK then h.network
  -- Its first octet is in [7:0] (R8).
  else if is F.CLOCK.CLOCK_ID then leNat (beBytes 8 h.clockId)
  else if is F.STORAGE.HOLDER then h.holder (11 + inst)
  else if cls == F.BRANCH.MODE.cls && !branchApplies inst num then 0
  else h.getN cls inst num elem

/-- Whether a context may read a field (R35, R78): a holder-only field by its holder alone, the OWNER of a key slot for OUTPUT, the own context for
the posted fault log. -/
def Hub.mayRead (h : Hub) (n : Nat) (f : FieldInfo) (cls inst : Nat) : Bool :=
  !f.holderOnly || (if cls == 30 then h.get F.KEYSLOT.OWNER inst == n else inst == n)

end Sys2Proof.Machine
end

