-- ==== Sys2Proof/Machine/Commit.lean ====
section
/-! DEFINITION. Stores and commits: the checks of R133 one store at a time with their clamp entries (R135), the commit check (R137), epochs and
the commit stage (R136, R138, R140). -/

namespace Sys2Proof.Machine

/-! ### One store (R133–R135, R81) -/

/-- The integer a field's bits stand for. -/
def FieldInfo.value (f : FieldInfo) (bits : Nat) : Int := match f.type with | .signed => decInt f.width bits | _ => (bits : Int)

/-- Check 4: an undefined enum code becomes the fallback, undefined bits of a bitset are cleared. -/
def FieldInfo.check4 (f : FieldInfo) (v : Int) : Int :=
  match f.type with
  | .enum => if f.codes.any (fun c => (c : Int) == v) then v else f.fallback
  | .bitset => (v.toNat &&& f.hi.toNat : Nat)
  | _ => v

/-- Whether checks 5 to 7 apply: not to enum and bitset fields, nor to a code an unsigned field's range names besides its interval. -/
def FieldInfo.ranged (f : FieldInfo) (v : Int) : Bool :=
  match f.type with
  | .enum => false
  | .bitset => false
  | _ => !f.codes.any (fun c => (c : Int) == v)

/-- Check 7: the nearest on-step value, halves toward min, or for a protective field the next one toward its safe end. -/
def FieldInfo.check7 (f : FieldInfo) (v : Int) : Int :=
  let excess := (v - f.lo) % (f.step : Int)
  if excess == 0 then v
  else
    let low := v - excess
    let high := low + f.step
    match f.safe with
    | .low => low
    | .high => high
    | .none => if excess * 2 ≤ f.step then low else high

/-- A change a check makes: its reason, the value entering it and the value leaving it. -/
abbrev Change := Nat × Int × Int

/-- The value with one more change noted, when there is one. -/
def note (reason : Nat) (new : Int) (x : Int × List Change) : Int × List Change := if new == x.1 then x else (new, x.2 ++ [(reason, x.1, new)])

/-- Checks 8 and 9 of a value. -/
def Storing.limits (q : Storing) (f : FieldInfo) (cls inst num elem : Nat) (x : Int × List Change) : Int × List Change :=
  let r := q.check8 cls inst num elem (encInt f.width x.1)
  let x8 := note r.2 (f.value r.1) x
  note 6 (f.value (q.check9 f cls inst num elem (encInt f.width x8.1))) x8

/-- Checks 4 to 9 of a value: what leaves them, and the changes made. -/
def Storing.checks (q : Storing) (f : FieldInfo) (cls inst num elem : Nat) (v : Int) : Int × List Change :=
  -- A code that MODE of the interface does not define (R438) is undefined too.
  let undef := cls == F.BRANCH.MODE.cls && num == F.BRANCH.MODE.num && decide ((branchModes inst : Int) < v)
  let x4 := note 4 (if undef then f.fallback else f.check4 v) (v, [])
  let x7 := if f.ranged x4.1 then
      let x5 := note 1 (min x4.1 f.hi) x4
      let x6 := note 2 (max x5.1 f.lo) x5
      note 3 (f.check7 x6.1) x6
    else x4
  q.limits f cls inst num elem x7

/-- The clamp entries of a change: one, or one for each half of a 64-bit field that differs; a refusal has both. -/
def entriesOf (f : FieldInfo) (cls inst num elem reason : Nat) (before after : Int) (refusal : Bool) : List Clamp :=
  let half (high : Bool) (a b : Nat) : List Clamp :=
    if refusal || a != b then [{ object := cls * 65536 + inst, num := num, reason := reason, elem := elem, high := high, requested := a, applied := b }] else []
  let a := encInt 64 before
  let b := encInt 64 after
  half false (a % 2 ^ 32) (b % 2 ^ 32) ++ (if 32 < f.width then half true (a / 2 ^ 32) (b / 2 ^ 32) else [])

/-- Whether a context may store a value to a field element: it holds the guard, and for a general key slot's KIND 4 K0 (R512). -/
def Hub.mayStore (h : Hub) (n : Nat) (desk : Bool) (cls inst num elem : Nat) (v : Int) : Bool :=
  h.holdsGuard n desk cls inst num elem && !(cls == 30 && num == F.KEYSLOT.KIND.num && v == 4 && !h.satisfies n desk (.token 0))

/-- What checks 1 to 3 refuse a store for, if anything: an RO field, the guard, or 8,192 distinct fields staged. QUEUE.MAC of a leaf of Y6 with a
fixed binding is RO (R288). -/
def Storing.refused (q : Storing) (f : FieldInfo) (cls inst num elem : Nat) (v : Int) (staged : List Staged) : Option Nat :=
  let st : Staged := { cls := cls, inst := inst, num := num, elem := elem, value := 0 }
  if f.apply == .ro || (cls == 9 && num == F.QUEUE.MAC.num && inst / 128 == 6 && inst % 128 / 8 < 14) then some 7
  else if !q.now.mayStore q.ctx q.desk cls inst num elem v then some 7
  else if 8192 ≤ (lastStores staged).length && !staged.any st.same then some 5
  else none

/-- What a store leads to: the value staged, if any, its clamp entries, and whether it was clamped or refused. -/
structure StoreResult where
  value : Option Nat
  clamps : List Clamp
  changed : Bool

/-- The value a refused store leaves: the staged one, or the one a GET reads. -/
def Storing.keptBits (q : Storing) (cls inst num elem : Nat) (staged : List Staged) : Nat :=
  let st : Staged := { cls := cls, inst := inst, num := num, elem := elem, value := 0 }
  if staged.any st.same then q.view.getN cls inst num elem else q.now.liveValue cls inst num elem

/-- A store of a value, in the order of R133; strict is a SETX, which refuses instead of clamping (R81). -/
def Storing.store (q : Storing) (f : FieldInfo) (cls inst num elem : Nat) (v : Int) (staged : List Staged) (strict : Bool) : StoreResult :=
  let kept := f.value (q.keptBits cls inst num elem staged)
  let refusal (r : Nat) : StoreResult := { value := none, clamps := entriesOf f cls inst num elem r v kept true, changed := true }
  match q.refused f cls inst num elem v staged with
  | some r => refusal r
  | none =>
    match q.checks f cls inst num elem v with
    | (w, []) => { value := some (encInt f.width w), clamps := [], changed := false }
    | (w, c :: cs) =>
      if strict then refusal c.1
      else { value := some (encInt f.width w), clamps := ((c :: cs).map (fun x => entriesOf f cls inst num elem x.1 x.2.1 x.2.2 false)).flatten, changed := true }

/-- A program's stores are checked with what it has staged (R134). -/
def Prog.storing (p : Prog) (h : Hub) : Storing :=
  { now := h, view := h.withStaged p.head.ctx p.staged, ctx := p.head.ctx, desk := p.head.desk }

/-- A program stages a store; a CLOCK.STEP that check 8 refuses is kept for R376. -/
def Prog.stage (p : Prog) (h : Hub) (f : FieldInfo) (cls inst num elem : Nat) (v : Int) (strict : Bool) : Prog × Bool :=
  let r := (p.storing h).store f cls inst num elem v p.staged strict
  let stepGone := cls == 20 && num == F.CLOCK.STEP.num && r.clamps.any (fun c => c.reason == 5)
  ({ p with
    staged := match r.value with | some x => p.staged ++ [{ cls := cls, inst := inst, num := num, elem := elem, value := x }] | none => p.staged
    clamps := p.clamps ++ r.clamps
    stepsRefused := if stepGone then p.stepsRefused ++ [v] else p.stepsRefused }, r.changed)

/-! ### The commit check (R137) -/

/-- Each staged store with the stores staged before it. -/
def withEarlier : List Staged → List Staged → List (List Staged × Staged)
  | _, [] => []
  | before, s :: t => (before, s) :: withEarlier (before ++ [s]) t

/-- The stores that would commit, each with those staged before it. -/
def commitOrder (staged : List Staged) : List (List Staged × Staged) :=
  (withEarlier [] staged).zipIdx.filterMap (fun p => if (staged.drop (p.2 + 1)).any p.1.2.same then none else some p.1)

/-- The entries of staged stores whose guard the context no longer holds. -/
def Hub.ownerEntries (h : Hub) (ctx : Nat) (desk : Bool) (staged : List Staged) : List Clamp :=
  ((commitOrder staged).map (fun p =>
    let s := p.2
    match fieldInfo s.cls s.num with
    | none => []
    | some f => if h.mayStore ctx desk s.cls s.inst s.num s.elem (f.value s.value) then []
        else entriesOf f s.cls s.inst s.num s.elem 7 (f.value s.value) (f.value (h.liveValue s.cls s.inst s.num s.elem)) true)).flatten

/-- The entries of staged stores that checks 8 and 9 would now change. -/
def Hub.budgetEntries (h : Hub) (ctx : Nat) (desk : Bool) (staged : List Staged) : List Clamp :=
  ((commitOrder staged).map (fun p =>
    let s := p.2
    match fieldInfo s.cls s.num with
    | none => []
    | some f =>
      let q : Storing := { now := h, view := h.withStaged ctx p.1, ctx := ctx, desk := desk }
      ((q.limits f s.cls s.inst s.num s.elem (f.value s.value, [])).2.map (fun c => entriesOf f s.cls s.inst s.num s.elem c.1 c.2.1 c.2.2 false)).flatten)).flatten

/-! ### A set commits -/

/-- The entries of tunnels a recomputation at a set's own quiet point left short, when the set's stores caused it (R236). -/
def Hub.shortEntries (h : Hub) (l : Nat) (staged : List Staged) : List Clamp :=
  let caused := staged.any (fun s => (s.cls == 5 && s.inst / 2048 == l && ([0, 5, 6, 10] : List Nat).contains s.num) || (s.cls == 6 && s.inst / 8 == l && s.num < 2) ||
    (s.cls == 3 && s.inst == l && s.num == F.LANDING.ALLOT_IN.num))
  if !caused then []
  else (h.shortfalls l).map (fun x =>
    let t := tunnelOf l x.1
    let f := resF x.2
    { object := 5 * 65536 + t, num := f.num, reason := 6, elem := 0, high := false, requested := h.use f t, applied := h.get (admF x.2) t })

/-- The landing whose quiet point an epoch is. -/
def Epoch.landing : Epoch → Option Nat
  | .quiet l => some l
  | _ => none

/-- A set whose epoch has arrived meets the commit check, and is applied whole or discarded whole. atQuiet is the landing whose quiet point
this is, if any. -/
def Hub.commitSet (h : Hub) (w : WaitSet) (atQuiet : Option Nat) : Hub :=
  let n := w.head.ctx
  let lost := h.ownerEntries n w.head.desk w.staged
  let excess := h.budgetEntries n w.head.desk w.staged
  if !lost.isEmpty then h.discardSet w 6 0 lost
  else if !excess.isEmpty then
    let steps := excess.any (fun c => c.object == 20 * 65536 && c.num == F.CLOCK.STEP.num && c.reason == 5)
    let asked := (lastStores w.staged).find? (fun s => s.cls == 20 && s.num == F.CLOCK.STEP.num)
    let h1 := h.discardSet w 4 4 excess
    match asked with
    | some s => if steps then h1.stepRefused (decInt 64 s.value) true else h1
    | none => h1
  else
    let quiet := match w.epoch.landing with | some l => if atQuiet == some l then some l else none | none => none
    let h1 := ({ h with journal := h.journal ++ [w] } : Hub).applySet n w.head.desk quiet w.staged
    -- A change of the active pairs is reported by NT_LDL_ALLOTMENT instead.
    let same (l : Nat) : Bool := h1.get F.LANDING.PAIRS_IN l == h.get F.LANDING.PAIRS_IN l && h1.get F.LANDING.PAIRS_OUT l == h.get F.LANDING.PAIRS_OUT l
    let short := match quiet with | some l => if same l then h1.shortEntries l w.staged else [] | none => []
    let clamps := w.clamps ++ short
    let h2 := h1.report w.head w.words { status := if clamps.isEmpty then 0 else 1, late := w.late, steps := w.steps, notes := w.notes, kind := w.kind, clamps := clamps }
    ({ w.stepsRefused.foldl (fun g s => g.stepRefused s true) h2 with journal := h.journal } : Hub).afterReceipt h n w.head.desk quiet w.staged

/-- A warm reset completes the sets of the journal before a data path restarts, each with a Receipt of flag REPLAYED (R141). -/
def Hub.completeJournal (h : Hub) : Hub :=
  h.journal.foldl (fun g w =>
    ({ g.applySet w.head.ctx w.head.desk none w.staged with journal := g.journal.drop 1 } : Hub).keepReceipt w.head
      { status := if w.clamps.isEmpty then 0 else 1, late := w.late, replayed := true, steps := w.steps, notes := w.notes, kind := w.kind, clamps := w.clamps }) h

/-! ### Epochs (R136) -/

/-- Whether an epoch is such that a COMMIT naming it executes at once, or has passed. -/
def Hub.atOnce (h : Hub) : Epoch → Bool
  | .now => true
  | .refill _ => false
  | .slot t => decide (t ≤ h.now)
  | .blanking n => !h.scanning n
  | .time t => diff48 t h.network48 ≤ 0
  | .cycle y => !h.on F.TIMETABLE.ENABLE y
  | .quiet l => let st := h.lState l; !(([5, 6, 7, 8, 9] : List Nat).contains st || (2 ≤ st && st ≤ 4 && (h.link l).reached))

/-- The epoch a kind and its operands name; kind 1 waits for the shaper of the set's first SHAPER store. -/
def Hub.epochOf (h : Hub) (kind index lo hi : Nat) (staged : List Staged) : Epoch :=
  match kind with
  | 1 => (match staged.find? (fun s => s.cls == 11) with | some s => .refill s.inst | none => .slot (slot64 (h.now + 1)))
  | 2 => .blanking index
  | 3 => .time (lo + hi * 2 ^ 32)
  | 4 => .cycle index
  | 5 => .quiet index
  | _ => .now

/-- COMMIT_TIMEOUT of a context in ns. -/
def Hub.commitTimeout (h : Hub) (n : Nat) : Nat := h.get F.CONTEXT.COMMIT_TIMEOUT n * msec

/-- A wait for a quiet point leaves L_IDLE, and wakes a sleeping host where LANDING.WAKE_HOST lets it (R136, R199). -/
def Hub.seekQuiet (h : Hub) : Epoch → Hub
  | .quiet l => if h.lState l == 6 then h.exitIdle l else if h.lState l == 7 && h.on F.LANDING.WAKE_HOST l then (h.sideband l 5 []).wake l else h
  | _ => h

/-- The set of a context's running program enters the commit stage, and the program has ended (R138, R140). -/
def Hub.enterStage (h : Hub) (n : Nat) (p : Prog) (e0 : Epoch) (kind : Nat) : Hub :=
  let h1 := h.endManifest n
  let e : Epoch := match e0 with | .slot _ => .slot (slot64 (h.now + 1)) | x => x
  let ahead : Int := match e with | .time t => diff48 t h.network48 | _ => 0
  let w : WaitSet := { head := p.head, words := p.words, epoch := e, kind := kind, deadline := h.now + h.commitTimeout n, arrived := h.atOnce e, late := decide (ahead < 0),
                       staged := p.staged, notes := p.notes, clamps := p.clamps, stepsRefused := p.stepsRefused, steps := p.steps }
  if (h.commitTimeout n : Int) < ahead then h1.discardSet w 7 0x103 []
  else { h1 with sets := h1.sets ++ [w] }.seekQuiet e

/-- How many sets of a context wait. -/
def Hub.waitingSets (h : Hub) (n : Nat) : Nat := (h.sets.filter (fun w => w.head.ctx == n)).length

/-- The first set, in the order their COMMITs executed, whose epoch has arrived and which no earlier set of its context precedes. -/
def nextSet : List Nat → List WaitSet → Option WaitSet
  | _, [] => none
  | seen, w :: t => if w.arrived && !seen.contains w.head.ctx then some w else nextSet (w.head.ctx :: seen) t

/-- The sets without the first one equal to a given one. -/
def dropSet (w : WaitSet) : List WaitSet → List WaitSet
  | [] => []
  | x :: t => if x == w then t else x :: dropSet w t

/-- A COMMIT blocked by four waiting sets enters the stage once one has left. -/
def Hub.unblockCommit (h : Hub) (n : Nat) : Hub :=
  match h.prog n with
  | some p => match p.block with
    | some (.commitStage e kind) => if h.waitingSets n < 4 then h.enterStage n { p with block := none } e kind else h
    | _ => h
  | none => h

/-- The set that commits directly after one of a context: the context's next, where its epoch had arrived before. -/
def heldNext (n : Nat) (sets : List WaitSet) : Option WaitSet :=
  match sets.find? (fun w => w.head.ctx == n) with
  | some w => if w.arrived && w.held then some w else none
  | none => none

/-- Sets commit one after another as long as one can; last is the context whose set has just committed. -/
def Hub.settleRun (atQuiet : Option Nat) : Nat → Nat → Hub → Hub
  | 0, _, h => h
  | k + 1, last, h =>
    let h1 := { h with sets := h.sets.map (fun w => if w.arrived then w else { w with arrived := h.atOnce w.epoch }) }
    match (heldNext last h1.sets).or (nextSet [] h1.sets) with
    | none => h1
    | some w => Hub.settleRun atQuiet k w.head.ctx ((({ h1 with sets := dropSet w h1.sets } : Hub).commitSet w atQuiet).unblockCommit w.head.ctx)

/-- WAITs for a moment return with Z = 1. -/
def Hub.wakeWaits (h : Hub) (p : Epoch → Bool) : Hub :=
  (List.range 6).foldl (fun g n =>
    match g.prog n with
    | some q => match q.block with
      | some (.wait e _) => if p e then g.manifestOn n { q with block := none, z := true } else g
      | _ => g
    | none => g) h

/-- Whether network time has reached an epoch's target. -/
def Hub.timeReached (h : Hub) (e : Epoch) : Bool := match e with | .time t => decide (diff48 t h.network48 ≤ 0) | _ => false

/-- WAITs whose target a clock step has passed return at the step (R377); was is the hub before. -/
def Hub.stepped (h was : Hub) : Hub := if h.get F.CLOCK.STEPS 0 == was.get F.CLOCK.STEPS 0 then h else h.wakeWaits h.timeReached

/-- Sets commit; one whose epoch has arrived and that an earlier set of its context holds back is marked. -/
def Hub.settleAt (h : Hub) (atQuiet : Option Nat) : Hub :=
  let g := Hub.settleRun atQuiet (h.sets.length + 7) 6 h
  ({ g with sets := g.sets.map (fun w => { w with held := w.arrived }) } : Hub).stepped h
def Hub.settle (h : Hub) : Hub := h.settleAt none

/-- A COMMIT of a running program: its set enters the stage, or the program blocks while four wait. -/
def Hub.commit (h : Hub) (n : Nat) (p : Prog) (kind index lo hi : Nat) : Hub :=
  let kind' := if p.head.replay.isSome then 0 else kind
  let e := h.epochOf kind' index lo hi p.staged
  if h.waitingSets n < 4 then (h.enterStage n p e kind').settle else { h with turnLeft := 0 }.setProg n { p with block := some (.commitStage e kind') }

/-- A moment comes for the sets that name it, then for the WAITs. -/
def Hub.reached (h : Hub) (p : Epoch → Bool) (atQuiet : Option Nat) : Hub :=
  (({ h with sets := h.sets.map (fun w => if p w.epoch then { w with arrived := true } else w) } : Hub).settleAt atQuiet)

def Hub.moment (h : Hub) (p : Epoch → Bool) : Hub := (h.reached p none).wakeWaits p

/-! ### Commits outside a Manifest

The rows of the table that commit a field are commits of one set of the named context, without Manifest or Receipt. -/

/-- What a context stages by stores (field number, element, value) to one instance, by the checks of R133: a refused store is left out. -/
def Hub.stageAll (h : Hub) (ctx cls inst : Nat) (stores : List (Nat × Nat × Int)) : Prog :=
  stores.foldl (fun (p : Prog) x =>
    match fieldInfo cls x.1 with
    | some f => if x.2.1 < f.elems then (p.stage h f cls inst x.1 x.2.1 x.2.2 false).1 else p
    | none => p) { head := { ctx := ctx } }

/-- A context commits stores to one instance as one set. -/
def Hub.commitStores (h : Hub) (ctx cls inst : Nat) (stores : List (Nat × Nat × Int)) : Hub :=
  let p := h.stageAll ctx cls inst stores
  if p.staged.isEmpty then h
  else
    let h1 := (h.applySet ctx false none p.staged).afterReceipt h ctx false none p.staged
    (p.stepsRefused.foldl (fun g x => g.stepRefused x true) h1).settle.stepped h

/-- A context commits a value to one field element. -/
def Hub.commitField (h : Hub) (ctx : Nat) (fld : Fld) (inst elem : Nat) (v : Int) : Hub :=
  h.commitStores ctx fld.cls inst [(fld.num, elem, v)]

end Sys2Proof.Machine
end

