-- ==== Sys2Proof/Machine/Commands.lean ====
section
/-! DEFINITION. The rows of the table that are a context's commit of a field: the field each stores and the value it gives it. A row whose
field has its effect together with others of the same instance names those others as stores (field number, element, value) of the same set. -/

namespace Sys2Proof.Machine

/-! ### Landings (R173, R206, R211, R237, R241) -/

def execDetectEnableCommit (ctx l value : Nat) (s : State) : Host.Outcome State Fault Refusal :=
  actIf (decide (ctx < 6 ∧ l < 4)) s (fun h => h.commitField ctx F.LANDING.DETECT_ENABLE l 0 value)

def execLandingRekeyCommit (ctx l : Nat) (s : State) : Host.Outcome State Fault Refusal :=
  actIf (decide (ctx < 6 ∧ l < 4)) s (fun h => h.commitField ctx F.LANDING.REKEY l 0 1)

def execAllotInChange (ctx l value : Nat) (s : State) : Host.Outcome State Fault Refusal :=
  actIf (decide (ctx < 6 ∧ l < 4)) s (fun h => h.commitField ctx F.LANDING.ALLOT_IN l 0 value)

def execPairEnableChange (ctx pair value : Nat) (s : State) : Host.Outcome State Fault Refusal :=
  actIf (decide (ctx < 6 ∧ pair < 16)) s (fun h => h.commitField ctx F.PAIR.ENABLE pair 0 value)

def execGuestAllowClear (ctx inst : Nat) (s : State) : Host.Outcome State Fault Refusal :=
  actIf (decide (ctx < 6 ∧ inst < 32)) s (fun h => h.commitField ctx F.CLASSBUDGET.GUEST_ALLOW inst 0 0)

/-! ### Shunters, Timetables, network ports (R270, R272, R302, R311) -/

def execShunterDisable (ctx engine : Nat) (s : State) : Host.Outcome State Fault Refusal :=
  actIf (decide (ctx < 6 ∧ engine < 8)) s (fun h => h.commitField ctx F.SHUNTER.ENABLE engine 0 0)

/-- The stores give the slot its LENGTH, CODE and other fields; STATE = 1 loads it. -/
def execProgramLoad (ctx slot : Nat) (stores : List (Nat × Nat × Int)) (s : State) : Host.Outcome State Fault Refusal :=
  actIf (decide (ctx < 6 ∧ slot < 64)) s (fun h => h.commitStores ctx F.PROGRAM.STATE.cls slot (stores ++ [(F.PROGRAM.STATE.num, 0, 1)]))

def execProgramUnload (ctx slot : Nat) (s : State) : Host.Outcome State Fault Refusal :=
  actIf (decide (ctx < 6 ∧ slot < 64)) s (fun h => h.commitField ctx F.PROGRAM.STATE slot 0 0)

def execTimetableCommit (ctx port : Nat) (stores : List (Nat × Nat × Int)) (s : State) : Host.Outcome State Fault Refusal :=
  actIf (decide (ctx < 6 ∧ port < 16)) s (fun h => h.commitStores ctx F.TIMETABLE.ENABLE.cls port stores)

def execMdioRequest (ctx mac value : Nat) (s : State) : Host.Outcome State Fault Refusal :=
  actIf (decide (ctx < 6 ∧ mac < 2)) s (fun h => h.commitField ctx F.ETHPORT.MDIO_REQ mac 0 value)

/-! ### Displays (R329, R330, R339, R347, R352) -/

/-- The stores name the clone's surfaces (CLONE_SURF); CLONE_OF = the source layer starts it. -/
def execCloneStart (ctx layer source : Nat) (stores : List (Nat × Nat × Int)) (s : State) : Host.Outcome State Fault Refusal :=
  actIf (decide (ctx < 6 ∧ layer < 32)) s (fun h => h.commitStores ctx F.LAYER.CLONE_OF.cls layer (stores ++ [(F.LAYER.CLONE_OF.num, 0, (source : Int))]))

/-- The stores give the surface its head, geometry and format; STATE = 1 allocates it. -/
def execSurfaceAllocate (ctx surface : Nat) (stores : List (Nat × Nat × Int)) (s : State) : Host.Outcome State Fault Refusal :=
  actIf (decide (ctx < 6 ∧ surface < 1024)) s (fun h => h.commitStores ctx F.SURFACE.STATE.cls surface (stores ++ [(F.SURFACE.STATE.num, 0, 1)]))

def execSurfaceFree (ctx surface : Nat) (s : State) : Host.Outcome State Fault Refusal :=
  actIf (decide (ctx < 6 ∧ surface < 1024)) s (fun h => h.commitField ctx F.SURFACE.STATE surface 0 0)

def execLayerSurfaceStore (ctx layer surface : Nat) (s : State) : Host.Outcome State Fault Refusal :=
  actIf (decide (ctx < 6 ∧ layer < 32)) s (fun h => h.commitField ctx F.LAYER.SURFACE layer 0 surface)

def execScanoutStart (ctx head : Nat) (s : State) : Host.Outcome State Fault Refusal :=
  actIf (decide (ctx < 6 ∧ head < 4)) s (fun h => h.commitField ctx F.HEAD.SCANOUT head 0 1)

/-! ### The Station Clock (R372, R374, R376, R387) -/

/-- STEP with STEP_FORCE in the same set. -/
def execClockStep (ctx : Nat) (ns : Int) (force : Bool) (s : State) : Host.Outcome State Fault Refusal :=
  actIf (decide (ctx < 6)) s (fun h => h.commitStores ctx F.CLOCK.STEP.cls 0 ((if force then [(F.CLOCK.STEP_FORCE.num, 0, (1 : Int))] else []) ++ [(F.CLOCK.STEP.num, 0, ns)]))

def execRateChange (ctx : Nat) (rate : Int) (s : State) : Host.Outcome State Fault Refusal :=
  actIf (decide (ctx < 6)) s (fun h => h.commitField ctx F.CLOCK.RATE 0 0 rate)

def execHostLockCommit (ctx value : Nat) (s : State) : Host.Outcome State Fault Refusal :=
  actIf (decide (ctx < 6)) s (fun h => h.commitField ctx F.CLOCK.HOST_LOCK 0 0 value)

/-- The stores give the trigger its action, target, time and period; ENABLE = 1 arms it. -/
def execTriggerArm (ctx trigger : Nat) (stores : List (Nat × Nat × Int)) (s : State) : Host.Outcome State Fault Refusal :=
  actIf (decide (ctx < 6 ∧ trigger < 32)) s (fun h => h.commitStores ctx F.TRIGGER.ENABLE.cls trigger (stores ++ [(F.TRIGGER.ENABLE.num, 0, 1)]))

/-! ### Storage, Branch Line, USB, legacy (R403, R428, R431, R435, R462, R467) -/

def execSlotEnableChange (ctx n value : Nat) (s : State) : Host.Outcome State Fault Refusal :=
  actIf (decide (ctx < 6 ∧ n < 2)) s (fun h => h.commitField ctx F.STORAGE.SLOT_ENABLE n 0 value)

/-- The stores give the entry its interface, object, layout and tunnel; ENABLE = 1 joins it to its group. -/
def execSignalEnable (ctx entry : Nat) (stores : List (Nat × Nat × Int)) (s : State) : Host.Outcome State Fault Refusal :=
  actIf (decide (ctx < 6 ∧ entry < 2048)) s (fun h => h.commitStores ctx F.SIGNAL.ENABLE.cls entry (stores ++ [(F.SIGNAL.ENABLE.num, 0, 1)]))

/-- The stores are of MODE and the rates. -/
def execBranchModeCommit (ctx n : Nat) (stores : List (Nat × Nat × Int)) (s : State) : Host.Outcome State Fault Refusal :=
  actIf (decide (ctx < 6 ∧ n < 6)) s (fun h => h.commitStores ctx F.BRANCH.MODE.cls n stores)

def execCanTxPeriodCommit (ctx n frame period : Nat) (s : State) : Host.Outcome State Fault Refusal :=
  actIf (decide (ctx < 6 ∧ n < 2)) s (fun h => h.commitField ctx F.BRANCH.TX_PERIOD n frame period)

def execUsbModeChange (ctx n mode : Nat) (s : State) : Host.Outcome State Fault Refusal :=
  actIf (decide (ctx < 6 ∧ n < 8)) s (fun h => h.commitField ctx F.USBPORT.MODE n 0 mode)

def execLegacyEnableChange (ctx l value : Nat) (s : State) : Host.Outcome State Fault Refusal :=
  actIf (decide (ctx < 6 ∧ l < 4)) s (fun h => h.commitField ctx F.LEGACY.ENABLE l 0 value)

/-! ### Feeds, keys, firmware (R476, R483, R497, R512, R513, R516, R519, R533, R536) -/

def execLatchClear (ctx n : Nat) (s : State) : Host.Outcome State Fault Refusal :=
  actIf (decide (ctx < 6 ∧ n < 16)) s (fun h => h.commitField ctx F.FEED.LATCH_CLEAR n 0 1)

def execChargeBudgetCommit (ctx value : Nat) (s : State) : Host.Outcome State Fault Refusal :=
  actIf (decide (ctx < 6)) s (fun h => h.commitField ctx F.FEED.CHARGE_BUDGET 0 0 value)

def execKeyslotClaim (ctx k kind : Nat) (s : State) : Host.Outcome State Fault Refusal :=
  actIf (decide (ctx < 6 ∧ k < 32)) s (fun h => h.commitField ctx F.KEYSLOT.KIND k 0 kind)

/-- The six elements of INPUT and OP = 1, on a slot of a kind. -/
def Hub.commitOp (h : Hub) (ctx k kind : Nat) (input : List Nat) : Hub :=
  if h.get F.KEYSLOT.KIND k != kind then h
  else h.commitStores ctx F.KEYSLOT.OP.cls k ((input.take 6).zipIdx.map (fun x => (F.KEYSLOT.INPUT.num, x.2, (x.1 : Int))) ++ [(F.KEYSLOT.OP.num, 0, 1)])

def execKeyslotHmac (ctx k : Nat) (input : List Nat) (s : State) : Host.Outcome State Fault Refusal :=
  actIf (decide (ctx < 6 ∧ k < 32)) s (fun h => h.commitOp ctx k 5 input)

def execKeyslotSign (ctx k : Nat) (input : List Nat) (s : State) : Host.Outcome State Fault Refusal :=
  actIf (decide (ctx < 6 ∧ k < 32)) s (fun h => h.commitOp ctx k 6 input)

/-- The elements of EXTEND the set stages. -/
def execMeasureExtend (ctx : Nat) (digest : List Nat) (s : State) : Host.Outcome State Fault Refusal :=
  actIf (decide (ctx < 6)) s (fun h => h.commitStores ctx F.KEYSLOT.EXTEND.cls 0 ((digest.take 6).zipIdx.map (fun x => (F.KEYSLOT.EXTEND.num, x.2, (x.1 : Int)))))

def execTamperClear (ctx : Nat) (s : State) : Host.Outcome State Fault Refusal :=
  actIf (decide (ctx < 6)) s (fun h => h.commitField ctx F.KEYSLOT.TAMPER_CLEAR 0 0 1)

def execLcAdvance (ctx value : Nat) (s : State) : Host.Outcome State Fault Refusal :=
  actIf (decide (ctx < 6)) s (fun h => h.commitField ctx F.KEYSLOT.LC_ADVANCE 0 0 value)

def execActivate (ctx : Nat) (s : State) : Host.Outcome State Fault Refusal :=
  actIf (decide (ctx < 6)) s (fun h => h.commitField ctx F.UPDATE.ACTIVATE 0 0 1)

def execConfirm (ctx : Nat) (s : State) : Host.Outcome State Fault Refusal :=
  actIf (decide (ctx < 6)) s (fun h => h.commitField ctx F.UPDATE.CONFIRM 0 0 1)

/-! ### Power states and resets (R567, R569, R570, R574, R582, R583) -/

def execPowerTargetDeskStandby (ctx : Nat) (s : State) : Host.Outcome State Fault Refusal :=
  actIf (decide (ctx < 6)) s (fun h => h.commitField ctx F.SYSTEM.POWER_TARGET 0 0 1)

def execPowerTargetRunning (ctx : Nat) (s : State) : Host.Outcome State Fault Refusal :=
  actIf (decide (ctx < 6)) s (fun h => h.commitField ctx F.SYSTEM.POWER_TARGET 0 0 0)

def execPowerTargetDeepStandby (ctx : Nat) (s : State) : Host.Outcome State Fault Refusal :=
  actIf (decide (ctx < 6)) s (fun h => h.commitField ctx F.SYSTEM.POWER_TARGET 0 0 2)

/-- The commit begins a warm reset; during one the command is its end, same saying whether every image measures as before. -/
def execWarmReset (ctx : Nat) (same : Bool) (s : State) : Host.Outcome State Fault Refusal :=
  actIf (decide (ctx < 6)) s (fun h => if h.warming then (if same then h.completeJournal else h).warmEnd same else h.commitField ctx F.SYSTEM.WARM_RESET 0 0 1)

def execContextReset (ctx n : Nat) (s : State) : Host.Outcome State Fault Refusal :=
  actIf (decide (ctx < 6 ∧ n < 6)) s (fun h => h.commitField ctx F.CONTEXT.RESET n 0 1)

def execF15ConfigStore (ctx elem value : Nat) (s : State) : Host.Outcome State Fault Refusal :=
  actIf (decide (ctx < 6)) s (fun h => h.commitField ctx F.SYSTEM.F15_CONFIG 0 elem value)

end Sys2Proof.Machine
end

