-- ==== Sys2Proof/Machine/Operands.lean ====
section
/-! DEFINITION. Every operand form of Knaen (R49–R56, R68, R73–R77, R82, R84, R88, R92, R98): work registers, immediates, shift amounts,
conditions and branch targets, handles and field operands, epoch operands, token numbers. -/

namespace Sys2Proof.Machine

/-! ### Registers (R49, R51) -/

/-- A work register's value; w0 reads zero. -/
def Prog.reg (p : Prog) (r : RegNo) : Word := if r = 0#4 then 0#32 else p.regs.read (fun _ => 0#32) r.toNat

/-- A write of a work register; one of w0 is discarded. -/
def Prog.setReg (p : Prog) (r : RegNo) (v : Word) : Prog :=
  if r = 0#4 then p else { p with regs := p.regs.write (fun _ => 0#32) r.toNat v }

/-- A register's unsigned value. -/
def Prog.regN (p : Prog) (r : RegNo) : Nat := (p.reg r).toNat

/-- The pair wv (low half) and wv + 1 (high half), for a wv below w15 (R77). -/
def Prog.pair (p : Prog) (r : RegNo) : Nat := p.regN r + p.regN (r + 1#4) * 2 ^ 32
def Prog.setPair (p : Prog) (r : RegNo) (v : Nat) : Prog := (p.setReg r (BitVec.ofNat 32 v)).setReg (r + 1#4) (BitVec.ofNat 32 (v / 2 ^ 32))

/-- The program counter past the present one-word instruction. -/
def Prog.next (p : Prog) : Prog := { p with pc := p.pc + 1 }

/-! ### Immediates and shift amounts (R60, R61, R64) -/

def imm32 (imm : BitVec 18) : Word := imm.signExtend 32

/-- The amount of a shift: func[4:0] with func[13] = 1, else wb[4:0]. -/
def Prog.shiftAmount (p : Prog) (wb : RegNo) (func : BitVec 14) : Nat :=
  if func.getLsbD 13 then func.toNat % 32 else p.regN wb % 32

/-- Whether a shift sets none of its reserved bits. -/
def shiftClean (wb : RegNo) (func : BitVec 14) : Bool :=
  bits func.toNat 5 8 == 0 && (if func.getLsbD 13 then wb == 0#4 else func.toNat % 32 == 0)

/-! ### Conditions and targets (R56, R68, R70) -/

/-- A condition on the flags; none for a reserved one. -/
def Prog.cond (p : Prog) (cond : RegNo) : Option Bool :=
  match cond.toNat with
  | 0x0 => some p.z
  | 0x1 => some !p.z
  | 0x2 => some (p.n != p.v)
  | 0x3 => some (p.n == p.v)
  | 0x4 => some p.c
  | 0x5 => some !p.c
  | 0x6 => some p.n
  | 0x7 => some !p.n
  | 0x8 => some p.v
  | 0x9 => some !p.v
  | 0xA => some p.k
  | 0xB => some !p.k
  | 0xC => some true
  | _ => none

/-- The target of a BR or CALL: relative to its own address with w0, indexed by wa otherwise. -/
def Prog.target (p : Prog) (wa : RegNo) (offset : BitVec 18) : Int :=
  (if wa = 0#4 then (p.pc : Int) else (p.regN wa : Int)) + offset.toInt

/-- The literal words of a program: one scan from address 0 (R48). -/
def literals : Nat → List Word → List Nat
  | _, [] => []
  | a, w :: t =>
    if (w.extractLsb' 26 6).toNat == 3 then
      match t with
      | [] => []
      | _ :: t' => (a + 1) :: literals (a + 2) t'
    else literals (a + 1) t

/-- Whether a taken transfer may go to a target. -/
def Prog.targetOk (p : Prog) (t : Int) : Bool := 0 ≤ t && t < p.words.length && !(literals 0 p.words).contains t.toNat

/-! ### Handles and fields (R73–R77, R82) -/

/-- Whether the table of R131 defines a class code. -/
def classDefined (cls : Nat) : Bool := cls < 0x24

/-- The class and instance a handle names; none for a malformed one (R74). -/
def handleOf (w : Word) : Option (Nat × Nat) :=
  let cls := bits w.toNat 16 8
  let inst := w.toNat % 65536
  if bits w.toNat 24 8 == 0 && classDefined cls && inst < classInstances cls then some (cls, inst) else none

/-- A field operand resolved: the field's row, and the class, instance, number and element it names. -/
structure FieldRef where
  info : FieldInfo
  cls : Nat
  inst : Nat
  num : Nat
  elem : Nat
  deriving DecidableEq, Repr

/-- Whether a field is carried in a register pair (R77). -/
def FieldInfo.wide (f : FieldInfo) : Bool := 32 < f.width

/-- A handle and field number resolved with an element index: FAULT_HANDLE, FAULT_FIELD twice, then FAULT_ENCODING for a 64-bit field at w15. -/
def Prog.fieldRef (p : Prog) (wv wh : RegNo) (field : BitVec 12) (elem : Nat) : Except Nat FieldRef :=
  match handleOf (p.reg wh) with
  | none => .error 8
  | some (cls, inst) =>
    match fieldInfo cls field.toNat with
    | none => .error 0x0B
    | some f =>
      if (if f.isArray then f.elems ≤ elem else elem != 0) then .error 0x0B
      else if f.wide && wv == 15#4 then .error 3
      else .ok { info := f, cls := cls, inst := inst, num := field.toNat, elem := elem }

/-- The field operand of GET, GETS, SET and SETX (R76): the index stands in the modifier, or in a register with IX = 1, which level 1.0 lacks (R116). -/
def Prog.fieldOperand (p : Prog) (wv wh : RegNo) (field : BitVec 12) (modifier : BitVec 6) : Except Nat FieldRef :=
  if modifier.getLsbD 5 then
    if p.level == 0x10 || modifier.getLsbD 4 then .error 3 else p.fieldRef wv wh field (p.regN (modifier.extractLsb' 0 4))
  else p.fieldRef wv wh field modifier.toNat

/-- The field operand of SETM: unsigned and bitset fields of up to 32 bits that are not arrays. -/
def Prog.maskOperand (p : Prog) (wv wh : RegNo) (field : BitVec 12) (modifier : BitVec 6) : Except Nat FieldRef :=
  if bits modifier.toNat 4 2 != 0 then .error 3
  else match p.fieldRef wv wh field 0 with
    | .error c => if c == 3 then .error 0x0B else .error c
    | .ok r => if (r.info.type == .unsigned || r.info.type == .bitset) && !r.info.wide && !r.info.isArray then .ok r else .error 0x0B

/-- The value a store carries: wv, or the pair wv and wv + 1 for a wide field, signed for a signed field. -/
def Prog.storeValue (p : Prog) (r : FieldRef) (wv : RegNo) : Int :=
  if r.info.wide then (if r.info.type == .signed then decInt 64 (p.pair wv) else (p.pair wv : Int))
  else (if r.info.type == .signed then decInt 32 (p.regN wv) else (p.regN wv : Int))

/-- What this program has staged for a field element. -/
def Prog.stagedValue (p : Prog) (r : FieldRef) : Option Nat :=
  ((lastStores p.staged).find? (fun s => fieldKey s.cls s.inst s.num s.elem == fieldKey r.cls r.inst r.num r.elem)).map (fun s => s.value)

/-! ### Epochs, tokens, lengths (R84, R88, R92) -/

/-- The operands of COMMIT and WAIT kinds 0 to 5: which of wa, wb and index are reserved, and the range of those used. -/
def Prog.epochFault (p : Prog) (kind : Nat) (wa wb : RegNo) (index : BitVec 14) : Option Nat :=
  let unused := match kind with
    | 3 => index == 0#14
    | 2 => wa == 0#4 && wb == 0#4
    | 4 => wa == 0#4 && wb == 0#4
    | 5 => wa == 0#4 && wb == 0#4
    | _ => wa == 0#4 && wb == 0#4 && index == 0#14
  let inRange := match kind with
    | 2 => index.toNat ≤ 3
    | 3 => p.regN wb < 65536
    | 4 => index.toNat ≤ 15
    | 5 => index.toNat ≤ 3
    | _ => true
  if !unused then some 3 else if !inRange then some 0x0C else none

/-- A token number: wa plus imm18[5:0]. -/
def Prog.token (p : Prog) (wa : RegNo) (imm : BitVec 17) : Nat := p.regN wa + imm.toNat % 64

/-- The write and read lengths of an XFER. -/
def xferLengths (index : BitVec 14) : Nat × Nat := (bits index.toNat 0 5, bits index.toNat 5 5)

/-- The write bytes of an XFER, from w12…w15 (R93). -/
def Prog.xferBytes (p : Prog) (n : Nat) : List Byte :=
  (leBytes 4 (p.regN 12#4) ++ leBytes 4 (p.regN 13#4) ++ leBytes 4 (p.regN 14#4) ++ leBytes 4 (p.regN 15#4)).take n

/-- Read bytes placed in w12…w15, all other bytes zero (R93). -/
def Prog.placeRead (p : Prog) (data : List Byte) : Prog :=
  (((p.setReg 12#4 (BitVec.ofNat 32 (leAt data 0 4))).setReg 13#4 (BitVec.ofNat 32 (leAt data 4 4))).setReg 14#4 (BitVec.ofNat 32 (leAt data 8 4))).setReg
    15#4 (BitVec.ofNat 32 (leAt data 12 4))

end Sys2Proof.Machine
end

