-- ==== Sys2Proof/Machine/Flags.lean ====
section
/-! DEFINITION. Every flag computation of R63, R64 and R67, by instruction group. -/

namespace Sys2Proof.Machine

/-- Whether an exact signed result does not fit in 32 bits. -/
def overflows (x : Int) : Bool := x < -(2 ^ 31 : Int) || (2 ^ 31 : Int) ≤ x

/-- Z and N from a result. -/
def Prog.zn (p : Prog) (r : Word) : Prog := { p with z := r == 0#32, n := r.msb }

/-- C, V as given. -/
def Prog.withC (p : Prog) (c : Bool) : Prog := { p with c := c }
def Prog.withV (p : Prog) (v : Bool) : Prog := { p with v := v }

/-- ADD and ADDI: carry out of bit 31, signed overflow. -/
def Prog.addFlags (p : Prog) (a b : Word) : Prog :=
  (((p.zn (a + b)).withC (decide (2 ^ 32 ≤ a.toNat + b.toNat))).withV (overflows (a.toInt + b.toInt)))

/-- SUB and CMP: borrow, signed overflow. -/
def Prog.subFlags (p : Prog) (a b : Word) : Prog :=
  (((p.zn (a - b)).withC (decide (a.toNat < b.toNat))).withV (overflows (a.toInt - b.toInt)))

/-- MUL: an unsigned product beyond 32 bits, a signed product outside 32 bits. -/
def Prog.mulFlags (p : Prog) (a b : Word) : Prog :=
  (((p.zn (a * b)).withC (decide (2 ^ 32 ≤ a.toNat * b.toNat))).withV (overflows (a.toInt * b.toInt)))

/-- The last bit a shift by n moves out: to the left bit 32 − n, to the right bit n − 1; C stays for n = 0. -/
def Prog.shiftFlags (p : Prog) (a r : Word) (left : Bool) (n : Nat) : Prog :=
  (p.zn r).withC (if n == 0 then p.c else a.getLsbD (if left then 32 - n else n - 1))

/-- GET and GETS (R67): Z from all bits of the value, N from bit 31 of wv, or of wv + 1 for a wide field. R67 takes
N from bit 63 of the pair and adds that N is so 0 for every such field narrower than 64 bits; for a signed field of 33 to 63 bits R77
sign-extends the pair, and the model takes its bit 63 (DESIGN CHOICE, log entry 73). -/
def Prog.valueFlags (p : Prog) (wide : Bool) (v : Nat) : Prog := { p with z := v == 0, n := bitB v (if wide then 63 else 31) }

/-- SET and SETM: C tells a clamp or refusal, K keeps it. -/
def Prog.storeFlags (p : Prog) (changed : Bool) : Prog := { p with c := changed, k := p.k || changed }

/-- XFER: completed, the far side failed, timed out. -/
def Prog.xferFlags (p : Prog) (done failed late : Bool) : Prog := { p with z := done, c := failed, v := late }

end Sys2Proof.Machine
end

