-- ==== Sys2Proof/Machine/KnaenRun.lean ====
section
/-! DEFINITION. How a running program executes one instruction (R52, R57–R59, R70–R72, R110–R112, R116): the steps it counts, the faults every
instruction can meet before its own effect, and the end of a Manifest or of a Shunter program. -/

namespace Sys2Proof.Machine

/-- Whether a program name exists: six contexts, eight engines of sixteen threads. -/
def progExists : ProgId → Bool
  | .manifest n => n < 6
  | .shunter e t => e < 8 && t < 16

/-- The key of a program in Hub.progs. -/
def progKey : ProgId → Nat
  | .manifest n => n
  | .shunter e t => 16 + 16 * e + t

/-- The profile an instruction belongs to (R57). -/
inductive Profile where
  | both
  | manifest
  | shunter
  deriving DecidableEq, Repr

/-- What an instruction asks before its own effect: its profile, whether level 1.1 added it (R115), and whether its word sets no reserved bit (R55). -/
structure Asks where
  profile : Profile := .both
  new11 : Bool := false
  clean : Bool := true
  deriving DecidableEq, Repr

/-- What executing an instruction leads to: a fault by its code, the program going on (or held), or its end. -/
inductive Ran where
  | fault (code : Nat)
  | on (h : Hub) (p : Prog)
  | ends (h : Hub)

/-- The steps a program may execute (R72, R269): a Manifest 65,536, a Shunter program its slot's STEP_BOUND. -/
def Hub.stepLimit (h : Hub) (p : Prog) : Nat := if p.shunter then h.get F.PROGRAM.STEP_BOUND p.job.slot else 65536

/-- The fault an instruction meets before its own effect, if any. -/
def Prog.barred (p : Prog) (a : Asks) : Option Nat :=
  if (match a.profile with | .both => false | .manifest => p.shunter | .shunter => !p.shunter) then some 2
  else if a.new11 && p.level == 0x10 then some 1
  else if !a.clean then some 3
  else none

/-! ### The end of a Shunter program (R110, R111, R274) -/

/-- A message whose program has ended is counted by its engine. -/
def Hub.engineDone (h : Hub) (engine : Nat) : Hub := h.add F.SHUNTER.MESSAGES engine 1

/-- The message of a job as it leaves its program. -/
def ShunterJob.pkt (j : ShunterJob) (p : Pkt) : Pkt := { p with bytes := j.bytes, marks := j.marks, mirrors := j.mirrors }

/-- The leaf and tunnel slot a message goes to for a destination of FWD: a queue of Y0…Y3 names the tunnel by its wire index, and with no open
tunnel there nothing leaves (log entry 60). -/
def Hub.fwdDest (h : Hub) (p : Pkt) (d : Nat × Nat) : Option (Nat × Nat) :=
  if d.1 < 512 then (h.tunnelRoute (d.1 / 128) d.2).map (fun i => (d.1, bits (h.route i) 21 11)) else some (d.1, if p.port == 6 then p.mac else 0)

/-- The destination of the Route table entry w3 names: the message's own while the program left w3 as it was, else that entry's (log entry 60). -/
def Hub.entryDests (h : Hub) (p : Pkt) (own : List (Nat × Nat)) (w3 : Nat) : List (Nat × Nat) :=
  if w3 == p.entry then own
  else
    let e := h.route w3
    match entryType e with
    | 1 => if bits e 32 4 == 15 then own else [(portLeaf (bits e 32 4) p.port p.service, 0)]
    | 2 => [h.bridgeDest e p.port p.service]
    | 3 => if bits e 96 4 == 15 then own else [(portLeaf (bits e 96 4) p.port p.service, 0)]
    | _ => []

/-- A Shunter program ends by HALT: its message leaves in ticket order. -/
def Hub.shunterHalt (h : Hub) (engine thread : Nat) (p : Prog) : Hub :=
  let h1 := ({ h with progs := h.progs.write (fun _ => none) (progKey (.shunter engine thread)) none }).engineDone engine
  h1.threadDone engine thread true (fun t =>
    { t with pkt := p.job.pkt t.pkt, dests := if p.job.dests.isEmpty then h1.entryDests t.pkt t.dests (p.regN 3#4) else p.job.dests.filterMap (h1.fwdDest t.pkt) })

/-- A Shunter program ends by DROP: the message is dropped and counted, and its mirror marks yield their copies all the same. -/
def Hub.shunterDrop (h : Hub) (engine thread reason : Nat) (p : Prog) : Hub :=
  let h1 := (({ h with progs := h.progs.write (fun _ => none) (progKey (.shunter engine thread)) none }).engineDone engine).add F.PROGRAM.DROPS p.job.slot 1 reason
  let marked : Option Pkt := (h1.yard.tickets.find? (fun t => t.id == p.job.msgId)).map (fun t => p.job.pkt t.pkt)
  let h2 := match marked with
    | some q => p.job.mirrors.foldl (fun (g : Hub) m => if g.on F.MIRROR.ENABLE m && !q.copied.contains m then g.mirrorOne m 0 15 [] q else g) h1
    | none => h1
  h2.threadDone engine thread false id

/-- A Shunter program faults: its message is dropped without mirror copies, and the fault is counted and reported. -/
def Hub.shunterFault (h : Hub) (engine thread code addr : Nat) (p : Prog) : Hub :=
  let k := p.job.slot
  let h1 := (({ h with progs := h.progs.write (fun _ => none) (progKey (.shunter engine thread)) none }).engineDone engine).add F.PROGRAM.FAULTS k 1
  ((h1.set F.PROGRAM.LAST_FAULT k (code + addr * 2 ^ 8)).raise 106 (k + code * 2 ^ 8 + addr * 2 ^ 16 + engine * 2 ^ 24)
    (ctxCode (h.get F.PROGRAM.OWNER k))).threadDone engine thread false id

/-! ### One instruction -/

/-- A program faults at its pc: it has ended, and only its steps and what already acted stand. -/
def Hub.faultProg (h : Hub) (id : ProgId) (p : Prog) (code : Nat) : Hub :=
  match id with
  | .manifest n => h.finish n p { status := 3, detail := code, addr := p.pc }
  | .shunter e t => h.shunterFault e t code p.pc p

/-- A program goes on at its pc, or is held; past its last word it faults with FAULT_PC, which executes nothing (R71). -/
def Hub.goOn (h : Hub) (id : ProgId) (p : Prog) : Hub :=
  match id with
  | .manifest n => h.manifestOn n p
  | .shunter _ _ => if p.words.length ≤ p.pc then h.faultProg id p 7 else h.setProg (progKey id) p

/-- Whether a context has a runnable Manifest (R129). -/
def Hub.runnable (h : Hub) (n : Nat) : Bool := (match h.prog n with | some p => p.block.isNone | none => false) && !h.boxPaused

/-- The context whose turn it is, and the instructions left of it: the one that has it, else the next in round robin with 64 (R129). -/
def Hub.turnNow (h : Hub) : Nat × Nat :=
  if h.runnable h.turnOf && 0 < h.turnLeft then (h.turnOf, h.turnLeft)
  else match ((List.range 6).map (fun i => (h.turnOf + 1 + i) % 6)).find? (fun n => h.runnable n) with
    | some n => (n, 64)
    | none => (h.turnOf, 0)

/-- A Manifest that is held holds no turn (R129). -/
def Hub.passTurn (h : Hub) (held : Bool) : Hub := if held then { h with turnLeft := 0 } else h

/-- A step is counted (R72), for a Manifest in its context's turn; an engine counts those of its threads (R285). -/
def Hub.countStep (h : Hub) : ProgId → Hub
  | .manifest n => { h with turnOf := n, turnLeft := h.turnNow.2 - 1 }
  | .shunter e _ => h.add F.SHUNTER.STEPS e 1

/-- Whether a program executes the word now: it runs, nothing holds it, the word stands at its pc, and a Manifest has its turn. The Signal Box pauses for
its own activation (R535). -/
def Hub.executes (h : Hub) (id : ProgId) (p : Prog) (w : Word) : Bool :=
  p.block.isNone && p.words[p.pc]? == some w && p.shunter == (match id with | .manifest _ => false | .shunter _ _ => true) &&
    (match id with | .manifest n => !h.boxPaused && h.turnNow.1 == n | .shunter _ _ => true)

/-- A program executes an instruction word; where it does not stand at that word the command has no occasion, and nothing happens (log entry 3). -/
def Hub.runWord (h : Hub) (id : ProgId) (w : Word) (a : Asks) (body : Hub → Prog → Ran) : Hub :=
  match h.prog (progKey id) with
  | none => h
  | some p =>
    if !h.executes id p w then h
    else if h.stepLimit p ≤ p.steps then h.faultProg id p 6
    else
      let h1 := h.countStep id
      let q := { p with steps := p.steps + 1 }
      match q.barred a with
      | some c => h1.faultProg id q c
      | none =>
        match body h1 q with
        | .fault c => h1.faultProg id q c
        | .on h2 r => (h2.passTurn r.block.isSome).goOn id r
        | .ends h2 => h2

/-- An instruction that changes only its program's registers and flags. -/
def Hub.runRegs (h : Hub) (id : ProgId) (w : Word) (clean : Bool) (f : Prog → Prog) : Hub :=
  h.runWord id w { clean := clean } (fun g p => .on g (f p).next)

/-- The command of a Knaen instruction: its program must be one the hardware has. -/
def knaen (id : ProgId) (s : State) (f : Hub → Hub) : Host.Outcome State Fault Refusal := actIf (progExists id) s f

end Sys2Proof.Machine
end

