-- ==== Sys2Proof/Machine/KnaenCore.lean ====
section
/-! DEFINITION. The core instructions of Knaen, legal in both profiles (R59–R71). -/

namespace Sys2Proof.Machine

/-- The end of a program by HALT: a Manifest is abandoned with 0x4000 (R143), a Shunter message takes its disposition (R110). -/
def Hub.halt (h : Hub) (id : ProgId) (p : Prog) : Hub :=
  match id with
  | .manifest n => h.finish n p { status := 2, detail := 0x4000 }
  | .shunter e t => h.shunterHalt e t p

def execHalt (p : ProgId) (wd wa wb : RegNo) (func : BitVec 14) (s : State) : Host.Outcome State Fault Refusal :=
  knaen p s (fun h => h.runWord p (wordA 0x00#6 wd wa wb func) { clean := wd == 0#4 && wa == 0#4 && wb == 0#4 && func == 0#14 } (fun g q => .ends (g.halt p q)))

def execNop (p : ProgId) (wd wa wb : RegNo) (func : BitVec 14) (s : State) : Host.Outcome State Fault Refusal :=
  knaen p s (fun h => h.runRegs p (wordA 0x01#6 wd wa wb func) (wd == 0#4 && wa == 0#4 && wb == 0#4 && func == 0#14) id)

/-! ### Loads and moves (R60, R61) -/

def execLit (p : ProgId) (wd wa : RegNo) (imm : BitVec 18) (s : State) : Host.Outcome State Fault Refusal :=
  knaen p s (fun h => h.runRegs p (wordI 0x02#6 wd wa imm) (wa == 0#4) (fun q => q.setReg wd (imm32 imm)))

/-- LITW in a program's last word has no literal and faults with FAULT_PC (R48). -/
def execLitw (p : ProgId) (wd wa : RegNo) (imm : BitVec 18) (s : State) : Host.Outcome State Fault Refusal :=
  knaen p s (fun h => h.runWord p (wordI 0x03#6 wd wa imm) { clean := wa == 0#4 && imm == 0#18 } (fun g q =>
    match q.words[q.pc + 1]? with
    | some lit => .on g (q.setReg wd lit).next.next
    | none => .fault 7))

def execMov (p : ProgId) (wd wa wb : RegNo) (func : BitVec 14) (s : State) : Host.Outcome State Fault Refusal :=
  knaen p s (fun h => h.runRegs p (wordA 0x04#6 wd wa wb func) (wb == 0#4 && func == 0#14) (fun q => q.setReg wd (q.reg wa)))

/-! ### Arithmetic and logic (R61–R65) -/

def execAdd (p : ProgId) (wd wa wb : RegNo) (func : BitVec 14) (s : State) : Host.Outcome State Fault Refusal :=
  knaen p s (fun h => h.runRegs p (wordA 0x05#6 wd wa wb func) (func == 0#14) (fun q =>
    (q.addFlags (q.reg wa) (q.reg wb)).setReg wd (q.reg wa + q.reg wb)))

def execAddi (p : ProgId) (wd wa : RegNo) (imm : BitVec 18) (s : State) : Host.Outcome State Fault Refusal :=
  knaen p s (fun h => h.runRegs p (wordI 0x06#6 wd wa imm) true (fun q =>
    (q.addFlags (q.reg wa) (imm32 imm)).setReg wd (q.reg wa + imm32 imm)))

def execSub (p : ProgId) (wd wa wb : RegNo) (func : BitVec 14) (s : State) : Host.Outcome State Fault Refusal :=
  knaen p s (fun h => h.runRegs p (wordA 0x07#6 wd wa wb func) (func == 0#14) (fun q =>
    (q.subFlags (q.reg wa) (q.reg wb)).setReg wd (q.reg wa - q.reg wb)))

def execMul (p : ProgId) (wd wa wb : RegNo) (func : BitVec 14) (s : State) : Host.Outcome State Fault Refusal :=
  knaen p s (fun h => h.runRegs p (wordA 0x08#6 wd wa wb func) (func == 0#14) (fun q =>
    (q.mulFlags (q.reg wa) (q.reg wb)).setReg wd (q.reg wa * q.reg wb)))

/-- A result of MULH: bits [63:32] of the exact product; C and V are cleared. -/
def Prog.mulHigh (q : Prog) (wd : RegNo) (product : Int) : Prog :=
  let r : Word := BitVec.ofInt 32 (product / 2 ^ 32)
  (((q.zn r).withC false).withV false).setReg wd r

def execMulh (p : ProgId) (wd wa wb : RegNo) (func : BitVec 13) (s : State) : Host.Outcome State Fault Refusal :=
  knaen p s (fun h => h.runRegs p (wordA 0x09#6 wd wa wb (func ++ 0#1)) (func == 0#13) (fun q =>
    q.mulHigh wd ((q.reg wa).toInt * (q.reg wb).toInt)))

def execMulhu (p : ProgId) (wd wa wb : RegNo) (func : BitVec 13) (s : State) : Host.Outcome State Fault Refusal :=
  knaen p s (fun h => h.runRegs p (wordA 0x09#6 wd wa wb (func ++ 1#1)) (func == 0#13) (fun q =>
    q.mulHigh wd ((q.regN wa : Int) * (q.regN wb : Int))))

/-- A result that sets Z and N alone. -/
def Prog.result (q : Prog) (wd : RegNo) (r : Word) : Prog := (q.zn r).setReg wd r

def execAnd (p : ProgId) (wd wa wb : RegNo) (func : BitVec 14) (s : State) : Host.Outcome State Fault Refusal :=
  knaen p s (fun h => h.runRegs p (wordA 0x0a#6 wd wa wb func) (func == 0#14) (fun q => q.result wd (q.reg wa &&& q.reg wb)))

def execOr (p : ProgId) (wd wa wb : RegNo) (func : BitVec 14) (s : State) : Host.Outcome State Fault Refusal :=
  knaen p s (fun h => h.runRegs p (wordA 0x0b#6 wd wa wb func) (func == 0#14) (fun q => q.result wd (q.reg wa ||| q.reg wb)))

def execXor (p : ProgId) (wd wa wb : RegNo) (func : BitVec 14) (s : State) : Host.Outcome State Fault Refusal :=
  knaen p s (fun h => h.runRegs p (wordA 0x0c#6 wd wa wb func) (func == 0#14) (fun q => q.result wd (q.reg wa ^^^ q.reg wb)))

def execAndi (p : ProgId) (wd wa : RegNo) (imm : BitVec 18) (s : State) : Host.Outcome State Fault Refusal :=
  knaen p s (fun h => h.runRegs p (wordI 0x0d#6 wd wa imm) true (fun q => q.result wd (q.reg wa &&& imm32 imm)))

def execOri (p : ProgId) (wd wa : RegNo) (imm : BitVec 18) (s : State) : Host.Outcome State Fault Refusal :=
  knaen p s (fun h => h.runRegs p (wordI 0x0e#6 wd wa imm) true (fun q => q.result wd (q.reg wa ||| imm32 imm)))

/-- A shift's result with its flags. -/
def Prog.shifted (q : Prog) (wd : RegNo) (a r : Word) (left : Bool) (n : Nat) : Prog := (q.shiftFlags a r left n).setReg wd r

def execShl (p : ProgId) (wd wa wb : RegNo) (func : BitVec 14) (s : State) : Host.Outcome State Fault Refusal :=
  knaen p s (fun h => h.runRegs p (wordA 0x0f#6 wd wa wb func) (shiftClean wb func) (fun q =>
    let n := q.shiftAmount wb func
    q.shifted wd (q.reg wa) (q.reg wa <<< n) true n))

def execShr (p : ProgId) (wd wa wb : RegNo) (func : BitVec 14) (s : State) : Host.Outcome State Fault Refusal :=
  knaen p s (fun h => h.runRegs p (wordA 0x10#6 wd wa wb func) (shiftClean wb func) (fun q =>
    let n := q.shiftAmount wb func
    q.shifted wd (q.reg wa) (q.reg wa >>> n) false n))

def execSar (p : ProgId) (wd wa wb : RegNo) (func : BitVec 14) (s : State) : Host.Outcome State Fault Refusal :=
  knaen p s (fun h => h.runRegs p (wordA 0x11#6 wd wa wb func) (shiftClean wb func) (fun q =>
    let n := q.shiftAmount wb func
    q.shifted wd (q.reg wa) ((q.reg wa).sshiftRight n) false n))

def execMin (p : ProgId) (wd wa wb : RegNo) (func : BitVec 13) (s : State) : Host.Outcome State Fault Refusal :=
  knaen p s (fun h => h.runRegs p (wordA 0x12#6 wd wa wb (func ++ 0#1)) (func == 0#13) (fun q =>
    q.result wd (if (q.reg wa).slt (q.reg wb) then q.reg wa else q.reg wb)))

def execMinu (p : ProgId) (wd wa wb : RegNo) (func : BitVec 13) (s : State) : Host.Outcome State Fault Refusal :=
  knaen p s (fun h => h.runRegs p (wordA 0x12#6 wd wa wb (func ++ 1#1)) (func == 0#13) (fun q =>
    q.result wd (if (q.reg wa).ult (q.reg wb) then q.reg wa else q.reg wb)))

def execMax (p : ProgId) (wd wa wb : RegNo) (func : BitVec 13) (s : State) : Host.Outcome State Fault Refusal :=
  knaen p s (fun h => h.runRegs p (wordA 0x13#6 wd wa wb (func ++ 0#1)) (func == 0#13) (fun q =>
    q.result wd (if (q.reg wa).slt (q.reg wb) then q.reg wb else q.reg wa)))

def execMaxu (p : ProgId) (wd wa wb : RegNo) (func : BitVec 13) (s : State) : Host.Outcome State Fault Refusal :=
  knaen p s (fun h => h.runRegs p (wordA 0x13#6 wd wa wb (func ++ 1#1)) (func == 0#13) (fun q =>
    q.result wd (if (q.reg wa).ult (q.reg wb) then q.reg wb else q.reg wa)))

def execCmp (p : ProgId) (wd wa wb : RegNo) (func : BitVec 14) (s : State) : Host.Outcome State Fault Refusal :=
  knaen p s (fun h => h.runRegs p (wordA 0x14#6 wd wa wb func) (wd == 0#4 && func == 0#14) (fun q => q.subFlags (q.reg wa) (q.reg wb)))

/-! ### Time (R66) -/

/-- TIME writes a moment in ns to wd and, above bit 31, to wa; wd and wa may not be the same non-zero register. -/
def Prog.time (q : Prog) (wd wa : RegNo) (ns : Nat) : Prog :=
  (q.setReg wd (BitVec.ofNat 32 ns)).setReg wa (BitVec.ofNat 32 (bits ns 32 16))

def timeClean (wd wa wb : RegNo) (func : BitVec 13) : Bool := wb == 0#4 && func == 0#13 && !(wd == wa && wd != 0#4)

def execTimeLocal (p : ProgId) (wd wa wb : RegNo) (func : BitVec 13) (s : State) : Host.Outcome State Fault Refusal :=
  knaen p s (fun h => h.runRegs p (wordA 0x24#6 wd wa wb (func ++ 0#1)) (timeClean wd wa wb func) (fun q => q.time wd wa h.now))

def execTimeNetwork (p : ProgId) (wd wa wb : RegNo) (func : BitVec 13) (s : State) : Host.Outcome State Fault Refusal :=
  knaen p s (fun h => h.runRegs p (wordA 0x24#6 wd wa wb (func ++ 1#1)) (timeClean wd wa wb func) (fun q => q.time wd wa h.network))

/-! ### Control flow (R68–R70) -/

/-- A transfer goes to a target, which is checked first, then the stack. -/
def Prog.transfer (q : Prog) (h : Hub) (t : Int) (stack : Option (List Nat)) : Ran :=
  if !q.targetOk t then .fault 4
  else match stack with
    | none => .fault 5
    | some st => .on h { q with pc := t.toNat, stack := st }

def execBr (p : ProgId) (cond wa : RegNo) (offset : BitVec 18) (s : State) : Host.Outcome State Fault Refusal :=
  knaen p s (fun h => h.runWord p (wordI 0x15#6 cond wa offset) {} (fun g q =>
    match q.cond cond with
    | none => .fault 3
    | some false => .on g q.next
    | some true => q.transfer g (q.target wa offset) (some q.stack)))

def execCall (p : ProgId) (cond wa : RegNo) (offset : BitVec 18) (s : State) : Host.Outcome State Fault Refusal :=
  knaen p s (fun h => h.runWord p (wordI 0x16#6 cond wa offset) {} (fun g q =>
    match q.cond cond with
    | none => .fault 3
    | some false => .on g q.next
    | some true => q.transfer g (q.target wa offset) (if q.stack.length < 16 then some ((q.pc + 1) :: q.stack) else none)))

def execRet (p : ProgId) (cond wa : RegNo) (offset : BitVec 18) (s : State) : Host.Outcome State Fault Refusal :=
  knaen p s (fun h => h.runWord p (wordI 0x17#6 cond wa offset) { clean := wa == 0#4 && offset == 0#18 } (fun g q =>
    match q.cond cond with
    | none => .fault 3
    | some false => .on g q.next
    | some true =>
      match q.stack with
      | [] => .fault 5
      | a :: st => q.transfer g (a : Int) (some st)))

/-- Whether R57 reserves an opcode. -/
def reservedOpcode (op : BitVec 6) : Bool := (0x27 ≤ op.toNat && op.toNat ≤ 0x2F) || 0x3C ≤ op.toNat

/-- A reserved opcode faults with FAULT_OPCODE (R58); a defined one is no instance of this command. -/
def execExecuteReservedOpcode (p : ProgId) (opcode : BitVec 6) (rest : BitVec 26) (s : State) : Host.Outcome State Fault Refusal :=
  knaen p s (fun h => if reservedOpcode opcode then h.runWord p (opcode ++ rest) {} (fun _ _ => .fault 1) else h)

end Sys2Proof.Machine
end

