-- ==== Sys2Proof/Machine/KnaenManifest.lean ====
section
/-! DEFINITION. The Manifest profile (R73–R95): objects and fields, ending, waiting, tokens, notes, and Branch Line transactions. -/

namespace Sys2Proof.Machine

/-- A Manifest instruction: its body gets the context it runs for. -/
def Hub.runManifest (h : Hub) (id : ProgId) (w : Word) (new11 clean : Bool) (body : Nat → Hub → Prog → Ran) : Hub :=
  h.runWord id w { profile := .manifest, new11 := new11, clean := clean } (fun g q => body q.head.ctx g q)

/-! ### Objects and fields (R73, R78–R83) -/

/-- The sum wa + offset is exact (DESIGN CHOICE, log entry 72). -/
def execOpenObject (p : ProgId) (wd wa : RegNo) (imm : BitVec 18) (s : State) : Host.Outcome State Fault Refusal :=
  knaen p s (fun h => h.runManifest p (wordI 0x18#6 wd wa imm) false true (fun _ g q =>
    let cls := bits imm.toNat 10 8
    let inst := q.regN wa + imm.toNat % 1024
    if !classDefined cls then .fault 9
    else if classInstances cls ≤ inst then .fault 0x0A
    else .on g (q.setReg wd (BitVec.ofNat 32 (cls * 2 ^ 16 + inst))).next))

/-- A field's bits as a register or register pair carries them: signed fields are sign-extended. -/
def FieldInfo.carried (f : FieldInfo) (v : Nat) : Nat :=
  let w := if f.wide then 64 else 32
  if f.type == .signed then encInt w (decInt f.width v) else v % 2 ^ w

/-- A value read into wv, or wv and wv + 1. -/
def Prog.load (q : Prog) (r : FieldRef) (wv : RegNo) (v : Nat) : Prog :=
  let x := r.info.carried v
  let q1 := q.valueFlags r.info.wide x
  if r.info.wide then q1.setPair wv x else q1.setReg wv (BitVec.ofNat 32 x)

def execGet (p : ProgId) (wv wh : RegNo) (field : BitVec 12) (modifier : BitVec 6) (s : State) : Host.Outcome State Fault Refusal :=
  knaen p s (fun h => h.runManifest p (wordF 0x19#6 wv wh field modifier) false true (fun n g q =>
    match q.fieldOperand wv wh field modifier with
    | .error c => .fault c
    | .ok r => if g.mayRead n r.info r.cls r.inst then .on g (q.load r wv (g.liveValue r.cls r.inst r.num r.elem)).next else .fault 0x0D))

def execGets (p : ProgId) (wv wh : RegNo) (field : BitVec 12) (modifier : BitVec 6) (s : State) : Host.Outcome State Fault Refusal :=
  knaen p s (fun h => h.runManifest p (wordF 0x1d#6 wv wh field modifier) true true (fun n g q =>
    match q.fieldOperand wv wh field modifier with
    | .error c => .fault c
    | .ok r =>
      match q.stagedValue r with
      | some v => .on g ((q.load r wv v).withC true).next
      | none => if g.mayRead n r.info r.cls r.inst then .on g ((q.load r wv (g.liveValue r.cls r.inst r.num r.elem)).withC false).next else .fault 0x0D))

def execSet (p : ProgId) (wv wh : RegNo) (field : BitVec 12) (modifier : BitVec 6) (s : State) : Host.Outcome State Fault Refusal :=
  knaen p s (fun h => h.runManifest p (wordF 0x1a#6 wv wh field modifier) false true (fun _ g q =>
    match q.fieldOperand wv wh field modifier with
    | .error c => .fault c
    | .ok r =>
      let x := q.stage g r.info r.cls r.inst r.num r.elem (q.storeValue r wv) false
      .on g (x.1.storeFlags x.2).next))

/-- SETX refuses where SET would clamp, and never sets K. -/
def execSetx (p : ProgId) (wv wh : RegNo) (field : BitVec 12) (modifier : BitVec 6) (s : State) : Host.Outcome State Fault Refusal :=
  knaen p s (fun h => h.runManifest p (wordF 0x1b#6 wv wh field modifier) true true (fun _ g q =>
    match q.fieldOperand wv wh field modifier with
    | .error c => .fault c
    | .ok r =>
      let x := q.stage g r.info r.cls r.inst r.num r.elem (q.storeValue r wv) true
      .on g (x.1.withC x.2).next))

/-- The value SETM stages: the old one outside the mask, wv inside it. -/
def Prog.masked (q : Prog) (wv wm : RegNo) (old : Nat) : Nat :=
  ((BitVec.ofNat 32 old &&& ~~~(q.reg wm)) ||| (q.reg wv &&& q.reg wm)).toNat

def execSetm (p : ProgId) (wv wh : RegNo) (field : BitVec 12) (modifier : BitVec 6) (s : State) : Host.Outcome State Fault Refusal :=
  knaen p s (fun h => h.runManifest p (wordF 0x1c#6 wv wh field modifier) false true (fun _ g q =>
    match q.maskOperand wv wh field modifier with
    | .error c => .fault c
    | .ok r =>
      let old := match q.stagedValue r with
        | some v => v
        | none => g.liveValue r.cls r.inst r.num r.elem
      let x := q.stage g r.info r.cls r.inst r.num r.elem (q.masked wv (modifier.extractLsb' 0 4) old : Nat) false
      .on g (x.1.storeFlags x.2).next))

/-! ### Ending (R84, R85) -/

/-- COMMIT of a kind: the set goes to the commit stage, and the Manifest has ended. -/
def Hub.runCommit (h : Hub) (p : ProgId) (kind : Nat) (wa wb : RegNo) (index : BitVec 14) : Hub :=
  h.runManifest p (wordE 0x1e#6 wa wb (BitVec.ofNat 4 kind) index) false true (fun n g q =>
    match q.epochFault kind wa wb index with
    | some c => .fault c
    | none => .ends (g.commit n q kind index.toNat (q.regN wa) (q.regN wb)))

def execCommitNow (p : ProgId) (wa wb : RegNo) (index : BitVec 14) (s : State) : Host.Outcome State Fault Refusal :=
  knaen p s (fun h => h.runCommit p 0 wa wb index)
def execCommitRefill (p : ProgId) (wa wb : RegNo) (index : BitVec 14) (s : State) : Host.Outcome State Fault Refusal :=
  knaen p s (fun h => h.runCommit p 1 wa wb index)
def execCommitBlanking (p : ProgId) (wa wb : RegNo) (index : BitVec 14) (s : State) : Host.Outcome State Fault Refusal :=
  knaen p s (fun h => h.runCommit p 2 wa wb index)
def execCommitTime (p : ProgId) (wa wb : RegNo) (index : BitVec 14) (s : State) : Host.Outcome State Fault Refusal :=
  knaen p s (fun h => h.runCommit p 3 wa wb index)
def execCommitCycle (p : ProgId) (wa wb : RegNo) (index : BitVec 14) (s : State) : Host.Outcome State Fault Refusal :=
  knaen p s (fun h => h.runCommit p 4 wa wb index)
def execCommitQuiet (p : ProgId) (wa wb : RegNo) (index : BitVec 14) (s : State) : Host.Outcome State Fault Refusal :=
  knaen p s (fun h => h.runCommit p 5 wa wb index)

/-- COMMIT kinds 6 to 15 fault with FAULT_OPERAND; a lower kind is no instance of this command. -/
def execCommitReservedKind (p : ProgId) (wa wb : RegNo) (kind : BitVec 4) (index : BitVec 14) (s : State) : Host.Outcome State Fault Refusal :=
  knaen p s (fun h => if 6 ≤ kind.toNat then h.runManifest p (wordE 0x1e#6 wa wb kind index) false true (fun _ _ _ => .fault 0x0C) else h)

def execAbandon (p : ProgId) (wd wa wb : RegNo) (func : BitVec 14) (s : State) : Host.Outcome State Fault Refusal :=
  knaen p s (fun h => h.runManifest p (wordA 0x1f#6 wd wa wb func) false (wd == 0#4 && wa == 0#4 && wb == 0#4) (fun n g q =>
    .ends (g.finish n q { status := 2, detail := func.toNat })))

/-! ### Waiting (R86, R87, R155) -/

/-- WAIT for an epoch: it returns at once where the moment has come or a standing slot replays, and is held until then otherwise. -/
def Hub.runWait (h : Hub) (p : ProgId) (kind : Nat) (wa wb : RegNo) (index : BitVec 14) : Hub :=
  h.runManifest p (wordE 0x20#6 wa wb (BitVec.ofNat 4 kind) index) false true (fun n g q =>
    match q.epochFault kind wa wb index with
    | some c => .fault c
    | none =>
      let e := g.epochOf kind index.toNat (q.regN wa) (q.regN wb) q.staged
      if q.head.replay.isSome || g.atOnce e then .on g { q with z := true }.next
      else .on (g.seekQuiet e) { q with block := some (.wait e (g.now + g.commitTimeout n)) }.next)

def execWaitNow (p : ProgId) (wa wb : RegNo) (index : BitVec 14) (s : State) : Host.Outcome State Fault Refusal :=
  knaen p s (fun h => h.runWait p 0 wa wb index)
def execWaitRefill (p : ProgId) (wa wb : RegNo) (index : BitVec 14) (s : State) : Host.Outcome State Fault Refusal :=
  knaen p s (fun h => h.runWait p 1 wa wb index)
def execWaitBlanking (p : ProgId) (wa wb : RegNo) (index : BitVec 14) (s : State) : Host.Outcome State Fault Refusal :=
  knaen p s (fun h => h.runWait p 2 wa wb index)
def execWaitTime (p : ProgId) (wa wb : RegNo) (index : BitVec 14) (s : State) : Host.Outcome State Fault Refusal :=
  knaen p s (fun h => h.runWait p 3 wa wb index)
def execWaitCycle (p : ProgId) (wa wb : RegNo) (index : BitVec 14) (s : State) : Host.Outcome State Fault Refusal :=
  knaen p s (fun h => h.runWait p 4 wa wb index)
def execWaitQuiet (p : ProgId) (wa wb : RegNo) (index : BitVec 14) (s : State) : Host.Outcome State Fault Refusal :=
  knaen p s (fun h => h.runWait p 5 wa wb index)

/-- WAIT kind 6 holds the Manifest for wa microseconds; kinds 7 to 15 fault with FAULT_OPERAND, and a lower kind is no instance of this command. -/
def execWaitDelay (p : ProgId) (wa wb : RegNo) (kind : BitVec 4) (index : BitVec 14) (s : State) : Host.Outcome State Fault Refusal :=
  knaen p s (fun h =>
    if kind.toNat < 6 then h
    else h.runManifest p (wordE 0x20#6 wa wb kind index) false (6 < kind.toNat || (wb == 0#4 && index == 0#14)) (fun n g q =>
      if 6 < kind.toNat || q.regN wa == 0 || 1000000 < q.regN wa then .fault 0x0C
      else .on g { q with block := some (.delay (g.now + q.regN wa * usec) (g.now + g.commitTimeout n)) }.next))

/-- A WAIT's delay ends, unless COMMIT_TIMEOUT ends it first (R87). -/
def execWaitDelayExpiry (ctx : Nat) (s : State) : Host.Outcome State Fault Refusal :=
  actIf (decide (ctx < 6)) s (fun h =>
    match h.prog ctx with
    | some q =>
      match q.block with
      | some (.delay due deadline) => if due ≤ deadline then (h.advanceTo due).manifestOn ctx { q with block := none, z := true } else h
      | _ => h
    | none => h)

/-! ### Tokens (R88–R90, R146–R149) -/

/-- Cases in which OWN and YIELD alike are refused; in the start-up window K0 stays in the pool (R36). -/
def Hub.tokenBarred (h : Hub) (q : Prog) (n k : Nat) (force : Bool) : Bool :=
  57 ≤ k || (k == 0 && h.k0Window) || (force && !h.holds n 0) || (k ≤ 2 && h.guest n) || (q.head.replay.isSome && (k ≤ 2 || force))

def Hub.ownRefused (h : Hub) (q : Prog) (n k : Nat) (force : Bool) : Bool :=
  h.tokenBarred q n k force || (!force && h.holder k < 6 && h.holder k != n) ||
    (!force && h.holder k == 0xF && h.on F.TOKEN.DESK_ONLY k && k != 0)

def Hub.yieldRefused (h : Hub) (q : Prog) (n k dest : Nat) (force : Bool) : Bool :=
  h.tokenBarred q n k force || (!force && !h.holds n k) || (dest < 6 && !h.up dest) || (k ≤ 2 && dest < 6 && h.guest dest) || (k == 0 && dest == 0xF)

/-- A token operation: the move unless refused, then Z and the holder code in wd. -/
def Hub.tokenMove (h : Hub) (q : Prog) (wd : RegNo) (n k new : Nat) (refused force own : Bool) : Ran :=
  let h0 := if refused then h else h.moveToken k new (if force then 0xE else n) own
  let h1 := if own && !refused && q.head.replay.isSome then { h0 with replayTokens := h0.replayTokens.filter (fun x => x.1 != k) ++ [(k, n)] } else h0
  .on h1 (({ q with z := !refused } : Prog).setReg wd (BitVec.ofNat 32 (h1.holder k))).next

def Hub.runOwn (h : Hub) (p : ProgId) (wd wa : RegNo) (imm : BitVec 17) (force : Bool) : Hub :=
  h.runManifest p (wordI 0x21#6 wd wa (BitVec.ofBool force ++ imm)) false (bits imm.toNat 6 11 == 0) (fun n g q =>
    let k := q.token wa imm
    if 64 ≤ k then .fault 0x0C else g.tokenMove q wd n k n (g.ownRefused q n k force) force true)

def Hub.runYield (h : Hub) (p : ProgId) (wd wa : RegNo) (imm : BitVec 17) (force : Bool) : Hub :=
  h.runManifest p (wordI 0x22#6 wd wa (BitVec.ofBool force ++ imm)) false (bits imm.toNat 12 5 == 0 && bits imm.toNat 6 2 == 0) (fun n g q =>
    let k := q.token wa imm
    let dest := bits imm.toNat 8 4
    if 64 ≤ k || (6 ≤ dest && dest < 15) then .fault 0x0C else g.tokenMove q wd n k dest (g.yieldRefused q n k dest force) force false)

def execOwn (p : ProgId) (wd wa : RegNo) (imm : BitVec 17) (s : State) : Host.Outcome State Fault Refusal :=
  knaen p s (fun h => h.runOwn p wd wa imm false)
def execOwnForce (p : ProgId) (wd wa : RegNo) (imm : BitVec 17) (s : State) : Host.Outcome State Fault Refusal :=
  knaen p s (fun h => h.runOwn p wd wa imm true)
def execYield (p : ProgId) (wd wa : RegNo) (imm : BitVec 17) (s : State) : Host.Outcome State Fault Refusal :=
  knaen p s (fun h => h.runYield p wd wa imm false)
def execYieldForce (p : ProgId) (wd wa : RegNo) (imm : BitVec 17) (s : State) : Host.Outcome State Fault Refusal :=
  knaen p s (fun h => h.runYield p wd wa imm true)

/-! ### Notes (R91) -/

def execNote (p : ProgId) (wd wa wb : RegNo) (func : BitVec 14) (s : State) : Host.Outcome State Fault Refusal :=
  knaen p s (fun h => h.runManifest p (wordA 0x23#6 wd wa wb func) false (wd == 0#4 && func == 0#14) (fun _ g q =>
    if q.notes.length < 32 then .on g { q with notes := q.notes ++ [(q.reg wa, q.reg wb)], c := false }.next
    else .on g { q with c := true }.next))

/-! ### Branch Line transactions (R92–R95, R421) -/

/-- The interface a BRANCH handle names. -/
def branchOf (w : Word) : Option Nat :=
  match handleOf w with
  | some (25, n) => some n
  | _ => none

/-- XFER: an operand out of range faults, a missing token ends the Manifest with OWNER, an address or mode that admits no transaction leaves all
three flags clear, and otherwise the Manifest is held until its transaction has ended. -/
def Hub.xfer (h : Hub) (q : Prog) (wa wb : RegNo) (lock : Bool) (index : BitVec 14) : Ran :=
  let n := q.head.ctx
  let w := (xferLengths index).1
  let r := (xferLengths index).2
  if 16 < w || 16 < r || (w == 0 && r == 0) then .fault 0x0C
  else match branchOf (q.reg wa) with
    | none => .fault 8
    | some b =>
      if !h.holds n (45 + b) then .ends (h.finish n q { status := 6, detail := 2 })
      else if h.get F.BRANCH.MODE b == 0 || !farAddrOk b (q.regN wb) w r then
        .on h ((if r == 0 then q else q.placeRead []).xferFlags false false false).next
      else
        let a : Access := { xfer := true, ctx := n, lock := lock, addr := q.regN wb, data := q.xferBytes w, readLen := r }
        let h1 := if (h.farBus b).stuck || (b < 2 && h.get F.BRANCH.CAN_STATE b == 2) then h.dropAccess b a 5 6 else h.farSubmit b a
        .on h1 { q with block := some (.xfer b r) }.next

def execXfer (p : ProgId) (wa wb : RegNo) (kind : BitVec 4) (index : BitVec 14) (s : State) : Host.Outcome State Fault Refusal :=
  knaen p s (fun h => h.runManifest p (wordE 0x25#6 wa wb kind index) true (kind.toNat % 8 == 0 && bits index.toNat 10 4 == 0) (fun _ g q =>
    g.xfer q wa wb (kind.getLsbD 3) index))

/-- An XFER's transaction has ended: its flags by the status of R421 (Z only of one that is done, R67), and its read bytes in w12…w15. -/
def Prog.xferEnded (q : Prog) (status readLen : Nat) (data : List Byte) : Prog :=
  ((if readLen == 0 then q else q.placeRead data).xferFlags (status == 0) (status == 3 || status == 5 || status == 6) (status == 4))

/-- XFER_DONE: the Manifest goes on; one whose token was lost before the access ran ends with OWNER. -/
def execXferDone (ctx : Nat) (s : State) : Host.Outcome State Fault Refusal :=
  actIf (decide (ctx < 6)) s (fun h =>
    match h.prog ctx with
    | some q =>
      match q.block, h.xferDone.read (fun _ => none) ctx with
      | some (.xfer _ r), some (status, data) =>
        let h1 := { h with xferDone := h.xferDone.write (fun _ => none) ctx none }
        let q1 := { q with block := none }
        if status == 1 then h1.finish ctx q1 { status := 6, detail := 2 } else h1.manifestOn ctx (q1.xferEnded status r data)
      | _, _ => h
    | none => h)

def execRelease (p : ProgId) (wd wa wb : RegNo) (func : BitVec 14) (s : State) : Host.Outcome State Fault Refusal :=
  knaen p s (fun h => h.runManifest p (wordA 0x26#6 wd wa wb func) true (wd == 0#4 && wb == 0#4 && func == 0#14) (fun n g q =>
    match branchOf (q.reg wa) with
    | none => .fault 8
    | some b => let x := g.farRelease b n; .on x.1 (q.withC !x.2).next))

end Sys2Proof.Machine
end

