-- ==== Sys2Proof/Machine/KnaenShunter.lean ====
section
/-! DEFINITION. The Shunter profile (R96–R111): a program's start on a message, message fields, rescaling and lookup, the message's destinations,
time fields and checksums, and the signal map and counters. -/

namespace Sys2Proof.Machine

/-- A Shunter instruction. -/
def Hub.runShunter (h : Hub) (id : ProgId) (w : Word) (clean : Bool) (body : Hub → Prog → Ran) : Hub :=
  h.runWord id w { profile := .shunter, clean := clean } body

/-- Changes the message a program runs on. -/
def Prog.onJob (q : Prog) (f : ShunterJob → ShunterJob) : Prog := { q with job := f q.job }

/-- The message as it came (its stamp, ports, tunnel). -/
def Hub.jobPkt (h : Hub) (q : Prog) : Pkt := match h.yard.tickets.find? (fun t => t.id == q.job.msgId) with | some t => t.pkt | none => {}

/-! ### Start (R50, R96, R272) -/

/-- The program state a message starts with. -/
def startProg (level : Nat) (words : List Word) (slot : Nat) (t : Ticket) : Prog :=
  let p := t.pkt
  let w2 := p.port + (if p.port < 4 then p.index * 2 ^ 4 + p.cls * 2 ^ 16 else 0)
  let q : Prog := { shunter := true, level := level, words := words, job := { slot := slot, msgId := t.id, bytes := p.bytes, mirrors := p.mirrors } }
  (((q.setReg 1#4 (BitVec.ofNat 32 p.bytes.length)).setReg 2#4 (BitVec.ofNat 32 w2)).setReg 3#4 (BitVec.ofNat 32 p.entry)).setReg 4#4
    (BitVec.ofNat 32 (p.stamp / 65536))

/-- What the transparent-clock program marks on a PTP event message (R384): residence, in peer-to-peer mode the ingress link delay of a Sync, and a
non-zero UDP checksum. -/
def Hub.tcMarks (h : Hub) (p : Pkt) : List EgressMark :=
  let f := p.bytes.drop p.lead
  match ptpAt f with
  | none => []
  | some o =>
    let link := h.get F.CLOCK.TC_MODE 0 == 2 && byteAt f o % 16 == 0
    .corr (p.lead + o + 8) true link :: (if frameType f != 0x88F7 && beAt f (o - 2) 2 != 0 then [.csum (p.lead + o - 2)] else [])

/-- A program of the library, whose words the spec does not give, runs as one event: its steps are a free value within R72's bound. -/
def Hub.libraryRun (h : Hub) (engine : Nat) : Hub := ((h.drawn).add F.SHUNTER.STEPS engine (1 + h.freeVal % 128)).engineDone engine

/-- A thread starts the program of its message: of the library, slot 1 corrects a PTP message and slot 2 delivers signals; a slot with no program
loaded leaves the message as it is. -/
def Hub.startThread (h : Hub) (engine thread : Nat) : Hub :=
  match h.yard.tickets.find? (fun t => t.id + 1 == h.threadOf engine thread) with
  | none => h
  | some t =>
    if (h.prog (progKey (.shunter engine thread))).isSome then h
    else
      let k := t.slot
      let h1 := h.add F.PROGRAM.RUNS k 1
      if k == 1 then (h1.libraryRun engine).threadDone engine thread true (fun x => { x with pkt := { x.pkt with marks := h1.tcMarks t.pkt } })
      else if k == 2 then ((h1.libraryRun engine).libSignals t.pkt.bytes (t.pkt.stamp / 65536)).threadDone engine thread true (fun x => { x with dests := [] })
      else match h.yard.loaded.read (fun _ => none) k with
        | none => h.threadDone engine thread true id
        | some (level, words) => h1.goOn (.shunter engine thread) (startProg level words k t)

def execShunterProgramStart (engine thread : Nat) (s : State) : Host.Outcome State Fault Refusal :=
  actIf (decide (engine < 8 ∧ thread < 16)) s (fun h => (h.startThread engine thread).branchDrain)

/-! ### Message fields (R97–R99) -/

/-- Where the field of EXT or INS begins, its length, and its order. -/
def Prog.fieldSpan (q : Prog) (wa : RegNo) (func : BitVec 14) : Nat × Nat × Nat :=
  (q.regN wa + bits func.toNat 7 7, func.toNat % 32 + 1, bitN func.toNat 5)

/-- Whether a bit field passes the message end. -/
def pastEnd (bs : List Byte) (s n : Nat) : Bool := 8 * bs.length < s + n

def execExt (p : ProgId) (wd wa wb : RegNo) (func : BitVec 14) (s : State) : Host.Outcome State Fault Refusal :=
  knaen p s (fun h => h.runShunter p (wordA 0x30#6 wd wa wb func) (wb == 0#4) (fun g q =>
    let x := q.fieldSpan wa func
    let v := getField x.2.2 q.job.bytes x.1 x.2.1
    let r : Word := if func.getLsbD 6 then BitVec.ofInt 32 (decInt x.2.1 v) else BitVec.ofNat 32 v
    .on g ((q.result wd r).withC (pastEnd q.job.bytes x.1 x.2.1)).next))

def execIns (p : ProgId) (wd wa wb : RegNo) (func : BitVec 14) (s : State) : Host.Outcome State Fault Refusal :=
  knaen p s (fun h => h.runShunter p (wordA 0x31#6 wd wa wb func) (wb == 0#4) (fun g q =>
    let x := q.fieldSpan wa func
    let v := q.regN wd
    .on g (((q.onJob (fun j => { j with bytes := putField x.2.2 j.bytes x.1 x.2.1 v })).withC (pastEnd q.job.bytes x.1 x.2.1)).withV
      (unfit v x.2.1 (func.getLsbD 6))).next))

/-! ### SCALE and LOOK (R100, R101) -/

def execScale (p : ProgId) (wd wa wb : RegNo) (func : BitVec 14) (s : State) : Host.Outcome State Fault Refusal :=
  knaen p s (fun h => h.runShunter p (wordA 0x32#6 wd wa wb func) (bits func.toNat 1 13 == 0) (fun g q =>
    let e := q.regN wb
    if 2047 < e then .fault 0x0C
    else
      let x := g.scaleSignal e (if func.getLsbD 0 then (q.reg wa).toInt else (q.regN wa : Int))
      .on (g.signalSaturated e x.2) ((q.result wd (BitVec.ofInt 32 x.1)).withV x.2).next))

def execLook (p : ProgId) (wd wa wb : RegNo) (func : BitVec 14) (s : State) : Host.Outcome State Fault Refusal :=
  knaen p s (fun h => h.runShunter p (wordA 0x33#6 wd wa wb func) (bits func.toNat 4 10 == 0) (fun g q =>
    match g.look (func.toNat % 16) (q.regN wa) (q.regN wb) with
    | none => .fault 0x0C
    | some none => .on g ((q.setReg wd 0xFFFFFFFF#32).withC true).next
    | some (some i) => .on g ((q.setReg wd (BitVec.ofNat 32 i)).withC false).next))

/-! ### Destinations (R102–R104, R273) -/

/-- The landing whose scope binds a program; 0xF binds to none. -/
def Hub.scopeOf (h : Hub) (q : Prog) : Nat := h.get F.PROGRAM.SCOPE q.job.slot

/-- FWD: the queue joins or replaces the destination set, unless it belongs to another landing than a landing-scope program's. -/
def Hub.runFwd (h : Hub) (p : ProgId) (wa wb : RegNo) (kind : BitVec 3) (index : BitVec 14) (replace : Bool) : Hub :=
  h.runShunter p (wordE 0x34#6 wa wb (kind ++ BitVec.ofBool replace) index) (kind == 0#3) (fun g q =>
    let leaf := q.regN wa + index.toNat
    let d := (leaf, q.regN wb % 4096)
    let scope := g.scopeOf q
    if 2047 < leaf then .fault 0x0C
    else if leaf < 512 && scope != 0xF && leaf / 128 != scope then .on (g.add F.PROGRAM.ISOLATED q.job.slot 1) (q.withC true).next
    else if replace then .on g ((q.onJob (fun j => { j with dests := [d] })).withC false).next
    else if q.job.dests.any (fun x => x.1 == leaf) || 16 ≤ q.job.dests.length then .on g (q.withC true).next
    else .on g ((q.onJob (fun j => { j with dests := j.dests ++ [d] })).withC false).next)

def execFwd (p : ProgId) (wa wb : RegNo) (kind : BitVec 3) (index : BitVec 14) (s : State) : Host.Outcome State Fault Refusal :=
  knaen p s (fun h => h.runFwd p wa wb kind index false)
def execFwdReplace (p : ProgId) (wa wb : RegNo) (kind : BitVec 3) (index : BitVec 14) (s : State) : Host.Outcome State Fault Refusal :=
  knaen p s (fun h => h.runFwd p wa wb kind index true)

def execDrop (p : ProgId) (wd wa wb : RegNo) (func : BitVec 14) (s : State) : Host.Outcome State Fault Refusal :=
  knaen p s (fun h => h.runShunter p (wordA 0x35#6 wd wa wb func) (wd == 0#4 && wa == 0#4 && wb == 0#4 && bits func.toNat 8 6 == 0) (fun g q =>
    .ends (match p with | .shunter e t => g.shunterDrop e t (func.toNat % 256) q | .manifest _ => g)))

def execMirr (p : ProgId) (wa wb : RegNo) (kind : BitVec 4) (index : BitVec 14) (s : State) : Host.Outcome State Fault Refusal :=
  knaen p s (fun h => h.runShunter p (wordE 0x36#6 wa wb kind index) (wa == 0#4 && wb == 0#4 && kind == 0#4 && bits index.toNat 2 12 == 0) (fun g q =>
    let m := index.toNat % 4
    if g.scopeOf q != 0xF then .on (g.add F.PROGRAM.ISOLATED q.job.slot 1) q.next
    else .on g (q.onJob (fun j => { j with mirrors := if j.mirrors.contains m then j.mirrors else j.mirrors ++ [m] })).next))

/-! ### Time fields and checksums (R105–R107) -/

/-- Whether a byte range passes the message end. -/
def Prog.beyond (q : Prog) (off n : Nat) : Bool := q.job.bytes.length < off + n

def execStamp (p : ProgId) (wa wb : RegNo) (kind : BitVec 3) (index : BitVec 14) (s : State) : Host.Outcome State Fault Refusal :=
  knaen p s (fun h => h.runShunter p (wordE 0x37#6 wa wb (0#1 ++ kind) index) (wb == 0#4 && !kind.getLsbD 2) (fun g q =>
    let off := q.regN wa + index.toNat
    let f := kind.toNat % 4
    if q.beyond off (stampLen f) then .on g (q.withC true).next
    else
      let at_ := (g.jobPkt q).stamp
      .on g ((q.onJob (fun j => { j with bytes := putBytes j.bytes off (stampBytes f at_ (g.networkAt at_)) })).withC false).next))

def execStampEgress (p : ProgId) (wa wb : RegNo) (kind : BitVec 3) (index : BitVec 14) (s : State) : Host.Outcome State Fault Refusal :=
  knaen p s (fun h => h.runShunter p (wordE 0x37#6 wa wb (1#1 ++ kind) index) (wb == 0#4 && !kind.getLsbD 2) (fun g q =>
    let off := q.regN wa + index.toNat
    let f := kind.toNat % 4
    if q.beyond off (stampLen f) then .on g (q.withC true).next
    else .on g ((q.onJob (fun j => { j with marks := j.marks ++ [.stamp off f] })).withC false).next))

/-- CORR: wb nanoseconds are added at once, residence and link delay as the message leaves. Level 1.0 lacks kind[2] (R116). -/
def execCorr (p : ProgId) (wa wb : RegNo) (kind : BitVec 4) (index : BitVec 14) (s : State) : Host.Outcome State Fault Refusal :=
  knaen p s (fun h => h.runShunter p (wordE 0x38#6 wa wb kind index) (!kind.getLsbD 3) (fun g q =>
    let off := q.regN wa + index.toNat
    if kind.getLsbD 2 && q.level == 0x10 then .fault 3
    else if kind.toNat % 8 == 0 then .fault 0x0C
    else if q.beyond off 8 then .on g ((q.withC true).withV false).next
    else
      let x := if kind.getLsbD 1 then addCorrection q.job.bytes off ((q.reg wb).toInt * 65536) else (q.job.bytes, false)
      let later : List EgressMark := if kind.getLsbD 0 || kind.getLsbD 2 then [.corr off (kind.getLsbD 0) (kind.getLsbD 2)] else []
      .on g (((q.onJob (fun j => { j with bytes := x.1, marks := j.marks ++ later })).withC false).withV x.2).next))

/-- CSUM with func[1:0] = 0 computes; 2 and 3 fault with FAULT_OPERAND, and 1 is no instance of this command. -/
def execCsumCompute (p : ProgId) (wd wa wb : RegNo) (func : BitVec 14) (s : State) : Host.Outcome State Fault Refusal :=
  knaen p s (fun h =>
    if func.toNat % 4 == 1 then h
    else h.runShunter p (wordA 0x39#6 wd wa wb func) (bits func.toNat 2 12 == 0) (fun g q =>
      if func.toNat % 4 != 0 then .fault 0x0C
      else
        let part := (q.job.bytes.drop (q.regN wa)).take (q.regN wb)
        let r : Word := BitVec.ofNat 32 (fold16 (fold16 (onesSum part)))
        .on g (({ q with z := r == 0#32, c := q.regN wb != 0 && q.beyond (q.regN wa) (q.regN wb) } : Prog).setReg wd r).next))

def execCsumFix (p : ProgId) (wd wa wb : RegNo) (func : BitVec 12) (s : State) : Host.Outcome State Fault Refusal :=
  knaen p s (fun h => h.runShunter p (wordA 0x39#6 wd wa wb (func ++ 1#2)) (wd == 0#4 && wb == 0#4 && func == 0#12) (fun g q =>
    let off := q.regN wa
    if q.beyond off 2 then .on g (q.withC true).next
    else .on g ((q.onJob (fun j => { j with marks := j.marks ++ [.csum off] })).withC false).next))

/-! ### EMIT and COUNT (R108, R109) -/

def execEmit (p : ProgId) (wa wb : RegNo) (kind : BitVec 4) (index : BitVec 14) (s : State) : Host.Outcome State Fault Refusal :=
  knaen p s (fun h => h.runShunter p (wordE 0x3a#6 wa wb kind index) (kind == 0#4) (fun g q =>
    let e := q.regN wb + index.toNat
    if 2047 < e then .fault 0x0C
    else
      let x := g.emitSignal e (q.regN wa) false ((g.jobPkt q).stamp / 65536)
      .on x.1 ((q.withC x.2.2).withV x.2.1).next))

def execCount (p : ProgId) (wa wb : RegNo) (kind : BitVec 4) (index : BitVec 14) (s : State) : Host.Outcome State Fault Refusal :=
  knaen p s (fun h => h.runShunter p (wordE 0x3b#6 wa wb kind index) (kind == 0#4) (fun g q =>
    let c := q.regN wa + index.toNat
    if 4095 < c then .fault 0x0C
    else .on ((g.add F.SHUNTER.CTR_MSGS (c / 512) 1 (c % 512)).add F.SHUNTER.CTR_BYTES (c / 512) (q.regN wb) (c % 512)) q.next))

end Sys2Proof.Machine
end

