-- ==== Sys2Proof/Machine/Control.lean ====
section
/-! DEFINITION. The control plane's own commands: HELLO (R124–R126), Manifests submitted and started (R127–R130), PEEK (R151, R152), the local
port (R122, R123), standing replay (R155), and the notice collector (R157–R161). -/

namespace Sys2Proof.Machine

/-! ### HELLO (R124–R126, R582) -/

/-- Whether a HELLO is accepted on its channel: on a landing, once its host has authenticated there. -/
def Hub.helloAccepted (h : Hub) : Chan → Bool
  | .ldl l => (h.session l).up
  | .legacy l => (h.session (4 + l)).up
  | .mgmt => (h.session 8).up
  | .localPort => true

/-- The body of the device's HELLO. -/
def Hub.helloBody (h : Hub) (n tag : Nat) : List Byte :=
  [0x01, 0x11, 0x02, BitVec.ofNat 8 n, BitVec.ofNat 8 (ofB (h.guest n) + 2 * ofB (h.holds n 0)), 8] ++ leBytes 2 16392 ++ leBytes 2 256 ++
    leBytes 2 16672 ++ leBytes 4 tag

/-- A HELLO resets a context that is up, opens it, and is answered; Receipts kept by a warm reset follow. A held context opens without a reset. -/
def Hub.hello (h : Hub) (ch : Chan) (msg : List Byte) : Hub :=
  let n := ch.ctx
  let b := ctlBody msg
  if !h.helloAccepted ch then h
  else
    let h1 := if h.up n then h.resetContext n 1 else h.disarm T.heldContext n
    let h2 := match ch with
      | .legacy l => h1.setSession (4 + l) { h1.session (4 + l) with helloOnly := false }
      | _ => h1
    let h3 := h2.contextUp ch (byteAt b 1) (leAt b 2 2) (leAt b 4 4)
    let h4 := h3.send ch 1 (ctlSeq msg) (h3.helloBody n (leAt b 4 4))
    (h4.modCtx n (fun c => { c with out := c.out ++ c.kept.map (fun m => { m with chan := ch }), kept := [] })).drainOut n

def execHelloMessage (ch : Chan) (msg : List Byte) (s : State) : Host.Outcome State Fault Refusal :=
  actIf (chanOk ch) s (fun h => h.onControl ch msg 1 (fun g => g.hello ch msg))

/-! ### Manifests (R127–R130) -/

/-- The program words of a MANIFEST body. -/
def manifestWords : Nat → List Byte → List Word
  | 0, _ => []
  | n + 1, bs => BitVec.ofNat 32 (leAt bs 0 4) :: manifestWords n (bs.drop 4)

/-- What R128 refuses a Manifest for, by the first row that applies: status and detail. -/
def Hub.manifestRefused (h : Hub) (head : ManHead) (len bodyLen : Nat) : Option (Nat × Nat) :=
  let n := head.ctx
  if 8 ≤ (h.ctx n).queue.length + ofB (h.prog n).isSome then some (4, 1)
  else if 4096 < len then some (4, 2)
  else if bodyLen != 8 + 4 * len || len == 0 then some (4, 3)
  else if head.level != 0x10 && head.level != 0x11 then some (5, head.level)
  else if head.standing && h.standingBarred n head.slotByte then some (6, 1)
  else none

/-- A MANIFEST message: refused in a Receipt, or queued. -/
def Hub.manifest (h : Hub) (ch : Chan) (msg : List Byte) : Hub :=
  let b := ctlBody msg
  let len := leAt b 2 2
  let head : ManHead := { ctx := ch.ctx, chan := ch, seq := ctlSeq msg, tag := leAt b 4 4, level := byteAt b 0, standing := bitB (byteAt msg 3) 0, slotByte := byteAt b 1 }
  match h.manifestRefused head len b.length with
  | some (status, detail) => h.report head [] { status := status, detail := detail }
  | none => h.modCtx ch.ctx (fun c => { c with queue := c.queue ++ [{ head := head, words := manifestWords len (b.drop 8) }] })

/-- In recovery no Manifest is served (R589): the message is taken and has no effect. -/
def execManifestMessage (ch : Chan) (msg : List Byte) (s : State) : Host.Outcome State Fault Refusal :=
  actIf (chanOk ch) s (fun h => h.onControl ch msg 2 (fun g => if g.get F.SYSTEM.START_STATE 0 == 4 then g else g.manifest ch msg))

/-- Receipts of a context not yet sent (R130): on the local port those whose last byte has not been read out of the FIFO (DESIGN CHOICE, log entry 75). -/
def Hub.receiptsWaiting (h : Hub) (n : Nat) : Nat := ((h.ctx n).out.filter (fun m => m.type == 3)).length

/-- The context's next Manifest starts while the Signal Box runs it, during standing replay too (R129; log entry 26), once the one before has ended,
unless its Receipt ring is full. -/
def Hub.startManifest (h : Hub) (n : Nat) : Hub :=
  match (h.ctx n).queue with
  | m :: rest =>
    if (h.prog n).isSome || h.boxPaused || (h.get F.SYSTEM.START_STATE 0 != 2 && h.get F.SYSTEM.START_STATE 0 != 3) || 16 ≤ h.receiptsWaiting n then h
    else (h.modCtx n (fun c => { c with queue := rest })).manifestOn n { level := m.head.level, words := m.words, head := m.head }
  | [] => h

def execManifestStart (ctx : Nat) (s : State) : Host.Outcome State Fault Refusal := actIf (decide (ctx < 6)) s (fun h => h.startManifest ctx)

/-! ### PEEK (R150–R152) -/

/-- One entry of a PEEK_REPLY. In recovery only SYSTEM and UPDATE answer (R589). -/
def Hub.peekEntry (h : Hub) (n : Nat) (e : List Byte) : List Byte :=
  let w := leAt e 4 4
  let num := w % 4096
  let elem := bits w 16 10
  let reply (status value : Nat) : List Byte := e.take 4 ++ leBytes 4 (w % 2 ^ 26 + status * 2 ^ 26) ++ leBytes 8 value
  match handleOf (BitVec.ofNat 32 (leAt e 0 4)) with
  | none => reply 1 0
  | some (cls, inst) =>
    if h.get F.SYSTEM.START_STATE 0 == 4 && cls != 0 && cls != 31 then reply 1 0
    else match fieldInfo cls num with
      | none => reply 2 0
      | some f =>
        if bits w 12 4 != 0 || bits w 26 6 != 0 || (if f.isArray then f.elems ≤ elem else elem != 0) then reply 2 0
        else if !h.mayRead n f cls inst then reply 3 0
        else
          let v := h.liveValue cls inst num elem
          reply 0 (if f.type == .signed then encInt 64 (decInt f.width v) else v)

/-- Bytes in pieces of eight. -/
def eights : Nat → List Byte → List (List Byte)
  | 0, _ => []
  | n + 1, bs => bs.take 8 :: eights n (bs.drop 8)

/-- A PEEK is answered. -/
def Hub.answerPeek (h : Hub) (ch : Chan) (msg : List Byte) : Hub :=
  let b := ctlBody msg
  let entries := eights ((b.length - 4) / 8) (b.drop 4)
  (h.send ch 6 (ctlSeq msg) (b.take 4 ++ leBytes 6 h.now48 ++ [0, 0] ++ (entries.map (h.peekEntry ch.ctx)).flatten)).drainOut ch.ctx

/-- PEEKs of a context that are unanswered: those held by a pause, and replies not yet sent; an answer in the local port's FIFO has been given. -/
def Hub.peeksOpen (h : Hub) (n : Nat) : Nat :=
  (h.peeksHeld.filter (fun x => x.1.ctx == n)).length + (((h.ctx n).out.drop (h.inFifo n)).filter (fun m => m.type == 6)).length

/-- A PEEK is answered, or discarded while four are unanswered (R152); while Signal Box firmware is replaced it waits (R535). -/
def Hub.peek (h : Hub) (ch : Chan) (msg : List Byte) : Hub :=
  if 4 ≤ h.peeksOpen ch.ctx then h.refuseControl ch msg 8
  else if h.boxPaused then { h with peeksHeld := h.peeksHeld ++ [(ch, msg)] }
  else h.answerPeek ch msg

/-- PEEKs that a pause held are answered once it is over. -/
def Hub.peeksGoOn (h : Hub) : Hub :=
  if h.boxPaused then h else h.peeksHeld.foldl (fun (g : Hub) x => g.answerPeek x.1 x.2) { h with peeksHeld := [] }

def execPeekMessage (ch : Chan) (msg : List Byte) (s : State) : Host.Outcome State Fault Refusal :=
  actIf (chanOk ch) s (fun h => h.onControl ch msg 5 (fun g => g.peek ch msg))

/-- A step's image, or one landing's, has been loaded and runs after a pause in µs. -/
def execActivationStepDone (us : Nat) (s : State) : Host.Outcome State Fault Refusal := act s (fun h => (h.stepDone us).peeksGoOn.afterGroup)

/-! ### Ring entries taken (R161) -/

/-- Whether a NOTICE of a sequence is still on its way to a landing. -/
def Hub.noticeAfoot (h : Hub) (l seq : Nat) : Bool :=
  let it (p : Pkt) : Bool := p.port == 10 && byteAt p.bytes 8 == 4 && byteAt p.bytes 10 == l && leAt p.bytes 12 2 == seq
  h.yard.backlog.any (fun b => it b.2.1) || h.yard.tickets.any (fun t => it t.pkt) || h.yard.slices.any (fun s => it s.pkt) ||
    h.yard.leaves.cells.any (fun c => c.1 / 128 == l && c.2.any (fun e => it e.pkt)) || (h.link l).txMsgs.any (fun t => it t.pkt) ||
    (h.link l).unacked.any (fun f => f.notice.1 == seq + 1)

/-- Whether a NOTICE of a context has still to cross the Yard to the legacy interfaces (R161). -/
def Hub.noticeCrossing (h : Hub) (n : Nat) : Bool :=
  h.yard.slices.any (fun s => s.input == 10 && byteAt s.pkt.bytes 0 == 4 && byteAt s.pkt.bytes 2 == n) ||
    (h.yard.leaf (portLeaf 8 10 0)).any (fun e => byteAt e.pkt.bytes 0 == 4 && e.slot == n) || h.yard.backlog.any (fun b => b.1 == 10) ||
    h.yard.tickets.any (fun t => t.input == 10)

/-- What a transport takes: on the legacy interface the interrupt-IN transfer of a NOTICE completes once it has crossed the Yard; in the management session the
datagrams that can be sent leave. On a landing's pairs entries are taken by acknowledgment, on the local port by reading. -/
def Hub.noticeTaken (h : Hub) (n : Nat) : Hub :=
  let k := (h.ctx n).inTransfer
  (if k == 0 || h.noticeCrossing n then h else (h.modCtx n (fun c => { c with inTransfer := 0 })).ringTaken n k).drainOut n

/-- On the local port an entry is taken with the last byte of its message read (LOCAL_READ_OUTBOUND_FIFO). -/
def execNoticeEntryTaken (ctx : Nat) (s : State) : Host.Outcome State Fault Refusal := actIf (decide (ctx < 6)) s (fun h => h.noticeTaken ctx)

/-! ### The collector (R157, R160) -/

/-- Pending records move into the ring from a source on, until the ring holds 256; the source the round resumes at, 0 after N511. -/
def collect (pend : Nat → NoticeRec) : Nat → Nat → List NoticeRec → List NoticeRec × List Nat × Nat
  | 0, _, ring => (ring, [], 0)
  | k + 1, src, ring =>
    if 256 ≤ ring.length then (ring, [], src)
    else if (pend src).count == 0 then collect pend k (src + 1) ring
    else
      let r := collect pend k (src + 1) (ring ++ [pend src])
      (r.1, src :: r.2.1, r.2.2)

/-- The 16 bytes of a record. -/
def Hub.recordBytes (h : Hub) (r : NoticeRec) : List Byte :=
  leBytes 8 (r.src + h.get F.NOTICE.SEVERITY r.src * 2 ^ 9 + r.count * 2 ^ 12 + bits r.time 8 40 * 2 ^ 24) ++ leBytes 8 r.payload

/-- Ring entries not yet in a message are put into NOTICE messages of at most 16, numbered by the context's counter. -/
def Hub.formNotices : Nat → Nat → List NoticeRec → Hub → Hub
  | 0, _, _, h => h
  | fuel + 1, n, rs, h =>
    if rs.isEmpty then h
    else
      let part := rs.take 16
      let h1 := h.send (h.noticeChan n) 4 (h.ctx n).noticeSeq ((part.map h.recordBytes).flatten) part.length
      Hub.formNotices fuel n (rs.drop 16) (h1.modCtx n (fun c => { c with noticeSeq := (c.noticeSeq + 1) % 65536 }))

/-- NOTICE messages under way that have been lost are forgotten, so that their entries, and those of the messages behind, are formed anew. -/
def Hub.noticesLost (h : Hub) (n : Nat) : Hub :=
  h.modCtx n (fun c => { c with inMessages :=
    (c.inMessages.filter (fun m => m.2 != 0 || h.noticeAfoot n m.1)).takeWhile (fun m => m.2 == 0 || h.noticeAfoot n m.1) })

/-- How many entries at the front of a context's ring are in NOTICE messages already. -/
def Ctx.formed (c : Ctx) : Nat := (c.inMessages.map (fun m => m.2)).sum + c.inTransfer + (c.out.map (fun m => m.entries)).sum

/-- A collector round of a context that is up. -/
def Hub.collectorRound (h : Hub) (n : Nat) : Hub :=
  if !h.up n then h
  else
    let h0 := h.noticesLost n
    let c := h0.ctx n
    let r := collect (fun src => h0.pendRec n src) (512 - c.roundPos) c.roundPos c.ring
    let h1 := r.2.1.foldl (fun g src => g.setPend n src {}) (h0.modCtx n (fun c => { c with ring := r.1, roundPos := r.2.2 }))
    (Hub.formNotices 17 n (r.1.drop c.formed) h1).drainOut n

def execNoticeCollectorRound (ctx : Nat) (s : State) : Host.Outcome State Fault Refusal := actIf (decide (ctx < 6)) s (fun h => h.collectorRound ctx)

/-! ### The local port (R122, R123, R577) -/

/-- Whether the local port takes writes: the Signal Box runs, or the boot ROM serves recovery. -/
def Hub.localOpen (h : Hub) : Bool := 2 ≤ h.get F.SYSTEM.START_STATE 0 && !h.warming

/-- The inbound FIFO's free bytes. -/
def Hub.localFree (h : Hub) : Nat := 32768 - (h.fifoIn.map (fun m => m.length + 4)).sum

/-- Unread bytes of whole messages in the outbound FIFO. -/
def Hub.localReady (h : Hub) : Nat :=
  ((fittingOut 32768 (h.ctx 4).out).map (fun m => (fifoBytes m).length)).sum - (h.ctx 4).readPos

/-- ATTN_N is low while a whole message has not been read to its end (R123). -/
def Hub.attnLow (h : Hub) : Bool := !(fittingOut 32768 (h.ctx 4).out).isEmpty

/-- One message of a write: kept, or discarded for its CRC or for want of space. -/
def Hub.localMessage (h : Hub) (msg crc : List Byte) : Hub :=
  if crc.length == 4 && crc == leBytes 4 (crc32c msg) && msg.length + 4 ≤ h.localFree then { h with fifoIn := h.fifoIn ++ [msg] }
  else h.refuseControl .localPort msg 7

/-- The messages of a write, one after the other, each as long as its header says. -/
def Hub.localWrite : Nat → List Byte → Hub → Hub
  | 0, _, h => h
  | fuel + 1, bs, h =>
    if bs.isEmpty then h
    else
      let n := 8 + leAt bs 6 2
      Hub.localWrite fuel (bs.drop (n + 4)) (h.localMessage (bs.take n) ((bs.drop n).take 4))

def execLocalWriteInboundFifo (data : List Byte) (s : State) : Host.Outcome State Fault Refusal :=
  act s (fun h => if h.localOpen then (Hub.localWrite data.length data h).wakeBy 6 else h)

/-- One message's part in a read: its bytes not read yet, as far as the read goes; read to its end it leaves, and with it its ring entries. -/
def Hub.localRead : Nat → Nat → Hub → Hub
  | 0, _, h => h
  | fuel + 1, count, h =>
    match fittingOut 32768 (h.ctx 4).out with
    | [] => { h with spiOut := h.spiOut ++ List.replicate count 0 }
    | m :: _ =>
      let rest := (fifoBytes m).drop (h.ctx 4).readPos
      if count < rest.length then
        { h.modCtx 4 (fun c => { c with readPos := c.readPos + count }) with spiOut := h.spiOut ++ rest.take count }
      else
        let h1 := { h.modCtx 4 (fun c => { c with out := c.out.erase m, readPos := 0 }) with spiOut := h.spiOut ++ rest }
        Hub.localRead fuel (count - rest.length) (if m.type == 4 then h1.ringTaken 4 m.entries else h1)

/-- The outbound FIFO's bytes, then 0x00. -/
def execLocalReadOutboundFifo (count : Nat) (s : State) : Host.Outcome State Fault Refusal :=
  act s (fun h => Hub.localRead ((h.ctx 4).out.length + 1) count { h with spiOut := [] })

/-- Status: inbound free bytes and outbound bytes ready; zero before the Signal Box runs, and no inbound bytes through a warm reset. -/
def execLocalReadStatus (s : State) : Host.Outcome State Fault Refusal :=
  act s (fun h =>
    let free := if h.localOpen then h.localFree else 0
    let ready := if h.localOpen || h.warming then min h.localReady 65535 else 0
    { h with spiOut := leBytes 2 free ++ leBytes 2 ready })

/-! ### Standing slots (R154, R155) -/

def execStandingClear (ctx slot : Nat) (s : State) : Host.Outcome State Fault Refusal :=
  actIf (decide (ctx < 6 ∧ slot < 16)) s (fun h => h.commitField ctx F.STANDING.CLEAR slot 0 1)

/-- Whether a standing slot's Manifest is running. -/
def Hub.replaying (h : Hub) : Bool := (List.range 6).any (fun n => match h.prog n with | some p => p.head.replay.isSome | none => false)

/-- A stored, enabled slot is measured in M6 (R496), and starts as the context that stored it, after a Manifest of that context that runs (R129, R155). -/
def Hub.replaySlot (h : Hub) (slot : Nat) : Hub :=
  let h1 := { h with replayPos := slot + 1 }
  if h.get F.STANDING.STATE slot == 2 then h1.notify 506 (slot + 2 ^ 32)
  else if h.get F.STANDING.STATE slot == 1 && h.on F.STANDING.ENABLE slot then
    let r := h.standing.read (fun _ => {}) slot
    let n := h.get F.STANDING.OWNER slot
    let head : ManHead := { ctx := n, tag := r.tag, level := r.level, standing := true, slotByte := slot, replay := some slot, desk := h.on F.STANDING.DESK slot }
    if (h.prog n).isSome then h
    else (((h1.extend 6 r.sum).deriveKeys).add F.STANDING.REPLAYS slot 1).manifestOn n { level := r.level, words := r.words, head := head }
  else h1

/-- The device runs: VCORE's target is then 0.80 V (R29). -/
def Hub.running (h : Hub) : Hub := let g := h.set F.SYSTEM.START_STATE 0 3; g.requestVcore g.restVcore

/-- Replay goes on: the next slot once the one before has ended; after the last the device runs. -/
def execStandingReplay (s : State) : Host.Outcome State Fault Refusal :=
  act s (fun h =>
    if h.get F.SYSTEM.START_STATE 0 != 2 || h.replaying then h
    else if h.replayPos < 16 then h.replaySlot h.replayPos
    else h.running)

end Sys2Proof.Machine
end

