-- ==== Sys2Proof/Machine/DisplayCmd.lean ====
section
/-! DEFINITION. The commands of the display path that no commit is part of: messages of Display tunnels, copies, frames, sinks. -/

namespace Sys2Proof.Machine

/-- The first message a tunnel has waiting at an internal port is the given one (R335). -/
def Hub.firstOf (h : Hub) (port l slot : Nat) (msg : List Byte) : Bool :=
  match (h.yard.inbox.read (fun _ => []) port).find? (fun m => m.1 == l && m.2.1 == slot) with
  | some m => m.2.2 == msg
  | none => false

/-- A message of a Display tunnel is taken from the surface writer's port when it is the tunnel's first, of the command's
type, and no Turntable job of the tunnel is still to land (R335). -/
def Hub.fromDisplay (h : Hub) (l slot : Nat) (msg : List Byte) (type : Nat) (landed : Bool) (f : Hub → List Byte → Hub) : Hub :=
  if h.firstOf 7 l slot msg && bits (leAt msg 0 2) 4 8 == type && !(landed && h.jobs.any (fun j => j.l == l && j.slot == slot)) then
    f (h.takeInbox 7 l slot msg) (msg.drop 8)
  else h

def execSurfaceWrite (l slot : Nat) (msg : List Byte) (s : State) : Host.Outcome State Fault Refusal :=
  actIf (decide (l < 4 ∧ slot < 2048)) s (fun h =>
    if h.depot == 1 then h else h.fromDisplay l slot msg 1 true (fun g b => g.touchDepot.surfaceWrite l b))

def execTileDelta (l slot : Nat) (msg : List Byte) (s : State) : Host.Outcome State Fault Refusal :=
  actIf (decide (l < 4 ∧ slot < 2048)) s (fun h =>
    if h.depot == 1 then h else h.fromDisplay l slot msg 2 true (fun g b => g.touchDepot.tileDelta l b))

def execPresent (l slot : Nat) (msg : List Byte) (s : State) : Host.Outcome State Fault Refusal :=
  actIf (decide (l < 4 ∧ slot < 2048)) s (fun h => h.fromDisplay l slot msg 3 true (fun g b => g.present l slot b))

def execTurnJob (l slot : Nat) (msg : List Byte) (s : State) : Host.Outcome State Fault Refusal :=
  actIf (decide (l < 4 ∧ slot < 2048)) s (fun h => h.fromDisplay l slot msg 5 false (fun g b => g.touchDepot.turnJob l slot b))

def execTurnJobDone (l : Nat) (s : State) : Host.Outcome State Fault Refusal := actIf (decide (l < 4)) s (fun h => h.jobDone l)

def execCloneCopyDone (layer : Nat) (s : State) : Host.Outcome State Fault Refusal := actIf (decide (layer < 32)) s (fun h => h.copyDone layer)

def execModeRestartDone (head us : Nat) (s : State) : Host.Outcome State Fault Refusal := actIf (decide (head < 4)) s (fun h => h.gapDone head us)

def execFrameStart (head : Nat) (s : State) : Host.Outcome State Fault Refusal := actIf (decide (head < 4)) s (fun h => h.frameStart head)

def execLineMatch (head : Nat) (s : State) : Host.Outcome State Fault Refusal := actIf (decide (head < 4)) s (fun h => h.lineMatch head)

def execFrameDone (head : Nat) (s : State) : Host.Outcome State Fault Refusal := actIf (decide (head < 4)) s (fun h => h.frameDone head)

def execLineUnderrun (head line : Nat) (s : State) : Host.Outcome State Fault Refusal := actIf (decide (head < 4)) s (fun h => h.underrun head line)

def execDpTrainingDone (head : Nat) (ok : Bool) (s : State) : Host.Outcome State Fault Refusal := actIf (decide (head < 4)) s (fun h => h.dpTrained head ok)

def execDpTrainRetry (head : Nat) (s : State) : Host.Outcome State Fault Refusal :=
  actIf (decide (head < 4)) s (fun h => h.expire T.dpRetry head (fun g => g.tryLink head))

def execDepotSelfRefreshReturn (s : State) : Host.Outcome State Fault Refusal :=
  act s (fun h => h.expire T.selfRefresh 0 (fun g => { g with depot := 2 }))

end Sys2Proof.Machine
end

