-- ==== Sys2Proof/Machine/Faults.lean ====
section
/-! DEFINITION. Evaluations and trips of the feed die with what follows them elsewhere (R472, R473, R31, R560), the recounts of the Ledger
(R544) and uncorrectable memory errors (R551). -/

namespace Sys2Proof.Machine

/-! ### Feeds (R472, R473, R453, R403, R573) -/

/-- What follows a feed's change of state: a USB port over-current, or its power-good; a storage slot without power; F15 lost. -/
def Hub.feedFollows (h : Hub) (n old : Nat) : Hub :=
  let new := h.get F.FEED.STATE n
  let cause := h.get F.FEED.LAST_TRIP n % 256
  if old == new then h
  else if n == 15 then
    (if new == 0 && h.island.step != 0 && (h.feed 15).tripped then h.railsFail (if h.island.step == 9 then 2 else 0) else h)
  else if !h.mainUp then h
  else if 4 ≤ n && n < 12 then
    (if new == 5 && 1 ≤ cause && cause ≤ 3 then h.usbOverCurrent (n - 4) else if new == 3 then h.usbPowerWatch (n - 4) else h)
  else if (n == 12 || n == 13) && old == 3 then h.slotPowerLost (n - 12)
  else h

/-- One evaluation of every feed: current, output voltage and gate-source voltage of each, and VHV. An unpowered feed die makes none. -/
def Hub.feedEvaluation (h : Hub) (samples : List (Int × Nat × Nat)) (vhv : Nat) : Hub :=
  if !h.feedPowered then h
  else
    let h1 := { h.feedInstant.set F.FEED.VHV_NOW 0 (sat16 vhv) with feedEvals := h.feedEvals + 1 }
    (List.range 16).foldl (fun g n =>
      let x := samples.getD n (0, 0, 0)
      (g.evaluateFeed n x.1 x.2.1 x.2.2).feedFollows n (g.get F.FEED.STATE n)) h1

def execFeedEvaluation (samples : List (Int × Nat × Nat)) (vhv : Nat) (s : State) : Host.Outcome State Fault Refusal :=
  actAny s (fun h => h.feedEvaluation samples vhv)

def execFastTrip (n : Nat) (amps : Int) (s : State) : Host.Outcome State Fault Refusal :=
  actAnyIf (decide (n < 16)) s (fun h => (h.fastTripNow n amps).feedFollows n (h.get F.FEED.STATE n))

/-! ### Events that take the main die's power (R31, R560) -/

/-- A sensor at 125 °C or more for 10 ms: F15's request is removed and the event recorded. The feed die itself runs on (R19). -/
def Hub.thermalShutdown (h : Hub) (k : Nat) : Hub :=
  let p := k + encInt 16 (h.getI F.THERMAL.TEMP k) * 2 ^ 16 + 2 ^ 32
  (h.railsOff.dieDown false).modIsland (fun i => { i with step := 0, heat := p + 1, faults := setBit i.faults 4, byOrder := false, retrying := false, barred := false, feedsOn := true })

def execThermalShutdown (k : Nat) (s : State) : Host.Outcome State Fault Refusal :=
  actIf (decide (k < 12)) s (fun h => h.expire T.shutdown k (fun g => g.thermalShutdown k))

/-- The sense above 0.98 V for 10 µs: F15 trips with cause 0x0B. -/
def Hub.vcoreTrip (h : Hub) (sense : Nat) : Hub :=
  let p := 4 + min sense 1023 * 2 ^ 16 + h.gov F.THERMAL.VCORE_READBACK * 2 ^ 32
  ((h.tripFeed 15 0x0B 0 (h.onTime 15)).railsFail 2).modIsland (fun i => { i with overVolt := p + 1, faults := setBit i.faults 3 })

def execVcoreOvervoltageTrip (sense : Nat) (s : State) : Host.Outcome State Fault Refusal :=
  act s (fun h => if 980 < sense && h.island.step == 9 then h.vcoreTrip sense else h)

/-! ### Recounts (R544) -/

/-- A token without a majority goes to the free pool; every context a copy named hears of it. -/
def Hub.tokenDoubt (h : Hub) (k : Nat) (named : List Nat) : Hub :=
  let old := h.holder k
  let pay := k + old * 2 ^ 8 + 0xF * 2 ^ 12 + 0xF * 2 ^ 16
  (named.filter (fun n => n < 6 && n != old)).eraseDups.foldl (fun g n => g.raise 504 pay [n]) (h.moveToken k 0xF 0xF false)

/-- What a recount decides of an item in doubt: a message, a token with the contexts its copies name, a surface without its pages, a context with a
place of its ring, a posted write of a context (its target and address), a learned Route entry. The other decisions of R544 restore what State
holds already. -/
def Hub.doubt (h : Hub) (i : Nat) (x : Nat × List Nat) : Hub :=
  if i == 4 then h.loseMessage x.1 false
  else if i == 5 then (if x.1 < 64 then h.tokenDoubt x.1 x.2 else h)
  else if (6 ≤ i && i < 10) || i == 30 then
    (if x.1 < 1024 && h.get F.SURFACE.STATE x.1 == 1 then h.freeSurface x.1 (h.get F.SURFACE.OWNER x.1) else h)
  else if i == 26 then (if x.1 < 6 then h.ringLost x.1 (x.2.getD 0 0) else h)
  else if i == 27 then
    (if x.1 < 6 then h.postedFault x.1 3 (x.2.getD 0 0) 0 (x.2.getD 1 0) else h)
  else if i == 29 then (if entryType (h.route x.1) == 2 && !bitB (h.route x.1) 4 then h.clearRoute x.1 else h)
  else h

/-- A recount, with its pause in µs; on the feed die ALLOTTED follows the grants, and the reductions of R483 begin where they exceed the
budget. -/
def Hub.recount (h : Hub) (i pause : Nat) (items : List (Nat × List Nat)) : Hub :=
  match h.ledger.correcting.read (fun _ => none) i with
  | none => h
  | some _ =>
    let h1 := items.foldl (fun g x => g.doubt i x) h
    let h2 := if i == 28 then h1.syncAllotted.budgetChanged else if i == 30 || (6 ≤ i && i < 10) then h1.syncSurfaces else h1
    h2.recounted i pause

def execLedgerRecount (i pause : Nat) (items : List (Nat × List Nat)) (s : State) : Host.Outcome State Fault Refusal :=
  actIf (decide (i < 31)) s (fun h => h.recount i pause items)

/-! ### Uncorrectable memory errors (R551–R553) -/

/-- The engine whose program store failed comes back with its slots reloaded. -/
def Hub.engineReturns (h : Hub) (e : Nat) : Hub := (h.set F.SHUNTER.STATE e 0).syncEngine e

/-- What an uncorrectable error does, by memory (R562's codes). unit is the head, landing or Signal Box area (0 journal, 1 a context's,
2 firmware), addr the word address or page, hit what the error struck: a message, a Route entry, an engine, a context, or in the Depot a
scan-out line (2 × line) or a write target's tile (2 × (4,096 × surface + tile) + 1). -/
def Hub.eccUncorrectable (h : Hub) (memory unit addr hit : Nat) : Hub :=
  let h1 := (h.add F.THERMAL.ECC_UNCORRECTABLE 12 1).notify 491 (memory + unit % 16 * 16 + addr % 2 ^ 32 * 2 ^ 16)
  match memory with
  | 1 => h1.loseMessage hit true
  | 3 => if entryType (h1.route hit) == 2 && !bitB (h1.route hit) 4 then h1.clearRoute hit else h1
  | 4 => if hit < 8 then (h1.engineFault hit).engineReturns hit else h1
  | 5 => if unit == 1 && hit < 6 then h1.drawn.resetContext hit (h1.freeVal % 256) else h1
  | 6 =>
    let h2 := if hit % 2 == 0 then h1.underrun (unit % 4) (hit / 2)
      else
        let sf := hit / 2 / 4096 % 1024
        let size := tileBytes (h1.get F.SURFACE.FORMAT sf)
        if h1.get F.SURFACE.STATE sf == 0 then h1 else h1.poke sf (hit / 2 % 4096 * size) (List.replicate size 0)
    h2.retirePage (unit % 4) (addr % 16384)
  | _ => h1

def execEccUncorrectableError (memory unit addr hit : Nat) (s : State) : Host.Outcome State Fault Refusal :=
  actIf (decide (1 ≤ memory ∧ memory ≤ 6)) s (fun h => h.eccUncorrectable memory unit addr hit)

end Sys2Proof.Machine
end

