-- ==== Sys2Proof/Machine/Moments.lean ====
section
/-! DEFINITION. The moments that COMMIT and WAIT name (R136, R140), and what else they bring: quiet points (R191), refills (R293, R294), Timetable
cycles (R302), starts of blanking (R348), network time. -/

namespace Sys2Proof.Machine

/-! ### Network time and COMMIT_TIMEOUT (R136, R140, R87) -/

/-- The epochs that sets and programs wait for. -/
def Hub.epochs (h : Hub) : List Epoch :=
  h.sets.map (fun w => w.epoch) ++ (List.range 6).filterMap (fun n =>
    match h.prog n with
    | some p => (match p.block with | some (.wait e _) => some e | _ => none)
    | none => none)

/-- The earliest kind-3 target comes. -/
def Hub.networkEpoch (h : Hub) : Hub :=
  match h.epochs.filterMap (fun e => match e with | .time t => some t | _ => none) with
  | [] => h
  | a :: rest =>
    let g := h.advanceToNetwork (rest.foldl (fun x y => if diff48 y h.network48 < diff48 x h.network48 then y else x) a)
    g.moment g.timeReached

def execEpochNetworkTime (s : State) : Host.Outcome State Fault Refusal := act s (fun h => h.networkEpoch)

/-- Sets and WAITs of kind 3 that a step of the built-in servo has passed (R377). -/
def Hub.afterServo (h was : Hub) : Hub := if h.get F.CLOCK.STEPS 0 == was.get F.CLOCK.STEPS 0 then h else h.settle.stepped was

def execPtpSync (port : Nat) (msg : List Byte) (s : State) : Host.Outcome State Fault Refusal :=
  actIf (decide (port < 6)) s (fun h => (h.onPtp port msg [0] (fun g t => g.ptpSync port t msg)).afterServo h)

def execPtpFollowUp (port : Nat) (msg : List Byte) (s : State) : Host.Outcome State Fault Refusal :=
  actIf (decide (port < 6)) s (fun h => (h.onPtp port msg [8] (fun g _ => g.ptpFollowUp port msg)).afterServo h)

/-- When COMMIT_TIMEOUT ends the WAIT of a context's program, if it does. -/
def Hub.waitDeadline (h : Hub) (n : Nat) : Option Nat :=
  match h.prog n with
  | some p => match p.block with
    | some (.wait _ d) => some d
    | some (.delay due d) => if d < due then some d else none
    | _ => none
  | none => none

/-- A waiting set's time is over: EPOCH_TIMEOUT with the epoch kind. -/
def Hub.setTimeout (h : Hub) (w : WaitSet) : Hub :=
  let g := ({ h with sets := dropSet w h.sets } : Hub).advanceTo w.deadline
  ((g.discardSet w 7 w.kind []).unblockCommit w.head.ctx).settle

/-- A WAIT's time is over: Z = 0. -/
def Hub.waitTimeout (h : Hub) (n : Nat) : Hub :=
  match h.prog n, h.waitDeadline n with
  | some p, some d => (h.advanceTo d).manifestOn n { p with block := none, z := false }
  | _, _ => h

/-- The first COMMIT_TIMEOUT of a context to pass: of a set whose epoch has not arrived, or of its program's WAIT. -/
def Hub.contextTimeout (h : Hub) (n : Nat) : Hub :=
  match h.sets.filter (fun w => w.head.ctx == n && !w.arrived) with
  | [] => h.waitTimeout n
  | a :: rest =>
    let w := rest.foldl (fun x y => if y.deadline < x.deadline then y else x) a
    match h.waitDeadline n with
    | some d => if d < w.deadline then h.waitTimeout n else h.setTimeout w
    | none => h.setTimeout w

def execCommitTimeoutExpiry (ctx : Nat) (s : State) : Host.Outcome State Fault Refusal :=
  actIf (decide (ctx < 6)) s (fun h => h.contextTimeout ctx)

/-! ### Quiet points (R191, R235–R237, R239) -/

/-- A quiet point: QUIET, closes, the sets that wait for it, then stores and increases left waiting, then the swap that waits. What these send
follows SWAP_REQ, which comes immediately after QUIET; a seal group that QUIET would fill is closed before it. -/
def Hub.quietPoint (h : Hub) (l : Nat) : Hub :=
  if h.lState l != 5 || !h.windowRoom l 4 then h
  else
    let h0 := if 31 ≤ (h.link l).groupCount then h.sendTag l else h
    let h1 := (h0.putCtl l 3 (leBytes 4 (h.link l).quiet)).modLink l (fun k => { k with quiet := (k.quiet + 1) % 2 ^ 32, holdCtl := true })
    let h2 := (h1.quietCloses l).reached (fun e => e == .quiet l) (some l)
    let k := h2.link l
    let h3 := if k.quietStores || k.increases then
        let g := h2.takeQuiet l
        let same := g.get F.LANDING.PAIRS_IN l == h2.get F.LANDING.PAIRS_IN l && g.get F.LANDING.PAIRS_OUT l == h2.get F.LANDING.PAIRS_OUT l
        if k.quietStores && same && !(g.shortfalls l).isEmpty then g.notify (nLanding l 18) (g.allotPayload l true) else g
      else h2
    ((h3.modLink l (fun k => { k with holdCtl := false })).startSwap l).wakeWaits (fun e => e == .quiet l)

def execQuietPoint (l : Nat) (s : State) : Host.Outcome State Fault Refusal := actIf (decide (l < 4)) s (fun h => h.quietPoint l)

/-! ### Refills and the calendar wheel (R293, R294) -/

/-- The waiting epochs a refill of some shapers brings: theirs, and slot boundaries passed. -/
def Hub.refilled (h : Hub) (shapers : List Nat) (e : Epoch) : Bool :=
  match e with
  | .refill n => shapers.contains n
  | .slot t => decide (t ≤ h.now)
  | _ => false

/-- Shapers refill at a moment; the sets of the moment commit before, so that their Refill fields are applied by this refill. -/
def Hub.refillAt (h : Hub) (t : Nat) (shapers : List Nat) : Hub :=
  let g := h.advanceTo t
  let g1 := g.reached (g.refilled shapers) none
  (shapers.foldl (fun x n => x.refillShaper n) g1).wakeWaits (g.refilled shapers)

def execShaperRefill (n : Nat) (s : State) : Host.Outcome State Fault Refusal :=
  actIf (decide (n < 2176)) s (fun h => h.refillAt (slot64 (max h.now (h.refillDue n))) [n])

/-- The shapers entered on a calendar wheel, each with its slot. -/
def Hub.onWheel (h : Hub) : List (Nat × Nat) :=
  h.timers.cells.filterMap (fun c => if c.1 / 2 ^ 20 == T.wheel && c.2 != 0 then some (c.1 % 2 ^ 20, c.2 - 1) else none)

/-- The next wheel slot with a shaper entered there, or that a set or WAIT names. -/
def Hub.wheelSlotExpires (h : Hub) : Hub :=
  let entered := h.onWheel
  match entered.map (fun p => p.2) ++ h.epochs.filterMap (fun e => match e with | .slot t => some t | _ => none) with
  | [] => h
  | a :: rest =>
    let t := rest.foldl min a
    let due := (entered.filter (fun p => p.2 == t)).map (fun p => p.1)
    h.refillAt t due

def execWheelSlotExpiry (s : State) : Host.Outcome State Fault Refusal := act s (fun h => h.wheelSlotExpires)

/-! ### Timetable cycles (R302) -/

/-- A cycle boundary: a pending bank is swapped in, then the sets of the boundary commit. -/
def Hub.cycleBoundary (h : Hub) (y : Nat) : Hub :=
  if !h.on F.TIMETABLE.ENABLE y then h
  else
    let h1 := (h.advanceNetworkBy (h.ttToCycle y)).add F.TIMETABLE.CYCLES y 1
    let h2 := if h1.on F.TIMETABLE.SWAP_PENDING y then h1.ttSwap y else h1
    h2.moment (fun e => e == .cycle y)

def execTimetableCycleBoundary (port : Nat) (s : State) : Host.Outcome State Fault Refusal :=
  actIf (decide (port < 16)) s (fun h => h.cycleBoundary port)

/-! ### What wakes the desk (R569): each of these commands is a wake source of its own -/

def execPong (l : Nat) (s : State) : Host.Outcome State Fault Refusal :=
  onLink (decide (l < 4)) l s (fun h => h.hostFrame l true (fun h1 =>
    if h1.lState l != 0 then h1
    else
      let h2 := h1.modLink l (fun k => { k with pongs := k.pongs + 1 })
      if (h2.link l).pongs < 3 then h2
      else (((h2.modLink l (fun k => { k with pongs := 0, helloTries := 0 })).notify (nLanding l 0) 0).setLState l 1).sendHello l |>.wakeBy l))

def execSidebandWake (l : Nat) (s : State) : Host.Outcome State Fault Refusal :=
  onLink (decide (l < 4)) l s (fun h => h.hostFrame l true (fun g => if g.lState l == 7 then (g.wake l).wakeBy l else g))

def execEthFrameReceived (mac : Nat) (frame : List Byte) (s : State) : Host.Outcome State Fault Refusal :=
  actIf (decide (mac < 2)) s (fun h => 
    if !h.on F.ETHPORT.LINK mac then h
    else if h.forManagement frame then (h.rxFrame mac frame).wakeBy 7 else h.rxFrame mac frame)

/-- Input from a proxied HID device. -/
def Hub.wokenBy (h : Hub) (n : Nat) : Hub := if (h.usb n).proxied then h.wakeBy 8 else h

def execProxyPointerReport (n len : Nat) (absolute : Bool) (x y : Int) (buttons wheel pan : Nat) (s : State) :
    Host.Outcome State Fault Refusal :=
  actIf (decide (n < 8)) s (fun h => (h.pointerInput n len absolute x y buttons wheel pan).wokenBy n)

def execProxyKeyboardReport (n len : Nat) (consumer : Bool) (report : List Byte) (s : State) : Host.Outcome State Fault Refusal :=
  actIf (decide (n < 8)) s (fun h => (h.keyInput n len consumer report).wokenBy n)

def execGpioEdge (levels : Nat) (s : State) : Host.Outcome State Fault Refusal := act s (fun h => (h.gpioEdge levels).wakeBy 9)

/-! ### Blanking and sinks (R348, R360, R568) -/

/-- A start of blanking. In Desk Standby a head stops at the blanking that finds it dark. -/
def Hub.blanking (h : Hub) (n : Nat) : Hub :=
  let counted := h.scanning n && (h.head n).gap == 0 && !(h.head n).inBlank
  let h1 := h.startBlanking n (fun g => g.reached (fun e => e == .blanking n) none)
  let h2 := if counted then h1.wakeWaits (fun e => e == .blanking n) else h1
  if counted && h2.get F.SYSTEM.POWER_STATE 0 == 1 && !(h2.head n).standby then ((h2.headStops n).darkHead n).depotRests else h2

def execStartOfBlanking (head : Nat) (s : State) : Host.Outcome State Fault Refusal := actIf (decide (head < 4)) s (fun h => h.blanking head)

def execSinkAbsent (head : Nat) (s : State) : Host.Outcome State Fault Refusal := actIf (decide (head < 4)) s (fun h => if (h.head head).sink then (h.sinkAbsent head).wakeBy 4 else h)

def execSinkPresent (head caps : Nat) (edid : List Nat) (answered intact : Bool) (s : State) : Host.Outcome State Fault Refusal :=
  actIf (decide (head < 4)) s (fun h =>
    if (h.head head).sink then h else (h.sinkPresent head caps edid answered intact).wakeBy 4)

def execHpdIrq (head : Nat) (lost : Bool) (s : State) : Host.Outcome State Fault Refusal := actIf (decide (head < 4)) s (fun h => h.hpdIrq head lost)

end Sys2Proof.Machine
end

