-- ==== Sys2Proof/Machine/Start.lean ====
section
/-! DEFINITION. Start-up from power-good (R575, R584, R588, R589), and the firmware events that meet it (R528, R534, R538). -/

namespace Sys2Proof.Machine

/-! ### Parts at start (R532, R537, R538, R588) -/

/-- Parts of which nothing runs take the READY image of their other slot, or the image their slot was made with. -/
def Hub.firstImages (h : Hub) (f : StartFacts) : Hub :=
  (List.range 5).foldl (fun g p =>
    let k := g.part p
    if !k.running.isEmpty then g
    else if k.ready then
      (g.modPart p (fun k => { k with running := k.staged, runDigest := digest k.image, staged := [], pieces := {}, ready := false })).set F.UPDATE.RUNNING_SLOT p
        (1 - g.get F.UPDATE.RUNNING_SLOT p)
    else match f.images[p]? with
      | some x => g.modPart p (fun k => { k with running := x.1, runDigest := x.2 })
      | none => g) h

/-- A group that a power-on reset or RESET_N cut short is completed. -/
def Hub.completeGroup (h : Hub) : Hub :=
  match h.activation with
  | none => h
  | some a =>
    let h1 := a.order.foldl (fun g o => g.switchPart o.1 o.2) h
    { h1 with activation := none, boxPaused := false, trialGroups := h1.trialGroups ++ [a.group], startRaises := h1.startRaises ++ [(484, a.group + 2 ^ 8)] }

/-- A copy of the switch record governs: active slots, trial, floors and groups are what it says. -/
def Hub.applySwitch (h : Hub) (c : SwitchCopy) : Hub :=
  let h1 := (List.range 5).foldl (fun (g : Hub) p =>
    let g1 := if c.slots.getD p 0 == g.get F.UPDATE.RUNNING_SLOT p then g
      else (g.modPart p (fun k => { k with running := k.previous, runDigest := k.prevDigest, previous := k.running, prevDigest := k.runDigest })).set
        F.UPDATE.RUNNING_SLOT p (c.slots.getD p 0)
    g1.modPart p (fun k => { k with trial := bitB c.trial p, floor := c.floors.getD p 0 })) h
  { h1 with trialGroups := c.groups, activation := c.activation }

/-- The newest valid copy of the switch record, of those ever written. -/
def Hub.validSwitch (h : Hub) (f : StartFacts) : Option SwitchCopy :=
  let ok (i : Nat) (c : SwitchCopy) : Bool := c.seq != 0 && !f.badSwitch.contains i
  let (a, b) := h.switchCopies
  if ok 0 a && (!ok 1 b || b.seq < a.seq) then some a else if ok 1 b then some b else none

/-- A record kind whose newest ring entry fails goes by the entry before it (R587). -/
def Hub.oldRecords (h : Hub) (f : StartFacts) : Hub :=
  (List.range 5).foldl (fun (g : Hub) p =>
    let e := g.ring.read (fun _ => (default, default)) p
    if !f.badRing.contains p || e.1.seq == 0 || (g.part p).staged != e.1.header then g
    else { g with ring := g.ring.write (fun _ => (default, default)) p (e.2, default) }.modPart p (fun k =>
      { k with staged := e.2.header, pieces := ⟨k.pieces.cells.filter (fun c => e.2.held.contains c.1 && !e.2.header.isEmpty)⟩, ready := false,
               lastNet := e.2.lastNet, powered := e.2.powered })) h

/-- The switch record at a start (R532, R588): the newest valid copy governs. With both copies invalid each part takes the verifying image of the highest SEC_VERSION, then VERSION; what else the
record held is not known. -/
def Hub.rebuildSwitch (h : Hub) (f : StartFacts) : Hub :=
  match h.validSwitch f with
  | some c => h.applySwitch c
  | none =>
    if h.switchCopies.1.seq == 0 && h.switchCopies.2.seq == 0 then h
    else
      let h1 := (List.range 5).foldl (fun g p =>
        let k := g.part p
        let better := hdrSec k.running < hdrSec k.previous || (hdrSec k.running == hdrSec k.previous && hdrVersion k.running < hdrVersion k.previous)
        let take := !k.previous.isEmpty && !f.bad.contains (2 * p + 1) && (f.bad.contains (2 * p) || better)
        let g1 := if take then (g.modPart p (fun k => { k with running := k.previous, runDigest := k.prevDigest, previous := k.running, prevDigest := k.runDigest })).set
            F.UPDATE.RUNNING_SLOT p (1 - g.get F.UPDATE.RUNNING_SLOT p) else g
        g1.drawn.modPart p (fun k => { k with trial := false, floor := g1.freeVal % 2 ^ 32 })) h
      { h1 with trialGroups := [], activation := none }

/-- Whether the image in a part's running slot fails; moved names the parts that have changed slots since the slots were looked at. -/
def imageRuns (f : StartFacts) (moved : List Nat) (p : Nat) : Bool := !f.bad.contains (if moved.contains p then 2 * p + 1 else 2 * p)

/-- Parts whose running image fails take the other slot, and recovery follows where none can: the parts left without a verified image. -/
def Hub.bootParts (h0 : Hub) (f : StartFacts) : Hub × List Nat :=
  let slot0 (p : Nat) : Nat := h0.get F.UPDATE.RUNNING_SLOT p
  let movedIn (g : Hub) : List Nat := (List.range 5).filter (fun p => g.get F.UPDATE.RUNNING_SLOT p != slot0 p)
  let h1 := (((h0.firstImages f).oldRecords f).rebuildSwitch f).completeGroup
  let failing := (h1.inTrial h1.trialMask).filter (fun p => !imageRuns f (movedIn h1) p)
  let h2 := if failing.isEmpty then h1
    else h1.revertGroup ((h1.trialGroups.filter (fun g => failing.any (fun p => bitB g p))).foldl (fun m g => m ||| g) 0) 2
  let all (g : Hub) : List (List Byte) := (List.range 5).map (fun p => (g.part p).running)
  let step (x : Hub × List Nat × List Nat) (p : Nat) : Hub × List Nat × List Nat :=
    let g := x.1
    let m := movedIn g
    let k := g.part p
    if !k.running.isEmpty && imageRuns f m p then x
    else
      let other := !k.previous.isEmpty && !f.bad.contains (if m.contains p then 2 * p else 2 * p + 1)
      if other && allAccept ((all g).set p k.previous) then (g.swapSlots p, x.2.1 ++ [p], x.2.2)
      else (g.modPart p (fun k => { k with running := [], previous := if other then k.previous else [] }), x.2.1, x.2.2 ++ [p])
  let r := (List.range 5).foldl step (h2, [], [])
  let h3 : Hub := if r.2.1.isEmpty then r.1 else { r.1 with startRaises := r.1.startRaises ++ [(485, (r.2.1.map (fun p => 2 ^ p)).sum + 2 ^ 9)] }
  (h3, r.2.2)

/-! ### Keys and measurements at start (R490–R496, R515) -/

/-- 64 blocks of 1,023 bits as 8,184 bytes, block 0 in the lowest bits (DEDUCED, log entry 81). -/
def blockBytes (bs : List Nat) : List Byte := leBytes 8184 (bs.zipIdx.map (fun b => b.1 % 2 ^ 1023 * 2 ^ (1023 * b.2))).sum

/-- The number of bits set among the low n. -/
def onesIn (n v : Nat) : Nat := ((List.range n).filter (fun i => bitB v i)).length

/-- The digest of a copy's content. -/
def HelperCopy.sum (c : HelperCopy) : List Byte := Sys2Proof.Machine.digest (blockBytes c.blocks ++ c.check)

/-- The check value under a root secret. -/
def rootCheck (secret : List Byte) : List Byte := hmac secret (ascii "BJ4800 check")

/-- A copy with its digest and its commit flag, written last. -/
def HelperCopy.written (c : HelperCopy) : HelperCopy := { c with digest := c.sum, committed := true }

/-- A copy that a start finds whole: committed, undamaged, and of its own digest. -/
def HelperCopy.whole (c : HelperCopy) (damaged : Bool) : Bool := c.committed && !damaged && c.digest == c.sum

/-- One block regenerated (steps 1 to 3 of R491): the enrolled block, and how many bits of the present pattern were wrong. -/
def regenBlock (pattern helper : Nat) : Nat × Nat :=
  let w := pattern ^^^ helper
  let c := Config.nearestCodeword w
  (c ^^^ helper, onesIn 1023 (w ^^^ c))

/-- A good copy of the helper record, when there is one. -/
def Hub.goodHelper (h : Hub) (f : StartFacts) : Option HelperCopy :=
  if f.flash.isNone then none
  else if h.helper.1.whole (f.badHelper.contains 0) then some h.helper.1
  else if h.helper.2.whole (f.badHelper.contains 1) then some h.helper.2
  else none

/-- What regeneration from a copy gives: the root secret, the largest number of errors corrected with its block, and why it fails (cause of
NT_KEY_ROOT_FAILED, 0 not at all) with its block. -/
def regenerated (c : HelperCopy) (pattern : List Nat) : List Byte × (Nat × Nat) × (Nat × Nat) :=
  let bs := (List.range 64).map (fun i => regenBlock (pattern.getD i 0) (c.blocks.getD i 0))
  let secret := digest (blockBytes (bs.map (fun b => b.1)))
  let worst := ((bs.map (fun b => b.2)).filter (fun e => e ≤ 57)).foldl max 0
  let fault := match bs.findIdx? (fun b => 57 < b.2) with
    | some i => (2, i)
    | none => if rootCheck secret == c.check then (0, 0) else (3, 0)
  (secret, (worst, (bs.findIdx? (fun b => b.2 == worst)).getD 0), fault)

/-- A first enrolment (R493): random codewords hide the present pattern, and both copies are written. -/
def Hub.enrol (h : Hub) (pattern : List Nat) : Hub × List Byte :=
  let word (i : Nat) : Nat := Config.bchEncode (((List.range 8).map (fun k => (Config.freeValue (h.free + 8 * i + k)).toNat * 2 ^ (64 * k))).sum % 2 ^ 453)
  let secret := digest (blockBytes ((List.range 64).map (fun i => pattern.getD i 0)))
  let c : HelperCopy := { blocks := (List.range 64).map (fun i => word i ^^^ pattern.getD i 0), check := rootCheck secret }
  ({ h with free := h.free + 512, helper := (c.written, c.written) }, secret)

/-- The root secret is taken into the key block, unless TAMPER_N is low (R515) or TAMPER_HOLD holds it back while the latch is set (R516); the
largest number of errors corrected is shown, and reported from 40 on (R494). -/
def Hub.takeRoot (h : Hub) (secret : List Byte) (margin : Nat × Nat) : Hub :=
  let h1 := if 40 ≤ margin.1 then { h with startRaises := h.startRaises ++ [(465, margin.1 * 2 ^ 8 + margin.2 % 64 * 2 ^ 16)] } else h
  let held := h.tamperLow || (h.on F.KEYSLOT.TAMPER_HOLD 0 && h.on F.KEYSLOT.TAMPER_LATCH 0)
  (({ h1 with rootSecret := if held then [] else secret }).set F.KEYSLOT.KEYS_READY 0 (ofB (!held))).set F.KEYSLOT.ROOT_MARGIN 0 margin.1

/-- No root secret: the device starts without keys, and says why except in RETIRED (R492). -/
def Hub.rootFails (h : Hub) (cause block margin : Nat) : Hub :=
  let h1 := if h.get F.KEYSLOT.LC_STATE 0 == 4 then h
    else { h with startRaises := h.startRaises ++ [(464, cause + margin * 2 ^ 8 + block % 64 * 2 ^ 16)] }
  (({ h1 with rootSecret := [] }).set F.KEYSLOT.KEYS_READY 0 0).set F.KEYSLOT.ROOT_MARGIN 0 margin

/-- The root secret is regenerated from the array's pattern, or enrolled, unless that fails (R490–R494). A bad copy of the helper record is replaced. -/
def Hub.regenerate (h : Hub) (f : StartFacts) : Hub :=
  let lc := h.get F.KEYSLOT.LC_STATE 0
  match h.goodHelper f with
  | some c =>
    let mended (k : Nat) (old : HelperCopy) : HelperCopy := if old.whole (f.badHelper.contains k) then old else c.written
    let h1 := { h with helper := (mended 0 h.helper.1, mended 1 h.helper.2) }
    let r := regenerated c f.pattern
    if lc == 4 || r.2.2.1 != 0 then h1.rootFails r.2.2.1 r.2.2.2 r.2.1.1 else h1.takeRoot r.1 r.2.1
  | none =>
    if lc == 0 && !h.rngFault && f.flash.isSome then
      let x := h.enrol f.pattern
      ({ x.1 with startRaises := x.1.startRaises ++ [(466, 0)] }).takeRoot x.2 (0, 0)
    else h.rootFails 1 0 0

/-- M0, and each part before it runs, in the order of loading. -/
def Hub.measureStart (h : Hub) : Hub :=
  let h1 := h.extend 0 (beBytes 48 Config.bootRom.toNat ++ leBytes 1 (h.get F.KEYSLOT.LC_STATE 0))
  ([3, 0, 2, 1, 4].foldl (fun g p => g.extend (p + 1) (g.part p).runDigest) h1).deriveKeys

/-! ### The rest of a start (R575, R579, R584) -/

/-- Events that the feed die recorded during the previous run are raised with this start's notices, and cleared. -/
def Hub.recordedEvents (h : Hub) : Hub :=
  let one (src v : Nat) : List (Nat × Nat) := match v with | 0 => [] | p + 1 => [(src, p)]
  let i := h.island
  let tamper := if h.tamperUnpowered then [(472, 1 + h.get F.KEYSLOT.TAMPER_COUNT 0 * 2 ^ 32)] else []
  let h1 := if h.tamperUnpowered then h.set F.SYSTEM.START_FAULTS 0 (setBit (h.get F.SYSTEM.START_FAULTS 0) 6) else h
  { h1 with startRaises := h1.startRaises ++ one 461 i.f15 ++ one 498 i.overVolt ++ one 495 i.heat ++ tamper, tamperUnpowered := false,
            island := { i with f15 := 0, overVolt := 0, heat := 0 } }

/-- Whether the main die starts from a power-on reset: not from RESET_N or the watchdog (R592). -/
def Hub.fromPowerOn (h : Hub) : Bool := h.get F.SYSTEM.RESET_CAUSE 0 != 2 && h.get F.SYSTEM.RESET_CAUSE 0 != 3

/-- Flash, reference, times and counts. REFSEL's selection holds until the next power-on reset (R368); the life-cycle state is that of the fuses,
those of PROVISIONED with what the factory's test access has blown (R518). -/
def Hub.startFields (h : Hub) (f : StartFacts) : Hub :=
  let h0 := if h.fromPowerOn then h.set F.CLOCK.REF_SOURCE 0 (ofB f.refsel) else h
  let fuses := h0.fuses ||| f.fused % 8
  let h0 := ({ h0 with fuses := fuses }).set F.KEYSLOT.LC_STATE 0 (fusedState fuses)
  let h1 := (h0.add F.SYSTEM.STARTS 0 1).set F.SYSTEM.BOOT_TIME 0 (min f.bootUs (2 ^ 32 - 1))
  let h2 := match f.flash with
    | some x => (h1.set F.SYSTEM.FLASH_ID 0 x.1).set F.SYSTEM.FLASH_SIZE 0 (min x.2 4096)
    | none => h1.set F.SYSTEM.START_FAULTS 0 (setBit (h1.get F.SYSTEM.START_FAULTS 0) 7)
  ({ h2 with clk := max h2.clk ((f.readyUs - f.leadUs) * usec * 65536) }).modIsland (fun i => { i with lead := f.leadUs })

/-- The feed configuration record, when one has been written, is delivered to the feed die, which uses it from the next enable of F15 (R574). -/
def Hub.deliverF15 (h : Hub) : Hub :=
  let r := (List.range 24).map (fun e => h.get F.SYSTEM.F15_CONFIG 0 e)
  if r.all (fun x => x == 0) then h else { h with f15Next := r }

/-- The governor, after a power-on reset from the cold start of R584; the Sprint lifetime of a lost record is the largest. -/
def Hub.startGovernor (h : Hub) (f : StartFacts) : Hub :=
  let h1 := if h.fromPowerOn then ((h.modGov (fun r => { r with ambient := fromTenths (f.hot + 150), fast := 0, slow := 0 })).bar 0 true).armAt T.coldStart 0 (10 * sec - f.leadUs * usec) else h
  let e := h1.ring.read (fun _ => (default, default)) 5
  let h1 := if f.badRing.contains 5 && e.2.seq != 0 then { h1 with ring := h1.ring.write (fun _ => (default, default)) 5 (e.2, default) }.setGov F.THERMAL.SPRINT_LIFETIME e.2.life else h1
  let lost := !f.lifetimeOk || (f.badRing.contains 5 && e.2.seq == 0)
  let h2 := if lost && h1.get F.KEYSLOT.LC_STATE 0 != 0 then h1.setGov F.THERMAL.SPRINT_LIFETIME 7200000 else h1
  if 7200000 ≤ h2.gov F.THERMAL.SPRINT_LIFETIME then h2.bar 2 true else h2

/-- The Knaen Library's programs: the transparent clock in slot 1, the signal processor in slot 2 (R383, R428). -/
def Hub.loadLibrary (h : Hub) : Hub :=
  [(1, 0x0101), (2, 0x0201)].foldl (fun g p =>
    ((g.set F.PROGRAM.STATE p.1 2).set F.PROGRAM.LIB_ID p.1 p.2).set F.PROGRAM.STEP_BOUND p.1 128) h

/-- Intervals counted from power-good or from the data paths' start. -/
def Hub.startTimers (h : Hub) (f : StartFacts) : Hub :=
  let at_ (ms : Nat) : Nat := ms * msec - f.leadUs * usec
  let h1 := (h.armAt T.k0Window 0 (at_ 250)).armAt T.standingToken 0 (at_ 60000)
  let h2 := (((h1.arm T.governor 0 msec).arm T.ledger 0 msec).arm T.sprintWindow 0 (100 * usec)).arm T.poweredTime 0 (3600 * sec)
  let s := h2.get F.UPDATE.AUTO_CONFIRM 0
  let h3 := if !h2.trialGroups.isEmpty && s != 0 then h2.arm T.autoConfirm 0 (s * sec) else h2
  (List.range 5).foldl (fun g p =>
    if (g.part p).staged.isEmpty || (g.part p).ready then g
    else
      let g1 := g.modPart p (fun k => { k with poweredAt := g.now })
      g1.arm T.updateAge p (((30 * 86400 * sec : Nat) : Int) - g1.inactive p).toNat) h3

/-- Standing slots whose record fails its digest are INVALID (R155). -/
def Hub.checkSlots (h : Hub) (bad : List Nat) : Hub :=
  bad.foldl (fun g s => if s < 16 && g.get F.STANDING.STATE s != 0 then g.set F.STANDING.STATE s 2 else g) h

/-- The internal blocks are out of reset as data paths start: their ports Y7…Y15 are up (R259). -/
def Hub.blocksUp (h : Hub) : Hub := (List.range 9).foldl (fun g i => g.set F.YARDPORT.UP (7 + i) 1) h

/-- USB starts with the data paths: port power and the legacy pull-ups follow their fields. -/
def Hub.usbStarts (h : Hub) : Hub :=
  (List.range 4).foldl (fun (g : Hub) l => g.legacyPullUp l) ((List.range 8).foldl (fun (g : Hub) n => g.usbFeed n) h)

/-- Start-up as far as the start of replay, or recovery (R589). -/
def Hub.startUp (h : Hub) (f : StartFacts) : Hub :=
  if h.get F.SYSTEM.START_STATE 0 != 0 then h
  else
    let h1 := (h.startFields f).recordedEvents.regenerate f
    let b := h1.bootParts f
    let h2 := ((List.range 5).foldl (fun (g : Hub) p => g.syncPart p) b.1).keepSwitch
    if f.flash.isNone || !b.2.isEmpty then
      ({ h2 with replayPos := 16 }.armAt T.k0Window 0 (250 * msec - f.leadUs * usec)).set F.SYSTEM.START_STATE 0 4
    else
      let h3 := (((h2.measureStart.deliverF15).startGovernor f).loadLibrary.startTimers f).checkSlots f.badSlots
      let h4 := (List.range 31).foldl (fun g i => g.set F.LEDGER.STATE i 1) h3
      { ((List.range 6).foldl (fun (g : Hub) i => g.ptpEnable i) h4.blocksUp).syncTable1.usbStarts with replayPos := 0 }.set F.SYSTEM.START_STATE 0 2

def execStartUp (facts : StartFacts) (s : State) : Host.Outcome State Fault Refusal := act s (fun h => h.startUp facts)

/-! ### Firmware events -/

/-- Whether a slot of a part holds a verified image. -/
def Hub.verified (h : Hub) (p : Nat) : Bool := !(h.part p).running.isEmpty || !(h.part p).previous.isEmpty || (h.part p).ready

/-- A piece is programmed, or flash has failed on it. In recovery the device restarts as by RESET_N once every part has a verified image. -/
def execPieceProgrammed (p : Nat) (ok : Bool) (s : State) : Host.Outcome State Fault Refusal :=
  actIf (decide (p < 5)) s (fun h =>
    let h1 := h.pieceProgrammed p ok
    if h1.get F.SYSTEM.START_STATE 0 == 4 && (h1.part p).ready && (List.range 5).all h1.verified then (h1.dieDown true).dieRelease 2 else h1)

end Sys2Proof.Machine
end

