-- ==== Sys2Proof/Machine/Dispatch.lean ====
section
/-! DEFINITION. The dispatch: one arm per command, each one direct call of its meaning. -/

namespace Sys2Proof.Machine

/-- What a command does to the machine: its effect on everything but the queue. -/
def exec (i : Instr) (s : State) : Host.Outcome State Fault Refusal :=
  match i with
  | .halt p wd wa wb func => Sys2Proof.Machine.execHalt p wd wa wb func s
  | .nop p wd wa wb func => Sys2Proof.Machine.execNop p wd wa wb func s
  | .lit p wd wa imm => Sys2Proof.Machine.execLit p wd wa imm s
  | .litw p wd wa imm => Sys2Proof.Machine.execLitw p wd wa imm s
  | .mov p wd wa wb func => Sys2Proof.Machine.execMov p wd wa wb func s
  | .add p wd wa wb func => Sys2Proof.Machine.execAdd p wd wa wb func s
  | .addi p wd wa imm => Sys2Proof.Machine.execAddi p wd wa imm s
  | .sub p wd wa wb func => Sys2Proof.Machine.execSub p wd wa wb func s
  | .mul p wd wa wb func => Sys2Proof.Machine.execMul p wd wa wb func s
  | .mulh p wd wa wb func => Sys2Proof.Machine.execMulh p wd wa wb func s
  | .mulhu p wd wa wb func => Sys2Proof.Machine.execMulhu p wd wa wb func s
  | .and p wd wa wb func => Sys2Proof.Machine.execAnd p wd wa wb func s
  | .or p wd wa wb func => Sys2Proof.Machine.execOr p wd wa wb func s
  | .xor p wd wa wb func => Sys2Proof.Machine.execXor p wd wa wb func s
  | .andi p wd wa imm => Sys2Proof.Machine.execAndi p wd wa imm s
  | .ori p wd wa imm => Sys2Proof.Machine.execOri p wd wa imm s
  | .shl p wd wa wb func => Sys2Proof.Machine.execShl p wd wa wb func s
  | .shr p wd wa wb func => Sys2Proof.Machine.execShr p wd wa wb func s
  | .sar p wd wa wb func => Sys2Proof.Machine.execSar p wd wa wb func s
  | .min p wd wa wb func => Sys2Proof.Machine.execMin p wd wa wb func s
  | .minu p wd wa wb func => Sys2Proof.Machine.execMinu p wd wa wb func s
  | .max p wd wa wb func => Sys2Proof.Machine.execMax p wd wa wb func s
  | .maxu p wd wa wb func => Sys2Proof.Machine.execMaxu p wd wa wb func s
  | .cmp p wd wa wb func => Sys2Proof.Machine.execCmp p wd wa wb func s
  | .br p cond wa offset => Sys2Proof.Machine.execBr p cond wa offset s
  | .call p cond wa offset => Sys2Proof.Machine.execCall p cond wa offset s
  | .ret p cond wa offset => Sys2Proof.Machine.execRet p cond wa offset s
  | .executeReservedOpcode p opcode rest => Sys2Proof.Machine.execExecuteReservedOpcode p opcode rest s
  | .openObject p wd wa imm => Sys2Proof.Machine.execOpenObject p wd wa imm s
  | .get p wv wh field modifier => Sys2Proof.Machine.execGet p wv wh field modifier s
  | .gets p wv wh field modifier => Sys2Proof.Machine.execGets p wv wh field modifier s
  | .set p wv wh field modifier => Sys2Proof.Machine.execSet p wv wh field modifier s
  | .setx p wv wh field modifier => Sys2Proof.Machine.execSetx p wv wh field modifier s
  | .setm p wv wh field modifier => Sys2Proof.Machine.execSetm p wv wh field modifier s
  | .commitNow p wa wb index => Sys2Proof.Machine.execCommitNow p wa wb index s
  | .commitRefill p wa wb index => Sys2Proof.Machine.execCommitRefill p wa wb index s
  | .commitBlanking p wa wb index => Sys2Proof.Machine.execCommitBlanking p wa wb index s
  | .commitTime p wa wb index => Sys2Proof.Machine.execCommitTime p wa wb index s
  | .commitCycle p wa wb index => Sys2Proof.Machine.execCommitCycle p wa wb index s
  | .commitQuiet p wa wb index => Sys2Proof.Machine.execCommitQuiet p wa wb index s
  | .commitReservedKind p wa wb kind index => Sys2Proof.Machine.execCommitReservedKind p wa wb kind index s
  | .abandon p wd wa wb func => Sys2Proof.Machine.execAbandon p wd wa wb func s
  | .waitNow p wa wb index => Sys2Proof.Machine.execWaitNow p wa wb index s
  | .waitRefill p wa wb index => Sys2Proof.Machine.execWaitRefill p wa wb index s
  | .waitBlanking p wa wb index => Sys2Proof.Machine.execWaitBlanking p wa wb index s
  | .waitTime p wa wb index => Sys2Proof.Machine.execWaitTime p wa wb index s
  | .waitCycle p wa wb index => Sys2Proof.Machine.execWaitCycle p wa wb index s
  | .waitQuiet p wa wb index => Sys2Proof.Machine.execWaitQuiet p wa wb index s
  | .waitDelay p wa wb kind index => Sys2Proof.Machine.execWaitDelay p wa wb kind index s
  | .waitDelayExpiry ctx => Sys2Proof.Machine.execWaitDelayExpiry ctx s
  | .own p wd wa imm => Sys2Proof.Machine.execOwn p wd wa imm s
  | .ownForce p wd wa imm => Sys2Proof.Machine.execOwnForce p wd wa imm s
  | .yield p wd wa imm => Sys2Proof.Machine.execYield p wd wa imm s
  | .yieldForce p wd wa imm => Sys2Proof.Machine.execYieldForce p wd wa imm s
  | .note p wd wa wb func => Sys2Proof.Machine.execNote p wd wa wb func s
  | .timeLocal p wd wa wb func => Sys2Proof.Machine.execTimeLocal p wd wa wb func s
  | .timeNetwork p wd wa wb func => Sys2Proof.Machine.execTimeNetwork p wd wa wb func s
  | .xfer p wa wb kind index => Sys2Proof.Machine.execXfer p wa wb kind index s
  | .xferDone ctx => Sys2Proof.Machine.execXferDone ctx s
  | .release p wd wa wb func => Sys2Proof.Machine.execRelease p wd wa wb func s
  | .ext p wd wa wb func => Sys2Proof.Machine.execExt p wd wa wb func s
  | .ins p wd wa wb func => Sys2Proof.Machine.execIns p wd wa wb func s
  | .scale p wd wa wb func => Sys2Proof.Machine.execScale p wd wa wb func s
  | .look p wd wa wb func => Sys2Proof.Machine.execLook p wd wa wb func s
  | .fwd p wa wb kind index => Sys2Proof.Machine.execFwd p wa wb kind index s
  | .fwdReplace p wa wb kind index => Sys2Proof.Machine.execFwdReplace p wa wb kind index s
  | .drop p wd wa wb func => Sys2Proof.Machine.execDrop p wd wa wb func s
  | .mirr p wa wb kind index => Sys2Proof.Machine.execMirr p wa wb kind index s
  | .stamp p wa wb kind index => Sys2Proof.Machine.execStamp p wa wb kind index s
  | .stampEgress p wa wb kind index => Sys2Proof.Machine.execStampEgress p wa wb kind index s
  | .corr p wa wb kind index => Sys2Proof.Machine.execCorr p wa wb kind index s
  | .csumCompute p wd wa wb func => Sys2Proof.Machine.execCsumCompute p wd wa wb func s
  | .csumFix p wd wa wb func => Sys2Proof.Machine.execCsumFix p wd wa wb func s
  | .emit p wa wb kind index => Sys2Proof.Machine.execEmit p wa wb kind index s
  | .count p wa wb kind index => Sys2Proof.Machine.execCount p wa wb kind index s
  | .shunterProgramStart engine thread => Sys2Proof.Machine.execShunterProgramStart engine thread s
  | .helloMessage ch msg => Sys2Proof.Machine.execHelloMessage ch msg s
  | .manifestMessage ch msg => Sys2Proof.Machine.execManifestMessage ch msg s
  | .manifestStart ctx => Sys2Proof.Machine.execManifestStart ctx s
  | .peekMessage ch msg => Sys2Proof.Machine.execPeekMessage ch msg s
  | .localWriteInboundFifo data => Sys2Proof.Machine.execLocalWriteInboundFifo data s
  | .localReadOutboundFifo count => Sys2Proof.Machine.execLocalReadOutboundFifo count s
  | .localReadStatus => Sys2Proof.Machine.execLocalReadStatus s
  | .epochNetworkTime => Sys2Proof.Machine.execEpochNetworkTime s
  | .commitTimeoutExpiry ctx => Sys2Proof.Machine.execCommitTimeoutExpiry ctx s
  | .standingReplay => Sys2Proof.Machine.execStandingReplay s
  | .standingClear ctx slot => Sys2Proof.Machine.execStandingClear ctx slot s
  | .standingTokenTimeout => Sys2Proof.Machine.execStandingTokenTimeout s
  | .k0WindowEnd => Sys2Proof.Machine.execK0WindowEnd s
  | .noticeCollectorRound ctx => Sys2Proof.Machine.execNoticeCollectorRound ctx s
  | .noticeEntryTaken ctx => Sys2Proof.Machine.execNoticeEntryTaken ctx s
  | .feedLinkFrame frame => Sys2Proof.Machine.execFeedLinkFrame frame s
  | .feedLinkHoldEntry => Sys2Proof.Machine.execFeedLinkHoldEntry s
  | .paceBelowFloor => Sys2Proof.Machine.execPaceBelowFloor s
  | .avsStartAbsent => Sys2Proof.Machine.execAvsStartAbsent s
  | .avsCommandTimeout => Sys2Proof.Machine.execAvsCommandTimeout s
  | .avsReadbackFault sense readback => Sys2Proof.Machine.execAvsReadbackFault sense readback s
  | .vcoreOvervoltage sense => Sys2Proof.Machine.execVcoreOvervoltage sense s
  | .vcoreOvervoltageTrip sense => Sys2Proof.Machine.execVcoreOvervoltageTrip sense s
  | .sidebandPoll l => Sys2Proof.Machine.execSidebandPoll l s
  | .sidebandUnplug l => Sys2Proof.Machine.execSidebandUnplug l s
  | .pong l => Sys2Proof.Machine.execPong l s
  | .sidebandBadFrame l => Sys2Proof.Machine.execSidebandBadFrame l s
  | .linkHello l body => Sys2Proof.Machine.execLinkHello l body s
  | .linkHelloTimeout l => Sys2Proof.Machine.execLinkHelloTimeout l s
  | .linkSelectEcho l body => Sys2Proof.Machine.execLinkSelectEcho l body s
  | .sidebandWake l => Sys2Proof.Machine.execSidebandWake l s
  | .trainingStart l => Sys2Proof.Machine.execTrainingStart l s
  | .trainingComplete l allotted reversed eyes => Sys2Proof.Machine.execTrainingComplete l allotted reversed eyes s
  | .trainingRetryTimer l => Sys2Proof.Machine.execTrainingRetryTimer l s
  | .alignComplete l => Sys2Proof.Machine.execAlignComplete l s
  | .alignTimeout l => Sys2Proof.Machine.execAlignTimeout l s
  | .retrainComplete l results => Sys2Proof.Machine.execRetrainComplete l results s
  | .dataFlit l pair fec flit => Sys2Proof.Machine.execDataFlit l pair fec flit s
  | .idleFlit l pair fec flit => Sys2Proof.Machine.execIdleFlit l pair fec flit s
  | .ackFlit l pair fec flit => Sys2Proof.Machine.execAckFlit l pair fec flit s
  | .tagFlit l pair fec flit => Sys2Proof.Machine.execTagFlit l pair fec flit s
  | .swapAck l pair fec flit => Sys2Proof.Machine.execSwapAck l pair fec flit s
  | .swapNak l pair fec flit => Sys2Proof.Machine.execSwapNak l pair fec flit s
  | .swapDone l pair fec flit => Sys2Proof.Machine.execSwapDone l pair fec flit s
  | .swapEosReceived l => Sys2Proof.Machine.execSwapEosReceived l s
  | .swapPairLocked l => Sys2Proof.Machine.execSwapPairLocked l s
  | .swapAckTimeout l => Sys2Proof.Machine.execSwapAckTimeout l s
  | .swapLockTimeout l restored => Sys2Proof.Machine.execSwapLockTimeout l restored s
  | .rekeyFlit l pair fec flit => Sys2Proof.Machine.execRekeyFlit l pair fec flit s
  | .rekeyFlitLimit l => Sys2Proof.Machine.execRekeyFlitLimit l s
  | .idleReq l pair fec flit => Sys2Proof.Machine.execIdleReq l pair fec flit s
  | .idleAck l pair fec flit => Sys2Proof.Machine.execIdleAck l pair fec flit s
  | .sleepReq l pair fec flit => Sys2Proof.Machine.execSleepReq l pair fec flit s
  | .retrainReq l pair fec flit => Sys2Proof.Machine.execRetrainReq l pair fec flit s
  | .pairOut l pair fec flit => Sys2Proof.Machine.execPairOut l pair fec flit s
  | .pairJoin l pair fec flit => Sys2Proof.Machine.execPairJoin l pair fec flit s
  | .resync l pair fec flit => Sys2Proof.Machine.execResync l pair fec flit s
  | .reservedControlFlit l pair fec flit => Sys2Proof.Machine.execReservedControlFlit l pair fec flit s
  | .ackTimer l => Sys2Proof.Machine.execAckTimer l s
  | .nakTimer l => Sys2Proof.Machine.execNakTimer l s
  | .replayTimer l => Sys2Proof.Machine.execReplayTimer l s
  | .sealGroupTimer l => Sys2Proof.Machine.execSealGroupTimer l s
  | .flitTransmit l => Sys2Proof.Machine.execFlitTransmit l s
  | .quietPoint l => Sys2Proof.Machine.execQuietPoint l s
  | .demandWindow l load => Sys2Proof.Machine.execDemandWindow l load s
  | .allotRetryTimer l => Sys2Proof.Machine.execAllotRetryTimer l s
  | .pairFailure l pair cause => Sys2Proof.Machine.execPairFailure l pair cause s
  | .soloRetrainTimer pair => Sys2Proof.Machine.execSoloRetrainTimer pair s
  | .soloRetrainDone pair results => Sys2Proof.Machine.execSoloRetrainDone pair results s
  | .lidleEntryTimer l => Sys2Proof.Machine.execLidleEntryTimer l s
  | .lidleExit l => Sys2Proof.Machine.execLidleExit l s
  | .authInit ch pair fec data => Sys2Proof.Machine.execAuthInit ch pair fec data s
  | .authProof ch pair fec data => Sys2Proof.Machine.execAuthProof ch pair fec data s
  | .authGo ch pair fec data => Sys2Proof.Machine.execAuthGo ch pair fec data s
  | .authAbort ch pair fec data => Sys2Proof.Machine.execAuthAbort ch pair fec data s
  | .authTimeout ch => Sys2Proof.Machine.execAuthTimeout ch s
  | .creditStallTimer l cls => Sys2Proof.Machine.execCreditStallTimer l cls s
  | .detectEnableCommit ctx l value => Sys2Proof.Machine.execDetectEnableCommit ctx l value s
  | .landingRekeyCommit ctx l => Sys2Proof.Machine.execLandingRekeyCommit ctx l s
  | .allotInChange ctx l value => Sys2Proof.Machine.execAllotInChange ctx l value s
  | .pairEnableChange ctx pair value => Sys2Proof.Machine.execPairEnableChange ctx pair value s
  | .ceilingWindow l slot => Sys2Proof.Machine.execCeilingWindow l slot s
  | .guestAllowClear ctx inst => Sys2Proof.Machine.execGuestAllowClear ctx inst s
  | .networkFrame l slot msg => Sys2Proof.Machine.execNetworkFrame l slot msg s
  | .cellMatch => Sys2Proof.Machine.execCellMatch s
  | .egressSelect port unit => Sys2Proof.Machine.execEgressSelect port unit s
  | .yardPortDown port unit => Sys2Proof.Machine.execYardPortDown port unit s
  | .yardPortUp port unit => Sys2Proof.Machine.execYardPortUp port unit s
  | .yardFlush port unit => Sys2Proof.Machine.execYardFlush port unit s
  | .incastTimer output => Sys2Proof.Machine.execIncastTimer output s
  | .backpressureTimer voq => Sys2Proof.Machine.execBackpressureTimer voq s
  | .learnAgeExpiry entry => Sys2Proof.Machine.execLearnAgeExpiry entry s
  | .shunterDispatch => Sys2Proof.Machine.execShunterDispatch s
  | .shunterEngineFault engine => Sys2Proof.Machine.execShunterEngineFault engine s
  | .shunterDisable ctx engine => Sys2Proof.Machine.execShunterDisable ctx engine s
  | .programLoad ctx slot stores => Sys2Proof.Machine.execProgramLoad ctx slot stores s
  | .programUnload ctx slot => Sys2Proof.Machine.execProgramUnload ctx slot s
  | .shaperRefill n => Sys2Proof.Machine.execShaperRefill n s
  | .wheelSlotExpiry => Sys2Proof.Machine.execWheelSlotExpiry s
  | .timetableEntryBoundary port => Sys2Proof.Machine.execTimetableEntryBoundary port s
  | .timetableCycleBoundary port => Sys2Proof.Machine.execTimetableCycleBoundary port s
  | .timetableCommit ctx port stores => Sys2Proof.Machine.execTimetableCommit ctx port stores s
  | .launchTimeReached leaf => Sys2Proof.Machine.execLaunchTimeReached leaf s
  | .ethFrameReceived mac frame => Sys2Proof.Machine.execEthFrameReceived mac frame s
  | .pauseReceived mac frame => Sys2Proof.Machine.execPauseReceived mac frame s
  | .pauseWatchdogExpiry mac => Sys2Proof.Machine.execPauseWatchdogExpiry mac s
  | .pauseHonourResume mac => Sys2Proof.Machine.execPauseHonourResume mac s
  | .stormWindow mac => Sys2Proof.Machine.execStormWindow mac s
  | .ethLinkChange mac isUp speed fault => Sys2Proof.Machine.execEthLinkChange mac isUp speed fault s
  | .mdioRequest ctx mac value => Sys2Proof.Machine.execMdioRequest ctx mac value s
  | .mdioDone mac answered data => Sys2Proof.Machine.execMdioDone mac answered data s
  | .surfaceWrite l slot msg => Sys2Proof.Machine.execSurfaceWrite l slot msg s
  | .tileDelta l slot msg => Sys2Proof.Machine.execTileDelta l slot msg s
  | .present l slot msg => Sys2Proof.Machine.execPresent l slot msg s
  | .turnJob l slot msg => Sys2Proof.Machine.execTurnJob l slot msg s
  | .turnJobDone l => Sys2Proof.Machine.execTurnJobDone l s
  | .cloneCopyDone layer => Sys2Proof.Machine.execCloneCopyDone layer s
  | .cloneStart ctx layer source stores => Sys2Proof.Machine.execCloneStart ctx layer source stores s
  | .surfaceAllocate ctx surface stores => Sys2Proof.Machine.execSurfaceAllocate ctx surface stores s
  | .surfaceFree ctx surface => Sys2Proof.Machine.execSurfaceFree ctx surface s
  | .layerSurfaceStore ctx layer surface => Sys2Proof.Machine.execLayerSurfaceStore ctx layer surface s
  | .startOfBlanking head => Sys2Proof.Machine.execStartOfBlanking head s
  | .scanoutStart ctx head => Sys2Proof.Machine.execScanoutStart ctx head s
  | .modeRestartDone head us => Sys2Proof.Machine.execModeRestartDone head us s
  | .frameStart head => Sys2Proof.Machine.execFrameStart head s
  | .lineMatch head => Sys2Proof.Machine.execLineMatch head s
  | .frameDone head => Sys2Proof.Machine.execFrameDone head s
  | .lineUnderrun head line => Sys2Proof.Machine.execLineUnderrun head line s
  | .sinkAbsent head => Sys2Proof.Machine.execSinkAbsent head s
  | .sinkPresent head caps edid answered intact => Sys2Proof.Machine.execSinkPresent head caps edid answered intact s
  | .hpdIrq head lost => Sys2Proof.Machine.execHpdIrq head lost s
  | .dpTrainingDone head ok => Sys2Proof.Machine.execDpTrainingDone head ok s
  | .dpTrainRetry head => Sys2Proof.Machine.execDpTrainRetry head s
  | .refLost => Sys2Proof.Machine.execRefLost s
  | .refRestored ms => Sys2Proof.Machine.execRefRestored ms s
  | .ptpSync port msg => Sys2Proof.Machine.execPtpSync port msg s
  | .ptpFollowUp port msg => Sys2Proof.Machine.execPtpFollowUp port msg s
  | .ptpDelayReq port msg => Sys2Proof.Machine.execPtpDelayReq port msg s
  | .ptpDelayResp port msg => Sys2Proof.Machine.execPtpDelayResp port msg s
  | .ptpPdelayReq port msg => Sys2Proof.Machine.execPtpPdelayReq port msg s
  | .ptpPdelayResp port msg => Sys2Proof.Machine.execPtpPdelayResp port msg s
  | .ptpAnnounce port msg => Sys2Proof.Machine.execPtpAnnounce port msg s
  | .ptpUnsupported port msg => Sys2Proof.Machine.execPtpUnsupported port msg s
  | .ptpSyncTxTimer port => Sys2Proof.Machine.execPtpSyncTxTimer port s
  | .ptpPdelayTxTimer port => Sys2Proof.Machine.execPtpPdelayTxTimer port s
  | .ptpAnnounceTxTimer port => Sys2Proof.Machine.execPtpAnnounceTxTimer port s
  | .syncLossTimeout => Sys2Proof.Machine.execSyncLossTimeout s
  | .clockStep ctx ns force => Sys2Proof.Machine.execClockStep ctx ns force s
  | .rateChange ctx rate => Sys2Proof.Machine.execRateChange ctx rate s
  | .hostLockCommit ctx value => Sys2Proof.Machine.execHostLockCommit ctx value s
  | .triggerArm ctx trigger stores => Sys2Proof.Machine.execTriggerArm ctx trigger stores s
  | .triggerFire trigger => Sys2Proof.Machine.execTriggerFire trigger s
  | .cuePulseEnd cue => Sys2Proof.Machine.execCuePulseEnd cue s
  | .ppsPulse => Sys2Proof.Machine.execPpsPulse s
  | .ppsPulseEnd => Sys2Proof.Machine.execPpsPulseEnd s
  | .storageTlpFromHost l slot msg => Sys2Proof.Machine.execStorageTlpFromHost l slot msg s
  | .storageTlpFromSlot n tlp => Sys2Proof.Machine.execStorageTlpFromSlot n tlp s
  | .slotPresence n => Sys2Proof.Machine.execSlotPresence n s
  | .slotPowerGood n => Sys2Proof.Machine.execSlotPowerGood n s
  | .slotPerstRelease n => Sys2Proof.Machine.execSlotPerstRelease n s
  | .slotLinkUp n gen width mps => Sys2Proof.Machine.execSlotLinkUp n gen width mps s
  | .slotTrainTimeout n => Sys2Proof.Machine.execSlotTrainTimeout n s
  | .slotEnableChange ctx n value => Sys2Proof.Machine.execSlotEnableChange ctx n value s
  | .surpriseRemoval n => Sys2Proof.Machine.execSurpriseRemoval n s
  | .slotLinkDown n => Sys2Proof.Machine.execSlotLinkDown n s
  | .postedWriteAck n count => Sys2Proof.Machine.execPostedWriteAck n count s
  | .cplTimeout n toHost => Sys2Proof.Machine.execCplTimeout n toHost s
  | .handoverDrainEnd n => Sys2Proof.Machine.execHandoverDrainEnd n s
  | .handoverPerstEnd n => Sys2Proof.Machine.execHandoverPerstEnd n s
  | .holdDeferEnd l => Sys2Proof.Machine.execHoldDeferEnd l s
  | .farBusLockTimeout n => Sys2Proof.Machine.execFarBusLockTimeout n s
  | .access l slot msg => Sys2Proof.Machine.execAccess l slot msg s
  | .branchTransactionDone n status cause pieces data => Sys2Proof.Machine.execBranchTransactionDone n status cause pieces data s
  | .canFrameReceived n addr data remote => Sys2Proof.Machine.execCanFrameReceived n addr data remote s
  | .canTxPeriod n frame => Sys2Proof.Machine.execCanTxPeriod n frame s
  | .canErrorState n st tec rec_ => Sys2Proof.Machine.execCanErrorState n st tec rec_ s
  | .i2cPoll entry => Sys2Proof.Machine.execI2cPoll entry s
  | .signalsFlushTimer l slot => Sys2Proof.Machine.execSignalsFlushTimer l slot s
  | .signalSet l slot msg => Sys2Proof.Machine.execSignalSet l slot msg s
  | .signalEnable ctx entry stores => Sys2Proof.Machine.execSignalEnable ctx entry stores s
  | .gpioEdge levels => Sys2Proof.Machine.execGpioEdge levels s
  | .i2cTargetWrite n reg data => Sys2Proof.Machine.execI2cTargetWrite n reg data s
  | .i2cTargetRead n reg len => Sys2Proof.Machine.execI2cTargetRead n reg len s
  | .targetReply l slot msg => Sys2Proof.Machine.execTargetReply l slot msg s
  | .targetReplyTimeout n reg => Sys2Proof.Machine.execTargetReplyTimeout n reg s
  | .splitHoldExpiry n reg => Sys2Proof.Machine.execSplitHoldExpiry n reg s
  | .i2cRecoveryRetry n recovered => Sys2Proof.Machine.execI2cRecoveryRetry n recovered s
  | .branchModeCommit ctx n stores => Sys2Proof.Machine.execBranchModeCommit ctx n stores s
  | .canTxPeriodCommit ctx n frame period => Sys2Proof.Machine.execCanTxPeriodCommit ctx n frame period s
  | .usbPowered n => Sys2Proof.Machine.execUsbPowered n s
  | .usbConnect n speed => Sys2Proof.Machine.execUsbConnect n speed s
  | .usbDisconnect n => Sys2Proof.Machine.execUsbDisconnect n s
  | .usbBounceHoldEnd n => Sys2Proof.Machine.execUsbBounceHoldEnd n s
  | .portReset ctx n => Sys2Proof.Machine.execPortReset ctx n s
  | .usbResetDone n outcome speed refusal vid pid cls => Sys2Proof.Machine.execUsbResetDone n outcome speed refusal vid pid cls s
  | .portSuspend ctx n => Sys2Proof.Machine.execPortSuspend ctx n s
  | .portResume ctx n deviceK => Sys2Proof.Machine.execPortResume ctx n deviceK s
  | .usbResumeDone n => Sys2Proof.Machine.execUsbResumeDone n s
  | .portPower ctx n want => Sys2Proof.Machine.execPortPower ctx n want s
  | .portEnableClear ctx n => Sys2Proof.Machine.execPortEnableClear ctx n s
  | .portTest ctx n mode => Sys2Proof.Machine.execPortTest ctx n mode s
  | .usbDeviceWake n => Sys2Proof.Machine.execUsbDeviceWake n s
  | .usbBabble n index => Sys2Proof.Machine.execUsbBabble n index s
  | .usbModeChange ctx n mode => Sys2Proof.Machine.execUsbModeChange ctx n mode s
  | .transfer l slot need msg => Sys2Proof.Machine.execTransfer l slot need msg s
  | .transferDone n index status actual data lens => Sys2Proof.Machine.execTransferDone n index status actual data lens s
  | .cancel l slot msg => Sys2Proof.Machine.execCancel l slot msg s
  | .busSuspend l slot msg => Sys2Proof.Machine.execBusSuspend l slot msg s
  | .busResume l slot msg => Sys2Proof.Machine.execBusResume l slot msg s
  | .busReset l slot msg => Sys2Proof.Machine.execBusReset l slot msg s
  | .proxyPointerReport n len absolute x y buttons wheel pan => Sys2Proof.Machine.execProxyPointerReport n len absolute x y buttons wheel pan s
  | .proxyKeyboardReport n len consumer report => Sys2Proof.Machine.execProxyKeyboardReport n len consumer report s
  | .legacyBusReset l stage speed outCut inCut => Sys2Proof.Machine.execLegacyBusReset l stage speed outCut inCut s
  | .legacySuspend l => Sys2Proof.Machine.execLegacySuspend l s
  | .legacyResume l => Sys2Proof.Machine.execLegacyResume l s
  | .legacyWakeSignal l hostFirst => Sys2Proof.Machine.execLegacyWakeSignal l hostFirst s
  | .legacyIdleReset l => Sys2Proof.Machine.execLegacyIdleReset l s
  | .legacyEnableChange ctx l value => Sys2Proof.Machine.execLegacyEnableChange ctx l value s
  | .getStatus l fn setup => Sys2Proof.Machine.execGetStatus l fn setup s
  | .clearFeature l fn setup => Sys2Proof.Machine.execClearFeature l fn setup s
  | .setFeature l fn setup => Sys2Proof.Machine.execSetFeature l fn setup s
  | .setAddress l fn setup => Sys2Proof.Machine.execSetAddress l fn setup s
  | .getDescriptor l fn setup => Sys2Proof.Machine.execGetDescriptor l fn setup s
  | .getConfiguration l fn setup => Sys2Proof.Machine.execGetConfiguration l fn setup s
  | .setConfiguration l fn setup => Sys2Proof.Machine.execSetConfiguration l fn setup s
  | .getInterface l fn setup => Sys2Proof.Machine.execGetInterface l fn setup s
  | .setInterface l fn setup => Sys2Proof.Machine.execSetInterface l fn setup s
  | .clearTtBuffer l fn setup => Sys2Proof.Machine.execClearTtBuffer l fn setup s
  | .resetTt l fn setup => Sys2Proof.Machine.execResetTt l fn setup s
  | .unsupportedRequest l fn setup data => Sys2Proof.Machine.execUnsupportedRequest l fn setup data s
  | .feedEvaluation samples vhv => Sys2Proof.Machine.execFeedEvaluation samples vhv s
  | .fastTrip n amps => Sys2Proof.Machine.execFastTrip n amps s
  | .feedRetryTimer n => Sys2Proof.Machine.execFeedRetryTimer n s
  | .feedRetryCountReset n => Sys2Proof.Machine.execFeedRetryCountReset n s
  | .latchClear ctx n => Sys2Proof.Machine.execLatchClear ctx n s
  | .measurementRecord => Sys2Proof.Machine.execMeasurementRecord s
  | .powerReq l body => Sys2Proof.Machine.execPowerReq l body s
  | .powerAck l body => Sys2Proof.Machine.execPowerAck l body s
  | .powerReduceTimeout l => Sys2Proof.Machine.execPowerReduceTimeout l s
  | .chargeBudgetCommit ctx value => Sys2Proof.Machine.execChargeBudgetCommit ctx value s
  | .rngFault test => Sys2Proof.Machine.execRngFault test s
  | .rngRecovered => Sys2Proof.Machine.execRngRecovered s
  | .attestReq ch msg => Sys2Proof.Machine.execAttestReq ch msg s
  | .mgmtSealedDatagram mac frames => Sys2Proof.Machine.execMgmtSealedDatagram mac frames s
  | .mgmtSessionIdle => Sys2Proof.Machine.execMgmtSessionIdle s
  | .sealedMessage l msg => Sys2Proof.Machine.execSealedMessage l msg s
  | .keyslotClaim ctx k kind => Sys2Proof.Machine.execKeyslotClaim ctx k kind s
  | .keyslotHmac ctx k input => Sys2Proof.Machine.execKeyslotHmac ctx k input s
  | .keyslotSign ctx k input => Sys2Proof.Machine.execKeyslotSign ctx k input s
  | .keyslotOpDone k => Sys2Proof.Machine.execKeyslotOpDone k s
  | .measureExtend ctx digest => Sys2Proof.Machine.execMeasureExtend ctx digest s
  | .tamperEvent low => Sys2Proof.Machine.execTamperEvent low s
  | .tamperClear ctx => Sys2Proof.Machine.execTamperClear ctx s
  | .lcAdvance ctx value => Sys2Proof.Machine.execLcAdvance ctx value s
  | .updatePiece ch msg => Sys2Proof.Machine.execUpdatePiece ch msg s
  | .updateAbort ch msg => Sys2Proof.Machine.execUpdateAbort ch msg s
  | .pieceProgrammed p ok => Sys2Proof.Machine.execPieceProgrammed p ok s
  | .updateAgeDiscard p => Sys2Proof.Machine.execUpdateAgeDiscard p s
  | .activate ctx => Sys2Proof.Machine.execActivate ctx s
  | .activationStepDone us => Sys2Proof.Machine.execActivationStepDone us s
  | .confirm ctx => Sys2Proof.Machine.execConfirm ctx s
  | .autoConfirmExpiry => Sys2Proof.Machine.execAutoConfirmExpiry s
  | .ledgerAudit errors => Sys2Proof.Machine.execLedgerAudit errors s
  | .ledgerReread n fails => Sys2Proof.Machine.execLedgerReread n fails s
  | .ledgerRecount n pause items => Sys2Proof.Machine.execLedgerRecount n pause items s
  | .portStall port => Sys2Proof.Machine.execPortStall port s
  | .eccCorrectedError memory head page => Sys2Proof.Machine.execEccCorrectedError memory head page s
  | .eccUncorrectableError memory unit addr hit => Sys2Proof.Machine.execEccUncorrectableError memory unit addr hit s
  | .governorTick power sense readback paces => Sys2Proof.Machine.execGovernorTick power sense readback paces s
  | .sprintDemandWindow waited => Sys2Proof.Machine.execSprintDemandWindow waited s
  | .vcoreRampDone => Sys2Proof.Machine.execVcoreRampDone s
  | .sprintLifetimeCharge => Sys2Proof.Machine.execSprintLifetimeCharge s
  | .thermalSensorSample k reading => Sys2Proof.Machine.execThermalSensorSample k reading s
  | .thermalShutdown k => Sys2Proof.Machine.execThermalShutdown k s
  | .powerTargetDeskStandby ctx => Sys2Proof.Machine.execPowerTargetDeskStandby ctx s
  | .powerTargetRunning ctx => Sys2Proof.Machine.execPowerTargetRunning ctx s
  | .powerTargetDeepStandby ctx => Sys2Proof.Machine.execPowerTargetDeepStandby ctx s
  | .standbyIdleExpiry => Sys2Proof.Machine.execStandbyIdleExpiry s
  | .deskStandbyWake source => Sys2Proof.Machine.execDeskStandbyWake source s
  | .deepStandbyShutdown => Sys2Proof.Machine.execDeepStandbyShutdown s
  | .pwrbtnPress ms => Sys2Proof.Machine.execPwrbtnPress ms s
  | .pwrbtnHold => Sys2Proof.Machine.execPwrbtnHold s
  | .sidebandWakePulse l => Sys2Proof.Machine.execSidebandWakePulse l s
  | .vhvRise => Sys2Proof.Machine.execVhvRise s
  | .vhvLoss => Sys2Proof.Machine.execVhvLoss s
  | .railStepComplete => Sys2Proof.Machine.execRailStepComplete s
  | .railStepTimeout => Sys2Proof.Machine.execRailStepTimeout s
  | .railSequenceRetry => Sys2Proof.Machine.execRailSequenceRetry s
  | .railLost => Sys2Proof.Machine.execRailLost s
  | .startUp facts => Sys2Proof.Machine.execStartUp facts s
  | .referenceAbsent => Sys2Proof.Machine.execReferenceAbsent s
  | .resetN => Sys2Proof.Machine.execResetN s
  | .warmReset ctx same => Sys2Proof.Machine.execWarmReset ctx same s
  | .watchdogReset => Sys2Proof.Machine.execWatchdogReset s
  | .pmfWatchdog => Sys2Proof.Machine.execPmfWatchdog s
  | .heldContextExpiry n => Sys2Proof.Machine.execHeldContextExpiry n s
  | .contextReset ctx n => Sys2Proof.Machine.execContextReset ctx n s
  | .f15ConfigStore ctx elem value => Sys2Proof.Machine.execF15ConfigStore ctx elem value s
  | .resetNRelease => Sys2Proof.Machine.execResetNRelease s
  | .vwakeFirstApplied => Sys2Proof.Machine.execVwakeFirstApplied s
  | .vwakeLoss => Sys2Proof.Machine.execVwakeLoss s
  | .depotSelfRefreshReturn => Sys2Proof.Machine.execDepotSelfRefreshReturn s
  | .lkfLandingAwaitExpiry l => Sys2Proof.Machine.execLkfLandingAwaitExpiry l s
  | .poweredTimeUpdate => Sys2Proof.Machine.execPoweredTimeUpdate s
  | .followUpTimeout port => Sys2Proof.Machine.execFollowUpTimeout port s

end Sys2Proof.Machine
end

