-- ==== Sys2Proof/Machine/Step.lean ====
section
/-! DEFINITION. One step: the command at the front of the queue is taken and carried out with the queue's rest; with no
command waiting the hub idles for one tick of its local counter. -/

namespace Sys2Proof.Machine

/-- With no command waiting, the local counter advances by one tick of its 500 MHz clock, 2 ns (R369, log entry 2). -/
def idle (s : State) : State := { s with hub := s.hub.tick }

/-- One step of the machine. -/
def step (s : State) : Host.Outcome State Fault Refusal :=
  match s.pending with
  | [] => .next (idle s)
  | c :: rest => exec c { s with pending := rest }

/-- The state with the command a table word spells put at the front of its queue; no word spells one (log entry 1). -/
def State.withFetchWord (s : State) (nbits w : Nat) : State :=
  match decodeTableWord nbits w with
  | some c => { s with pending := c :: s.pending }
  | none => s

end Sys2Proof.Machine
end

