-- ==== Sys2Proof/WellFormed.lean ====
section
/-! DEFINITION. Well-formed commands: the instances a command may name, and which row's word a Knaen instruction is. -/

namespace Sys2Proof

/-- The programs the hub can run: one Manifest for each of six contexts (R1, R129), sixteen threads on each of eight Shunter engines (R268). -/
def ProgId.real : ProgId → Bool
  | .manifest n => decide (n < 6)
  | .shunter e t => decide (e < 8) && decide (t < 16)

/-- The channels Control messages arrive on: four landings each with a legacy interface, the local port, network management (R121). -/
def Chan.real : Chan → Bool
  | .ldl l => decide (l < 4)
  | .legacy l => decide (l < 4)
  | .localPort => true
  | .mgmt => true

/-- The units of the Yard ports: port Y6 has the two MACs as units 1 and 2, every other port is one unit 0 (R259, R260). -/
def yardUnit (port unit : Nat) : Bool :=
  if port == 6 then unit == 1 || unit == 2 else decide (port < 16) && unit == 0

/-- Whether every instance a command names is one the hardware has. -/
def Instr.inRange : Instr → Bool
  | .halt p _ _ _ _ => p.real
  | .nop p _ _ _ _ => p.real
  | .lit p _ _ _ => p.real
  | .litw p _ _ _ => p.real
  | .mov p _ _ _ _ => p.real
  | .add p _ _ _ _ => p.real
  | .addi p _ _ _ => p.real
  | .sub p _ _ _ _ => p.real
  | .mul p _ _ _ _ => p.real
  | .mulh p _ _ _ _ => p.real
  | .mulhu p _ _ _ _ => p.real
  | .and p _ _ _ _ => p.real
  | .or p _ _ _ _ => p.real
  | .xor p _ _ _ _ => p.real
  | .andi p _ _ _ => p.real
  | .ori p _ _ _ => p.real
  | .shl p _ _ _ _ => p.real
  | .shr p _ _ _ _ => p.real
  | .sar p _ _ _ _ => p.real
  | .min p _ _ _ _ => p.real
  | .minu p _ _ _ _ => p.real
  | .max p _ _ _ _ => p.real
  | .maxu p _ _ _ _ => p.real
  | .cmp p _ _ _ _ => p.real
  | .br p _ _ _ => p.real
  | .call p _ _ _ => p.real
  | .ret p _ _ _ => p.real
  | .executeReservedOpcode p _ _ => p.real
  | .openObject p _ _ _ => p.real
  | .get p _ _ _ _ => p.real
  | .gets p _ _ _ _ => p.real
  | .set p _ _ _ _ => p.real
  | .setx p _ _ _ _ => p.real
  | .setm p _ _ _ _ => p.real
  | .commitNow p _ _ _ => p.real
  | .commitRefill p _ _ _ => p.real
  | .commitBlanking p _ _ _ => p.real
  | .commitTime p _ _ _ => p.real
  | .commitCycle p _ _ _ => p.real
  | .commitQuiet p _ _ _ => p.real
  | .commitReservedKind p _ _ _ _ => p.real
  | .abandon p _ _ _ _ => p.real
  | .waitNow p _ _ _ => p.real
  | .waitRefill p _ _ _ => p.real
  | .waitBlanking p _ _ _ => p.real
  | .waitTime p _ _ _ => p.real
  | .waitCycle p _ _ _ => p.real
  | .waitQuiet p _ _ _ => p.real
  | .waitDelay p _ _ _ _ => p.real
  | .waitDelayExpiry ctx => decide (ctx < 6)
  | .own p _ _ _ => p.real
  | .ownForce p _ _ _ => p.real
  | .yield p _ _ _ => p.real
  | .yieldForce p _ _ _ => p.real
  | .note p _ _ _ _ => p.real
  | .timeLocal p _ _ _ _ => p.real
  | .timeNetwork p _ _ _ _ => p.real
  | .xfer p _ _ _ _ => p.real
  | .xferDone ctx => decide (ctx < 6)
  | .release p _ _ _ _ => p.real
  | .ext p _ _ _ _ => p.real
  | .ins p _ _ _ _ => p.real
  | .scale p _ _ _ _ => p.real
  | .look p _ _ _ _ => p.real
  | .fwd p _ _ _ _ => p.real
  | .fwdReplace p _ _ _ _ => p.real
  | .drop p _ _ _ _ => p.real
  | .mirr p _ _ _ _ => p.real
  | .stamp p _ _ _ _ => p.real
  | .stampEgress p _ _ _ _ => p.real
  | .corr p _ _ _ _ => p.real
  | .csumCompute p _ _ _ _ => p.real
  | .csumFix p _ _ _ _ => p.real
  | .emit p _ _ _ _ => p.real
  | .count p _ _ _ _ => p.real
  | .shunterProgramStart engine thread => decide (engine < 8 ∧ thread < 16)
  | .helloMessage ch _ => ch.real
  | .manifestMessage ch _ => ch.real
  | .manifestStart ctx => decide (ctx < 6)
  | .peekMessage ch _ => ch.real
  | .localWriteInboundFifo _ => true
  | .localReadOutboundFifo _ => true
  | .localReadStatus => true
  | .epochNetworkTime => true
  | .commitTimeoutExpiry ctx => decide (ctx < 6)
  | .standingReplay => true
  | .standingClear ctx slot => decide (ctx < 6 ∧ slot < 16)
  | .standingTokenTimeout => true
  | .k0WindowEnd => true
  | .noticeCollectorRound ctx => decide (ctx < 6)
  | .noticeEntryTaken ctx => decide (ctx < 6)
  | .feedLinkFrame _ => true
  | .feedLinkHoldEntry => true
  | .paceBelowFloor => true
  | .avsStartAbsent => true
  | .avsCommandTimeout => true
  | .avsReadbackFault _ _ => true
  | .vcoreOvervoltage _ => true
  | .vcoreOvervoltageTrip _ => true
  | .sidebandPoll l => decide (l < 4)
  | .sidebandUnplug l => decide (l < 4)
  | .pong l => decide (l < 4)
  | .sidebandBadFrame l => decide (l < 4)
  | .linkHello l _ => decide (l < 4)
  | .linkHelloTimeout l => decide (l < 4)
  | .linkSelectEcho l _ => decide (l < 4)
  | .sidebandWake l => decide (l < 4)
  | .trainingStart l => decide (l < 4)
  | .trainingComplete l _ _ _ => decide (l < 4)
  | .trainingRetryTimer l => decide (l < 4)
  | .alignComplete l => decide (l < 4)
  | .alignTimeout l => decide (l < 4)
  | .retrainComplete l _ => decide (l < 4)
  | .dataFlit l pair _ _ => decide (l < 4 ∧ pair < 4)
  | .idleFlit l pair _ _ => decide (l < 4 ∧ pair < 4)
  | .ackFlit l pair _ _ => decide (l < 4 ∧ pair < 4)
  | .tagFlit l pair _ _ => decide (l < 4 ∧ pair < 4)
  | .swapAck l pair _ _ => decide (l < 4 ∧ pair < 4)
  | .swapNak l pair _ _ => decide (l < 4 ∧ pair < 4)
  | .swapDone l pair _ _ => decide (l < 4 ∧ pair < 4)
  | .swapEosReceived l => decide (l < 4)
  | .swapPairLocked l => decide (l < 4)
  | .swapAckTimeout l => decide (l < 4)
  | .swapLockTimeout l _ => decide (l < 4)
  | .rekeyFlit l pair _ _ => decide (l < 4 ∧ pair < 4)
  | .rekeyFlitLimit l => decide (l < 4)
  | .idleReq l pair _ _ => decide (l < 4 ∧ pair < 4)
  | .idleAck l pair _ _ => decide (l < 4 ∧ pair < 4)
  | .sleepReq l pair _ _ => decide (l < 4 ∧ pair < 4)
  | .retrainReq l pair _ _ => decide (l < 4 ∧ pair < 4)
  | .pairOut l pair _ _ => decide (l < 4 ∧ pair < 4)
  | .pairJoin l pair _ _ => decide (l < 4 ∧ pair < 4)
  | .resync l pair _ _ => decide (l < 4 ∧ pair < 4)
  | .reservedControlFlit l pair _ _ => decide (l < 4 ∧ pair < 4)
  | .ackTimer l => decide (l < 4)
  | .nakTimer l => decide (l < 4)
  | .replayTimer l => decide (l < 4)
  | .sealGroupTimer l => decide (l < 4)
  | .flitTransmit l => decide (l < 4)
  | .quietPoint l => decide (l < 4)
  | .demandWindow l _ => decide (l < 4)
  | .allotRetryTimer l => decide (l < 4)
  | .pairFailure l pair _ => decide (l < 4 ∧ pair < 4)
  | .soloRetrainTimer pair => decide (pair < 16)
  | .soloRetrainDone pair _ => decide (pair < 16)
  | .lidleEntryTimer l => decide (l < 4)
  | .lidleExit l => decide (l < 4)
  | .authInit ch pair _ _ => match ch with | .ldl l => decide (l < 4 ∧ pair < 4) | .legacy l => decide (l < 4) | .localPort => true | .mgmt => decide (pair < 2)
  | .authProof ch pair _ _ => match ch with | .ldl l => decide (l < 4 ∧ pair < 4) | .legacy l => decide (l < 4) | .localPort => true | .mgmt => decide (pair < 2)
  | .authGo ch pair _ _ => match ch with | .ldl l => decide (l < 4 ∧ pair < 4) | .legacy l => decide (l < 4) | .localPort => true | .mgmt => decide (pair < 2)
  | .authAbort ch pair _ _ => match ch with | .ldl l => decide (l < 4 ∧ pair < 4) | .legacy l => decide (l < 4) | .localPort => true | .mgmt => decide (pair < 2)
  | .authTimeout ch => ch.real
  | .creditStallTimer l cls => decide (l < 4 ∧ cls < 8)
  | .detectEnableCommit ctx l _ => decide (ctx < 6 ∧ l < 4)
  | .landingRekeyCommit ctx l => decide (ctx < 6 ∧ l < 4)
  | .allotInChange ctx l _ => decide (ctx < 6 ∧ l < 4)
  | .pairEnableChange ctx pair _ => decide (ctx < 6 ∧ pair < 16)
  | .ceilingWindow l slot => decide (l < 4 ∧ slot < 2048)
  | .guestAllowClear ctx inst => decide (ctx < 6 ∧ inst < 32)
  | .networkFrame l slot _ => decide (l < 4 ∧ slot < 2048)
  | .cellMatch => true
  | .egressSelect port unit => yardUnit port unit
  | .yardPortDown port unit => yardUnit port unit
  | .yardPortUp port unit => yardUnit port unit
  | .yardFlush port unit => yardUnit port unit
  | .incastTimer output => decide (output < 16)
  | .backpressureTimer voq => decide (voq < 2048)
  | .learnAgeExpiry entry => decide (entry < 8192)
  | .shunterDispatch => true
  | .shunterEngineFault engine => decide (engine < 8)
  | .shunterDisable ctx engine => decide (ctx < 6 ∧ engine < 8)
  | .programLoad ctx slot _ => decide (ctx < 6 ∧ slot < 64)
  | .programUnload ctx slot => decide (ctx < 6 ∧ slot < 64)
  | .shaperRefill n => decide (n < 2176)
  | .wheelSlotExpiry => true
  | .timetableEntryBoundary port => decide (port < 16)
  | .timetableCycleBoundary port => decide (port < 16)
  | .timetableCommit ctx port _ => decide (ctx < 6 ∧ port < 16)
  | .launchTimeReached leaf => decide (leaf < 2048)
  | .ethFrameReceived mac _ => decide (mac < 2)
  | .pauseReceived mac _ => decide (mac < 2)
  | .pauseWatchdogExpiry mac => decide (mac < 2)
  | .pauseHonourResume mac => decide (mac < 2)
  | .stormWindow mac => decide (mac < 2)
  | .ethLinkChange mac _ _ _ => decide (mac < 2)
  | .mdioRequest ctx mac _ => decide (ctx < 6 ∧ mac < 2)
  | .mdioDone mac _ _ => decide (mac < 2)
  | .surfaceWrite l slot _ => decide (l < 4 ∧ slot < 2048)
  | .tileDelta l slot _ => decide (l < 4 ∧ slot < 2048)
  | .present l slot _ => decide (l < 4 ∧ slot < 2048)
  | .turnJob l slot _ => decide (l < 4 ∧ slot < 2048)
  | .turnJobDone l => decide (l < 4)
  | .cloneCopyDone layer => decide (layer < 32)
  | .cloneStart ctx layer _ _ => decide (ctx < 6 ∧ layer < 32)
  | .surfaceAllocate ctx surface _ => decide (ctx < 6 ∧ surface < 1024)
  | .surfaceFree ctx surface => decide (ctx < 6 ∧ surface < 1024)
  | .layerSurfaceStore ctx layer _ => decide (ctx < 6 ∧ layer < 32)
  | .startOfBlanking head => decide (head < 4)
  | .scanoutStart ctx head => decide (ctx < 6 ∧ head < 4)
  | .modeRestartDone head _ => decide (head < 4)
  | .frameStart head => decide (head < 4)
  | .lineMatch head => decide (head < 4)
  | .frameDone head => decide (head < 4)
  | .lineUnderrun head _ => decide (head < 4)
  | .sinkAbsent head => decide (head < 4)
  | .sinkPresent head _ _ _ _ => decide (head < 4)
  | .hpdIrq head _ => decide (head < 4)
  | .dpTrainingDone head _ => decide (head < 4)
  | .dpTrainRetry head => decide (head < 4)
  | .refLost => true
  | .refRestored _ => true
  | .ptpSync port _ => decide (port < 6)
  | .ptpFollowUp port _ => decide (port < 6)
  | .ptpDelayReq port _ => decide (port < 6)
  | .ptpDelayResp port _ => decide (port < 6)
  | .ptpPdelayReq port _ => decide (port < 6)
  | .ptpPdelayResp port _ => decide (port < 6)
  | .ptpAnnounce port _ => decide (port < 6)
  | .ptpUnsupported port _ => decide (port < 6)
  | .ptpSyncTxTimer port => decide (port < 6)
  | .ptpPdelayTxTimer port => decide (port < 6)
  | .ptpAnnounceTxTimer port => decide (port < 6)
  | .syncLossTimeout => true
  | .clockStep ctx _ _ => decide (ctx < 6)
  | .rateChange ctx _ => decide (ctx < 6)
  | .hostLockCommit ctx _ => decide (ctx < 6)
  | .triggerArm ctx trigger _ => decide (ctx < 6 ∧ trigger < 32)
  | .triggerFire trigger => decide (trigger < 32)
  | .cuePulseEnd cue => decide (cue < 8)
  | .ppsPulse => true
  | .ppsPulseEnd => true
  | .storageTlpFromHost l slot _ => decide (l < 4 ∧ slot < 2048)
  | .storageTlpFromSlot n _ => decide (n < 2)
  | .slotPresence n => decide (n < 2)
  | .slotPowerGood n => decide (n < 2)
  | .slotPerstRelease n => decide (n < 2)
  | .slotLinkUp n _ _ _ => decide (n < 2)
  | .slotTrainTimeout n => decide (n < 2)
  | .slotEnableChange ctx n _ => decide (ctx < 6 ∧ n < 2)
  | .surpriseRemoval n => decide (n < 2)
  | .slotLinkDown n => decide (n < 2)
  | .postedWriteAck n _ => decide (n < 2)
  | .cplTimeout n _ => decide (n < 2)
  | .handoverDrainEnd n => decide (n < 2)
  | .handoverPerstEnd n => decide (n < 2)
  | .holdDeferEnd l => decide (l < 4)
  | .farBusLockTimeout n => decide (n < 6)
  | .access l slot _ => decide (l < 4 ∧ slot < 2048)
  | .branchTransactionDone n _ _ _ _ => decide (n < 6)
  | .canFrameReceived n _ _ _ => decide (n < 2)
  | .canTxPeriod n frame => decide (n < 2 ∧ frame < 16)
  | .canErrorState n _ _ _ => decide (n < 2)
  | .i2cPoll entry => decide (entry < 2048)
  | .signalsFlushTimer l slot => decide (l < 4 ∧ slot < 2048)
  | .signalSet l slot _ => decide (l < 4 ∧ slot < 2048)
  | .signalEnable ctx entry _ => decide (ctx < 6 ∧ entry < 2048)
  | .gpioEdge _ => true
  | .i2cTargetWrite n reg _ => decide (2 ≤ n ∧ n < 4 ∧ reg < 256)
  | .i2cTargetRead n reg _ => decide (2 ≤ n ∧ n < 4 ∧ reg < 256)
  | .targetReply l slot _ => decide (l < 4 ∧ slot < 2048)
  | .targetReplyTimeout n reg => decide (2 ≤ n ∧ n < 4 ∧ reg < 256)
  | .splitHoldExpiry n reg => decide (2 ≤ n ∧ n < 4 ∧ reg < 256)
  | .i2cRecoveryRetry n _ => decide (2 ≤ n ∧ n < 4)
  | .branchModeCommit ctx n _ => decide (ctx < 6 ∧ n < 6)
  | .canTxPeriodCommit ctx n _ _ => decide (ctx < 6 ∧ n < 2)
  | .usbPowered n => decide (n < 8)
  | .usbConnect n _ => decide (n < 8)
  | .usbDisconnect n => decide (n < 8)
  | .usbBounceHoldEnd n => decide (n < 8)
  | .portReset _ n => decide (n < 8)
  | .usbResetDone n _ _ _ _ _ _ => decide (n < 8)
  | .portSuspend _ n => decide (n < 8)
  | .portResume _ n _ => decide (n < 8)
  | .usbResumeDone n => decide (n < 8)
  | .portPower _ n _ => decide (n < 8)
  | .portEnableClear _ n => decide (n < 8)
  | .portTest _ n _ => decide (n < 8)
  | .usbDeviceWake n => decide (n < 8)
  | .usbBabble n _ => decide (n < 8)
  | .usbModeChange ctx n _ => decide (ctx < 6 ∧ n < 8)
  | .transfer l slot _ _ => decide (l < 4 ∧ slot < 2048)
  | .transferDone n _ _ _ _ _ => decide (n < 8)
  | .cancel l slot _ => decide (l < 4 ∧ slot < 2048)
  | .busSuspend l slot _ => decide (l < 4 ∧ slot < 2048)
  | .busResume l slot _ => decide (l < 4 ∧ slot < 2048)
  | .busReset l slot _ => decide (l < 4 ∧ slot < 2048)
  | .proxyPointerReport n _ _ _ _ _ _ _ => decide (n < 8)
  | .proxyKeyboardReport n _ _ _ => decide (n < 8)
  | .legacyBusReset l _ _ _ _ => decide (l < 4)
  | .legacySuspend l => decide (l < 4)
  | .legacyResume l => decide (l < 4)
  | .legacyWakeSignal l _ => decide (l < 4)
  | .legacyIdleReset l => decide (l < 4)
  | .legacyEnableChange ctx l _ => decide (ctx < 6 ∧ l < 4)
  | .getStatus l _ _ => decide (l < 4)
  | .clearFeature l _ _ => decide (l < 4)
  | .setFeature l _ _ => decide (l < 4)
  | .setAddress l _ _ => decide (l < 4)
  | .getDescriptor l _ _ => decide (l < 4)
  | .getConfiguration l _ _ => decide (l < 4)
  | .setConfiguration l _ _ => decide (l < 4)
  | .getInterface l _ _ => decide (l < 4)
  | .setInterface l _ _ => decide (l < 4)
  | .clearTtBuffer l _ _ => decide (l < 4)
  | .resetTt l _ _ => decide (l < 4)
  | .unsupportedRequest l _ _ _ => decide (l < 4)
  | .feedEvaluation _ _ => true
  | .fastTrip n _ => decide (n < 16)
  | .feedRetryTimer n => decide (n < 16)
  | .feedRetryCountReset n => decide (n < 16)
  | .latchClear ctx n => decide (ctx < 6 ∧ n < 16)
  | .measurementRecord => true
  | .powerReq l _ => decide (l < 4)
  | .powerAck l _ => decide (l < 4)
  | .powerReduceTimeout l => decide (l < 4)
  | .chargeBudgetCommit ctx _ => decide (ctx < 6)
  | .rngFault _ => true
  | .rngRecovered => true
  | .attestReq ch _ => ch.real
  | .mgmtSealedDatagram mac _ => decide (mac < 2)
  | .mgmtSessionIdle => true
  | .sealedMessage l _ => decide (l < 4)
  | .keyslotClaim ctx k _ => decide (ctx < 6 ∧ k < 32)
  | .keyslotHmac ctx k _ => decide (ctx < 6 ∧ k < 32)
  | .keyslotSign ctx k _ => decide (ctx < 6 ∧ k < 32)
  | .keyslotOpDone k => decide (k < 32)
  | .measureExtend ctx _ => decide (ctx < 6)
  | .tamperEvent _ => true
  | .tamperClear ctx => decide (ctx < 6)
  | .lcAdvance ctx _ => decide (ctx < 6)
  | .updatePiece ch _ => ch.real
  | .updateAbort ch _ => ch.real
  | .pieceProgrammed p _ => decide (p < 5)
  | .updateAgeDiscard p => decide (p < 5)
  | .activate ctx => decide (ctx < 6)
  | .activationStepDone _ => true
  | .confirm ctx => decide (ctx < 6)
  | .autoConfirmExpiry => true
  | .ledgerAudit _ => true
  | .ledgerReread i _ => decide (i < 31)
  | .ledgerRecount i _ _ => decide (i < 31)
  | .portStall port => decide (port < 16)
  | .eccCorrectedError memory head page => decide (1 ≤ memory ∧ memory ≤ 6 ∧ head < 4 ∧ page < 16384)
  | .eccUncorrectableError memory _ _ _ => decide (1 ≤ memory ∧ memory ≤ 6)
  | .governorTick _ _ _ _ => true
  | .sprintDemandWindow _ => true
  | .vcoreRampDone => true
  | .sprintLifetimeCharge => true
  | .thermalSensorSample k _ => decide (k < 12)
  | .thermalShutdown k => decide (k < 12)
  | .powerTargetDeskStandby ctx => decide (ctx < 6)
  | .powerTargetRunning ctx => decide (ctx < 6)
  | .powerTargetDeepStandby ctx => decide (ctx < 6)
  | .standbyIdleExpiry => true
  | .deskStandbyWake source => decide (source < 10)
  | .deepStandbyShutdown => true
  | .pwrbtnPress _ => true
  | .pwrbtnHold => true
  | .sidebandWakePulse l => decide (l < 4)
  | .vhvRise => true
  | .vhvLoss => true
  | .railStepComplete => true
  | .railStepTimeout => true
  | .railSequenceRetry => true
  | .railLost => true
  | .startUp _ => true
  | .referenceAbsent => true
  | .resetN => true
  | .warmReset ctx _ => decide (ctx < 6)
  | .watchdogReset => true
  | .pmfWatchdog => true
  | .heldContextExpiry n => decide (n < 6)
  | .contextReset ctx n => decide (ctx < 6 ∧ n < 6)
  | .f15ConfigStore ctx _ _ => decide (ctx < 6)
  | .resetNRelease => true
  | .vwakeFirstApplied => true
  | .vwakeLoss => true
  | .depotSelfRefreshReturn => true
  | .lkfLandingAwaitExpiry l => decide (l < 4)
  | .poweredTimeUpdate => true
  | .followUpTimeout port => decide (port < 6)

/-- The rows of the table that share an opcode with rows of fixed operand bits: a reserved opcode, a reserved COMMIT kind, a WAIT
kind above the six epochs, and a CSUM function other than the fix (R58, R84, R86, R104). -/
def Instr.formOk : Instr → Bool
  | .executeReservedOpcode _ op _ => (decide (0x27 ≤ op.toNat) && decide (op.toNat ≤ 0x2F)) || decide (0x3C ≤ op.toNat)
  | .commitReservedKind _ _ _ kind _ => decide (6 ≤ kind.toNat)
  | .waitDelay _ _ _ kind _ => decide (6 ≤ kind.toNat)
  | .csumCompute _ _ _ _ func => !(func.toNat % 4 == 1)
  | _ => true

/-- A well-formed command. -/
def Instr.wellFormed (i : Instr) : Bool := i.inRange && i.formOk

end Sys2Proof
end

