-- ==== Sys2Proof/Safety.lean ====
section
/-! DEFINITION. The words statements about the machine are made in: what a safe run is, canonical stores, when a program executes a word and
where it goes on, a received flit, a timer's expiry, and a commit. -/

namespace Sys2Proof.Machine

/-! ### Runs -/

/-- A step goes on to a next state: it neither faults nor refuses. -/
def State.goesOn (s : State) : Prop := ∃ t, step s = .next t

/-- Every command waiting names instances the hardware has. -/
def State.queueReal (s : State) : Prop := ∀ c ∈ s.pending, c.inRange = true

/-- The commands carried out outside the main die's logic: the feed die's, the wake island's, the reset pin's and the landings' links, whose
own state gates them (R480, R484, R570, R576). -/
def besideMainDie : Instr → Bool
  | .feedLinkFrame .. | .sidebandPoll .. | .sidebandUnplug .. | .pong .. | .sidebandBadFrame .. | .linkHello .. | .linkHelloTimeout .. |
  .linkSelectEcho .. | .sidebandWake .. | .trainingStart .. | .trainingComplete .. | .trainingRetryTimer .. | .alignComplete .. | .alignTimeout .. |
  .retrainComplete .. | .dataFlit .. | .idleFlit .. | .ackFlit .. | .tagFlit .. | .swapAck .. | .swapNak .. | .swapDone .. | .swapEosReceived .. |
  .swapPairLocked .. | .swapAckTimeout .. | .swapLockTimeout .. | .rekeyFlit .. | .rekeyFlitLimit .. | .idleReq .. | .idleAck .. | .sleepReq .. |
  .retrainReq .. | .pairOut .. | .pairJoin .. | .resync .. | .reservedControlFlit .. | .ackTimer .. | .nakTimer .. | .replayTimer .. |
  .sealGroupTimer .. | .flitTransmit .. | .demandWindow .. | .allotRetryTimer .. | .pairFailure .. | .soloRetrainTimer .. | .soloRetrainDone .. |
  .lidleEntryTimer .. | .lidleExit .. | .creditStallTimer .. | .ceilingWindow .. | .feedEvaluation .. | .fastTrip .. | .feedRetryTimer .. |
  .feedRetryCountReset .. | .measurementRecord .. | .feedLinkHoldEntry .. | .powerReq .. | .powerAck .. | .powerReduceTimeout .. | .tamperEvent .. | .pwrbtnPress .. |
  .sidebandWakePulse .. | .vhvRise .. | .vhvLoss .. | .railStepComplete .. | .railStepTimeout .. | .railSequenceRetry .. | .railLost .. | .resetN .. |
  .pmfWatchdog .. | .resetNRelease .. | .vwakeFirstApplied .. | .vwakeLoss .. | .authInit .. | .authProof .. | .authGo .. | .authAbort .. => true
  | _ => false

/-! ### Canonical stores -/

/-- The stores of committed values, values in effect and timers are in canonical form. -/
def Hub.canonical (h : Hub) : Prop :=
  h.fields.wf fieldDefault = true ∧ h.effs.wf fieldDefault = true ∧ h.timers.wf (fun _ => 0) = true

/-- A program's work registers are in canonical form. -/
def Prog.canonical (q : Prog) : Prop := q.regs.wf (fun _ => 0#32) = true

/-! ### Programs -/

/-- Program p runs as q, its pc stands at word w, nothing holds it and it has a step left. -/
def At (s : State) (p : ProgId) (w : Word) (q : Prog) : Prop :=
  s.hub.mainUp = true ∧ progExists p = true ∧ s.hub.prog (progKey p) = some q ∧ s.hub.executes p q w = true ∧ q.steps < s.hub.stepLimit q

/-- A program with one more step counted. -/
def Prog.counted (q : Prog) : Prog := { q with steps := q.steps + 1 }

/-- The state in which program p has taken a step and goes on as r. -/
def State.goesTo (s : State) (p : ProgId) (r : Prog) : State := { s with hub := (s.hub.countStep p).goOn p r }

/-- The state in which program p has taken a step and is held as r: a Manifest's turn has ended (R129). -/
def State.heldAs (s : State) (p : ProgId) (r : Prog) : State := { s with hub := ((s.hub.countStep p).passTurn true).goOn p r }

/-- The state in which program p, running as q, has faulted in the step with a code of R112. -/
def State.faulted (s : State) (p : ProgId) (q : Prog) (code : Nat) : State :=
  { s with hub := (s.hub.countStep p).faultProg p q.counted code }

/-- r differs from q in no work register but wd, which reads v in r (w0 reads zero still). -/
def Wrote (q r : Prog) (wd : RegNo) (v : Word) : Prop :=
  ∀ x, r.reg x = if x = wd ∧ wd ≠ 0#4 then v else q.reg x

/-- The flags of r. -/
def Flags (r : Prog) (z n c v k : Bool) : Prop := r.z = z ∧ r.n = n ∧ r.c = c ∧ r.v = v ∧ r.k = k

/-- r is q in everything but work registers, the flags, the program counter, the call stack and the steps, of which one more is counted. -/
def SameBut (q r : Prog) : Prop :=
  r = { q with regs := r.regs, z := r.z, n := r.n, c := r.c, v := r.v, k := r.k, pc := r.pc, stack := r.stack, steps := q.steps + 1 }

/-- Carrying out i takes program p from q to a state r that reads v in wd, has the flags given, stands at the next word with the same call
stack, and is unchanged in all else. -/
def Computes (i : Instr) (s : State) (p : ProgId) (q : Prog) (wd : RegNo) (val : Word) (z n c v : Bool) : Prop :=
  ∃ r, exec i s = .next (s.goesTo p r) ∧ Wrote q r wd val ∧ Flags r z n c v q.k ∧ r.pc = q.pc + 1 ∧ r.stack = q.stack ∧ SameBut q r

/-! ### Timers -/

/-- The hub at the moment a timer falls due, the timer stopped. -/
def Hub.expiredAt (h : Hub) (kind inst t : Nat) : Hub := (h.advanceTo t).disarm kind inst

/-! ### Links -/

/-- A frame of the host comes in a reply window of its landing's sideband, the first in it, with the feed die powered (R170). -/
def InReplyWindow (h : Hub) (l : Nat) : Prop :=
  h.feedPowered = true ∧ (h.link l).answered = false ∧ h.feedNow ≤ (h.link l).windowEnd

/-- A host frame of the right length is taken: the poll is answered, and none counts as missed (R172). -/
def Hub.frameTaken (h : Hub) (l : Nat) : Hub := h.modLink l (fun k => { k with answered := true, missed := 0 })

/-- What follows any command on a landing's link: a waiting activation and the ports see the link's state. -/
def Hub.linkSettled (h : Hub) (l : Nat) : Hub := (h.lkfCheck l).portsFollow l

/-- The CTYPE of a control flit (R184). -/
def ctypeOf (flit : List Byte) : Nat := bits (leAt flit 0 4) 28 3 * 16 + bits (leAt flit 0 4) 24 4

/-- A flit arrives whole on a pair the device receives on at a landing that takes flits: at most 15 symbols of its codeword in error, 136 bytes, and
the CRC right. -/
def Intact (h : Hub) (l pair fec : Nat) (flit : List Byte) : Prop :=
  h.flitsRun l = true ∧ h.hearsOn l pair = true ∧ fec ≤ 15 ∧ flit.length = 136 ∧ leAt flit 132 4 = crc32c (flit.take 132)

/-- A control flit of a type the host may send, its SEQD as R185 has it and its reserved header bits zero. -/
def ControlOf (ctype : Nat) (flit : List Byte) : Prop :=
  2 ^ 31 ≤ leAt flit 0 4 ∧ ctypeOf flit = ctype ∧ bitB (leAt flit 0 4) 15 = ctlSequenced ctype ∧ bits (leAt flit 0 4) 16 8 = 0 ∧
    bitB (leAt flit 0 4) 14 = false ∧ bitB (leAt flit 0 4) 12 = false

/-- The flit of the next sequence number expected, no resynchronisation pending. -/
def InOrder (h : Hub) (l : Nat) (flit : List Byte) : Prop := (h.link l).resync = false ∧ leAt flit 0 4 % 4096 = (h.link l).rxSeq % 4096

/-- A landing after an intact flit of the expected sequence has been accepted: it is counted, its acknowledgment falls due, and an
idle request of the device's own is declined by anything but IDLE_ACK or a TAG (R186, R187, R198). -/
def Hub.received (h : Hub) (l pair fec : Nat) (flit : List Byte) : Hub :=
  let g := h.add F.PAIR.FEC_CORRECTED (4 * l + pair) fec
  let g1 := g.modLink l (fun k => { k with rxSeq := (k.rxSeq + 1) % 2 ^ 32, sinceAck := k.sinceAck + 1, ackDue := k.ackDue || 64 ≤ k.sinceAck + 1, lastBusy := g.now })
  let g2 := g1.add F.LANDING.FLITS_RX l 1
  let g3 := g2.arm T.ack l (min 1000 ((g.due T.ack l).getD (g.now + 1000) - g.now))
  let g4 := g3.arm T.lidle l (g.get F.LANDING.LIDLE_ENTRY l * usec)
  if leAt flit 0 4 < 2 ^ 31 ∨ (ctypeOf flit ≠ 0x0B ∧ ctypeOf flit ≠ 2) then g4.modLink l (fun k => { k with idleReqSent := false }) else g4

/-- What follows an accepted flit: the flits that waited for it, and the timer for one still missing (R188). -/
def Hub.followed (h : Hub) (l : Nat) : Hub :=
  let g := Hub.acceptRun 256 l h
  if (g.link l).reorder.isEmpty then g.disarm T.nak l else g.arm T.nak l 2000

/-! ### Messages at the Yard's endpoints -/

/-- A tunnel's message waits at the front of an endpoint behind a Yard port, its type in header bits 4 to 11. -/
def WaitsAt (h : Hub) (port l slot : Nat) (msg : List Byte) (type : Nat) : Prop :=
  (h.yard.inbox.read (fun _ => []) port).contains (l, slot, msg) = true ∧ bits (leAt msg 0 2) 4 8 = type

/-- A PTP port's window of one second, begun anew when the last is over. -/
def Hub.ptpWindow (h : Hub) (i : Nat) : Hub :=
  if (h.ptp i).windowAt + sec ≤ h.now then h.modPtp i (fun k => { k with windowAt := h.now, windowCount := 0 }) else h

/-- A PTP message of a kind waits for a port that is enabled, in its domain and below 1,000 messages in the second; g is the hub with the message
taken and counted, and stamp its time. -/
def PtpArrives (h : Hub) (i : Nat) (m : List Byte) (kinds : List Nat) (g : Hub) (stamp : Nat) : Prop :=
  ∃ e, h.ptpWaiting i m = some e ∧ kinds.contains (byteAt m 0 % 16) = true ∧ stamp = leAt e.2.2 0 10 ∧
    let w := (h.takeInbox 11 e.1 e.2.1 e.2.2).ptpWindow i
    w.on F.PTPPORT.ENABLE i = true ∧ byteAt m 4 = w.get F.CLOCK.DOMAIN 0 ∧ (w.ptp i).windowCount < 1000 ∧
    g = w.modPtp i (fun k => { k with windowCount := k.windowCount + 1 })

/-! ### Commits -/

/-- The hub after a set of a context has committed, Receipt aside. -/
def Hub.setDone (h : Hub) (ctx : Nat) (staged : List Staged) : Hub :=
  (((h.applySet ctx false none staged).afterReceipt h ctx false none staged).settle).stepped h

/-- A context's stores to one instance pass the checks and stage the given set, no CLOCK.STEP among the refused. -/
def Stages (h : Hub) (ctx cls inst : Nat) (stores : List (Nat × Nat × Int)) (staged : List Staged) : Prop :=
  (h.stageAll ctx cls inst stores).staged = staged ∧ staged ≠ [] ∧ (h.stageAll ctx cls inst stores).stepsRefused = []

end Sys2Proof.Machine
end

