-- ==== Sys2Proof/Certificates/Slice0/Obligations.lean ====
section
/-! DEFINITION. What is to be proved of the model: each statement's docstring says what it states and which rules of the spec it follows. -/

open Sys2Proof Sys2Proof.Machine

/-! ### The machine -/

/-- A step on a waiting command is exec of the front command on the state with the rest of the queue (the model's queue, log entry 2). -/
def Obligations.StepCarriesOutFrontCommand : Prop :=
  ∀ (c : Instr) (rest : List Instr) (s : State), s.pending = c :: rest → step s = exec c { s with pending := rest }

/-- With no command waiting, a step is one tick of the local counter: its 65,536ths of a nanosecond grow by 2 ns and nothing else changes (R369; that
the idle step is a tick is log entry 2). -/
def Obligations.IdleStepTicksLocalCounter : Prop :=
  ∀ s : State, s.pending = [] → step s = .next { s with hub := { s.hub with clk := s.hub.clk + 2 * 65536 } }

/-- No command refuses and none touches the queue: it answers a next state when every instance it names exists, and the fault of a missing instance
when one does not (the model's choice for such a command, log entry 4) (R42, R131). -/
def Obligations.CommandsGoOnUnlessInstanceMissing : Prop :=
  ∀ (i : Instr) (s : State),
    (i.inRange = true → ∃ h, exec i s = .next ⟨h, s.pending⟩) ∧ (i.inRange = false → exec i s = .fault .noSuchInstance)

/-- That every waiting command names an existing instance holds at reset and is kept by every step; from a state where it holds a step goes on, and
the queue is worked off to its end, one command a step, without a fault or a refusal (R42, R131). -/
def Obligations.RealQueueIsKeptAndRunsToItsEnd : Prop :=
  State.reset.queueReal ∧
  (∀ s : State, s.queueReal → s.goesOn ∧ ∀ t, step s = .next t → t.queueReal) ∧
  (∀ s : State, s.queueReal → ∃ t, Sys2Proof.core.run s.pending.length s = .next t ∧ t.pending = [])

/-- While the main die is unpowered or held in reset, its commands change nothing (the model's reading of R576 and R580, log entry 8). -/
def Obligations.MainDieDownHoldsItsCommands : Prop :=
  ∀ (i : Instr) (s : State), s.hub.mainUp = false → i.inRange = true → besideMainDie i = false → exec i s = .next s

/-- Reset: no command waits, every store is canonical and empty, every token is in the free pool, every context is down, no Manifest and no set waits,
the start state is that of power-good, and each landing is in DETECT (R33, R130, R164, R592, R593). -/
def Obligations.ResetLeavesEveryBlockIdle : Prop :=
  State.reset.pending = [] ∧ State.reset.hub.canonical ∧ (∀ k, k < 57 → State.reset.hub.holder k = 0xF) ∧
    (∀ n, n < 6 → State.reset.hub.get F.CONTEXT.STATE n = 0 ∧ (State.reset.hub.ctx n).queue = [] ∧ State.reset.hub.prog n = none) ∧
    State.reset.hub.sets = [] ∧ State.reset.hub.get F.SYSTEM.START_STATE 0 = 0 ∧ (∀ l, l < 4 → State.reset.hub.get F.LANDING.STATE l = 0) ∧
    (∀ k t, State.reset.hub.due k t = none)

/-! ### The words of Knaen -/

/-- Decoding the word of a Knaen instruction gives the instruction back, every operand at every value its encoding admits (R46, R47, R54, R57). -/
def Obligations.KnaenDecodeUndoesEncode : Prop :=
  ∀ (i : Instr) (p : ProgId) (w : Word), i.formOk = true → knaenWord i = some (p, w) → knaenDecode p w = i

/-- Every 32-bit word is the word of the one well-formed instruction it decodes to (R46, R54, R57, R58). -/
def Obligations.KnaenEncodeUndoesDecode : Prop :=
  ∀ (p : ProgId) (w : Word), knaenWord (knaenDecode p w) = some (p, w) ∧ (knaenDecode p w).formOk = true

/-! ### Knaen: registers and flags -/

/-- ADD, ADDI, SUB and CMP: the result, Z and N from it, C the carry out of bit 31 or the borrow, V when the signed result does not fit (R63). -/
def Obligations.AddSubtractCompareResults : Prop :=
  ∀ (s : State) (p : ProgId) (q : Prog) (wd wa wb : RegNo) (imm : BitVec 18), q.canonical →
    (At s p (wordA 0x05#6 wd wa wb 0#14) q → let r := q.reg wa + q.reg wb
      Computes (.add p wd wa wb 0#14) s p q wd r (r == 0#32) r.msb (decide (2 ^ 32 ≤ (q.reg wa).toNat + (q.reg wb).toNat))
        (decide (r.toInt ≠ (q.reg wa).toInt + (q.reg wb).toInt))) ∧
    (At s p (wordI 0x06#6 wd wa imm) q → let b : Word := imm.signExtend 32
      let r := q.reg wa + b
      Computes (.addi p wd wa imm) s p q wd r (r == 0#32) r.msb (decide (2 ^ 32 ≤ (q.reg wa).toNat + b.toNat))
        (decide (r.toInt ≠ (q.reg wa).toInt + b.toInt))) ∧
    (At s p (wordA 0x07#6 wd wa wb 0#14) q → let r := q.reg wa - q.reg wb
      Computes (.sub p wd wa wb 0#14) s p q wd r (r == 0#32) r.msb ((q.reg wa).ult (q.reg wb))
        (decide (r.toInt ≠ (q.reg wa).toInt - (q.reg wb).toInt))) ∧
    (At s p (wordA 0x14#6 0#4 wa wb 0#14) q → let r := q.reg wa - q.reg wb
      Computes (.cmp p 0#4 wa wb 0#14) s p q 0#4 0#32 (r == 0#32) r.msb ((q.reg wa).ult (q.reg wb))
        (decide (r.toInt ≠ (q.reg wa).toInt - (q.reg wb).toInt))) ∧
    (At s p (wordA 0x14#6 wd wa wb 0#14) q → wd ≠ 0#4 → exec (.cmp p wd wa wb 0#14) s = .next (s.faulted p q 3))

/-- MOV, AND, OR, XOR, ANDI and ORI: the result; MOV leaves every flag, the others set Z and N. MIN and MAX compare as signed numbers, MINU and MAXU
as unsigned ones (R65). -/
def Obligations.MoveLogicMinAndMaxResults : Prop :=
  ∀ (s : State) (p : ProgId) (q : Prog) (wd wa wb : RegNo) (imm : BitVec 18), q.canonical →
    (At s p (wordA 0x04#6 wd wa 0#4 0#14) q → Computes (.mov p wd wa 0#4 0#14) s p q wd (q.reg wa) q.z q.n q.c q.v) ∧
    (At s p (wordA 0x0a#6 wd wa wb 0#14) q → let r := q.reg wa &&& q.reg wb
      Computes (.and p wd wa wb 0#14) s p q wd r (r == 0#32) r.msb q.c q.v) ∧
    (At s p (wordA 0x0b#6 wd wa wb 0#14) q → let r := q.reg wa ||| q.reg wb
      Computes (.or p wd wa wb 0#14) s p q wd r (r == 0#32) r.msb q.c q.v) ∧
    (At s p (wordA 0x0c#6 wd wa wb 0#14) q → let r := q.reg wa ^^^ q.reg wb
      Computes (.xor p wd wa wb 0#14) s p q wd r (r == 0#32) r.msb q.c q.v) ∧
    (At s p (wordI 0x0d#6 wd wa imm) q → let r : Word := q.reg wa &&& imm.signExtend 32
      Computes (.andi p wd wa imm) s p q wd r (r == 0#32) r.msb q.c q.v) ∧
    (At s p (wordI 0x0e#6 wd wa imm) q → let r : Word := q.reg wa ||| imm.signExtend 32
      Computes (.ori p wd wa imm) s p q wd r (r == 0#32) r.msb q.c q.v) ∧
    (At s p (wordA 0x12#6 wd wa wb 0#14) q → let r := if (q.reg wa).toInt ≤ (q.reg wb).toInt then q.reg wa else q.reg wb
      Computes (.min p wd wa wb 0#13) s p q wd r (r == 0#32) r.msb q.c q.v) ∧
    (At s p (wordA 0x12#6 wd wa wb 1#14) q → let r := if (q.reg wa).toNat ≤ (q.reg wb).toNat then q.reg wa else q.reg wb
      Computes (.minu p wd wa wb 0#13) s p q wd r (r == 0#32) r.msb q.c q.v) ∧
    (At s p (wordA 0x13#6 wd wa wb 0#14) q → let r := if (q.reg wa).toInt ≤ (q.reg wb).toInt then q.reg wb else q.reg wa
      Computes (.max p wd wa wb 0#13) s p q wd r (r == 0#32) r.msb q.c q.v) ∧
    (At s p (wordA 0x13#6 wd wa wb 1#14) q → let r := if (q.reg wa).toNat ≤ (q.reg wb).toNat then q.reg wb else q.reg wa
      Computes (.maxu p wd wa wb 0#13) s p q wd r (r == 0#32) r.msb q.c q.v)

/-- MUL writes the low half of the product, MULH the high half of the signed and MULHU of the unsigned 64-bit product (R62). -/
def Obligations.MultiplyResults : Prop :=
  ∀ (s : State) (p : ProgId) (q : Prog) (wd wa wb : RegNo), q.canonical →
    (At s p (wordA 0x08#6 wd wa wb 0#14) q → let r := q.reg wa * q.reg wb
      Computes (.mul p wd wa wb 0#14) s p q wd r (r == 0#32) r.msb (decide (2 ^ 32 ≤ (q.reg wa).toNat * (q.reg wb).toNat))
        (decide (r.toInt ≠ (q.reg wa).toInt * (q.reg wb).toInt))) ∧
    (At s p (wordA 0x09#6 wd wa wb 0#14) q →
      let r : Word := ((q.reg wa).signExtend 64 * (q.reg wb).signExtend 64).extractLsb' 32 32
      Computes (.mulh p wd wa wb 0#13) s p q wd r (r == 0#32) r.msb false false) ∧
    (At s p (wordA 0x09#6 wd wa wb 1#14) q →
      let r : Word := ((q.reg wa).zeroExtend 64 * (q.reg wb).zeroExtend 64).extractLsb' 32 32
      Computes (.mulhu p wd wa wb 0#13) s p q wd r (r == 0#32) r.msb false false)

/-- SHL, SHR and SAR by an amount n in wb[4:0] or in func[4:0] with func[13] = 1: C is the last bit shifted out, and stays for n = 0. A reserved bit
set, func[12:5], wb with func[13] = 1 or func[4:0] with func[13] = 0, faults with FAULT_ENCODING (R64). -/
def Obligations.ShiftResults : Prop :=
  ∀ (s : State) (p : ProgId) (q : Prog) (wd wa wb : RegNo) (func : BitVec 14), q.canonical →
    (∀ n, (func = 0#14 ∧ n = (q.reg wb).toNat % 32) ∨ (n < 32 ∧ wb = 0#4 ∧ func = BitVec.ofNat 14 (2 ^ 13 + n)) →
      (At s p (wordA 0x0f#6 wd wa wb func) q → let r := q.reg wa <<< n
        Computes (.shl p wd wa wb func) s p q wd r (r == 0#32) r.msb (if n = 0 then q.c else (q.reg wa).getLsbD (32 - n)) q.v) ∧
      (At s p (wordA 0x10#6 wd wa wb func) q → let r := q.reg wa >>> n
        Computes (.shr p wd wa wb func) s p q wd r (r == 0#32) r.msb (if n = 0 then q.c else (q.reg wa).getLsbD (n - 1)) q.v) ∧
      (At s p (wordA 0x11#6 wd wa wb func) q → let r := (q.reg wa).sshiftRight n
        Computes (.sar p wd wa wb func) s p q wd r (r == 0#32) r.msb (if n = 0 then q.c else (q.reg wa).getLsbD (n - 1)) q.v)) ∧
    ((func.extractLsb' 5 8 ≠ 0 ∨ (func.getLsbD 13 = true ∧ wb ≠ 0) ∨ (func.getLsbD 13 = false ∧ func.extractLsb' 0 5 ≠ 0)) →
      (At s p (wordA 0x0f#6 wd wa wb func) q → exec (.shl p wd wa wb func) s = .next (s.faulted p q 3)) ∧
      (At s p (wordA 0x10#6 wd wa wb func) q → exec (.shr p wd wa wb func) s = .next (s.faulted p q 3)) ∧
      (At s p (wordA 0x11#6 wd wa wb func) q → exec (.sar p wd wa wb func) s = .next (s.faulted p q 3)))

/-- HALT ends the program; NOP only goes on; LIT writes the sign-extended immediate; LITW writes the following word and moves past it, and faults with
FAULT_PC where there is none (R60). -/
def Obligations.HaltNopAndLiteralResults : Prop :=
  ∀ (s : State) (p : ProgId) (q : Prog) (wd : RegNo) (imm : BitVec 18), q.canonical →
    (At s p (wordA 0x00#6 0#4 0#4 0#4 0#14) q → exec (.halt p 0#4 0#4 0#4 0#14) s = .next { s with hub := (s.hub.countStep p).halt p q.counted }) ∧
    (At s p (wordA 0x01#6 0#4 0#4 0#4 0#14) q → Computes (.nop p 0#4 0#4 0#4 0#14) s p q 0#4 0#32 q.z q.n q.c q.v) ∧
    (At s p (wordI 0x02#6 wd 0#4 imm) q → Computes (.lit p wd 0#4 imm) s p q wd (imm.signExtend 32) q.z q.n q.c q.v) ∧
    (At s p (wordI 0x03#6 wd 0#4 0#18) q →
      (∀ x, q.words[q.pc + 1]? = some x → ∃ r, exec (.litw p wd 0#4 0#18) s = .next (s.goesTo p r) ∧ Wrote q r wd x ∧ Flags r q.z q.n q.c q.v q.k ∧
        r.pc = q.pc + 2 ∧ r.stack = q.stack ∧ SameBut q r) ∧
      (q.words[q.pc + 1]? = none → exec (.litw p wd 0#4 0#18) s = .next (s.faulted p q 7)))

/-- TIME writes bits [31:0] of the nanoseconds to wd and bits [47:32] to wa, of the local counter or of network time; naming one non-zero register
twice faults with FAULT_ENCODING. Network time is the local counter plus OFFSET plus RATE × (L − ANCHOR) / 2^48, rounded toward minus infinity in
2^−16 ns (R66). -/
def Obligations.TimeResults : Prop :=
  (∀ (s : State) (p : ProgId) (q : Prog) (wd wa : RegNo) (net : Bool), q.canonical →
      At s p (wordA 0x24#6 wd wa 0#4 (if net then 1#14 else 0#14)) q →
      let i : Instr := if net then .timeNetwork p wd wa 0#4 0#13 else .timeLocal p wd wa 0#4 0#13
      let ns := if net then s.hub.network else s.hub.now
      ((wd ≠ wa ∨ wd = 0#4) → ∃ r, exec i s = .next (s.goesTo p r) ∧
        (∀ x, r.reg x = if x = 0#4 then 0#32 else if x = wa then BitVec.ofNat 32 (ns / 2 ^ 32 % 2 ^ 16)
          else if x = wd then BitVec.ofNat 32 (ns % 2 ^ 32) else q.reg x) ∧
        Flags r q.z q.n q.c q.v q.k ∧ r.pc = q.pc + 1 ∧ r.stack = q.stack ∧ SameBut q r) ∧
      (wd = wa → wd ≠ 0#4 → exec i s = .next (s.faulted p q 3))) ∧
  (∀ h : Hub, h.network = ((((h.clk : Int) + h.clockOffset + (((h.clk : Int) - h.clockAnchor) * h.getI F.CLOCK.RATE 0).fdiv (2 ^ 48)).fdiv 65536).emod (2 ^ 64)).toNat)

/-! ### Knaen: control flow -/

/-- BR, CALL and RET: not taken, they only go on; taken, they go to a target inside the program that is no literal word, CALL pushing the address
after it and RET popping one; a bad target faults with FAULT_TARGET before a full or empty stack faults with FAULT_STACK. The conditions are read
from the flags as they stand before; codes 0xD to 0xF are reserved (R56, R68 to R70). -/
def Obligations.BranchCallAndReturn : Prop :=
  (∀ (s : State) (p : ProgId) (q : Prog) (cond wa : RegNo) (offset : BitVec 18),
      let target : Int := (if wa = 0#4 then (q.pc : Int) else ((q.reg wa).toNat : Int)) + offset.toInt
      let legal (t : Int) : Prop := 0 ≤ t ∧ t < q.words.length ∧ t.toNat ∉ literals 0 q.words
      (At s p (wordI 0x15#6 cond wa offset) q →
        (q.cond cond = none → exec (.br p cond wa offset) s = .next (s.faulted p q 3)) ∧
        (q.cond cond = some false → exec (.br p cond wa offset) s = .next (s.goesTo p { q.counted with pc := q.pc + 1 })) ∧
        (q.cond cond = some true → ¬ legal target → exec (.br p cond wa offset) s = .next (s.faulted p q 4)) ∧
        (q.cond cond = some true → legal target → exec (.br p cond wa offset) s = .next (s.goesTo p { q.counted with pc := target.toNat }))) ∧
      (At s p (wordI 0x16#6 cond wa offset) q →
        (q.cond cond = none → exec (.call p cond wa offset) s = .next (s.faulted p q 3)) ∧
        (q.cond cond = some false → exec (.call p cond wa offset) s = .next (s.goesTo p { q.counted with pc := q.pc + 1 })) ∧
        (q.cond cond = some true → ¬ legal target → exec (.call p cond wa offset) s = .next (s.faulted p q 4)) ∧
        (q.cond cond = some true → legal target → 16 ≤ q.stack.length → exec (.call p cond wa offset) s = .next (s.faulted p q 5)) ∧
        (q.cond cond = some true → legal target → q.stack.length < 16 →
          exec (.call p cond wa offset) s = .next (s.goesTo p { q.counted with pc := target.toNat, stack := (q.pc + 1) :: q.stack }))) ∧
      (At s p (wordI 0x17#6 cond 0#4 0#18) q →
        (q.cond cond = none → exec (.ret p cond 0#4 0#18) s = .next (s.faulted p q 3)) ∧
        (q.cond cond = some false → exec (.ret p cond 0#4 0#18) s = .next (s.goesTo p { q.counted with pc := q.pc + 1 })) ∧
        (q.cond cond = some true → q.stack = [] → exec (.ret p cond 0#4 0#18) s = .next (s.faulted p q 5)) ∧
        (∀ a st, q.cond cond = some true → q.stack = a :: st → ¬ legal a → exec (.ret p cond 0#4 0#18) s = .next (s.faulted p q 4)) ∧
        (∀ a st, q.cond cond = some true → q.stack = a :: st → legal a →
          exec (.ret p cond 0#4 0#18) s = .next (s.goesTo p { q.counted with pc := a, stack := st }))) ∧
      (At s p (wordI 0x17#6 cond wa offset) q → (wa ≠ 0#4 ∨ offset ≠ 0#18) → exec (.ret p cond wa offset) s = .next (s.faulted p q 3))) ∧
  (∀ q : Prog, q.cond 0 = some (q.z == true) ∧ q.cond 1 = some (q.z == false) ∧ q.cond 2 = some (q.n != q.v) ∧ q.cond 3 = some (q.n == q.v) ∧
    q.cond 4 = some (q.c == true) ∧ q.cond 5 = some (q.c == false) ∧ q.cond 6 = some (q.n == true) ∧ q.cond 7 = some (q.n == false) ∧
    q.cond 8 = some (q.v == true) ∧ q.cond 9 = some (q.v == false) ∧ q.cond 10 = some (q.k == true) ∧ q.cond 11 = some (q.k == false) ∧
    q.cond 12 = some true ∧ q.cond 13 = none ∧ q.cond 14 = none ∧ q.cond 15 = none)

/-- A program that has not passed its end goes on: it alone is changed among the programs, with the steps of its engine; past its end it faults with
FAULT_PC at that address (R49, R71). -/
def Obligations.ProgramGoesOnAlone : Prop :=
  ∀ (s : State) (p : ProgId) (r : Prog), progExists p = true → r.block = none →
    (r.pc < r.words.length → (s.goesTo p r).hub.prog (progKey p) = some r ∧
      (∀ k, k ≠ progKey p → (s.goesTo p r).hub.prog k = s.hub.prog k) ∧ (s.goesTo p r).pending = s.pending ∧
      (∃ t f k, (s.goesTo p r).hub = { s.hub with progs := t, fields := f, timers := k, turnOf := (s.goesTo p r).hub.turnOf, turnLeft := (s.goesTo p r).hub.turnLeft }) ∧
      (∀ n, p = .manifest n → (s.goesTo p r).hub.fields = s.hub.fields ∧ (s.goesTo p r).hub.turnOf = n ∧ (s.goesTo p r).hub.turnLeft = s.hub.turnNow.2 - 1)) ∧
    (r.words.length ≤ r.pc → (s.goesTo p r).hub = (s.hub.countStep p).faultProg p r 7)

/-- A program that has executed all its steps faults with FAULT_STEPS at any further Knaen word; nothing is executed and the attempt is not counted.
Executing a reserved opcode faults with FAULT_OPCODE; a Shunter instruction in a Manifest or a Manifest instruction in a Shunter program faults
with FAULT_PROFILE (R58). -/
def Obligations.StepLimitOpcodeAndProfileFaults : Prop :=
  (∀ (i : Instr) (s : State) (p : ProgId) (w : Word) (q : Prog), i.formOk = true → knaenWord i = some (p, w) → s.hub.mainUp = true →
      progExists p = true → s.hub.prog (progKey p) = some q → s.hub.executes p q w = true → s.hub.stepLimit q ≤ q.steps →
      exec i s = .next { s with hub := s.hub.faultProg p q 6 }) ∧
  (∀ (i : Instr) (s : State) (p : ProgId) (w : Word) (q : Prog), i.formOk = true → knaenWord i = some (p, w) → At s p w q →
      let op := (w.extractLsb' 26 6).toNat
      ((0x27 ≤ op ∧ op ≤ 0x2F) ∨ 0x3C ≤ op → exec i s = .next (s.faulted p q 1)) ∧
      (∀ n, p = .manifest n → 0x30 ≤ op → op ≤ 0x3B → exec i s = .next (s.faulted p q 2)) ∧
      (∀ e t, p = .shunter e t → 0x18 ≤ op → op ≤ 0x26 → op ≠ 0x24 → exec i s = .next (s.faulted p q 2))) ∧
  (∀ (s : State) (p : ProgId) (opcode : BitVec 6) (rest : BitVec 26) (q : Prog), At s p (opcode ++ rest) q →
    (0x27 ≤ opcode.toNat ∧ opcode.toNat ≤ 0x2F) ∨ 0x3C ≤ opcode.toNat → exec (.executeReservedOpcode p opcode rest) s = .next (s.faulted p q 1))

/-- A reserved bit set in the word of a core instruction of format A faults with FAULT_ENCODING, and nothing of the instruction's own effect happens
(R52, R55). -/
def Obligations.ReservedBitsFault : Prop :=
  ∀ (s : State) (p : ProgId) (q : Prog) (wd wa wb : RegNo) (func : BitVec 14),
    (At s p (wordA 0x00#6 wd wa wb func) q → (wd ≠ 0 ∨ wa ≠ 0 ∨ wb ≠ 0 ∨ func ≠ 0) → exec (.halt p wd wa wb func) s = .next (s.faulted p q 3)) ∧
    (At s p (wordA 0x01#6 wd wa wb func) q → (wd ≠ 0 ∨ wa ≠ 0 ∨ wb ≠ 0 ∨ func ≠ 0) → exec (.nop p wd wa wb func) s = .next (s.faulted p q 3)) ∧
    (At s p (wordA 0x04#6 wd wa wb func) q → (wb ≠ 0 ∨ func ≠ 0) → exec (.mov p wd wa wb func) s = .next (s.faulted p q 3)) ∧
    (At s p (wordA 0x05#6 wd wa wb func) q → func ≠ 0 → exec (.add p wd wa wb func) s = .next (s.faulted p q 3)) ∧
    (At s p (wordA 0x07#6 wd wa wb func) q → func ≠ 0 → exec (.sub p wd wa wb func) s = .next (s.faulted p q 3)) ∧
    (At s p (wordA 0x08#6 wd wa wb func) q → func ≠ 0 → exec (.mul p wd wa wb func) s = .next (s.faulted p q 3)) ∧
    (At s p (wordA 0x0a#6 wd wa wb func) q → func ≠ 0 → exec (.and p wd wa wb func) s = .next (s.faulted p q 3)) ∧
    (At s p (wordA 0x0b#6 wd wa wb func) q → func ≠ 0 → exec (.or p wd wa wb func) s = .next (s.faulted p q 3)) ∧
    (At s p (wordA 0x0c#6 wd wa wb func) q → func ≠ 0 → exec (.xor p wd wa wb func) s = .next (s.faulted p q 3)) ∧
    (At s p (wordA 0x14#6 wd wa wb func) q → (wd ≠ 0 ∨ func ≠ 0) → exec (.cmp p wd wa wb func) s = .next (s.faulted p q 3))

/-! ### Knaen: the Manifest profile -/

/-- OPEN writes the handle of a class and instance; an undefined class faults with FAULT_CLASS, an instance beyond the class's count with
FAULT_INSTANCE. The handle OPEN forms names its class and instance to every instruction that takes a handle, and no word with other bits set names
one (R73). -/
def Obligations.OpenWritesTheObjectsHandle : Prop :=
  (∀ (s : State) (n : Nat) (q : Prog) (wd wa : RegNo) (imm : BitVec 18), q.canonical → At s (.manifest n) (wordI 0x18#6 wd wa imm) q →
      let cls := imm.toNat / 2 ^ 10
      let inst := (q.reg wa).toNat + imm.toNat % 2 ^ 10
      (0x24 ≤ cls → exec (.openObject (.manifest n) wd wa imm) s = .next (s.faulted (.manifest n) q 9)) ∧
      (cls < 0x24 → classInstances cls ≤ inst → exec (.openObject (.manifest n) wd wa imm) s = .next (s.faulted (.manifest n) q 0x0A)) ∧
      (cls < 0x24 → inst < classInstances cls → Computes (.openObject (.manifest n) wd wa imm) s (.manifest n) q wd (BitVec.ofNat 32 (cls * 2 ^ 16 + inst)) q.z q.n q.c q.v)) ∧
  ((∀ cls inst, cls < 0x24 → inst < classInstances cls → handleOf (BitVec.ofNat 32 (cls * 2 ^ 16 + inst)) = some (cls, inst)) ∧
      (∀ (w : Word) cls inst, handleOf w = some (cls, inst) → w.toNat = cls * 2 ^ 16 + inst ∧ cls < 0x24 ∧ inst < classInstances cls))

/-- GET writes the live value of a field to wv, or to wv and wv + 1 for a field wider than 32 bits, with Z and N from it; GETS writes the staged value
with C = 1, else the live one with C = 0; a field the context may not read faults with FAULT_ACCESS (R35, R67, R77 to R79). -/
def Obligations.GetReadsLiveAndGetsStaged : Prop :=
  ∀ (s : State) (n : Nat) (q : Prog) (wv wh : RegNo) (field : BitVec 12) (modifier : BitVec 6) (r : FieldRef), q.canonical →
    q.fieldOperand wv wh field modifier = .ok r →
    let g := s.hub.countStep (.manifest n)
    let live := g.liveValue r.cls r.inst r.num r.elem
    let may := g.mayRead q.head.ctx r.info r.cls r.inst
    let loaded (t : Prog) (v : Nat) (c : Bool) : Prop :=
      let x := r.info.carried v
      (∀ y, t.reg y = if y = 0#4 then 0#32 else if r.info.wide = true ∧ y = wv + 1#4 then BitVec.ofNat 32 (x / 2 ^ 32)
        else if y = wv then BitVec.ofNat 32 (x % 2 ^ 32) else q.reg y) ∧
      Flags t (x == 0) (x.testBit (if r.info.wide then 63 else 31)) c q.v q.k ∧ t.pc = q.pc + 1 ∧ SameBut q t
    (At s (.manifest n) (wordF 0x19#6 wv wh field modifier) q →
      (may = true → ∃ t, exec (.get (.manifest n) wv wh field modifier) s = .next (s.goesTo (.manifest n) t) ∧ loaded t live q.c) ∧
      (may = false → exec (.get (.manifest n) wv wh field modifier) s = .next (s.faulted (.manifest n) q 0x0D))) ∧
    (At s (.manifest n) (wordF 0x1d#6 wv wh field modifier) q → q.level ≠ 0x10 →
      (∀ v, q.stagedValue r = some v → ∃ t, exec (.gets (.manifest n) wv wh field modifier) s = .next (s.goesTo (.manifest n) t) ∧ loaded t v true) ∧
      (q.stagedValue r = none → may = true → ∃ t, exec (.gets (.manifest n) wv wh field modifier) s = .next (s.goesTo (.manifest n) t) ∧ loaded t live false) ∧
      (q.stagedValue r = none → may = false → exec (.gets (.manifest n) wv wh field modifier) s = .next (s.faulted (.manifest n) q 0x0D)))

/-- SET, SETX and SETM stage what the checks of R133 leave of the value, add the clamp entries, and tell a clamp or refusal in C; SET and SETM keep it
in K, SETX does not. Registers, Z, N and V stay. -/
def Obligations.SetStagesCheckedValue : Prop :=
  ∀ (s : State) (n : Nat) (q : Prog) (wv wh : RegNo) (field : BitVec 12) (modifier : BitVec 6) (r : FieldRef),
    let g := s.hub.countStep (.manifest n)
    let result (v : Int) (strict : Bool) : StoreResult := (q.storing g).store r.info r.cls r.inst r.num r.elem v q.staged strict
    let stagedBy (x : StoreResult) (k : Bool) (t : Prog) : Prop :=
      t.staged = q.staged ++ x.value.toList.map (fun y => { cls := r.cls, inst := r.inst, num := r.num, elem := r.elem, value := y }) ∧
      t.clamps = q.clamps ++ x.clamps ∧ t.regs = q.regs ∧ Flags t q.z q.n x.changed q.v k ∧ t.pc = q.pc + 1 ∧ t.stack = q.stack ∧
      t.notes = q.notes ∧ t.steps = q.steps + 1 ∧ t.words = q.words ∧ t.head = q.head
    (At s (.manifest n) (wordF 0x1a#6 wv wh field modifier) q → q.fieldOperand wv wh field modifier = .ok r →
      let x := result (q.storeValue r wv) false
      ∃ t, exec (.set (.manifest n) wv wh field modifier) s = .next (s.goesTo (.manifest n) t) ∧ stagedBy x (q.k || x.changed) t) ∧
    (At s (.manifest n) (wordF 0x1b#6 wv wh field modifier) q → q.level ≠ 0x10 → q.fieldOperand wv wh field modifier = .ok r →
      let x := result (q.storeValue r wv) true
      ∃ t, exec (.setx (.manifest n) wv wh field modifier) s = .next (s.goesTo (.manifest n) t) ∧ stagedBy x q.k t) ∧
    (At s (.manifest n) (wordF 0x1c#6 wv wh field modifier) q → q.maskOperand wv wh field modifier = .ok r →
      let old := (q.stagedValue r).getD (g.liveValue r.cls r.inst r.num r.elem)
      let mask := q.reg (modifier.extractLsb' 0 4)
      let x := result (((BitVec.ofNat 32 old &&& ~~~mask) ||| (q.reg wv &&& mask)).toNat : Nat) false
      ∃ t, exec (.setm (.manifest n) wv wh field modifier) s = .next (s.goesTo (.manifest n) t) ∧ stagedBy x (q.k || x.changed) t)

/-- What a store stages always lies within its field's range and on its step, or is one of its codes, as far as checks 4 to 7 decide it; and a SETX
that stages a value stages it unchanged (R81, R133). -/
def Obligations.StoresStayInRange : Prop :=
  (∀ (f : FieldInfo) (v : Int), f.type = .unsigned ∨ f.type = .signed → f.ranged v = true → f.lo ≤ f.hi → 0 < f.step →
    (f.hi - f.lo) % (f.step : Int) = 0 →
    let w := f.check7 (max (min v f.hi) f.lo)
    f.lo ≤ w ∧ w ≤ f.hi ∧ (w - f.lo) % (f.step : Int) = 0 ∧ (f.lo ≤ v → v ≤ f.hi → (v - f.lo) % (f.step : Int) = 0 → w = v)) ∧
  (∀ (q : Storing) (f : FieldInfo) (cls inst num elem : Nat) (v : Int) (staged : List Staged) (x : Nat),
    (q.store f cls inst num elem v staged true).value = some x →
      x = encInt f.width v ∧ (q.store f cls inst num elem v staged true).clamps = [] ∧ (q.store f cls inst num elem v staged true).changed = false)

/-- COMMIT of kinds 0 to 5 hands the staged set to the commit stage, where its context has fewer than four sets waiting, and blocks the program
otherwise; operands of the kind out of range or reserved fault, and kinds 6 to 15 fault with FAULT_OPERAND (R84, R138). -/
def Obligations.CommitHandsOverTheSet : Prop :=
  ∀ (s : State) (n : Nat) (q : Prog) (wa wb : RegNo) (index : BitVec 14) (kind : BitVec 4),
    At s (.manifest n) (wordE 0x1e#6 wa wb kind index) q →
    let i : Option Instr := match kind.toNat with
      | 0 => some (.commitNow (.manifest n) wa wb index)
      | 1 => some (.commitRefill (.manifest n) wa wb index)
      | 2 => some (.commitBlanking (.manifest n) wa wb index)
      | 3 => some (.commitTime (.manifest n) wa wb index)
      | 4 => some (.commitCycle (.manifest n) wa wb index)
      | 5 => some (.commitQuiet (.manifest n) wa wb index)
      | _ => none
    let k := if q.head.replay.isSome then 0 else kind.toNat
    let g := s.hub.countStep (.manifest n)
    let e := g.epochOf k index.toNat (q.reg wa).toNat (q.reg wb).toNat q.staged
    (∀ c, i = some c → ∀ code, q.epochFault kind.toNat wa wb index = some code → exec c s = .next (s.faulted (.manifest n) q code)) ∧
    (∀ c, i = some c → q.epochFault kind.toNat wa wb index = none → g.waitingSets q.head.ctx < 4 →
      exec c s = .next { s with hub := (g.enterStage q.head.ctx q.counted e k).settle }) ∧
    (∀ c, i = some c → q.epochFault kind.toNat wa wb index = none → 4 ≤ g.waitingSets q.head.ctx →
      exec c s = .next { s with hub := (g.passTurn true).setProg q.head.ctx { q.counted with block := some (.commitStage e k) } }) ∧
    (6 ≤ kind.toNat → exec (.commitReservedKind (.manifest n) wa wb kind index) s = .next (s.faulted (.manifest n) q 0x0C))

/-- A set enters the commit stage behind the others with the epoch it names and its context's COMMIT_TIMEOUT; a network time further ahead than that
is reported as a timeout instead, and its program has ended either way. The stores of an applied set are committed as its last store of each field
element has them, and every other field stays (R83, R136, R138, R140). -/
def Obligations.SetEntersCommitStageWithItsLastStores : Prop :=
  (∀ (h : Hub) (n : Nat) (q : Prog) (kind : Nat) (target : Nat),
      let ahead := diff48 target h.network48
      let limit : Nat := h.get F.CONTEXT.COMMIT_TIMEOUT n * 1000000
      ((limit : Int) < ahead → ∃ w : WaitSet, w.staged = q.staged ∧ w.head = q.head ∧
        h.enterStage n q (.time target) kind = (h.endManifest n).discardSet w 7 0x103 []) ∧
      (ahead ≤ limit → ∃ w : WaitSet, w.staged = q.staged ∧ w.epoch = .time target ∧ w.kind = kind ∧ w.deadline = h.now + limit ∧
        w.late = decide (ahead < 0) ∧ w.arrived = decide (ahead ≤ 0) ∧
        h.enterStage n q (.time target) kind = { h.endManifest n with sets := (h.endManifest n).sets ++ [w] })) ∧
  (∀ (a : Applied) (h : Hub) (staged : List Staged), a.sts = lastStores staged → h.fields.wf fieldDefault = true →
      (∀ before s after, staged = before ++ s :: after → (∀ x ∈ after, s.same x = false) →
        (a.write h).getN s.cls s.inst s.num s.elem = s.value) ∧
      (∀ c i m e, (∀ x ∈ staged, fieldKey x.cls x.inst x.num x.elem ≠ fieldKey c i m e) → (a.write h).getN c i m e = h.getN c i m e))

/-- ABANDON ends the Manifest with status ABANDONED and its code; WAIT goes on with Z = 1 where its moment has come, and is held until then or until
COMMIT_TIMEOUT otherwise; kind 6 holds it for wa microseconds; kinds 7 to 15 fault with FAULT_OPERAND; and a delay that ends within COMMIT_TIMEOUT
sets Z = 1. NOTE appends its two registers to the Receipt's notes, up to 32; a further NOTE records nothing and sets C = 1 (R85 to R87, R91). -/
def Obligations.AbandonWaitAndNote : Prop :=
  ((∀ (s : State) (n : Nat) (q : Prog) (func : BitVec 14), At s (.manifest n) (wordA 0x1f#6 0#4 0#4 0#4 func) q →
      exec (.abandon (.manifest n) 0#4 0#4 0#4 func) s =
        .next { s with hub := (s.hub.countStep (.manifest n)).finish q.head.ctx q.counted { status := 2, detail := func.toNat } }) ∧
    (∀ (s : State) (n : Nat) (q : Prog) (wa wb : RegNo) (index : BitVec 14) (kind : BitVec 4) (c : Instr),
      At s (.manifest n) (wordE 0x20#6 wa wb kind index) q →
      (match kind.toNat with
        | 0 => some (.waitNow (.manifest n) wa wb index)
        | 1 => some (.waitRefill (.manifest n) wa wb index)
        | 2 => some (.waitBlanking (.manifest n) wa wb index)
        | 3 => some (.waitTime (.manifest n) wa wb index)
        | 4 => some (.waitCycle (.manifest n) wa wb index)
        | 5 => some (.waitQuiet (.manifest n) wa wb index)
        | _ => none) = some c →
      let g := s.hub.countStep (.manifest n)
      let e := g.epochOf kind.toNat index.toNat (q.reg wa).toNat (q.reg wb).toNat q.staged
      (∀ code, q.epochFault kind.toNat wa wb index = some code → exec c s = .next (s.faulted (.manifest n) q code)) ∧
      (q.epochFault kind.toNat wa wb index = none → (q.head.replay.isSome = true ∨ g.atOnce e = true) →
        exec c s = .next (s.goesTo (.manifest n) { q.counted with z := true, pc := q.pc + 1 })) ∧
      (q.epochFault kind.toNat wa wb index = none → q.head.replay = none → g.atOnce e = false →
        let r : Prog := { q.counted with pc := q.pc + 1, block := some (.wait e (s.hub.now + s.hub.get F.CONTEXT.COMMIT_TIMEOUT q.head.ctx * 1000000)) }
        exec c s = .next { s with hub := ((g.seekQuiet e).passTurn true).manifestOn n r })) ∧
    (∀ (s : State) (n : Nat) (q : Prog) (wa wb : RegNo) (index : BitVec 14) (kind : BitVec 4), At s (.manifest n) (wordE 0x20#6 wa wb kind index) q →
      let us := (q.reg wa).toNat
      (7 ≤ kind.toNat → exec (.waitDelay (.manifest n) wa wb kind index) s = .next (s.faulted (.manifest n) q 0x0C)) ∧
      (kind = 6#4 → wb = 0#4 → index = 0#14 → (us = 0 ∨ 1000000 < us) → exec (.waitDelay (.manifest n) wa wb kind index) s = .next (s.faulted (.manifest n) q 0x0C)) ∧
      (kind = 6#4 → wb = 0#4 → index = 0#14 → 1 ≤ us → us ≤ 1000000 → 
        let b : Block := .delay (s.hub.now + us * 1000) (s.hub.now + s.hub.get F.CONTEXT.COMMIT_TIMEOUT q.head.ctx * 1000000)
        exec (.waitDelay (.manifest n) wa wb kind index) s = .next (s.heldAs (.manifest n) { q.counted with pc := q.pc + 1, block := some b }))) ∧
    (∀ (s : State) (n : Nat) (q : Prog) (due deadline : Nat), s.hub.mainUp = true → n < 6 → s.hub.prog n = some q → q.block = some (.delay due deadline) →
      due ≤ deadline → exec (.waitDelayExpiry n) s = .next { s with hub := (s.hub.advanceTo due).manifestOn n { q with block := none, z := true } })) ∧
  (∀ (s : State) (n : Nat) (q : Prog) (wa wb : RegNo), At s (.manifest n) (wordA 0x23#6 0#4 wa wb 0#14) q →
      (q.notes.length < 32 → exec (.note (.manifest n) 0#4 wa wb 0#14) s =
        .next (s.goesTo (.manifest n) { q.counted with notes := q.notes ++ [(q.reg wa, q.reg wb)], c := false, pc := q.pc + 1 })) ∧
      (32 ≤ q.notes.length → exec (.note (.manifest n) 0#4 wa wb 0#14) s = .next (s.goesTo (.manifest n) { q.counted with c := true, pc := q.pc + 1 })))

/-- OWN and YIELD, plain and forced: refused, Z = 0 and the token stays; otherwise it moves, or already stood there, with Z = 1; wd reads the holder
code after the instruction (R67, R88, R89, R146). -/
def Obligations.OwnAndYieldMoveTokens : Prop :=
  ∀ (s : State) (n : Nat) (q : Prog) (wd wa : RegNo) (imm : BitVec 17) (force : Bool),
    let me := q.head.ctx
    let k := (q.reg wa).toNat + imm.toNat % 64
    let done (c : Instr) (new : Nat) (own : Bool) : Prop :=
      let h := (s.hub.countStep (.manifest n)).moveToken k new (if force then 0xE else me) own
      let h := if own && q.head.replay.isSome then { h with replayTokens := h.replayTokens.filter (fun x => x.1 != k) ++ [(k, me)] } else h
      let r := (({ q.counted with z := true } : Prog).setReg wd (BitVec.ofNat 32 (h.holder k))).next
      exec c s = .next { s with hub := h.goOn (.manifest n) r }
    let kept (c : Instr) : Prop := exec c s = .next (s.goesTo (.manifest n) ((({ q.counted with z := false } : Prog).setReg wd (BitVec.ofNat 32 (s.hub.holder k))).next))
    (At s (.manifest n) (wordI 0x21#6 wd wa (BitVec.ofBool force ++ imm)) q → imm.toNat / 64 = 0 →
      let c : Instr := if force then .ownForce (.manifest n) wd wa imm else .own (.manifest n) wd wa imm
      (64 ≤ k → exec c s = .next (s.faulted (.manifest n) q 0x0C)) ∧
      (k < 64 → s.hub.ownRefused q me k force = true → kept c) ∧
      (k < 64 → s.hub.ownRefused q me k force = false → done c me true)) ∧
    (At s (.manifest n) (wordI 0x22#6 wd wa (BitVec.ofBool force ++ imm)) q → imm.toNat / 2 ^ 12 = 0 → imm.toNat / 64 % 4 = 0 →
      let c : Instr := if force then .yieldForce (.manifest n) wd wa imm else .yield (.manifest n) wd wa imm
      let dest := imm.toNat / 256 % 16
      ((64 ≤ k ∨ (6 ≤ dest ∧ dest ≤ 14)) → exec c s = .next (s.faulted (.manifest n) q 0x0C)) ∧
      (k < 64 → (dest < 6 ∨ dest = 15) → s.hub.yieldRefused q me k dest force = true → kept c) ∧
      (k < 64 → (dest < 6 ∨ dest = 15) → s.hub.yieldRefused q me k dest force = false → done c dest false))

/-- A move of a head's or an Ethernet MAC's token shows the new holder, one more move, and its moment, and leaves every other token where it was (R33,
R147, R164). -/
def Obligations.TokenMoveShowsNewHolder : Prop :=
  ∀ (h : Hub) (k new acting : Nat) (own : Bool), h.canonical → 51 ≤ k → k < 57 → new < 16 → h.holder k ≠ new → h.startNoted = true →
    let g := h.moveToken k new acting own
    g.holder k = new ∧ (∀ j, j < 57 → j ≠ k → g.holder j = h.holder j) ∧ g.get F.TOKEN.MOVES k = (h.get F.TOKEN.MOVES k + 1) % 2 ^ 32 ∧
      g.get F.TOKEN.LAST_MOVE k = h.now48 ∧ g.progs = h.progs ∧ g.sets = h.sets ∧ g.links = h.links ∧ g.yard = h.yard

/-- XFER holds the Manifest until its transaction ends, and ends it with OWNER without the interface's token; XFER_DONE gives the status in Z, C and V
and the read bytes in w12 to w15; RELEASE ends the lock and tells in C that none was held (R67, R92 to R95). -/
def Obligations.BranchTransactionsOfManifests : Prop :=
  (∀ (s : State) (n : Nat) (q : Prog) (wa wb : RegNo) (kind : BitVec 4) (index : BitVec 14) (b : Nat),
    At s (.manifest n) (wordE 0x25#6 wa wb kind index) q → q.level ≠ 0x10 → (kind = 0#4 ∨ kind = 8#4) → index.toNat / 2 ^ 10 = 0 →
    let w := index.toNat % 32
    let r := index.toNat / 32
    let c : Instr := .xfer (.manifest n) wa wb kind index
    let g := s.hub.countStep (.manifest n)
    ((16 < w ∨ 16 < r ∨ (w = 0 ∧ r = 0)) → exec c s = .next (s.faulted (.manifest n) q 0x0C)) ∧
    (w ≤ 16 → r ≤ 16 → ¬ (w = 0 ∧ r = 0) → branchOf (q.reg wa) = none → exec c s = .next (s.faulted (.manifest n) q 8)) ∧
    (w ≤ 16 → r ≤ 16 → ¬ (w = 0 ∧ r = 0) → branchOf (q.reg wa) = some b → g.holds q.head.ctx (45 + b) = false →
      exec c s = .next { s with hub := g.finish q.head.ctx q.counted { status := 6, detail := 2 } }) ∧
    (w ≤ 16 → r ≤ 16 → ¬ (w = 0 ∧ r = 0) → branchOf (q.reg wa) = some b → g.holds q.head.ctx (45 + b) = true →
      g.get F.BRANCH.MODE b ≠ 0 → farAddrOk b (q.reg wb).toNat w r = true → (g.farBus b).stuck = false → (b < 2 → g.get F.BRANCH.CAN_STATE b ≠ 2) →
      let a : Access := { xfer := true, ctx := q.head.ctx, lock := kind == 8#4, addr := (q.reg wb).toNat, data := q.xferBytes w, readLen := r }
      exec c s = .next { s with hub := ((g.farSubmit b a).passTurn true).manifestOn n { q.counted with pc := q.pc + 1, block := some (.xfer b r) } })) ∧
  (∀ (s : State) (n : Nat) (q : Prog) (b r status : Nat) (data : List Byte), s.hub.mainUp = true → n < 6 → s.hub.prog n = some q → q.block = some (.xfer b r) →
    s.hub.xferDone.read (fun _ => none) n = some (status, data) → status ≠ 1 →
    let h : Hub := { s.hub with xferDone := s.hub.xferDone.write (fun _ => none) n none }
    let q1 : Prog := { (if r = 0 then q else q.placeRead data) with block := none }
    let q2 : Prog := { q1 with z := decide (status = 0), c := decide (status = 3 ∨ status = 5 ∨ status = 6), v := decide (status = 4) }
    exec (.xferDone n) s = .next { s with hub := h.manifestOn n q2 }) ∧
  (∀ (s : State) (n : Nat) (q : Prog) (wa : RegNo), At s (.manifest n) (wordA 0x26#6 0#4 wa 0#4 0#14) q → q.level ≠ 0x10 →
    (branchOf (q.reg wa) = none → exec (.release (.manifest n) 0#4 wa 0#4 0#14) s = .next (s.faulted (.manifest n) q 8)) ∧
    (∀ b, branchOf (q.reg wa) = some b → let x := (s.hub.countStep (.manifest n)).farRelease b q.head.ctx
      exec (.release (.manifest n) 0#4 wa 0#4 0#14) s = .next { s with hub := x.1.manifestOn n { q.counted with pc := q.pc + 1, c := !x.2 } }))

/-! ### Knaen: the Shunter profile -/

/-- EXT reads a bit field of the message into wd, zero- or sign-extended, with Z and N, and C where it passes the message end; INS writes the low bits
of wd into a field, with V where the value does not fit (R67, R98, R99). -/
def Obligations.MessageFieldsExtractedAndInserted : Prop :=
  ∀ (s : State) (e t : Nat) (q : Prog) (wd wa : RegNo) (func : BitVec 14), q.canonical →
    let start := (q.reg wa).toNat + func.toNat / 2 ^ 7
    let len := func.toNat % 32 + 1
    let order := if func.getLsbD 5 then 1 else 0
    let past := decide (8 * q.job.bytes.length < start + len)
    (At s (.shunter e t) (wordA 0x30#6 wd wa 0#4 func) q →
      let v := getField order q.job.bytes start len
      let r : Word := if func.getLsbD 6 then BitVec.ofInt 32 (decInt len v) else BitVec.ofNat 32 v
      Computes (.ext (.shunter e t) wd wa 0#4 func) s (.shunter e t) q wd r (r == 0#32) r.msb past q.v) ∧
    (At s (.shunter e t) (wordA 0x31#6 wd wa 0#4 func) q →
      let j : ShunterJob := { q.job with bytes := putField order q.job.bytes start len (q.reg wd).toNat }
      let r : Prog := { q.counted with job := j, c := past, v := unfit (q.reg wd).toNat len (func.getLsbD 6), pc := q.pc + 1 }
      exec (.ins (.shunter e t) wd wa 0#4 func) s = .next (s.goesTo (.shunter e t) r))

/-- A field read back after it was written within the message gives the low bits written, in either bit order, and the message keeps its length (R98,
R99). -/
def Obligations.InsertedFieldReadsBack : Prop :=
  ∀ (order : Nat) (bs : List Byte) (start len v : Nat), order ≤ 1 → 1 ≤ len → len ≤ 32 → start + len ≤ 8 * bs.length →
    getField order (putField order bs start len v) start len = v % 2 ^ len ∧ (putField order bs start len v).length = bs.length

/-- SCALE rescales wa by a signal map entry and saturates it to the entry's limits; LOOK finds a Route table entry or answers 0xFFFF_FFFF with C. EMIT
sends a value to a signal map entry, and COUNT adds one message and wb bytes to a counter; an entry above 2,047 or a counter above 4,095 faults
with FAULT_OPERAND (R67, R100, R101, R108, R109). -/
def Obligations.ScaleLookEmitAndCount : Prop :=
  (∀ (s : State) (e t : Nat) (q : Prog) (wd wa wb : RegNo) (func : BitVec 14),
      (At s (.shunter e t) (wordA 0x32#6 wd wa wb func) q → func.toNat / 2 = 0 →
        let entry := (q.reg wb).toNat
        let x : Int := if func.getLsbD 0 then (q.reg wa).toInt else ((q.reg wa).toNat : Int)
        (2047 < entry → exec (.scale (.shunter e t) wd wa wb func) s = .next (s.faulted (.shunter e t) q 0x0C)) ∧
        (entry ≤ 2047 →
          let y := (s.hub.countStep (.shunter e t)).scaleSignal entry x
          let v : Word := BitVec.ofInt 32 y.1
          let r := ({ q.counted.setReg wd v with z := v == 0#32, n := v.msb, v := y.2 } : Prog).next
          exec (.scale (.shunter e t) wd wa wb func) s = .next { s with hub := ((s.hub.countStep (.shunter e t)).signalSaturated entry y.2).goOn (.shunter e t) r })) ∧
      (At s (.shunter e t) (wordA 0x33#6 wd wa wb func) q → func.toNat / 16 = 0 →
        let found := (s.hub.countStep (.shunter e t)).look func.toNat (q.reg wa).toNat (q.reg wb).toNat
        (found = none → exec (.look (.shunter e t) wd wa wb func) s = .next (s.faulted (.shunter e t) q 0x0C)) ∧
        (found = some none → exec (.look (.shunter e t) wd wa wb func) s =
          .next (s.goesTo (.shunter e t) { q.counted.setReg wd 0xFFFFFFFF#32 with c := true, pc := q.pc + 1 })) ∧
        (∀ i, found = some (some i) → exec (.look (.shunter e t) wd wa wb func) s =
          .next (s.goesTo (.shunter e t) { q.counted.setReg wd (BitVec.ofNat 32 i) with c := false, pc := q.pc + 1 })))) ∧
  (∀ (s : State) (e t : Nat) (q : Prog) (wa wb : RegNo) (index : BitVec 14),
      let id : ProgId := .shunter e t
      (At s id (wordE 0x3a#6 wa wb 0#4 index) q →
        let entry := (q.reg wb).toNat + index.toNat
        let x := (s.hub.countStep id).emitSignal entry (q.reg wa).toNat false (((s.hub.countStep id).jobPkt q).stamp / 65536)
        (2047 < entry → exec (.emit id wa wb 0#4 index) s = .next (s.faulted id q 0x0C)) ∧
        (entry ≤ 2047 → exec (.emit id wa wb 0#4 index) s = .next { s with hub := x.1.goOn id { q.counted with c := x.2.2, v := x.2.1, pc := q.pc + 1 } })) ∧
      (At s id (wordE 0x3b#6 wa wb 0#4 index) q →
        let c := (q.reg wa).toNat + index.toNat
        (4095 < c → exec (.count id wa wb 0#4 index) s = .next (s.faulted id q 0x0C)) ∧
        (c ≤ 4095 →
          let h := ((s.hub.countStep id).add F.SHUNTER.CTR_MSGS (c / 512) 1 (c % 512)).add F.SHUNTER.CTR_BYTES (c / 512) (q.reg wb).toNat (c % 512)
          exec (.count id wa wb 0#4 index) s = .next { s with hub := h.goOn id { q.counted with pc := q.pc + 1 } })))

/-- FWD adds a queue to the destination set, at most 16 and none twice, or replaces the set with it; a queue above 2,047 faults with FAULT_OPERAND;
DROP ends the program with its message dropped; MIRR marks a session once (R67, R102 to R104). -/
def Obligations.DestinationsDropsAndMarks : Prop :=
  ∀ (s : State) (e t : Nat) (q : Prog) (wa wb : RegNo) (index : BitVec 14),
    let leaf := (q.reg wa).toNat + index.toNat
    let d := (leaf, (q.reg wb).toNat % 4096)
    let id : ProgId := .shunter e t
    let free := (s.hub.countStep id).get F.PROGRAM.SCOPE q.job.slot = 0xF
    (At s id (wordE 0x34#6 wa wb 0#4 index) q →
      (2047 < leaf → exec (.fwd id wa wb 0#3 index) s = .next (s.faulted id q 0x0C)) ∧
      (leaf ≤ 2047 → free → (∃ x ∈ q.job.dests, x.1 = leaf) ∨ 16 ≤ q.job.dests.length →
        exec (.fwd id wa wb 0#3 index) s = .next (s.goesTo id { q.counted with c := true, pc := q.pc + 1 })) ∧
      (leaf ≤ 2047 → free → (∀ x ∈ q.job.dests, x.1 ≠ leaf) → q.job.dests.length < 16 → exec (.fwd id wa wb 0#3 index) s =
        .next (s.goesTo id { q.counted with job := { q.job with dests := q.job.dests ++ [d] }, c := false, pc := q.pc + 1 }))) ∧
    (At s id (wordE 0x34#6 wa wb 1#4 index) q →
      (2047 < leaf → exec (.fwdReplace id wa wb 0#3 index) s = .next (s.faulted id q 0x0C)) ∧
      (leaf ≤ 2047 → free → exec (.fwdReplace id wa wb 0#3 index) s =
        .next (s.goesTo id { q.counted with job := { q.job with dests := [d] }, c := false, pc := q.pc + 1 }))) ∧
    (∀ func : BitVec 14, func.toNat < 256 → At s id (wordA 0x35#6 0#4 0#4 0#4 func) q → exec (.drop id 0#4 0#4 0#4 func) s =
      .next { s with hub := (s.hub.countStep id).shunterDrop e t func.toNat q.counted }) ∧
    (index.toNat < 4 → At s id (wordE 0x36#6 0#4 0#4 0#4 index) q → free → exec (.mirr id 0#4 0#4 0#4 index) s =
      .next (let ms := if q.job.mirrors.contains index.toNat then q.job.mirrors else q.job.mirrors ++ [index.toNat]
        s.goesTo id { q.counted with job := { q.job with mirrors := ms }, pc := q.pc + 1 }))

/-- STAMP writes the ingress time now or marks the egress time; CORR adds nanoseconds now or marks residence and link delay; CSUM computes the ones'
complement sum or marks a fix; each sets C where its field passes the message end (R67, R105 to R107). -/
def Obligations.TimeFieldsAndChecksums : Prop :=
  ∀ (s : State) (e t : Nat) (q : Prog) (wd wa wb : RegNo) (kind : BitVec 4) (index : BitVec 14),
    let id : ProgId := .shunter e t
    let off := (q.reg wa).toNat + index.toNat
    let f := kind.toNat % 4
    let size := q.job.bytes.length
    (kind.toNat < 4 → At s id (wordE 0x37#6 wa 0#4 kind index) q →
      (size < off + stampLen f → exec (.stamp id wa 0#4 (kind.extractLsb' 0 3) index) s = .next (s.goesTo id { q.counted with c := true, pc := q.pc + 1 })) ∧
      (off + stampLen f ≤ size →
        let at_ := ((s.hub.countStep id).jobPkt q).stamp
        let j : ShunterJob := { q.job with bytes := putBytes q.job.bytes off (stampBytes f at_ ((s.hub.countStep id).networkAt at_)) }
        exec (.stamp id wa 0#4 (kind.extractLsb' 0 3) index) s = .next (s.goesTo id { q.counted with job := j, c := false, pc := q.pc + 1 }))) ∧
    (8 ≤ kind.toNat → kind.toNat < 12 → At s id (wordE 0x37#6 wa 0#4 kind index) q →
      (size < off + stampLen f → exec (.stampEgress id wa 0#4 (kind.extractLsb' 0 3) index) s = .next (s.goesTo id { q.counted with c := true, pc := q.pc + 1 })) ∧
      (off + stampLen f ≤ size → exec (.stampEgress id wa 0#4 (kind.extractLsb' 0 3) index) s = .next (s.goesTo id
        { q.counted with job := { q.job with marks := q.job.marks ++ [.stamp off f] }, c := false, pc := q.pc + 1 }))) ∧
    (kind.toNat < 8 → At s id (wordE 0x38#6 wa wb kind index) q → (kind.getLsbD 2 = false ∨ q.level ≠ 0x10) →
      (kind = 0#4 → exec (.corr id wa wb kind index) s = .next (s.faulted id q 0x0C)) ∧
      (kind ≠ 0#4 → size < off + 8 → exec (.corr id wa wb kind index) s = .next (s.goesTo id { q.counted with c := true, v := false, pc := q.pc + 1 })) ∧
      (kind ≠ 0#4 → off + 8 ≤ size →
        let x := if kind.getLsbD 1 then addCorrection q.job.bytes off ((q.reg wb).toInt * 65536) else (q.job.bytes, false)
        let later : List EgressMark := if kind.getLsbD 0 || kind.getLsbD 2 then [.corr off (kind.getLsbD 0) (kind.getLsbD 2)] else []
        exec (.corr id wa wb kind index) s = .next (s.goesTo id
          { q.counted with job := { q.job with bytes := x.1, marks := q.job.marks ++ later }, c := false, v := x.2, pc := q.pc + 1 }))) ∧
    (At s id (wordA 0x39#6 wd wa wb 0#14) q →
      let r : Word := BitVec.ofNat 32 (fold16 (fold16 (onesSum ((q.job.bytes.drop (q.reg wa).toNat).take (q.reg wb).toNat))))
      let past := decide ((q.reg wb).toNat ≠ 0 ∧ size < (q.reg wa).toNat + (q.reg wb).toNat)
      exec (.csumCompute id wd wa wb 0#14) s = .next (s.goesTo id (({ q.counted with z := r == 0#32, c := past } : Prog).setReg wd r).next)) ∧
    (At s id (wordA 0x39#6 0#4 wa 0#4 1#14) q →
      (size < (q.reg wa).toNat + 2 → exec (.csumFix id 0#4 wa 0#4 0#12) s = .next (s.goesTo id { q.counted with c := true, pc := q.pc + 1 })) ∧
      ((q.reg wa).toNat + 2 ≤ size → exec (.csumFix id 0#4 wa 0#4 0#12) s = .next (s.goesTo id
        { q.counted with job := { q.job with marks := q.job.marks ++ [.csum (q.reg wa).toNat] }, c := false, pc := q.pc + 1 })))

/-- A Shunter program starts on its thread's message with its length, its port, tunnel and class, its Route table entry and its local time in w1 to
w4, every other register, flag and the call stack clear (of a program loaded by a context; the library's two run as one event) (R96). -/
def Obligations.ShunterProgramStartsOnMessage : Prop :=
  (∀ (s : State) (e t : Nat) (k : Ticket) (level : Nat) (words : List Word), s.hub.mainUp = true → e < 8 → t < 16 →
    s.hub.yard.tickets.find? (fun x => x.id + 1 == s.hub.threadOf e t) = some k → s.hub.prog (progKey (.shunter e t)) = none →
    k.slot ≠ 1 → k.slot ≠ 2 → s.hub.yard.loaded.read (fun _ => none) k.slot = some (level, words) →
    exec (.shunterProgramStart e t) s = .next { s with hub := ((s.hub.add F.PROGRAM.RUNS k.slot 1).goOn (.shunter e t) (startProg level words k.slot k)).branchDrain }) ∧
  (∀ (level slot : Nat) (words : List Word) (k : Ticket), let q := startProg level words slot k
    (k.pkt.port < 16 → k.pkt.index < 4096 → k.pkt.cls < 8 → (q.reg 2).toNat % 16 = k.pkt.port ∧
      (q.reg 2).toNat / 2 ^ 4 % 2 ^ 12 = (if k.pkt.port < 4 then k.pkt.index else 0) ∧
      (q.reg 2).toNat / 2 ^ 16 % 2 ^ 3 = (if k.pkt.port < 4 then k.pkt.cls else 0) ∧ (q.reg 2).toNat / 2 ^ 19 = 0) ∧
    q.reg 1 = BitVec.ofNat 32 k.pkt.bytes.length ∧ q.reg 3 = BitVec.ofNat 32 k.pkt.entry ∧ q.reg 4 = BitVec.ofNat 32 (k.pkt.stamp / 65536) ∧
    (∀ x : RegNo, x = 0#4 ∨ 5 ≤ x.toNat → q.reg x = 0#32) ∧ Flags q false false false false false ∧ q.stack = [] ∧ q.pc = 0 ∧ q.steps = 0 ∧
    q.words = words ∧ q.job.bytes = k.pkt.bytes ∧ q.shunter = true)

/-! ### Landings: flits -/

/-- An intact control flit: IDLE only counts its corrected symbols, ACK and RESYNC act at once whatever the sequence (R184 to R189). The sequenced
ones act in sequence: before the inbound side is sealed their control takes effect, after it they wait in the open group, and a TAG closes the
group; a data flit joins the group while its class has credit (R186, R204, R205). An authentic flit delivers its content: a data flit its
decrypted payload to its tunnel, a control flit its control; and an authentication message whole in one segment is acted on (R185, R203, R204). -/
def Obligations.FlitsInOrderTakeEffect : Prop :=
  (∀ (q : List Instr) (h : Hub) (l pair fec : Nat) (flit : List Byte), l < 4 → pair < 4 → Intact h l pair fec flit →
      let p := (flit.drop 4).take 128
      let seq := (h.link l).rxSeq % 2 ^ 32
      let counted := h.add F.PAIR.FEC_CORRECTED (4 * l + pair) fec
      let joined (g : Hub) : Hub := g.modLink l (fun k => { k with groupIn := k.groupIn ++ [(seq, flit)] })
      (ControlOf 0 flit → exec (.idleFlit l pair fec flit) ⟨h, q⟩ = .next ⟨counted.linkSettled l, q⟩) ∧
      (ControlOf 1 flit → exec (.ackFlit l pair fec flit) ⟨h, q⟩ = .next ⟨(counted.takeAck l p).linkSettled l, q⟩) ∧
      (ControlOf 0x14 flit → exec (.resync l pair fec flit) ⟨h, q⟩ = .next ⟨(counted.takeResync l (leAt flit 4 4)).linkSettled l, q⟩) ∧
      (InOrder h l flit →
        (∀ (i : Instr) (t : Nat),
          (i, t) ∈ [(.swapAck l pair fec flit, 5), (.swapNak l pair fec flit, 6), (.swapDone l pair fec flit, 7), (.rekeyFlit l pair fec flit, 9),
            (.idleReq l pair fec flit, 0x0A), (.idleAck l pair fec flit, 0x0B), (.sleepReq l pair fec flit, 0x0C), (.retrainReq l pair fec flit, 0x11),
            (.pairOut l pair fec flit, 0x12), (.pairJoin l pair fec flit, 0x13)] → ControlOf t flit →
          ((h.link l).sealIn = false → exec i ⟨h, q⟩ = .next ⟨(((h.received l pair fec flit).takeControlFlit l t p).followed l).linkSettled l, q⟩) ∧
          ((h.link l).sealIn = true → exec i ⟨h, q⟩ = .next ⟨((joined (h.received l pair fec flit)).followed l).linkSettled l, q⟩)) ∧
        (∀ (i : Instr) (t : Nat),
          (i, t) ∈ [(.authInit (.ldl l) pair fec flit, 1), (.authProof (.ldl l) pair fec flit, 3), (.authAbort (.ldl l) pair fec flit, 5),
            (.authGo (.ldl l) pair fec flit, 6)] → ControlOf 0x10 flit → byteAt flit 4 = t →
          ((h.link l).sealIn = false → exec i ⟨h, q⟩ = .next ⟨(((h.received l pair fec flit).takeControlFlit l 0x10 p).followed l).linkSettled l, q⟩) ∧
          ((h.link l).sealIn = true → exec i ⟨h, q⟩ = .next ⟨((joined (h.received l pair fec flit)).followed l).linkSettled l, q⟩)) ∧
        (ControlOf 2 flit → (h.link l).sealIn = true →
          exec (.tagFlit l pair fec flit) ⟨h, q⟩ = .next ⟨(((h.received l pair fec flit).takeTag l p).followed l).linkSettled l, q⟩) ∧
        (leAt flit 0 4 < 2 ^ 31 → bitB (leAt flit 0 4) 12 = false → (h.link l).sealIn = true →
          let c := bits (leAt flit 0 4) 28 3
          counted.heldFlits l c < (counted.link l).granted.read (fun _ => 0) c →
          let g := (h.received l pair fec flit).modLink l (fun k => { k with taken := k.taken.write (fun _ => 0) c ((k.taken.read (fun _ => 0) c + 1) % 2 ^ 32) })
          exec (.dataFlit l pair fec flit) ⟨h, q⟩ = .next ⟨((joined g).followed l).linkSettled l, q⟩))) ∧
  (∀ (h : Hub) (l first i : Nat) (s : Session) (flit : List Byte), l < 4 →
      (2 ^ 31 ≤ leAt flit 0 4 → h.deliverFlit l s first i flit = h.takeControlFlit l (ctypeOf flit) ((flit.drop 4).take 128)) ∧
      (leAt flit 0 4 < 2 ^ 31 → h.deliverFlit l s first i flit = h.tunnelFlit l (leAt flit 0 4)
        (gcmXor (secretKey s.secretIn) (sessionNonce s.saltIn 0 s.epochIn first) (128 * i) ((flit.drop 4).take 128))) ∧
      (∀ p : List Byte, h.takeControlFlit l 0x10 p = h.authSegment l p) ∧
      (∀ p : List Byte, byteAt p 1 = 0 → byteAt p 2 = 1 → byteAt p 3 = 0 → leAt p 4 2 = leAt p 6 2 → leAt p 6 2 ≤ 120 → p.length = 128 →
        h.authSegment l p = (h.setExchange l { h.exchange l with part := [], partNext := 0 }).authMessage l (byteAt p 0) ((p.drop 8).take (leAt p 6 2))))

/-- A flit ahead of the expected one by less than 256 is kept aside once, and asked for again after 2 µs, while fewer than 255 wait; any other flit
out of order changes nothing but the count of corrected symbols; a flit with more than 15 symbols in error (its moment noted for the pair) or a
wrong CRC is counted and asked for again; a flit of no type the host may send is a protocol error (R185, R188). -/
def Obligations.FlitsOutOfOrderOrBad : Prop :=
  ∀ (q : List Instr) (h : Hub) (l pair fec : Nat) (flit : List Byte), l < 4 → pair < 4 → leAt flit 0 4 < 2 ^ 31 →
    let counted := h.add F.PAIR.FEC_CORRECTED (4 * l + pair) fec
    let n := leAt flit 0 4 % 4096
    let ahead := (n + 4096 - (h.link l).rxSeq % 4096) % 4096
    let kept := (counted.modLink l (fun k => { k with reorder := k.reorder ++ [(n, flit)] })).armOnce T.nak l 2000
    (Intact h l pair fec flit → bitB (leAt flit 0 4) 12 = false → (h.link l).resync = false →
      (256 ≤ ahead → exec (.dataFlit l pair fec flit) ⟨h, q⟩ = .next ⟨counted.linkSettled l, q⟩) ∧
      (0 < ahead → ahead < 256 → (∃ f, (n, f) ∈ (h.link l).reorder) → exec (.dataFlit l pair fec flit) ⟨h, q⟩ = .next ⟨counted.linkSettled l, q⟩) ∧
      (0 < ahead → ahead < 256 → (∀ f, (n, f) ∉ (h.link l).reorder) → (h.link l).reorder.length < 254 →
        exec (.dataFlit l pair fec flit) ⟨h, q⟩ = .next ⟨kept.linkSettled l, q⟩)) ∧
    (h.flitsRun l = true → h.hearsOn l pair = true →
      (15 < fec →
        let noted := (h.add F.PAIR.FEC_UNCORRECTABLE (4 * l + pair) 1).modLink l (fun k => { k with
          badCodes := k.badCodes.write (fun _ => []) pair ((k.badCodes.read (fun _ => []) pair).filter (fun t => h.now < t + msec) ++ [h.now]) })
        exec (.dataFlit l pair fec flit) ⟨h, q⟩ = .next ⟨(noted.wantNak l).linkSettled l, q⟩) ∧
      (fec ≤ 15 → flit.length = 136 → leAt flit 132 4 ≠ crc32c (flit.take 132) →
        exec (.dataFlit l pair fec flit) ⟨h, q⟩ = .next ⟨((counted.add F.PAIR.CRC_ERRORS (4 * l + pair) 1).wantNak l).linkSettled l, q⟩)) ∧
    (∀ f : List Byte, Intact h l pair fec f → 2 ^ 31 ≤ leAt f 0 4 →
      (0x14 < ctypeOf f → exec (.reservedControlFlit l pair fec f) ⟨h, q⟩ = .next ⟨(counted.protocolError l (ctypeOf f) 1).linkSettled l, q⟩) ∧
      (ctypeOf f ≤ 0x14 → ctlFromHost (ctypeOf f) = false →
        exec (.reservedControlFlit l pair fec f) ⟨h, q⟩ = .next ⟨(counted.protocolError l (ctypeOf f) 2).linkSettled l, q⟩))

/-! ### Commits -/

/-- A command that commits a context's stores to one instance ends as a set of that context commits: the checked values take effect with all that
follows them, and stores of which none passes its checks change nothing (R133 to R139; the stores of a command are one set without a Manifest and
without a Receipt, the model's choice, log entry 12). -/
def Obligations.CommitsTakeEffect : Prop :=
  ∀ (q : List Instr) (h : Hub), h.mainUp = true →
    (∀ (ctx n value elem : Nat) (stores : List (Nat × Nat × Int)) (v : Int) (force : Bool) (digest : List Nat) (i : Instr) (cls inst : Nat) (sts : List (Nat × Nat × Int)),
      (i, cls, inst, sts) ∈ [
        (.standingClear ctx n, F.STANDING.CLEAR.cls, n, [(F.STANDING.CLEAR.num, 0, 1)]),
        (.detectEnableCommit ctx n value, F.LANDING.DETECT_ENABLE.cls, n, [(F.LANDING.DETECT_ENABLE.num, 0, (value : Int))]),
        (.landingRekeyCommit ctx n, F.LANDING.REKEY.cls, n, [(F.LANDING.REKEY.num, 0, 1)]),
        (.allotInChange ctx n value, F.LANDING.ALLOT_IN.cls, n, [(F.LANDING.ALLOT_IN.num, 0, (value : Int))]),
        (.pairEnableChange ctx n value, F.PAIR.ENABLE.cls, n, [(F.PAIR.ENABLE.num, 0, (value : Int))]),
        (.guestAllowClear ctx n, F.CLASSBUDGET.GUEST_ALLOW.cls, n, [(F.CLASSBUDGET.GUEST_ALLOW.num, 0, 0)]),
        (.shunterDisable ctx n, F.SHUNTER.ENABLE.cls, n, [(F.SHUNTER.ENABLE.num, 0, 0)]),
        (.programLoad ctx n stores, F.PROGRAM.STATE.cls, n, stores ++ [(F.PROGRAM.STATE.num, 0, 1)]),
        (.programUnload ctx n, F.PROGRAM.STATE.cls, n, [(F.PROGRAM.STATE.num, 0, 0)]),
        (.timetableCommit ctx n stores, F.TIMETABLE.ENABLE.cls, n, stores),
        (.mdioRequest ctx n value, F.ETHPORT.MDIO_REQ.cls, n, [(F.ETHPORT.MDIO_REQ.num, 0, (value : Int))]),
        (.cloneStart ctx n value stores, F.LAYER.CLONE_OF.cls, n, stores ++ [(F.LAYER.CLONE_OF.num, 0, (value : Int))]),
        (.surfaceAllocate ctx n stores, F.SURFACE.STATE.cls, n, stores ++ [(F.SURFACE.STATE.num, 0, 1)]),
        (.surfaceFree ctx n, F.SURFACE.STATE.cls, n, [(F.SURFACE.STATE.num, 0, 0)]),
        (.layerSurfaceStore ctx n value, F.LAYER.SURFACE.cls, n, [(F.LAYER.SURFACE.num, 0, (value : Int))]),
        (.scanoutStart ctx n, F.HEAD.SCANOUT.cls, n, [(F.HEAD.SCANOUT.num, 0, 1)]),
        (.clockStep ctx v force, F.CLOCK.STEP.cls, 0, (if force then [(F.CLOCK.STEP_FORCE.num, 0, (1 : Int))] else []) ++ [(F.CLOCK.STEP.num, 0, v)]),
        (.rateChange ctx v, F.CLOCK.RATE.cls, 0, [(F.CLOCK.RATE.num, 0, v)]),
        (.hostLockCommit ctx value, F.CLOCK.HOST_LOCK.cls, 0, [(F.CLOCK.HOST_LOCK.num, 0, (value : Int))]),
        (.triggerArm ctx n stores, F.TRIGGER.ENABLE.cls, n, stores ++ [(F.TRIGGER.ENABLE.num, 0, 1)]),
        (.slotEnableChange ctx n value, F.STORAGE.SLOT_ENABLE.cls, n, [(F.STORAGE.SLOT_ENABLE.num, 0, (value : Int))]),
        (.signalEnable ctx n stores, F.SIGNAL.ENABLE.cls, n, stores ++ [(F.SIGNAL.ENABLE.num, 0, 1)]),
        (.branchModeCommit ctx n stores, F.BRANCH.MODE.cls, n, stores),
        (.canTxPeriodCommit ctx n elem value, F.BRANCH.TX_PERIOD.cls, n, [(F.BRANCH.TX_PERIOD.num, elem, (value : Int))]),
        (.usbModeChange ctx n value, F.USBPORT.MODE.cls, n, [(F.USBPORT.MODE.num, 0, (value : Int))]),
        (.legacyEnableChange ctx n value, F.LEGACY.ENABLE.cls, n, [(F.LEGACY.ENABLE.num, 0, (value : Int))]),
        (.latchClear ctx n, F.FEED.LATCH_CLEAR.cls, n, [(F.FEED.LATCH_CLEAR.num, 0, 1)]),
        (.chargeBudgetCommit ctx value, F.FEED.CHARGE_BUDGET.cls, 0, [(F.FEED.CHARGE_BUDGET.num, 0, (value : Int))]),
        (.keyslotClaim ctx n value, F.KEYSLOT.KIND.cls, n, [(F.KEYSLOT.KIND.num, 0, (value : Int))]),
        (.measureExtend ctx digest, F.KEYSLOT.EXTEND.cls, 0, (digest.take 6).zipIdx.map (fun x => (F.KEYSLOT.EXTEND.num, x.2, (x.1 : Int)))),
        (.tamperClear ctx, F.KEYSLOT.TAMPER_CLEAR.cls, 0, [(F.KEYSLOT.TAMPER_CLEAR.num, 0, 1)]),
        (.lcAdvance ctx value, F.KEYSLOT.LC_ADVANCE.cls, 0, [(F.KEYSLOT.LC_ADVANCE.num, 0, (value : Int))]),
        (.activate ctx, F.UPDATE.ACTIVATE.cls, 0, [(F.UPDATE.ACTIVATE.num, 0, 1)]),
        (.confirm ctx, F.UPDATE.CONFIRM.cls, 0, [(F.UPDATE.CONFIRM.num, 0, 1)]),
        (.powerTargetDeskStandby ctx, F.SYSTEM.POWER_TARGET.cls, 0, [(F.SYSTEM.POWER_TARGET.num, 0, 1)]),
        (.powerTargetRunning ctx, F.SYSTEM.POWER_TARGET.cls, 0, [(F.SYSTEM.POWER_TARGET.num, 0, 0)]),
        (.powerTargetDeepStandby ctx, F.SYSTEM.POWER_TARGET.cls, 0, [(F.SYSTEM.POWER_TARGET.num, 0, 2)]),
        (.contextReset ctx n, F.CONTEXT.RESET.cls, n, [(F.CONTEXT.RESET.num, 0, 1)]),
        (.f15ConfigStore ctx elem value, F.SYSTEM.F15_CONFIG.cls, 0, [(F.SYSTEM.F15_CONFIG.num, elem, (value : Int))])] →
      i.inRange = true →
      ((h.stageAll ctx cls inst sts).staged = [] → exec i ⟨h, q⟩ = .next ⟨h, q⟩) ∧
      (∀ staged, Stages h ctx cls inst sts staged → exec i ⟨h, q⟩ = .next ⟨h.setDone ctx staged, q⟩)) ∧
    (∀ (ctx k kind : Nat) (input : List Nat) (i : Instr) (staged : List Staged),
      (i, kind) ∈ [(.keyslotHmac ctx k input, 5), (.keyslotSign ctx k input, 6)] → ctx < 6 → k < 32 → h.get F.KEYSLOT.KIND k = kind →
      Stages h ctx F.KEYSLOT.OP.cls k ((input.take 6).zipIdx.map (fun x => (F.KEYSLOT.INPUT.num, x.2, (x.1 : Int))) ++ [(F.KEYSLOT.OP.num, 0, 1)]) staged →
      exec i ⟨h, q⟩ = .next ⟨h.setDone ctx staged, q⟩) ∧
    (∀ (ctx : Nat) (same : Bool) (staged : List Staged), ctx < 6 →
      (h.warming = true → exec (.warmReset ctx same) ⟨h, q⟩ = .next ⟨(if same then h.completeJournal else h).warmEnd same, q⟩) ∧
      (h.warming = false → Stages h ctx F.SYSTEM.WARM_RESET.cls 0 [(F.SYSTEM.WARM_RESET.num, 0, 1)] staged →
        exec (.warmReset ctx same) ⟨h, q⟩ = .next ⟨h.setDone ctx staged, q⟩))

/-! ### Control messages, contexts and notices -/

/-- A Control message waiting on its channel that passes the checks takes its effect: HELLO brings the context up, MANIFEST queues the Manifest or
answers with a Receipt of its refusal, PEEK is answered with one PEEK_REPLY; a message that fails a check is refused with the check's reason (R117
to R130, R151, R152). -/
def Obligations.ControlMessagesTakeEffect : Prop :=
  ∀ (q : List Instr) (h : Hub), h.mainUp = true →
    (∀ (ch : Chan) (msg : List Byte) (g : Hub) (raw : Bool), chanOk ch = true → byteAt msg 0 = 1 → h.takeControl ch msg = some (g, raw) →
      g.controlFault ch raw msg = none → g.helloAccepted ch = true → exec (.helloMessage ch msg) ⟨h, q⟩ = .next ⟨g.hello ch msg, q⟩) ∧
    (∀ (ch : Chan) (msg : List Byte) (g : Hub) (raw : Bool) (reason : Nat), chanOk ch = true → byteAt msg 0 = 1 →
      h.takeControl ch msg = some (g, raw) → g.controlFault ch raw msg = some reason → exec (.helloMessage ch msg) ⟨h, q⟩ = .next
      ⟨g.refuseControl ch msg reason, q⟩) ∧
    (∀ (ch : Chan) (msg : List Byte) (g : Hub) (raw : Bool) (head : ManHead), chanOk ch = true → byteAt msg 0 = 2 →
      h.takeControl ch msg = some (g, raw) → g.controlFault ch raw msg = none → g.get F.SYSTEM.START_STATE 0 ≠ 4 →
      let b := ctlBody msg
      head =
        { ctx := ch.ctx, chan := ch, seq := ctlSeq msg, tag := leAt b 4 4, level := byteAt b 0, standing := bitB (byteAt msg 3) 0, slotByte := byteAt b 1 }
        →  g.manifestRefused head (leAt b 2 2) b.length = none → exec (.manifestMessage ch msg) ⟨h, q⟩ = .next
      ⟨g.modCtx ch.ctx (fun c => { c with queue := c.queue ++ [{ head := head, words := manifestWords (leAt b 2 2) (b.drop 8) }] }), q⟩) ∧
    (∀ (ch : Chan) (msg : List Byte) (g : Hub) (raw : Bool) (head : ManHead) (status detail : Nat), chanOk ch = true → byteAt msg 0 = 2 →
      h.takeControl ch msg = some (g, raw) → g.controlFault ch raw msg = none → g.get F.SYSTEM.START_STATE 0 ≠ 4 →
      let b := ctlBody msg
      head =
        { ctx := ch.ctx, chan := ch, seq := ctlSeq msg, tag := leAt b 4 4, level := byteAt b 0, standing := bitB (byteAt msg 3) 0, slotByte := byteAt b 1 }
        →  g.manifestRefused head (leAt b 2 2) b.length = some (status, detail) → exec (.manifestMessage ch msg) ⟨h, q⟩ = .next
      ⟨g.report head [] { status := status, detail := detail }, q⟩) ∧
    (∀ (ch : Chan) (msg : List Byte) (g : Hub) (raw : Bool) (reason : Nat), chanOk ch = true → byteAt msg 0 = 2 →
      h.takeControl ch msg = some (g, raw) → g.controlFault ch raw msg = some reason → exec (.manifestMessage ch msg) ⟨h, q⟩ = .next
      ⟨g.refuseControl ch msg reason, q⟩) ∧
    (∀ (ch : Chan) (msg : List Byte) (g : Hub) (raw : Bool), chanOk ch = true → byteAt msg 0 = 5 → h.takeControl ch msg = some (g, raw) →
      g.controlFault ch raw msg = none → g.peeksOpen ch.ctx < 4 → g.boxPaused = false →
      let b := ctlBody msg
      let entries := eights ((b.length - 4) / 8) (b.drop 4)
      exec (.peekMessage ch msg) ⟨h, q⟩ = .next
      ⟨(g.send ch 6 (ctlSeq msg) (b.take 4 ++ leBytes 6 g.now48 ++ [0, 0] ++ (entries.map (g.peekEntry ch.ctx)).flatten)).drainOut ch.ctx, q⟩) ∧
    (∀ (ch : Chan) (msg : List Byte) (g : Hub) (raw : Bool), chanOk ch = true → byteAt msg 0 = 5 → h.takeControl ch msg = some (g, raw) →
      g.controlFault ch raw msg = none → g.peeksOpen ch.ctx < 4 → g.boxPaused = true → exec (.peekMessage ch msg) ⟨h, q⟩ = .next
      ⟨{ g with peeksHeld := g.peeksHeld ++ [(ch, msg)] }, q⟩) ∧
    (∀ (ch : Chan) (msg : List Byte) (g : Hub) (raw : Bool), chanOk ch = true → byteAt msg 0 = 5 → h.takeControl ch msg = some (g, raw) →
      g.controlFault ch raw msg = none → 4 ≤ g.peeksOpen ch.ctx → exec (.peekMessage ch msg) ⟨h, q⟩ = .next ⟨g.refuseControl ch msg 8, q⟩) ∧
    (∀ (ch : Chan) (msg : List Byte) (g : Hub) (raw : Bool), chanOk ch = true → byteAt msg 0 = 9 → h.takeControl ch msg = some (g, raw) →
      g.controlFault ch raw msg = none → (ctlBody msg).length = 32 →
      let b := g.attestBody (ctlBody msg)
      exec (.attestReq ch msg) ⟨h, q⟩ = .next ⟨((if byteAt b 0 == 0 then g.statementSigned else g).send ch 0x0A (ctlSeq msg) b).drainOut ch.ctx, q⟩) ∧
    (∀ (ch : Chan) (msg : List Byte) (g : Hub) (raw : Bool), chanOk ch = true → byteAt msg 0 = 9 → h.takeControl ch msg = some (g, raw) →
      g.controlFault ch raw msg = none → (ctlBody msg).length ≠ 32 → exec (.attestReq ch msg) ⟨h, q⟩ = .next ⟨g.refuseControl ch msg 4, q⟩) ∧
    (∀ (ch : Chan) (msg : List Byte) (g : Hub) (raw : Bool), chanOk ch = true → byteAt msg 0 = 7 → bitB (byteAt msg 9) 0 = false →
      h.takeControl ch msg = some (g, raw) → g.controlFault ch raw msg = none → exec (.updatePiece ch msg) ⟨h, q⟩ = .next
      ⟨g.updatePiece ch (ctlSeq msg) (ctlBody msg), q⟩) ∧
    (∀ (ch : Chan) (msg : List Byte) (g : Hub) (raw : Bool), chanOk ch = true → byteAt msg 0 = 7 → bitB (byteAt msg 9) 0 = true →
      h.takeControl ch msg = some (g, raw) → g.controlFault ch raw msg = none → exec (.updateAbort ch msg) ⟨h, q⟩ = .next
      ⟨g.updateAbort ch (ctlSeq msg) (ctlBody msg), q⟩) ∧
    (∀ (mac : Nat) (frames : List (List Byte)) (g : Hub) (d : List Byte), mac < 2 → h.takeDatagram mac frames = some (g, d) →
      exec (.mgmtSealedDatagram mac frames) ⟨h, q⟩ = .next ⟨g.mgmtDatagram mac (frames.headD []) d, q⟩) ∧
    (∀ (l : Nat) (msg : List Byte) (g : Hub), l < 4 → byteAt msg 0 = 0x0C → h.takeBulk l msg = some g → exec (.sealedMessage l msg) ⟨h, q⟩ = .next
      ⟨g.sealedMessage l msg, q⟩) ∧
    (∀ (l : Nat) (msg : List Byte), l < 4 → byteAt msg 0 = 0x0C → h.takeBulk l msg = none → exec (.sealedMessage l msg) ⟨h, q⟩ = .next
      ⟨h.bulkOut l msg, q⟩) ∧
    (∀ (ctx : Nat) (m : Manifest) (rest : List Manifest), ctx < 6 → (h.ctx ctx).queue = m :: rest → h.prog ctx = none → h.boxPaused = false →
      (h.get F.SYSTEM.START_STATE 0 = 2 ∨ h.get F.SYSTEM.START_STATE 0 = 3) → h.receiptsWaiting ctx < 16 → exec (.manifestStart ctx) ⟨h, q⟩ = .next
      ⟨(h.modCtx ctx (fun c => { c with queue := rest })).manifestOn ctx { level := m.head.level, words := m.words, head := m.head }, q⟩) ∧
    (∀ (ctx : Nat), ctx < 6 → 16 ≤ h.receiptsWaiting ctx → exec (.manifestStart ctx) ⟨h, q⟩ = .next ⟨h, q⟩)

/-- The local port takes a whole message with the right CRC-32C into its inbound FIFO while it has room, gives the bytes of its outbound FIFO and
zeros when that is empty, and reports the free bytes and the bytes ready as two 16-bit numbers (R122, R577). -/
def Obligations.LocalPortMovesMessagesByBytes : Prop :=
  ∀ (q : List Instr) (h : Hub), h.mainUp = true →
    (∀ (msg : List Byte), h.localOpen = true → msg.length = 8 + leAt msg 6 2 → msg.length + 4 ≤ h.localFree →
      exec (.localWriteInboundFifo (msg ++ leBytes 4 (crc32c msg))) ⟨h, q⟩ = .next ⟨{ h with fifoIn := h.fifoIn ++ [msg] }.wakeBy 6, q⟩) ∧
    (∀ (data : List Byte), h.localOpen = false → exec (.localWriteInboundFifo data) ⟨h, q⟩ = .next ⟨h, q⟩) ∧
    (∀ (count : Nat), fittingOut 32768 (h.ctx 4).out = [] → exec (.localReadOutboundFifo count) ⟨h, q⟩ = .next
      ⟨{ h with spiOut := List.replicate count 0 }, q⟩) ∧
    (∀ (count : Nat) (m : OutMsg) (rest : List OutMsg), fittingOut 32768 (h.ctx 4).out = m :: rest →
      let left := (fifoBytes m).drop (h.ctx 4).readPos
      count < left.length → exec (.localReadOutboundFifo count) ⟨h, q⟩ = .next
      ⟨{ h.modCtx 4 (fun c => { c with readPos := c.readPos + count }) with spiOut := left.take count }, q⟩) ∧
    (h.localOpen = true → exec (.localReadStatus) ⟨h, q⟩ = .next
      ⟨{ h with spiOut := leBytes 2 h.localFree ++ leBytes 2 (min h.localReady 65535) }, q⟩) ∧
    (h.localOpen = false → h.warming = false → exec (.localReadStatus) ⟨h, q⟩ = .next ⟨{ h with spiOut := [0, 0, 0, 0] }, q⟩)

/-- Waiting sets and Manifests, Standing Manifests, tokens and notices move on: a network-time epoch is reached at its time, a commit timeout ends the
set or the wait it is the timeout of, replay takes the sixteen slots in turn and then declares the device running, the token times take the tokens
of absent contexts and settle K0, and notices are collected and taken (R36, R37, R129, R136, R140, R155, R156, R160, R161). -/
def Obligations.WaitingWorkAndNoticesMoveOn : Prop :=
  ∀ (q : List Instr) (h : Hub), h.mainUp = true →
    (∀ (t : Nat), h.epochs.filterMap (fun e => match e with | .time t => some t | _ => none) = [t] → exec (.epochNetworkTime) ⟨h, q⟩ = .next
      ⟨(h.advanceToNetwork t).moment (h.advanceToNetwork t).timeReached, q⟩) ∧
    (∀ (ctx : Nat) (w : WaitSet), ctx < 6 → h.sets.filter (fun w => w.head.ctx == ctx && !w.arrived) = [w] → h.waitDeadline ctx = none →
      exec (.commitTimeoutExpiry ctx) ⟨h, q⟩ = .next ⟨h.setTimeout w, q⟩) ∧
    (∀ (ctx : Nat) (p : Prog) (d : Nat), ctx < 6 → h.sets.filter (fun w => w.head.ctx == ctx && !w.arrived) = [] → h.prog ctx = some p →
      h.waitDeadline ctx = some d → exec (.commitTimeoutExpiry ctx) ⟨h, q⟩ = .next
      ⟨(h.advanceTo d).manifestOn ctx { p with block := none, z := false }, q⟩) ∧
    (h.get F.SYSTEM.START_STATE 0 = 2 → h.replaying = false → h.replayPos < 16 → exec (.standingReplay) ⟨h, q⟩ = .next ⟨h.replaySlot h.replayPos, q⟩) ∧
    (h.get F.SYSTEM.START_STATE 0 = 2 → h.replaying = false → 16 ≤ h.replayPos →
      let g := h.set F.SYSTEM.START_STATE 0 3
      exec (.standingReplay) ⟨h, q⟩ = .next ⟨g.requestVcore g.restVcore, q⟩) ∧
    (∀ (d : Nat), h.due T.standingToken 0 = some d → exec (.standingTokenTimeout) ⟨h, q⟩ = .next
      ⟨(h.expiredAt T.standingToken 0 d).dropStandingTokens, q⟩) ∧
    (∀ (d : Nat), h.due T.k0Window 0 = some d →
      let g := { h.expiredAt T.k0Window 0 d with k0Window := false }
      g.holder 0 ≠ 0xF → exec (.k0WindowEnd) ⟨h, q⟩ = .next ⟨g, q⟩) ∧
    (∀ (d l : Nat) (rest : List Nat), h.due T.k0Window 0 = some d →
      let g := { h.expiredAt T.k0Window 0 d with k0Window := false }
      g.holder 0 = 0xF → g.authOrder = l :: rest → exec (.k0WindowEnd) ⟨h, q⟩ = .next ⟨g.moveToken 0 l 0xF false, q⟩) ∧
    (∀ (n : Nat) (d : Nat), n < 6 → h.due T.heldContext n = some d →
      let g := h.expiredAt T.heldContext n d
      g.get F.CONTEXT.STATE n = 2 → exec (.heldContextExpiry n) ⟨h, q⟩ = .next ⟨g.resetContext n 6, q⟩) ∧
    (∀ (d : Nat), (h.session 8).up = true → h.due T.mgmtIdle 0 = some d → exec (.mgmtSessionIdle) ⟨h, q⟩ = .next
      ⟨(h.expiredAt T.mgmtIdle 0 d).mgmtIdle, q⟩) ∧
    (∀ (ctx : Nat), ctx < 6 → h.up ctx = true →
      let h0 := h.noticesLost ctx
      let c := h0.ctx ctx
      let r := collect (fun src => h0.pendRec ctx src) (512 - c.roundPos) c.roundPos c.ring
      let g := r.2.1.foldl (fun g src => g.setPend ctx src {}) (h0.modCtx ctx (fun c => { c with ring := r.1, roundPos := r.2.2 }))
      exec (.noticeCollectorRound ctx) ⟨h, q⟩ = .next ⟨(Hub.formNotices 17 ctx (r.1.drop c.formed) g).drainOut ctx, q⟩) ∧
    (∀ (ctx : Nat), ctx < 6 →
      let k := (h.ctx ctx).inTransfer
      k ≠ 0 → h.noticeCrossing ctx = false → exec (.noticeEntryTaken ctx) ⟨h, q⟩ = .next
      ⟨((h.modCtx ctx (fun c => { c with inTransfer := 0 })).ringTaken ctx k).drainOut ctx, q⟩)

/-! ### Landings: bring-up, training and timers -/

/-- A landing is polled on its sideband; three answered polls in DETECT bring it to HELLO; 150 missed polls unplug it; a HELLO of 48 bytes and a
SELECT echo of 16 are taken in HELLO, a body of another length is a bad frame, and an unanswered LINK_HELLO is sent three times before the landing
goes back to DETECT. Training begins 200 µs after the agreement while the device runs, ends with the pairs that passed, is tried again after a
time at the agreed rate, aligns within 1 ms or trains again, and a retrain that passes in both directions goes on to ALIGN (R170 to R175, R178,
R180 to R182). -/
def Obligations.LandingsAreFoundAgreedAndTrained : Prop :=
  ∀ (q : List Instr) (h : Hub),
    (∀ (l : Nat), l < 4 → exec (.sidebandPoll l) ⟨h, q⟩ = .next ⟨(h.poll l).linkSettled l, q⟩) ∧
    (∀ (l : Nat), l < 4 → 150 ≤ (h.link l).missed → h.lState l ≠ 0 → h.lState l ≠ 11 → exec (.sidebandUnplug l) ⟨h, q⟩ = .next
      ⟨(h.unplug l).linkSettled l, q⟩) ∧
    (∀ (l : Nat), l < 4 → (h.link l).answered = true → exec (.pong l) ⟨h, q⟩ = .next ⟨h.linkSettled l, q⟩) ∧
    (∀ (l : Nat), l < 4 → h.feedPowered = true → (h.link l).windowEnd < h.feedNow → exec (.pong l) ⟨h, q⟩ = .next ⟨h.linkSettled l, q⟩) ∧
    (∀ (l : Nat), l < 4 → InReplyWindow h l → h.lState l ≠ 0 → exec (.pong l) ⟨h, q⟩ = .next ⟨(h.frameTaken l).linkSettled l, q⟩) ∧
    (∀ (l : Nat), l < 4 → InReplyWindow h l → h.lState l = 0 →
      let g := (h.frameTaken l).modLink l (fun k => { k with pongs := k.pongs + 1 })
      (g.link l).pongs < 3 → exec (.pong l) ⟨h, q⟩ = .next ⟨g.linkSettled l, q⟩) ∧
    (∀ (l : Nat), l < 4 → InReplyWindow h l → h.lState l = 0 →
      let g := (h.frameTaken l).modLink l (fun k => { k with pongs := k.pongs + 1 })
      3 ≤ (g.link l).pongs → exec (.pong l) ⟨h, q⟩ = .next
      ⟨(((((g.modLink l (fun k => { k with pongs := 0, helloTries := 0 })).notify (nLanding l 0) 0).setLState l 1).sendHello l).wakeBy l).linkSettled
        l, q⟩) ∧
    (∀ (l : Nat), l < 4 → exec (.sidebandBadFrame l) ⟨h, q⟩ = .next ⟨(h.notify (nLanding l 20) 1).linkSettled l, q⟩) ∧
    (∀ (l : Nat) (body : List Byte), l < 4 → InReplyWindow h l → body.length ≠ 48 → exec (.linkHello l body) ⟨h, q⟩ = .next
      ⟨(h.notify (nLanding l 20) 1).linkSettled l, q⟩) ∧
    (∀ (l : Nat) (body : List Byte), l < 4 → InReplyWindow h l → body.length = 48 → (h.lState l = 1 ∨ h.lState l = 11) →
      exec (.linkHello l body) ⟨h, q⟩ = .next ⟨((h.frameTaken l).linkHello l body).linkSettled l, q⟩) ∧
    (∀ (l : Nat) (d : Nat), l < 4 → h.lState l = 1 → h.due T.hello l = some d →
      let g := h.expiredAt T.hello l d
      (g.link l).helloTries < 3 → exec (.linkHelloTimeout l) ⟨h, q⟩ = .next ⟨(g.sendHello l).linkSettled l, q⟩) ∧
    (∀ (l : Nat) (d : Nat), l < 4 → h.lState l = 1 → h.due T.hello l = some d →
      let g := h.expiredAt T.hello l d
      3 ≤ (g.link l).helloTries → exec (.linkHelloTimeout l) ⟨h, q⟩ = .next
      ⟨((((g.modLink l (fun k => { k with helloTries := 0, pongs := 0 })).setPast l false).setLState l 0).notify (nLanding l 2) 0xFF).linkSettled l,
        q⟩) ∧
    (∀ (l : Nat) (body : List Byte), l < 4 → InReplyWindow h l → body.length ≠ 16 → exec (.linkSelectEcho l body) ⟨h, q⟩ = .next
      ⟨(h.notify (nLanding l 20) 1).linkSettled l, q⟩) ∧
    (∀ (l : Nat) (body : List Byte), l < 4 → InReplyWindow h l → body.length = 16 → h.lState l = 1 → exec (.linkSelectEcho l body) ⟨h, q⟩ = .next
      ⟨((h.frameTaken l).selectEcho l body).linkSettled l, q⟩) ∧
    (∀ (l : Nat), l < 4 → InReplyWindow h l → h.lState l = 7 → exec (.sidebandWake l) ⟨h, q⟩ = .next
      ⟨(((h.frameTaken l).wake l).wakeBy l).linkSettled l, q⟩) ∧
    (∀ (l : Nat) (d : Nat), l < 4 → h.lState l = 1 → h.get F.SYSTEM.START_STATE 0 = 3 → h.due T.trainStart l = some d →
      exec (.trainingStart l) ⟨h, q⟩ = .next ⟨((h.expiredAt T.trainStart l d).fullTraining l).linkSettled l, q⟩) ∧
    (∀ (l : Nat) (allotted reversed : List TrainingResult) (eyes : List Nat), l < 4 → h.lState l = 2 →
      let ms := h.training l
      ms ≠ [] → exec (.trainingComplete l allotted reversed eyes) ⟨h, q⟩ = .next
      ⟨(h.trained l (maskOf (passedPairs allotted ms (h.pairDir l))) (maskOf (passedPairs reversed ms (fun m => 3 - h.pairDir l m)))
        eyes).linkSettled l, q⟩) ∧
    (∀ (l : Nat) (d : Nat), l < 4 → h.lState l = 2 → h.due T.trainRetry l = some d →
      let g := h.expiredAt T.trainRetry l d
      exec (.trainingRetryTimer l) ⟨h, q⟩ = .next ⟨((g.set F.LANDING.RATE l (g.link l).trainRate).fullTraining l).linkSettled l, q⟩) ∧
    (∀ (l : Nat), l < 4 → h.lState l = 3 → exec (.alignComplete l) ⟨h, q⟩ = .next ⟨(h.aligned l).linkSettled l, q⟩) ∧
    (∀ (l : Nat) (d : Nat), l < 4 → h.lState l = 3 → h.due T.align l = some d → exec (.alignTimeout l) ⟨h, q⟩ = .next
      ⟨((h.expiredAt T.align l d).fullTraining l).linkSettled l, q⟩) ∧
    (∀ (l : Nat) (results : List TrainingResult), l < 4 → h.lState l = 8 →
      let ms := h.training l
      let passed := passedPairs results ms (h.pairDir l)
      (∃ m ∈ passed, h.pairDir l m = 1) → (∃ m ∈ passed, h.pairDir l m = 2) →
      let g := ms.foldl (fun g m => if passed.contains m then (g.set F.PAIR.LAST_TRAIN (4 * l + m) g.now48).freeEye l m else g.pairGone l m 3 true) h
      exec (.retrainComplete l results) ⟨h, q⟩ = .next ⟨((g.setLState l 3).enterAlign l).linkSettled l, q⟩) ∧
    (∀ (l : Nat) (results : List TrainingResult), l < 4 → h.lState l = 8 →
      let ms := h.training l
      let passed := passedPairs results ms (h.pairDir l)
      ((∀ m ∈ passed, h.pairDir l m ≠ 1) ∨ (∀ m ∈ passed, h.pairDir l m ≠ 2)) →
      let g := ms.foldl (fun g m => if passed.contains m then (g.set F.PAIR.LAST_TRAIN (4 * l + m) g.now48).freeEye l m else g.pairGone l m 3 true) h
      exec (.retrainComplete l results) ⟨h, q⟩ = .next ⟨(g.fullTraining l).linkSettled l, q⟩)

/-- What a running link does by itself: acknowledgments, negative acknowledgments and replays at their times, the TAG that closes a seal group, the
next flit of a slot, and the ways out of L-IDLE and L-SLEEP when there is traffic (R188, R189, R198, R199, R205, R229). -/
def Obligations.LinkTimersAct : Prop :=
  ∀ (q : List Instr) (h : Hub),
    (h.mainUp = true →
      (∀ (l d : Nat), chanOk (.ldl l) = true → h.due T.auth l = some d →
        let g := h.expiredAt T.auth l d
        g.lState l = 4 → exec (.authTimeout (.ldl l)) ⟨h, q⟩ = .next
        ⟨(((g.sendAuth l 5 (leBytes 1 3)).endExchange l).authFailed l 3).pairsRefused l, q⟩) ∧
      (∀ (l d : Nat), chanOk (.legacy l) = true → h.due T.auth (4 + l) = some d → exec (.authTimeout (.legacy l)) ⟨h, q⟩ = .next
        ⟨((((h.expiredAt T.auth (4 + l) d).legacyAuths l 0 [(5, leBytes 1 3)]).endExchange (4 + l)).authFailed (4 + l) 3).authLost l, q⟩) ∧
      (∀ (d : Nat), chanOk .mgmt = true → h.due T.auth 8 = some d →
        let g := h.expiredAt T.auth 8 d
        exec (.authTimeout (.mgmt)) ⟨h, q⟩ = .next ⟨(g.mgmtAuths (g.exchange 8).peer [(5, leBytes 1 3)]).endExchange 8, q⟩)) ∧
    (∀ (l : Nat), l < 4 → h.flitsRun l = true → (h.link l).resync = false → (h.link l).ackDue = true → exec (.ackTimer l) ⟨h, q⟩ = .next
      ⟨(h.sendAck l).linkSettled l, q⟩) ∧
    (∀ (l : Nat) (d : Nat), l < 4 → h.flitsRun l = true → (h.link l).resync = false → (h.link l).ackDue = false → h.due T.ack l = some d →
      exec (.ackTimer l) ⟨h, q⟩ = .next ⟨((h.expiredAt T.ack l d).sendAck l).linkSettled l, q⟩) ∧
    (∀ (l : Nat) (d : Nat), l < 4 → h.flitsRun l = true → (h.link l).reorder ≠ [] → h.due T.nak l = some d → exec (.nakTimer l) ⟨h, q⟩ = .next
      ⟨(((h.expiredAt T.nak l d).wantNak l).sendAck l).linkSettled l, q⟩) ∧
    (∀ (l : Nat) (d : Nat) (f : TxFlit) (rest : List TxFlit), l < 4 → h.flitsRun l = true → (h.link l).unacked = f :: rest →
      h.due T.replay l = some d → exec (.replayTimer l) ⟨h, q⟩ = .next ⟨((h.expiredAt T.replay l d).replayFrom l f.seq).linkSettled l, q⟩) ∧
    (∀ (l : Nat) (d : Nat), l < 4 → h.due T.sealGroup l = some d → exec (.sealGroupTimer l) ⟨h, q⟩ = .next
      ⟨((h.expiredAt T.sealGroup l d).sendTag l).linkSettled l, q⟩) ∧
    (∀ (l : Nat), l < 4 → h.flitsRun l = true → exec (.flitTransmit l) ⟨h, q⟩ = .next ⟨(h.flitSlot l).linkSettled l, q⟩) ∧
    (∀ (l : Nat), l < 4 → h.lState l = 7 → h.on F.LANDING.WAKE_HOST l = true → h.hasTraffic l = true → exec (.flitTransmit l) ⟨h, q⟩ = .next
      ⟨((h.sideband l 5 []).wake l).linkSettled l, q⟩) ∧
    (∀ (l : Nat), l < 4 → h.lState l = 6 → h.hasTraffic l = true → exec (.flitTransmit l) ⟨h, q⟩ = .next ⟨(h.exitIdle l).linkSettled l, q⟩) ∧
    (∀ (l : Nat), l < 4 → h.flitsRun l = true → (0xFFF00000 ≤ (h.link l).flitsOnKey ∨ (h.link l).rekeyOwed = true) →
      exec (.rekeyFlitLimit l) ⟨h, q⟩ = .next ⟨(h.sendRekey l false).linkSettled l, q⟩) ∧
    (∀ (l cls : Nat) (d : Nat), l < 4 → cls < 8 → h.due T.creditStall (8 * l + cls) = some d →
      let g := h.expiredAt T.creditStall (8 * l + cls) d
      exec (.creditStallTimer l cls) ⟨h, q⟩ = .next ⟨(if g.stalled l cls then g.notify (nLanding l 19) cls else g).linkSettled l, q⟩) ∧
    (∀ (l slot : Nat), l < 4 → slot < 2048 → exec (.ceilingWindow l slot) ⟨h, q⟩ = .next ⟨(h.ceilingWindow (tunnelOf l slot)).linkSettled l, q⟩) ∧
    (∀ (l : Nat) (d : Nat), l < 4 → h.lState l = 5 →
      let k := h.link l
      bitB k.features 2 = true → h.on F.LANDING.LIDLE_ENABLE l = true → h.busyOut l = false → h.quietWaits l = false → k.swap = none →
      k.swapWanted = none → k.idleReqSent = false → h.due T.lidle l = some d → exec (.lidleEntryTimer l) ⟨h, q⟩ = .next
      ⟨(((h.expiredAt T.lidle l d).sendCtl l 0x0A []).modLink l (fun k => { k with idleReqSent := true })).linkSettled l, q⟩) ∧
    (∀ (l : Nat), l < 4 → h.lState l = 6 →
      let g := (h.activePairs l 1 ++ h.activePairs l 2).foldl (fun g m => g.setPair l m 2) h
      exec (.lidleExit l) ⟨h, q⟩ = .next ⟨(((g.alignOut l (fun st => st == 2)).setLState l 5).notify (nLanding l 14) (5 + 6 * 16)).linkSettled l, q⟩) ∧
    (∀ (l load : Nat) (d : Nat), l < 4 → h.due T.demand l = some d →
      let g := (h.expiredAt T.demand l d).arm T.demand l msec
      let k := g.link l
      (¬ (170 * k.demandCount < k.demandSum ∧ load < 60)) → (¬ (170 < load ∧ (k.demandSum < 60 * k.demandCount ∨ k.demandCount = 0))) →
      exec (.demandWindow l load) ⟨h, q⟩ = .next
      ⟨(g.modLink l (fun k => { k with loadOut := load, demandSum := 0, demandCount := 0, lopsided := 0, lopsidedDir := 0 })).linkSettled l, q⟩) ∧
    (∀ (l load : Nat) (d : Nat), l < 4 → h.due T.demand l = some d →
      let g := (h.expiredAt T.demand l d).arm T.demand l msec
      let k := g.link l
      g.lState l ≠ 9 → 170 * k.demandCount < k.demandSum → load < 60 → k.lopsidedDir = 1 → k.lopsided < 49 →
      exec (.demandWindow l load) ⟨h, q⟩ = .next
      ⟨(g.modLink l (fun k =>
        { k with loadOut := load, demandSum := 0, demandCount := 0, lopsided := k.lopsided + 1, lopsidedDir := 1 })).linkSettled l, q⟩)

/-- A pair swap, a failed pair and a pair's solo retraining go through their phases, and a quiet point sends QUIET with the landing's count and takes
what waited for it (R191, R192, R194 to R197). -/
def Obligations.PairsSwapFailAndRejoin : Prop :=
  ∀ (q : List Instr) (h : Hub),
    (h.mainUp = true →
      (∀ (l : Nat), l < 4 → h.lState l = 5 → h.windowRoom l 4 = true →
        let g := (if 31 ≤ (h.link l).groupCount then h.sendTag l else h)
        let g1 := (g.putCtl l 3 (leBytes 4 (h.link l).quiet)).modLink l (fun k => { k with quiet := (k.quiet + 1) % 2 ^ 32, holdCtl := true })
        let g2 := (g1.quietCloses l).reached (fun e => e == .quiet l) (some l)
        (g2.link l).quietStores = false → (g2.link l).increases = false → exec (.quietPoint l) ⟨h, q⟩ = .next
        ⟨((g2.modLink l (fun k => { k with holdCtl := false })).startSwap l).wakeWaits (fun e => e == .quiet l), q⟩)) ∧
    (∀ (l : Nat) (w : Swap), l < 4 → (h.link l).swap = some w → w.dir = 2 → w.phase = 1 → exec (.swapEosReceived l) ⟨h, q⟩ = .next
      ⟨(((h.modLink l (fun k => { k with swap := some { w with phase := 2 } })).emitAlign l w.pair).arm T.swapLock l 16000).linkSettled l, q⟩) ∧
    (∀ (l : Nat) (w : Swap), l < 4 → (h.link l).swap = some w → w.dir = 1 → w.phase = 1 → exec (.swapPairLocked l) ⟨h, q⟩ = .next
      ⟨((h.disarm T.swapLock l).modLink l (fun k =>
        { k with swap := some { w with phase := 2 }, locked := k.locked ++ [w.pair], ackDue := true })).linkSettled l, q⟩) ∧
    (∀ (l : Nat) (m : Nat) (rest : List (Nat × Nat)), l < 4 → (h.link l).swap = none → (h.link l).rejoin = (m, 1) :: rest → (h.link l).locked = [] →
      exec (.swapPairLocked l) ⟨h, q⟩ = .next ⟨(h.modLink l (fun k => { k with locked := k.locked ++ [m], ackDue := true })).linkSettled l, q⟩) ∧
    (∀ (l : Nat) (w : Swap) (d : Nat), l < 4 → (h.link l).swap = some w → w.phase = 0 → h.due T.swapAck l = some d →
      let g := ((h.expiredAt T.swapAck l d).sendCtl l 8 (leBytes 1 0 ++ leBytes 1 w.number)).dropSwap l 5
      exec (.swapAckTimeout l) ⟨h, q⟩ = .next ⟨(if w.sparing then g.startRetrain l 4 else g.waitingRejoins l).linkSettled l, q⟩) ∧
    (∀ (l : Nat) (w : Swap) (d : Nat), l < 4 → (h.link l).swap = some w → h.due T.swapLock l = some d →
      let g := (h.expiredAt T.swapLock l d).dropSwap l 8
      exec (.swapLockTimeout l true) ⟨h, q⟩ = .next ⟨(if w.sparing then g.startRetrain l 4 else g.waitingRejoins l).linkSettled l, q⟩) ∧
    (∀ (l : Nat) (w : Swap) (d : Nat), l < 4 → (h.link l).swap = some w → h.due T.swapLock l = some d →
      let g := ((h.expiredAt T.swapLock l d).modLink l (fun k => { k with swap := none, locked := k.locked.filter (fun x => x != w.pair) })).pairGone
          l w.pair 4 true
      let g1 := (if w.sparing then g.startRetrain l 4 else g.spare l 4)
      exec (.swapLockTimeout l false) ⟨h, q⟩ = .next ⟨(if (g1.link l).toAllot then g1.arm T.allotRetry l sec else g1).linkSettled l, q⟩) ∧
    (∀ (l : Nat) (d : Nat), l < 4 → h.lState l = 5 → h.due T.allotRetry l = some d → exec (.allotRetryTimer l) ⟨h, q⟩ = .next
      ⟨(((h.expiredAt T.allotRetry l d).modLink l (fun k => { k with toAllot := true })).planSwap l).linkSettled l, q⟩) ∧
    (∀ (l pair cause : Nat), l < 4 → pair < 4 → h.flitsRun l = true →
      let bad := ((h.link l).badCodes.read (fun _ => []) pair).filter (fun t => h.now < t + msec)
      ((cause = 1 ∧ 16 ≤ bad.length) ∨ cause = 2) → (h.activePairs l 1).contains pair = true → exec (.pairFailure l pair cause) ⟨h, q⟩ = .next
      ⟨(h.failPair l pair cause true).linkSettled l, q⟩) ∧
    (∀ (pair : Nat) (d : Nat), pair < 16 →
      let l := pair / 4
      let m := pair % 4
      h.lState l = 5 → h.pairState l m = 5 → h.due T.solo pair = some d →
      let g := ((h.expiredAt T.solo pair d).setPair l m 1).modLink l (fun k =>
          { k with soloRunning := k.soloRunning.write (fun _ => false) m true, trainHeard := k.trainHeard.write (fun _ => 0) m 0 })
      exec (.soloRetrainTimer pair) ⟨h, q⟩ = .next ⟨(g.emitTraining l m m 0 false).linkSettled (pair / 4), q⟩) ∧
    (∀ (pair : Nat) (results : List TrainingResult), pair < 16 →
      let m := pair % 4
      let k := h.link (pair / 4)
      h.soloPasses (pair / 4) m results = true → k.soloRunning.read (fun _ => false) m = true →
      let g := h.modLink (pair / 4) (fun k =>
          { k with soloRunning := k.soloRunning.write (fun _ => false) m false, soloTries := k.soloTries.write (fun _ => 0) m (k.soloTries.read (fun _ => 0) m + 1) })
      exec (.soloRetrainDone pair results) ⟨h, q⟩ = .next
      ⟨((g.set F.PAIR.LAST_TRAIN pair h.now48).startRejoin (pair / 4) m).linkSettled (pair / 4), q⟩) ∧
    (∀ (pair : Nat) (results : List TrainingResult), pair < 16 →
      let m := pair % 4
      let k := h.link (pair / 4)
      h.soloPasses (pair / 4) m results = false →
      let n := k.soloTries.read (fun _ => 0) m + 1
      let failed := k.failAt.read (fun _ => 0) m
      k.soloRunning.read (fun _ => false) m = true → failed ≠ 0 →
      let g := ((h.modLink (pair / 4) (fun k =>
          { k with soloRunning := k.soloRunning.write (fun _ => false) m false, soloTries := k.soloTries.write (fun _ => 0) m n })).set
          F.PAIR.LAST_TRAIN pair h.now48).setPair (pair / 4) m 5
      exec (.soloRetrainDone pair results) ⟨h, q⟩ = .next
      ⟨(if n = 1 then g.armAt T.solo pair (max h.now (failed + 10 * sec)) else if n = 2 then g.armAt T.solo pair (max h.now (failed + 100 * sec))
        else g).linkSettled (pair / 4), q⟩)

/-! ### Yard, Shunters, shapers, Timetables and Ethernet -/

/-- The Yard's own work: a cell time, an egress selection, a unit going down or up and the flush of a down one, the incast and back-pressure watches,
the end of a learned entry's age and a stalled port; a waiting message goes to the least busy engine's first free thread, which notes the next
port's turn; a faulted engine stops (R250, R251, R259, R260, R262, R266, R268, R279, R550). -/
def Obligations.YardAndShuntersMoveMessages : Prop :=
  ∀ (q : List Instr) (h : Hub), h.mainUp = true →
    (exec (.cellMatch) ⟨h, q⟩ = .next ⟨((List.range 4).foldl (fun g n => g.drainOut n) h.cellTime).branchDrain, q⟩) ∧
    (∀ (port unit : Nat), unitExists port unit = true → exec (.egressSelect port unit) ⟨h, q⟩ = .next ⟨h.egressSelect port unit, q⟩) ∧
    (∀ (port unit : Nat), unitExists port unit = true → port < 14 → (h.mustBeDown port unit = true ∨ 6 < port) → h.unitUp port unit = true →
      h.get F.YARDPORT.FLUSH_DELAY port ≠ 0 → exec (.yardPortDown port unit) ⟨h, q⟩ = .next
      ⟨(((h.set F.YARDPORT.UP port (clrBit (h.get F.YARDPORT.UP port) unit)).notify 96 (unitPayload port unit)).arm T.flush (unitKey port unit)
        (h.get F.YARDPORT.FLUSH_DELAY port * msec)), q⟩) ∧
    (∀ (port unit : Nat), unitExists port unit = true → port < 14 → (h.mustBeDown port unit = true ∨ 6 < port) → h.unitUp port unit = true →
      h.get F.YARDPORT.FLUSH_DELAY port = 0 → exec (.yardPortDown port unit) ⟨h, q⟩ = .next
      ⟨((h.set F.YARDPORT.UP port (clrBit (h.get F.YARDPORT.UP port) unit)).notify 96 (unitPayload port unit)).flushUnit port unit, q⟩) ∧
    (∀ (port unit : Nat), unitExists port unit = true → h.mustBeDown port unit = false → exec (.yardPortUp port unit) ⟨h, q⟩ = .next
      ⟨h.unitUpNow port unit, q⟩) ∧
    (∀ (port unit : Nat) (d : Nat), unitExists port unit = true → h.due T.flush (unitKey port unit) = some d →
      let g := h.expiredAt T.flush (unitKey port unit) d
      g.unitUp port unit = false → exec (.yardFlush port unit) ⟨h, q⟩ = .next ⟨g.lateFlush port unit, q⟩) ∧
    (∀ (output : Nat) (d : Nat), output < 16 → h.due T.incast output = some d →
      let g := h.expiredAt T.incast output d
      let ins := indicesWhere 16 (fun i => g.requestLevel i output != 0)
      exec (.incastTimer output) ⟨h, q⟩ = .next
      ⟨(g.modYard (fun y => { y with incast := y.incast.write (fun _ => false) output true })).notify 101 (output + (ins.map (fun i => 2 ^ i)).sum *
        16 + ins.length * 2 ^ 20), q⟩) ∧
    (∀ (voq : Nat) (d : Nat), voq < 2048 → h.due T.backpressure voq = some d →
      let g := h.expiredAt T.backpressure voq d
      g.yard.voq voq ≠ [] → g.voqEligible (voq / 128) (voq / 8 % 16) (voq % 8) = false → exec (.backpressureTimer voq) ⟨h, q⟩ = .next
      ⟨(g.modYard (fun y => { y with voqRaised := y.voqRaised.write (fun _ => false) voq true })).notify 103 (voq / 128 + (voq / 8 % 16) * 16 + (voq
        % 8) * 256), q⟩) ∧
    (∀ (entry : Nat) (d : Nat), entry < 8192 → h.due T.learnAge entry = some d →
      let g := h.expiredAt T.learnAge entry d
      entryType (g.route entry) = 2 → bitB (g.route entry) 4 = false → exec (.learnAgeExpiry entry) ⟨h, q⟩ = .next ⟨g.clearRoute entry, q⟩) ∧
    (∀ (port : Nat), port < 16 → exec (.portStall port) ⟨h, q⟩ = .next ⟨h.portStall port, q⟩) ∧
    (∀ (t : Ticket) (e k : Nat), h.nextTicket = some t → h.freeEngine = some e → firstWhere 16 (fun k => h.threadOf e k == 0) = some k →
      exec (.shunterDispatch) ⟨h, q⟩ = .next
      ⟨((((h.setThread e k (t.id + 1)).setTicket t.id (fun x => { x with state := .onThread })).modYard (fun y =>
        { y with nextPort := (t.input + 1) % 16 })).syncEngine e).fillPlaces t.input, q⟩) ∧
    (∀ (engine : Nat), engine < 8 → exec (.shunterEngineFault engine) ⟨h, q⟩ = .next ⟨h.engineFault engine, q⟩)

/-- A shaper is refilled at its 64 ns slot, a wheel slot when its earliest waits fall due, a Timetable goes on to its next entry, and a cycle boundary
counts the cycle, swaps in a pending bank and commits what waited for it (R293, R294, R299, R302, R304, R136). -/
def Obligations.ShapersAndTimetablesKeepTime : Prop :=
  ∀ (q : List Instr) (h : Hub), h.mainUp = true →
    (∀ (n : Nat), n < 2176 → exec (.shaperRefill n) ⟨h, q⟩ = .next ⟨h.refillAt (slot64 (max h.now (h.refillDue n))) [n], q⟩) ∧
    (exec (.wheelSlotExpiry) ⟨h, q⟩ = .next ⟨h.wheelSlotExpires, q⟩) ∧
    (∀ (port : Nat), port < 16 → h.on F.TIMETABLE.ENABLE port = true → exec (.timetableEntryBoundary port) ⟨h, q⟩ = .next
      ⟨h.advanceNetworkBy (h.ttToEntry port), q⟩) ∧
    (∀ (port : Nat), port < 16 → h.on F.TIMETABLE.ENABLE port = true →
      let g := (h.advanceNetworkBy (h.ttToCycle port)).add F.TIMETABLE.CYCLES port 1
      exec (.timetableCycleBoundary port) ⟨h, q⟩ = .next
      ⟨(if g.on F.TIMETABLE.SWAP_PENDING port then g.ttSwap port else g).moment (fun e => e == .cycle port), q⟩) ∧
    (∀ (leaf : Nat) (e : LeafPkt) (rest : List LeafPkt) (t : Nat), leaf < 2048 → h.yard.leaf leaf = e :: rest → e.pkt.launch = some t →
      leaf / 128 = 6 → exec (.launchTimeReached leaf) ⟨h, q⟩ = .next ⟨(h.advanceToNetwork t).purgeLeaf leaf, q⟩)

/-- A frame, a PAUSE and a vNIC message are taken where the link is up or the message waits; the pause watchdog stops honouring PAUSE and a quiet
second honours it again; storm windows begin anew; the link follows its report; and MDIO answers or times out (R308 to R312). -/
def Obligations.EthernetFramesAndLinks : Prop :=
  ∀ (q : List Instr) (h : Hub), h.mainUp = true →
    (∀ (l slot : Nat) (msg : List Byte), l < 4 → slot < 2048 → (h.yard.inbox.read (fun _ => []) l).contains (l, slot, msg) = true →
      h.use F.TUNNEL.CLASS (tunnelOf l slot) = 3 → exec (.networkFrame l slot msg) ⟨h, q⟩ = .next
      ⟨(h.takeInbox l l slot msg).vnicFrame l slot msg, q⟩) ∧
    (∀ (mac : Nat) (frame : List Byte), mac < 2 → h.on F.ETHPORT.LINK mac = true → exec (.ethFrameReceived mac frame) ⟨h, q⟩ = .next
      ⟨if h.forManagement frame then (h.rxFrame mac frame).wakeBy 7 else h.rxFrame mac frame, q⟩) ∧
    (∀ (mac : Nat) (frame : List Byte), mac < 2 → h.on F.ETHPORT.LINK mac = true → isPause frame = true →
      exec (.pauseReceived mac frame) ⟨h, q⟩ = .next ⟨h.rxFrame mac frame, q⟩) ∧
    (∀ (mac : Nat) (d e : Nat), mac < 2 →
      let k := h.watchedFirst mac
      h.due T.pauseWatch k = some d →
      let g := h.expiredAt T.pauseWatch k d
      g.yard.pauseIgnored.read (fun _ => false) mac = false → g.due T.pauseEnd k = some e → g.now ≤ e → exec (.pauseWatchdogExpiry mac) ⟨h, q⟩ = .next
      ⟨((g.modYard (fun y => { y with pauseIgnored := y.pauseIgnored.write (fun _ => false) mac true })).arm T.pauseQuiet mac sec).raise 151 (mac +
        2) (g.holderCtx (55 + mac)), q⟩) ∧
    (∀ (mac : Nat) (d : Nat), mac < 2 → h.due T.pauseQuiet mac = some d →
      let g := h.expiredAt T.pauseQuiet mac d
      exec (.pauseHonourResume mac) ⟨h, q⟩ = .next
      ⟨(g.modYard (fun y => { y with pauseIgnored := y.pauseIgnored.write (fun _ => false) mac false })).raise 151 mac (g.holderCtx (55 + mac)), q⟩) ∧
    (∀ (mac : Nat) (d : Nat), mac < 2 → h.due T.storm mac = some d → exec (.stormWindow mac) ⟨h, q⟩ = .next
      ⟨(h.expiredAt T.storm mac d).modYard (fun y =>
        { y with storm := [0, 1, 2].foldl (fun t k => t.write (fun _ => 0) (mac * 3 + k) 0) y.storm, stormRaised := [0, 1, 2].foldl (fun t k => t.write (fun _ => false) (mac * 3 + k) false) y.stormRaised }),
        q⟩) ∧
    (∀ (mac : Nat) (isUp : Bool) (speed fault : Nat), mac < 2 →
      (isUp = false ∨ h.get F.SYSTEM.POWER_STATE 0 ≠ 1 ∨ h.on F.ETHPORT.MGMT_ENABLE mac = true) →
      let iface := h.get F.ETHPORT.IFACE mac
      let isNow := isUp && iface != 0
      isNow ≠ h.on F.ETHPORT.LINK mac → (isNow = false ∨ iface ≠ 3 ∨ ([100, 1000, 2500, 5000, 10000] : List Nat).contains speed = true) → fault ≠ 2 →
      fault ≠ 3 →
      let sp := (if !isNow then 0 else match iface with | 1 => 25000 | 2 => 10000 | _ => speed)
      let g := (h.set F.ETHPORT.LINK mac (ofB isNow)).set F.ETHPORT.SPEED mac sp
      exec (.ethLinkChange mac isUp speed fault) ⟨h, q⟩ = .next
      ⟨((g.raise 150 (mac + ofB isNow * 2 + iface * 4 + h.get F.ETHPORT.FEC mac * 64 + sp * 256) (h.holderCtx (55 + mac))).syncPort 6 (1 +
        mac)).ptpState (4 + mac), q⟩) ∧
    (∀ (mac data : Nat) (d : Nat), mac < 2 → h.due T.mdio mac = some d → exec (.mdioDone mac true data) ⟨h, q⟩ = .next
      ⟨((h.disarm T.mdio mac).set F.ETHPORT.MDIO_RESULT mac (2 ^ 31 + data % 65536)).raise 156 (mac + data % 65536 * 2 ^ 16) (h.holderCtx (55 +
        mac)), q⟩) ∧
    (∀ (mac data : Nat) (d : Nat), mac < 2 → h.due T.mdio mac = some d →
      let g := (h.expiredAt T.mdio mac d).set F.ETHPORT.MDIO_RESULT mac (2 ^ 31 + 2 ^ 30)
      exec (.mdioDone mac false data) ⟨h, q⟩ = .next
      ⟨(g.raise 156 (mac + 2) (h.holderCtx (55 + mac))).raise 154 (mac + 16) (h.holderCtx (55 + mac)), q⟩)

/-! ### Display -/

/-- A display message waiting first of its tunnel is taken by its type: a write and a tile delta go to the Depot memory, a PRESENT to its layer, a
TURN_JOB to the jobs; a job or a clone's copy in progress ends when it is done. A head's blanking, frame start, line match, end of frame and
underrun while it scans, the end of a mode's gap, and its sink: presence, absence, HPD IRQs and DisplayPort training (R332 to R334, R337, R341,
R346 to R348, R350, R352, R360). -/
def Obligations.DisplayCommandsAndHeadsAct : Prop :=
  ∀ (q : List Instr) (h : Hub), h.mainUp = true →
    (∀ (l slot : Nat) (msg : List Byte), l < 4 → slot < 2048 → h.depot ≠ 1 → h.firstOf 7 l slot msg = true → bits (leAt msg 0 2) 4 8 = 1 →
      (∀ j ∈ h.jobs, ¬ (j.l = l ∧ j.slot = slot)) → exec (.surfaceWrite l slot msg) ⟨h, q⟩ = .next
      ⟨((h.takeInbox 7 l slot msg).touchDepot).surfaceWrite l (msg.drop 8), q⟩) ∧
    (∀ (l slot : Nat) (msg : List Byte), l < 4 → slot < 2048 → h.depot ≠ 1 → h.firstOf 7 l slot msg = true → bits (leAt msg 0 2) 4 8 = 2 →
      (∀ j ∈ h.jobs, ¬ (j.l = l ∧ j.slot = slot)) → exec (.tileDelta l slot msg) ⟨h, q⟩ = .next
      ⟨((h.takeInbox 7 l slot msg).touchDepot).tileDelta l (msg.drop 8), q⟩) ∧
    (∀ (l slot : Nat) (msg : List Byte), l < 4 → slot < 2048 → h.firstOf 7 l slot msg = true → bits (leAt msg 0 2) 4 8 = 3 →
      (∀ j ∈ h.jobs, ¬ (j.l = l ∧ j.slot = slot)) → exec (.present l slot msg) ⟨h, q⟩ = .next
      ⟨(h.takeInbox 7 l slot msg).present l slot (msg.drop 8), q⟩) ∧
    (∀ (l slot : Nat) (msg : List Byte), l < 4 → slot < 2048 → h.firstOf 7 l slot msg = true → bits (leAt msg 0 2) 4 8 = 5 →
      exec (.turnJob l slot msg) ⟨h, q⟩ = .next ⟨((h.takeInbox 7 l slot msg).touchDepot).turnJob l slot (msg.drop 8), q⟩) ∧
    (∀ (l : Nat) (j : Job), l < 4 → h.depot ≠ 1 → (h.clones.cells.any (fun c => c.2.copy.isSome)) = false →
      h.jobs.find? (fun j => j.l == l) = some j → exec (.turnJobDone l) ⟨h, q⟩ = .next
      ⟨((({ h.turn j with jobs := h.jobs.erase j }).add F.SURFACE.WRITES j.dst 1).syncSurfaces).turnDone j 0, q⟩) ∧
    (∀ (layer : Nat) (j : Job), layer < 32 → h.depot ≠ 1 → (h.clone layer).copy = some j → (h.clone layer).again = false →
      exec (.cloneCopyDone layer) ⟨h, q⟩ = .next ⟨((h.turn j).modClone layer (fun c => { c with copy := none, done := j.id + 1 })).syncSurfaces, q⟩) ∧
    (∀ (d : Nat), h.due T.selfRefresh 0 = some d → exec (.depotSelfRefreshReturn) ⟨h, q⟩ = .next
      ⟨{ h.expiredAt T.selfRefresh 0 d with depot := 2 }, q⟩) ∧
    (∀ (head : Nat), head < 4 → exec (.startOfBlanking head) ⟨h, q⟩ = .next ⟨h.blanking head, q⟩) ∧
    (∀ (head us : Nat), head < 4 → (h.head head).gap ≠ 0 → (h.head head).training = false → exec (.modeRestartDone head us) ⟨h, q⟩ = .next
      ⟨h.gapDone head us, q⟩) ∧
    (∀ (head : Nat), head < 4 → h.scanning head = true → (h.head head).gap = 0 → (h.head head).inBlank = true → exec (.frameStart head) ⟨h, q⟩ = .next
      ⟨h.beginFrame head (h.head head).nextAt, q⟩) ∧
    (∀ (head : Nat), head < 4 → h.scanning head = true →
      let k := h.head head
      let line := h.use F.HEAD.LINE_MATCH head
      k.gap = 0 → k.inBlank = false → k.matched = false → line < h.use F.HEAD.TIMING_VACT head →
      let g := ({ h with clk := max h.clk (k.frameAt + h.pixelTime head (line * h.hTot head)) } : Hub).modHead head (fun k =>
          { k with matched := true })
      exec (.lineMatch head) ⟨h, q⟩ = .next
      ⟨if bitB (h.get F.HEAD.EVENT_MASK head) 1 then g.notify (nHead head 1) (h.get F.HEAD.FRAME_COUNT head % 2 ^ 32 + line * 2 ^ 32) else g, q⟩) ∧
    (∀ (head : Nat), head < 4 → h.scanning head = true →
      let k := h.head head
      k.gap = 0 → k.done = false →
      let g := ({ h with clk := max h.clk (k.frameAt + h.pixelTime head (h.activePx head)) } : Hub).modHead head (fun k => { k with done := true })
      exec (.frameDone head) ⟨h, q⟩ = .next
      ⟨if bitB (h.get F.HEAD.EVENT_MASK head) 2 then g.notify (nHead head 2) (h.get F.HEAD.FRAME_COUNT head) else g, q⟩) ∧
    (∀ (head line : Nat), head < 4 → h.scanning head = true →
      let g := (h.add F.HEAD.UNDERRUNS head 1).modHead head (fun k => { k with late := k.late ++ [line] })
      exec (.lineUnderrun head line) ⟨h, q⟩ = .next
      ⟨if bitB (h.get F.HEAD.EVENT_MASK head) 3 then g.notify (nHead head 3) (1 + line % 8192 * 2 ^ 32) else g, q⟩) ∧
    (∀ (head : Nat), head < 4 → (h.head head).sink = true → h.get F.HEAD.LINK_ACTIVE head < 128 →
      let g := (h.modHead head (fun k => { k with sink := false, training := false })).disarm T.dpRetry head
      exec (.sinkAbsent head) ⟨h, q⟩ = .next
      ⟨((((g.set F.HEAD.LINK_ACTIVE head 0).set F.HEAD.SINK_CAPS head 0).notify (nHead head 4) 0).syncHead head).idleWatch.wakeBy 4, q⟩) ∧
    (∀ (head caps : Nat) (edid : List Nat), head < 4 → (h.head head).sink = false →
      let g := (h.modHead head (fun k => { k with sink := true })).idleWatch.notify (nHead head 4) 1
      exec (.sinkPresent head caps edid true true) ⟨h, q⟩ = .next
      ⟨(((List.range 128).foldl (fun g i => g.set F.HEAD.EDID head (edid.getD i 0) i) (g.set F.HEAD.SINK_CAPS head (caps % 2 ^ 17))).tryLink
        head).wakeBy 4, q⟩) ∧
    (∀ (head caps : Nat) (edid : List Nat) (intact : Bool), head < 4 → (h.head head).sink = false →
      let g := (h.modHead head (fun k => { k with sink := true })).idleWatch.notify (nHead head 4) 1
      exec (.sinkPresent head caps edid false intact) ⟨h, q⟩ = .next ⟨((g.notify (nHead head 13) 1).tryLink head).wakeBy 4, q⟩) ∧
    (∀ (head : Nat), head < 4 →
      let k := h.head head
      k.sink = true → (k.irqAt = 0 ∨ k.irqAt - 1 + 10 * msec ≤ h.now) → exec (.hpdIrq head false) ⟨h, q⟩ = .next
      ⟨(h.modHead head (fun k => { k with irqAt := h.now + 1 })).notify (nHead head 4) 3, q⟩) ∧
    (∀ (head : Nat) (lost : Bool), head < 4 →
      let k := h.head head
      k.sink = true → k.irqAt ≠ 0 → h.now < k.irqAt - 1 + 10 * msec → exec (.hpdIrq head lost) ⟨h, q⟩ = .next ⟨h.notify (nHead head 13) 2, q⟩) ∧
    (∀ (head : Nat), head < 4 →
      let k := h.head head
      k.training = true → exec (.dpTrainingDone head true) ⟨h, q⟩ = .next
      ⟨(((h.modHead head (fun k => { k with training := false })).set F.HEAD.LINK_ACTIVE head (k.rate + k.lanes * 16 + 128)).linkNotice head
        1).syncHead head, q⟩) ∧
    (∀ (head : Nat), head < 4 → (h.head head).training = true → exec (.dpTrainingDone head false) ⟨h, q⟩ = .next ⟨h.linkFails head, q⟩) ∧
    (∀ (head : Nat) (d : Nat), head < 4 → h.due T.dpRetry head = some d → exec (.dpTrainRetry head) ⟨h, q⟩ = .next
      ⟨(h.expiredAt T.dpRetry head d).tryLink head, q⟩)

/-! ### Clock, PTP, cues and triggers -/

/-- The reference is lost and restored with its outage in milliseconds, loss of Sync ends LOCKED, a pulse per second is raised on the second and ends,
a trigger fires at its time and a cue pulse ends. A PTP message for an enabled port in its domain, at most 1,000 in a second, is taken by its
kind, and the port's own messages leave at the intervals of its LOG fields (R370, R374, R375, R380, R385 to R387, R389). -/
def Obligations.ClockPulsesTriggersAndPtpAct : Prop :=
  ∀ (q : List Instr) (h : Hub), h.mainUp = true →
    (h.get F.CLOCK.REF_STATE 0 ≠ 1 → exec (.refLost) ⟨h, q⟩ = .next
      ⟨((h.set F.CLOCK.REF_STATE 0 1).modClock (fun c => { c with lostAt := h.now })).notify 227 (h.get F.CLOCK.REF_SOURCE 0), q⟩) ∧
    (∀ (ms : Nat), h.get F.CLOCK.REF_STATE 0 ≠ 0 →
      let g := h.advanceTo (h.clock.lostAt + max 1000 ms * msec)
      exec (.refRestored ms) ⟨h, q⟩ = .next ⟨(g.set F.CLOCK.REF_STATE 0 0).notify 228 (min ((g.now - h.clock.lostAt) / msec) (2 ^ 32 - 1)), q⟩) ∧
    (∀ (d : Nat), h.due T.syncLoss 0 = some d →
      let g := h.expiredAt T.syncLoss 0 d
      g.holder 1 = 0xF →
      let g1 := g.modClock (fun c => { c with inside := 0, beyond := 0 })
      exec (.syncLossTimeout) ⟨h, q⟩ = .next ⟨g1.clockState (if g.on F.CLOCK.EVER_LOCKED 0 then 3 else 0), q⟩) ∧
    (∀ (port : Nat) (d : Nat), port < 6 → h.due T.followUp port = some d → exec (.followUpTimeout port) ⟨h, q⟩ = .next
      ⟨(h.expiredAt T.followUp port d).followUpLost port, q⟩) ∧
    (∀ (trigger : Nat), trigger < 32 → h.on F.TRIGGER.ENABLE trigger = true → exec (.triggerFire trigger) ⟨h, q⟩ = .next
      ⟨(h.advanceToNetwork (h.get F.TRIGGER.TIME trigger)).fireTrigger trigger false, q⟩) ∧
    (∀ (cue : Nat) (d : Nat), cue < 8 → h.due T.cueEnd cue = some d → exec (.cuePulseEnd cue) ⟨h, q⟩ = .next
      ⟨(h.expiredAt T.cueEnd cue d).cueLevel cue false, q⟩) ∧
    (h.on F.CLOCK.PPS_ENABLE 0 = true → (h.on F.CLOCK.PPS_LOCKED_ONLY 0 = false ∨ h.get F.CLOCK.STATE 0 = 2) →
      let g := h.advanceNetwork ((sec : Int) - h.networkInt % (sec : Int))
      exec (.ppsPulse) ⟨h, q⟩ = .next ⟨(g.ppsLevel true).arm T.ppsEnd 0 (g.get F.CLOCK.PPS_WIDTH 0), q⟩) ∧
    (∀ (d : Nat), h.due T.ppsEnd 0 = some d → exec (.ppsPulseEnd) ⟨h, q⟩ = .next ⟨(h.expiredAt T.ppsEnd 0 d).ppsLevel false, q⟩) ∧
    (∀ (port : Nat) (msg : List Byte) (g : Hub) (t : Nat), port < 6 → PtpArrives h port msg [0] g t → exec (.ptpSync port msg) ⟨h, q⟩ = .next
      ⟨(g.ptpSync port t msg).afterServo h, q⟩) ∧
    (∀ (port : Nat) (msg : List Byte) (g : Hub) (t : Nat), port < 6 → PtpArrives h port msg [8] g t → exec (.ptpFollowUp port msg) ⟨h, q⟩ = .next
      ⟨(g.ptpFollowUp port msg).afterServo h, q⟩) ∧
    (∀ (port : Nat) (msg : List Byte) (g : Hub) (t : Nat), port < 6 → PtpArrives h port msg [1] g t → exec (.ptpDelayReq port msg) ⟨h, q⟩ = .next
      ⟨g.answerDelay port t msg, q⟩) ∧
    (∀ (port : Nat) (msg : List Byte) (g : Hub) (t : Nat), port < 6 → PtpArrives h port msg [9] g t → exec (.ptpDelayResp port msg) ⟨h, q⟩ = .next
      ⟨g.delayResp port msg, q⟩) ∧
    (∀ (port : Nat) (msg : List Byte) (g : Hub) (t : Nat), port < 6 → PtpArrives h port msg [2] g t → exec (.ptpPdelayReq port msg) ⟨h, q⟩ = .next
      ⟨g.answerDelay port t msg, q⟩) ∧
    (∀ (port : Nat) (msg : List Byte) (g : Hub) (t : Nat), port < 6 → PtpArrives h port msg [3, 10] g t →
      exec (.ptpPdelayResp port msg) ⟨h, q⟩ = .next ⟨g.pdelayResp port t msg, q⟩) ∧
    (∀ (port : Nat) (msg : List Byte) (g : Hub) (t : Nat), port < 6 → PtpArrives h port msg [11] g t → exec (.ptpAnnounce port msg) ⟨h, q⟩ = .next
      ⟨if g.get F.CLOCK.SERVO_PORT 0 == port then g.modClock (fun c => { c with announce := msg }) else g, q⟩) ∧
    (∀ (port : Nat) (msg : List Byte) (g : Hub) (t : Nat), port < 6 → PtpArrives h port msg [12, 13] g t →
      exec (.ptpUnsupported port msg) ⟨h, q⟩ = .next ⟨(g.add F.PTPPORT.DISCARDED port 1).ptpFaultOnce port 5, q⟩) ∧
    (∀ (port : Nat) (d : Nat), port < 6 → h.due T.syncTx port = some d →
      let g := h.expiredAt T.syncTx port d
      g.on F.PTPPORT.ENABLE port = true → exec (.ptpSyncTxTimer port) ⟨h, q⟩ = .next
      ⟨(g.arm T.syncTx port (powerSec (g.getI F.PTPPORT.LOG_SYNC port))).sendSync port, q⟩) ∧
    (∀ (port : Nat) (d : Nat), port < 6 → h.due T.pdelayTx port = some d →
      let g := h.expiredAt T.pdelayTx port d
      g.on F.PTPPORT.ENABLE port = true → exec (.ptpPdelayTxTimer port) ⟨h, q⟩ = .next
      ⟨(g.arm T.pdelayTx port (powerSec (g.getI F.PTPPORT.LOG_PDELAY port))).sendDelayReq port, q⟩) ∧
    (∀ (port : Nat) (d : Nat), port < 6 → h.due T.announceTx port = some d →
      let g := h.expiredAt T.announceTx port d
      g.on F.PTPPORT.ENABLE port = true → exec (.ptpAnnounceTxTimer port) ⟨h, q⟩ = .next
      ⟨(g.arm T.announceTx port (powerSec (g.getI F.PTPPORT.LOG_ANNOUNCE port))).sendAnnounce port, q⟩)

/-! ### Storage -/

/-- A slot's module is found, powered, released from PERST, trained and removed; a TLP waiting of a storage tunnel goes toward its slot and a slot's
toward its host; posted writes end by acknowledgment, a completion time-out is counted, and a handover drains and ends (R399, R402 to R409, R412). -/
def Obligations.StorageSlotsComeUpAndGo : Prop :=
  ∀ (q : List Instr) (h : Hub), h.mainUp = true →
    (∀ (n : Nat), n < 2 → h.on F.STORAGE.PRESENT n = false →
      let g := ((h.set F.STORAGE.PRESENT n 1).set F.STORAGE.STATE n 1).modSlot n (fun k => { k with tries := 0 })
      exec (.slotPresence n) ⟨h, q⟩ = .next ⟨(if h.on F.STORAGE.SLOT_ENABLE n then g.slotFeed n true else g).storageNotice n 272 (n + 2), q⟩) ∧
    (∀ (n : Nat), n < 2 → h.get F.STORAGE.STATE n = 1 → h.get F.FEED.STATE (12 + n) = 3 →
      let g := (h.set F.STORAGE.STATE n 2).modSlot n (fun k => { k with power := true })
      exec (.slotPowerGood n) ⟨h, q⟩ = .next ⟨if g.holder (11 + n) < 6 then g.arm T.slotPerst n (100 * msec) else g, q⟩) ∧
    (∀ (n : Nat) (d : Nat), n < 2 → h.due T.slotPerst n = some d →
      let g := h.expiredAt T.slotPerst n d
      g.get F.STORAGE.STATE n = 2 → (g.slot n).power = true → (g.slot n).phase = 0 → g.holder (11 + n) < 6 → exec (.slotPerstRelease n) ⟨h, q⟩ = .next
      ⟨((g.perst n true).set F.STORAGE.STATE n 3).arm T.slotTrain n sec, q⟩) ∧
    (∀ (n gen width mps : Nat) (w g m : Nat), n < 2 → h.get F.STORAGE.STATE n = 3 →
      (w = (if width = 4 ∨ width = 2 then min width (h.get F.STORAGE.MAX_WIDTH n) else 1)) → g = max 1 (min gen (h.get F.STORAGE.MAX_GEN n)) →
      m = (if 512 ≤ mps then 512 else if 256 ≤ mps then 256 else 128) →
      let x := ((((h.set F.STORAGE.STATE n 4).set F.STORAGE.GEN n g).set F.STORAGE.WIDTH n w).set F.STORAGE.MPS n m).disarm T.slotTrain n
      exec (.slotLinkUp n gen width mps) ⟨h, q⟩ = .next
      ⟨(((x.modSlot n (fun k => { k with tries := 0 })).syncPort (4 + n) 0).slotRates.syncPresence n).slotLink n 1, q⟩) ∧
    (∀ (n : Nat) (d : Nat), n < 2 → h.due T.slotTrain n = some d → exec (.slotTrainTimeout n) ⟨h, q⟩ = .next
      ⟨(h.expiredAt T.slotTrain n d).slotTrainFailed n, q⟩) ∧
    (∀ (n : Nat), n < 2 → h.get F.STORAGE.STATE n = 4 →
      let g := (h.abortAll n true).logPosted n 2 true
      exec (.slotLinkDown n) ⟨h, q⟩ = .next ⟨(((g.linkGone n 3).slotPortDown n).slotLink n 2).arm T.slotTrain n sec, q⟩) ∧
    (∀ (n : Nat), n < 2 → h.on F.STORAGE.PRESENT n = true →
      let g := (h.abortAll n false).logPosted n 1 false
      let g1 := ((((g.set F.STORAGE.PRESENT n 0).perst n false).disarm T.slotPerst n).linkGone n 0).syncPort (4 + n) 0
      let g2 := (if g1.yard.flushed.read (fun _ => false) (unitKey (4 + n) 0) then g1 else (g1.flushUnit (4 + n) 0).disarm T.flush (unitKey (4 + n)
          0))
      exec (.surpriseRemoval n) ⟨h, q⟩ = .next
      ⟨((g2.slotFeed n false).add F.STORAGE.REMOVALS n 1).storageNotice n 274 (n + min (h.slot n).down.length 65535 * 2 ^ 16 + (h.slot
        n).posted.length * 2 ^ 32), q⟩) ∧
    (∀ (l slot : Nat) (msg : List Byte), l < 4 → slot < 2048 → (h.yard.inbox.read (fun _ => []) l).contains (l, slot, msg) = true →
      h.use F.TUNNEL.CLASS (tunnelOf l slot) = 2 → exec (.storageTlpFromHost l slot msg) ⟨h, q⟩ = .next
      ⟨(h.takeInbox l l slot msg).fromHost l slot msg, q⟩) ∧
    (∀ (n : Nat) (tlp : List Byte), n < 2 → h.get F.STORAGE.STATE n = 4 → tlpKind tlp = some .memRead →
      exec (.storageTlpFromSlot n tlp) ⟨h, q⟩ = .next ⟨(h.add F.STORAGE.TLPS_UP n 1).slotMemory n tlp false, q⟩) ∧
    (∀ (n : Nat) (tlp : List Byte), n < 2 → h.get F.STORAGE.STATE n = 4 → tlpKind tlp = some .memWrite →
      exec (.storageTlpFromSlot n tlp) ⟨h, q⟩ = .next ⟨(h.add F.STORAGE.TLPS_UP n 1).slotMemory n tlp true, q⟩) ∧
    (∀ (n count : Nat), n < 2 →
      let left := ackPosted (h.slot n).posted count
      let done := (h.slot n).posted.take ((h.slot n).posted.length - left.length)
      exec (.postedWriteAck n count) ⟨h, q⟩ = .next
      ⟨{ h.modSlot n (fun k => { k with posted := left }) with postedDone := done.foldl (fun t w => t.write (fun _ => 0) w.ctx (t.read (fun _ => 0) w.ctx + 1)) h.postedDone },
        q⟩) ∧
    (∀ (n : Nat) (r : HostReq), n < 2 → (h.slot n).down.filter (fun r => r.sentAt != 0) = [r] → exec (.cplTimeout n false) ⟨h, q⟩ = .next
      ⟨((((h.advanceTo (r.sentAt - 1 + 50 * msec)).abortReq n r).add F.STORAGE.CPL_TIMEOUTS n 1).storageNotice n 275 (n + 2 ^ 32)), q⟩) ∧
    (∀ (n : Nat) (d : Nat), n < 2 → h.due T.handDrain n = some d → exec (.handoverDrainEnd n) ⟨h, q⟩ = .next
      ⟨(h.expiredAt T.handDrain n d).handoverDrained n, q⟩) ∧
    (∀ (n : Nat) (d : Nat), n < 2 → h.due T.handPerst n = some d → exec (.handoverPerstEnd n) ⟨h, q⟩ = .next
      ⟨(h.expiredAt T.handPerst n d).handoverEnd n, q⟩)

/-! ### Branch interfaces and signals -/

/-- A Branch message waiting at its endpoint is taken by its type; a bus lock, a frame's period, a poll, a signal flush, a split answer and a bus
recovery fall due; GPIO edges, target transfers and received CAN frames enter (R419 to R423, R425, R429, R431 to R434). -/
def Obligations.BranchMessagesAndTimersAct : Prop :=
  ∀ (q : List Instr) (h : Hub), h.mainUp = true →
    (∀ (l slot : Nat) (msg : List Byte), l < 4 → slot < 2048 → WaitsAt h 9 l slot msg 1 → exec (.access l slot msg) ⟨h, q⟩ = .next
      ⟨(h.takeInbox 9 l slot msg).access l slot ((msg.drop 8).take (leAt msg 2 2)), q⟩) ∧
    (∀ (l slot : Nat) (msg : List Byte), l < 4 → slot < 2048 → WaitsAt h 9 l slot msg 4 → exec (.signalSet l slot msg) ⟨h, q⟩ = .next
      ⟨(h.takeInbox 9 l slot msg).signalSet l ((msg.drop 8).take (leAt msg 2 2)), q⟩) ∧
    (∀ (l slot : Nat) (msg : List Byte), l < 4 → slot < 2048 → WaitsAt h 9 l slot msg 8 → exec (.targetReply l slot msg) ⟨h, q⟩ = .next
      ⟨(h.takeInbox 9 l slot msg).targetReply l ((msg.drop 8).take (leAt msg 2 2)), q⟩) ∧
    (∀ (n : Nat) (d : Nat), n < 6 → h.due T.busLock n = some d → exec (.farBusLockTimeout n) ⟨h, q⟩ = .next
      ⟨(h.expiredAt T.busLock n d).lockTimeout n, q⟩) ∧
    (∀ (n status cause pieces : Nat) (data : List Byte) (a : Access), n < 6 → (h.farBus n).job = some (.access a) → n < 5 → a.readLen = 0 →
      status = 0 → exec (.branchTransactionDone n status cause pieces data) ⟨h, q⟩ = .next ⟨((h.i2cFault n cause).accessOver n a 0 pieces data), q⟩) ∧
    (∀ (n addr : Nat) (data : List Byte), n < 2 → h.get F.BRANCH.MODE n ≠ 0 → exec (.canFrameReceived n addr data true) ⟨h, q⟩ = .next
      ⟨h.add F.BRANCH.BUS_ERRORS n 1, q⟩) ∧
    (∀ (n addr : Nat) (data : List Byte), n < 2 → h.get F.BRANCH.MODE n ≠ 0 →
      let g := (h.add F.BRANCH.RX_COUNT n 1).drainCan n
      (g.farBus n).job = none → g.branchRoom = true → (g.farBus n).rxFifo = [] → exec (.canFrameReceived n addr data false) ⟨h, q⟩ = .next
      ⟨g.canFrame n (addr % 2 ^ 32) (data.take 64) g.clk, q⟩) ∧
    (∀ (n st tec rec_ : Nat), n < 2 → h.get F.BRANCH.CAN_STATE n = min st 2 → exec (.canErrorState n st tec rec_) ⟨h, q⟩ = .next
      ⟨((h.set F.BRANCH.CAN_STATE n (min st 2)).set F.BRANCH.TEC n tec).set F.BRANCH.REC n rec_, q⟩) ∧
    (∀ (n st tec rec_ : Nat), n < 2 →
      let new := min st 2
      h.get F.BRANCH.CAN_STATE n ≠ new → (h.get F.BRANCH.CAN_STATE n ≠ 2 ∨ h.on F.BRANCH.AUTO_RECOVER n = true) → new ≠ 2 →
      let g := ((((h.set F.BRANCH.CAN_STATE n new).set F.BRANCH.TEC n tec).set F.BRANCH.REC n rec_).branchNotice n 304 (n + new * 2 ^ 4 + tec % 256 *
          2 ^ 8 + rec_ % 256 * 2 ^ 16)).farEvent n 3 (new + tec % 256 * 2 ^ 8 + rec_ % 256 * 2 ^ 16)
      exec (.canErrorState n st tec rec_) ⟨h, q⟩ = .next ⟨g.farNext n, q⟩) ∧
    (∀ (n st tec rec_ : Nat), n < 2 →
      let new := min st 2
      h.get F.BRANCH.CAN_STATE n ≠ new → (h.get F.BRANCH.CAN_STATE n ≠ 2 ∨ h.on F.BRANCH.AUTO_RECOVER n = true) → new = 2 →
      let g := ((((h.set F.BRANCH.CAN_STATE n new).set F.BRANCH.TEC n tec).set F.BRANCH.REC n rec_).branchNotice n 304 (n + new * 2 ^ 4 + tec % 256 *
          2 ^ 8 + rec_ % 256 * 2 ^ 16)).farEvent n 3 (new + tec % 256 * 2 ^ 8 + rec_ % 256 * 2 ^ 16)
      (g.farBus n).job = none → exec (.canErrorState n st tec rec_) ⟨h, q⟩ = .next ⟨g.busFault n, q⟩) ∧
    (∀ (n frame : Nat) (d : Nat), n < 2 → frame < 16 → h.due T.canTx (16 * n + frame) = some d → exec (.canTxPeriod n frame) ⟨h, q⟩ = .next
      ⟨(h.expiredAt T.canTx (16 * n + frame) d).frameDue n frame, q⟩) ∧
    (∀ (entry : Nat) (d : Nat), entry < 2048 → h.due T.farPoll entry = some d → exec (.i2cPoll entry) ⟨h, q⟩ = .next
      ⟨(h.expiredAt T.farPoll entry d).pollDue entry, q⟩) ∧
    (∀ (l slot : Nat) (d : Nat), l < 4 → slot < 2048 → h.due T.signals (tunnelOf l slot) = some d → exec (.signalsFlushTimer l slot) ⟨h, q⟩ = .next
      ⟨((h.expiredAt T.signals (tunnelOf l slot) d).flushSignals (tunnelOf l slot)).branchDrain, q⟩) ∧
    (∀ (levels : Nat),
      let old := h.get F.BRANCH.GPIO_IN 5
      let new := levels % 2 ^ 32
      let edges := ((new - (new &&& old)) &&& h.get F.BRANCH.GPIO_RISE 5) + ((old - (new &&& old)) &&& h.get F.BRANCH.GPIO_FALL 5)
      let g := (h.advanceTo (h.now + h.get F.BRANCH.GPIO_DEBOUNCE 5 * usec)).set F.BRANCH.GPIO_IN 5 new
      exec (.gpioEdge levels) ⟨h, q⟩ = .next
      ⟨(if h.get F.BRANCH.MODE 5 == 0 || edges == 0 then g else g.farEvent 5 1 (new + edges * 2 ^ 32)).wakeBy 9, q⟩) ∧
    (∀ (n reg : Nat) (data : List Byte), 2 ≤ n → n < 4 → reg < 256 → h.targetMode n = true → exec (.i2cTargetWrite n reg data) ⟨h, q⟩ = .next
      ⟨(h.add F.BRANCH.RX_COUNT n 1).targetWrite n reg data, q⟩) ∧
    (∀ (n reg len : Nat), 2 ≤ n → n < 4 → reg < 256 → h.targetMode n = true → exec (.i2cTargetRead n reg len) ⟨h, q⟩ = .next
      ⟨h.targetRead n reg len, q⟩) ∧
    (∀ (n reg : Nat) (d : Nat), 2 ≤ n → n < 4 → reg < 256 → h.due T.targetReply (256 * n + reg) = some d →
      exec (.targetReplyTimeout n reg) ⟨h, q⟩ = .next ⟨(h.expiredAt T.targetReply (256 * n + reg) d).splitExpired n reg 1, q⟩) ∧
    (∀ (n reg : Nat) (d : Nat), 2 ≤ n → n < 4 → reg < 256 → h.due T.splitHold (256 * n + reg) = some d → exec (.splitHoldExpiry n reg) ⟨h, q⟩ = .next
      ⟨(h.expiredAt T.splitHold (256 * n + reg) d).splitExpired n reg 3, q⟩) ∧
    (∀ (n : Nat) (recovered : Bool) (d : Nat), 2 ≤ n → n < 4 → h.due T.busRecovery n = some d → exec (.i2cRecoveryRetry n recovered) ⟨h, q⟩ = .next
      ⟨(h.expiredAt T.busRecovery n d).busRecovery n recovered, q⟩)

/-! ### USB and the legacy interface -/

/-- A downstream port's device connects, resets, suspends, resumes, wakes, babbles and goes, and its port's owner resets, suspends, resumes, powers,
disables and tests it. A host's TRANSFER, CANCEL and bus signalling reach the hub of its path, a transfer's end is answered once those before it
on its endpoint have ended, and a proxied device's report goes to the focus (R443, R448 to R450, R452 to R459). -/
def Obligations.UsbPortsAndTransfersAct : Prop :=
  ∀ (q : List Instr) (h : Hub), h.mainUp = true →
    (∀ (n : Nat) (d : Nat), n < 8 → h.due T.usbPower n = some d →
      let g := h.expiredAt T.usbPower n d
      g.get F.USBPORT.STATE n = 0 → g.usbWants n = true → exec (.usbPowered n) ⟨h, q⟩ = .next ⟨g.set F.USBPORT.STATE n 1, q⟩) ∧
    (∀ (n speed : Nat), n < 8 → h.get F.USBPORT.STATE n = 1 → h.due T.usbBounce n = none →
      let recent := ((h.usb n).connects.filter (fun t => h.now < t + 10 * sec)) ++ [h.now]
      let g := (h.modUsb n (fun u => { u with connects := recent })).add F.USBPORT.CONNECTS n 1
      h.get F.USBPORT.BOUNCE_LIMIT n < recent.length → exec (.usbConnect n speed) ⟨h, q⟩ = .next ⟨(g.arm T.usbBounce n (10 * sec)).usbError n 3, q⟩) ∧
    (∀ (n speed : Nat), n < 8 → h.get F.USBPORT.STATE n = 1 → h.due T.usbBounce n = none →
      let recent := ((h.usb n).connects.filter (fun t => h.now < t + 10 * sec)) ++ [h.now]
      let g := (h.modUsb n (fun u => { u with connects := recent })).add F.USBPORT.CONNECTS n 1
      recent.length ≤ h.get F.USBPORT.BOUNCE_LIMIT n →
      let g1 := ((g.set F.USBPORT.STATE n 2).set F.USBPORT.SPEED n (if speed == 1 then 1 else 2)).set F.USBPORT.DEVICES n 1
      let g2 := (g1.connectNotice n true).usbChange n 0
      exec (.usbConnect n speed) ⟨h, q⟩ = .next ⟨if g2.get F.USBPORT.MODE n == 1 then g2.portReset n else g2, q⟩) ∧
    (∀ (n : Nat), n < 8 → 2 ≤ h.get F.USBPORT.STATE n → exec (.usbDisconnect n) ⟨h, q⟩ = .next ⟨h.usbGone n 1, q⟩) ∧
    (∀ (n : Nat) (d : Nat), n < 8 → h.due T.usbBounce n = some d → exec (.usbBounceHoldEnd n) ⟨h, q⟩ = .next
      ⟨(h.expiredAt T.usbBounce n d).modUsb n (fun u => { u with connects := [] }), q⟩) ∧
    (∀ (ctx n : Nat), n < 8 → h.ownsPort ctx n = true → 2 ≤ h.get F.USBPORT.STATE n →
      let g := (((h.cutAll n 2).forgetDevices n).dropProxied n).usbSignal n 1 0
      exec (.portReset ctx n) ⟨h, q⟩ = .next
      ⟨((((g.set F.USBPORT.STATE n 3).disarm T.usbResume n).disarm T.usbRecover n).arm T.usbReset n (50 * msec)).add F.USBPORT.RESETS n 1, q⟩) ∧
    (∀ (n outcome speed refusal vid pid cls : Nat) (d : Nat), n < 8 → h.due T.usbReset n = some d →
      exec (.usbResetDone n outcome speed refusal vid pid cls) ⟨h, q⟩ = .next
      ⟨(h.expiredAt T.usbReset n d).resetDone n outcome speed refusal vid pid cls, q⟩) ∧
    (∀ (ctx n : Nat), n < 8 → h.ownsPort ctx n = true → h.get F.USBPORT.STATE n = 4 → exec (.portSuspend ctx n) ⟨h, q⟩ = .next
      ⟨(((h.cutAll n 2).usbSignal n 3 0).set F.USBPORT.STATE n 5).modUsb n (fun u => { u with byBus := false }), q⟩) ∧
    (∀ (ctx n : Nat), n < 8 → h.ownsPort ctx n = true → h.get F.USBPORT.STATE n = 5 → exec (.portResume ctx n true) ⟨h, q⟩ = .next
      ⟨(h.startResume n).add F.USBPORT.WAKES_ABSORBED n 1, q⟩) ∧
    (∀ (ctx n : Nat), n < 8 → h.ownsPort ctx n = true → h.get F.USBPORT.STATE n = 5 → exec (.portResume ctx n false) ⟨h, q⟩ = .next
      ⟨h.startResume n, q⟩) ∧
    (∀ (n : Nat) (d : Nat), n < 8 → h.due T.usbResume n = some d → exec (.usbResumeDone n) ⟨h, q⟩ = .next
      ⟨(h.expiredAt T.usbResume n d).resumeDone n, q⟩) ∧
    (∀ (ctx n : Nat) (want : Bool), n < 8 → h.ownsPort ctx n = true →
      let g := h.set F.USBPORT.POWER n (ofB want)
      exec (.portPower ctx n want) ⟨h, q⟩ = .next ⟨(if want then g.modUsb n (fun u => { u with overCurrent := false }) else g).usbFeed n, q⟩) ∧
    (∀ (ctx n : Nat), n < 8 → h.ownsPort ctx n = true → 3 ≤ h.get F.USBPORT.STATE n → exec (.portEnableClear ctx n) ⟨h, q⟩ = .next
      ⟨((((((h.cutAll n 3).forgetDevices n).dropProxied n).set F.USBPORT.STATE n 2).disarm T.usbReset n).disarm T.usbResume n).disarm T.usbRecover n,
        q⟩) ∧
    (∀ (ctx n mode : Nat), n < 8 → h.ownsPort ctx n = true → 1 ≤ mode → mode ≤ 5 → h.get F.USBPORT.STATE n ≠ 0 →
      exec (.portTest ctx n mode) ⟨h, q⟩ = .next ⟨(h.usbSignal n 4 mode).modUsb n (fun u => { u with test := mode }), q⟩) ∧
    (∀ (n : Nat), n < 8 → h.get F.USBPORT.STATE n = 5 → h.on F.USBPORT.REMOTE_WAKE n = false → exec (.usbDeviceWake n) ⟨h, q⟩ = .next
      ⟨(h.add F.USBPORT.WAKES_IGNORED n 1).notify (338 + 4 * n) 0, q⟩) ∧
    (∀ (n : Nat), n < 8 → h.get F.USBPORT.STATE n = 5 → h.on F.USBPORT.REMOTE_WAKE n = true → (4 ≤ h.holder (3 + n) ∨ h.get F.USBPORT.PATH n = 0) →
      exec (.usbDeviceWake n) ⟨h, q⟩ = .next ⟨((h.startResume n).add F.USBPORT.WAKES n 1).notify (338 + 4 * n) 1, q⟩) ∧
    (∀ (n index : Nat) (t : Transfer), n < 8 → h.get F.USBPORT.STATE n = 4 → (h.usb n).transfers[index]? = some t →
      let g := (h.modUsb n (fun u => { u with transfers := u.transfers.erase t })).answer t 4 0 [] []
      exec (.usbBabble n index) ⟨h, q⟩ = .next ⟨(((g.portDisable n).usbChange n 1).add F.USBPORT.BABBLES n 1).usbError n 1, q⟩) ∧
    (∀ (l slot need : Nat) (msg : List Byte), l < 4 → slot < 2048 → WaitsAt h 8 l slot msg 1 → exec (.transfer l slot need msg) ⟨h, q⟩ = .next
      ⟨((h.takeInbox 8 l slot msg).transfer l slot need ((msg.drop 8).take (leAt msg 2 2))).hubInterrupts l, q⟩) ∧
    (∀ (l slot : Nat) (msg : List Byte), l < 4 → slot < 2048 → WaitsAt h 8 l slot msg 3 → exec (.cancel l slot msg) ⟨h, q⟩ = .next
      ⟨((h.takeInbox 8 l slot msg).cancel l (leAt ((msg.drop 8).take (leAt msg 2 2)) 0 4)).hubInterrupts l, q⟩) ∧
    (∀ (l slot : Nat) (msg : List Byte), l < 4 → slot < 2048 → WaitsAt h 8 l slot msg 4 → byteAt ((msg.drop 8).take (leAt msg 2 2)) 0 = 1 →
      exec (.busSuspend l slot msg) ⟨h, q⟩ = .next ⟨((h.takeInbox 8 l slot msg).busSuspend l 1).hubInterrupts l, q⟩) ∧
    (∀ (l slot : Nat) (msg : List Byte), l < 4 → slot < 2048 → WaitsAt h 8 l slot msg 4 → byteAt ((msg.drop 8).take (leAt msg 2 2)) 0 = 2 →
      let g := h.takeInbox 8 l slot msg
      (g.vhub l 1).suspended = true → exec (.busResume l slot msg) ⟨h, q⟩ = .next ⟨(g.busResume l 1).hubInterrupts l, q⟩) ∧
    (∀ (l slot : Nat) (msg : List Byte), l < 4 → slot < 2048 → WaitsAt h 8 l slot msg 4 → byteAt ((msg.drop 8).take (leAt msg 2 2)) 0 = 3 →
      exec (.busReset l slot msg) ⟨h, q⟩ = .next ⟨((h.takeInbox 8 l slot msg).busReset l).hubInterrupts l, q⟩) ∧
    (∀ (n index status actual : Nat) (data : List Byte) (lens : List Nat) (t : Transfer), n < 8 → h.get F.USBPORT.STATE n = 4 →
      h.due T.usbRecover n = none → (h.usb n).transfers[index]? = some t → (∀ x ∈ (h.usb n).transfers.take index, x.ep ≠ t.ep) → t.type ≠ 0 →
      status = 0 →
      let got := (if t.dirIn then min data.length t.len else min actual t.data.length)
      let g := h.modUsb n (fun u => { u with transfers := u.transfers.erase t })
      exec (.transferDone n index status actual data lens) ⟨h, q⟩ = .next
      ⟨((g.add F.USBPORT.TRANSFERS n 1).add F.USBPORT.BYTES n got).answer t 0 got (if t.dirIn then data.take t.len else []) lens, q⟩) ∧
    (∀ (n len : Nat) (absolute : Bool) (x y : Int) (buttons wheel pan : Nat), n < 8 → (h.usb n).proxied = true →
      exec (.proxyPointerReport n len absolute x y buttons wheel pan) ⟨h, q⟩ = .next
      ⟨(h.pointerInput n len absolute x y buttons wheel pan).wokenBy n, q⟩) ∧
    (∀ (n len : Nat) (consumer : Bool) (report : List Byte) (g : Hub), n < 8 → (h.usb n).proxied = true → h.reportPass n len = (g, false) →
      exec (.proxyKeyboardReport n len consumer report) ⟨h, q⟩ = .next ⟨g.wokenBy n, q⟩) ∧
    (∀ (n len : Nat) (consumer : Bool) (report : List Byte) (g : Hub), n < 8 → (h.usb n).proxied = true → h.reportPass n len = (g, true) →
      4 ≤ g.get F.USBPORT.FOCUS 0 → g.get F.USBPORT.FOCUS 0 ≠ 0xF →
      let g1 := g.modUsb n (fun u => if consumer then { u with usage := leAt report 0 2 } else { u with keys := report.take 8 })
      exec (.proxyKeyboardReport n len consumer report) ⟨h, q⟩ = .next
      ⟨{ g1 with heldKeys := g1.heldKeys.filter (fun k => g1.keysDown.contains k) }.wokenBy n, q⟩)

/-- On the legacy interface a SETUP of a running port is counted and answered by the function it names, or stalled and counted; the bus is reset,
suspended, resumed and woken; an idle session's context is reset (R462 to R465, R508, R583). -/
def Obligations.LegacyInterfaceAnswers : Prop :=
  ∀ (q : List Instr) (h : Hub), h.mainUp = true →
    (∀ (l fn : Nat) (setup data : List Byte), l < 4 → h.get F.LEGACY.STATE l ≠ 0 → h.get F.LEGACY.STATE l ≠ 4 → fn ≤ 2 → setup.length = 8 →
      let answer (data : List Byte) : Hub := ((h.add F.LEGACY.SETUPS l 1).fnRequest l 2 fn setup data).1.legacyAnswer l fn ((h.add F.LEGACY.SETUPS l
          1).fnRequest l 2 fn setup data).2
      (ownRequest fn setup = false → exec (.unsupportedRequest l fn setup data) ⟨h, q⟩ = .next
      ⟨answer data, q⟩) ∧ (∀ (i : Instr) (named : Bool), (i, named) ∈ [(.getStatus l fn setup, isRequest setup 0 (fn == 0)), (.clearFeature l fn
        setup, isRequest setup 1 (fn == 0)), (.setFeature l fn setup, isRequest setup 3 (fn == 0)), (.setAddress l fn setup, isRequest setup 5
        false), (.getDescriptor l fn setup, isRequest setup 6 (fn == 0)), (.getConfiguration l fn setup, isRequest setup 8 false), (.setConfiguration
        l fn setup, isRequest setup 9 false), (.getInterface l fn setup, isRequest setup 10 false), (.setInterface l fn setup, isRequest setup 11
        false), (.clearTtBuffer l fn setup, fn == 0 && byteAt setup 0 == 0x23 && byteAt setup 1 == 8), (.resetTt l fn setup, fn == 0 && byteAt setup
        0 == 0x23 && byteAt setup 1 == 9)] →  named = true → exec i ⟨h, q⟩ = .next ⟨answer [], q⟩)) ∧
    (∀ (l stage speed : Nat) (outCut inCut : Bool), l < 4 → h.get F.LEGACY.STATE l ≠ 0 →
      exec (.legacyBusReset l stage speed outCut inCut) ⟨h, q⟩ = .next ⟨h.legacyBusReset l (min stage 3) speed outCut inCut, q⟩) ∧
    (∀ (l : Nat), l < 4 →
      let st := h.get F.LEGACY.STATE l
      st ≠ 0 → st ≠ 4 → exec (.legacySuspend l) ⟨h, q⟩ = .next
      ⟨((h.modVhub l 2 (fun v => { v with before := st })).legacyState l 4).busSuspend l 2, q⟩) ∧
    (∀ (l : Nat), l < 4 → h.due T.legacyWake l = none → h.get F.LEGACY.STATE l = 4 → exec (.legacyResume l) ⟨h, q⟩ = .next
      ⟨((h.legacyState l (h.vhub l 2).before).disarm T.legacyWake l).busResume l 2, q⟩) ∧
    (∀ (l : Nat) (d : Nat), l < 4 → h.due T.legacyWake l = some d → exec (.legacyWakeSignal l false) ⟨h, q⟩ = .next
      ⟨(((h.expiredAt T.legacyWake l d).emit .legacy l [2]).add F.LEGACY.WAKES l 1).notify (370 + 4 * l) 1, q⟩) ∧
    (∀ (l : Nat) (d : Nat), l < 4 → h.due T.legacyWake l = some d → exec (.legacyWakeSignal l true) ⟨h, q⟩ = .next
      ⟨(((h.disarm T.legacyWake l).add F.LEGACY.WAKES_MERGED l 1).notify (370 + 4 * l) 0).legacyResume l, q⟩) ∧
    (∀ (l : Nat) (d : Nat), l < 4 → h.due T.legacyIdle l = some d →
      let g := h.expiredAt T.legacyIdle l d
      (g.up l = true ∨ g.get F.CONTEXT.STATE l = 2) → exec (.legacyIdleReset l) ⟨h, q⟩ = .next ⟨g.resetContext l 3, q⟩)

/-! ### Keys, tamper, updates -/

/-- The random generator's faults, a keyslot operation's end, a tamper event, a piece written to flash, an image's age, an activation's steps and an
automatic confirmation (R495, R513, R515, R530, R531, R534, R536). -/
def Obligations.KeysTamperAndUpdatesAct : Prop :=
  ∀ (q : List Instr) (h : Hub),
    (h.mainUp = true →
      (∀ (test : Nat), exec (.rngFault test) ⟨h, q⟩ = .next ⟨({ h with rngFault := true }).notify 467 (test % 256), q⟩) ∧
      (exec (.rngRecovered) ⟨h, q⟩ = .next ⟨{ h with rngFault := false }, q⟩) ∧
      (∀ (k : Nat) (d : Nat), k < 32 → h.due T.keyOp k = some d →
        let g := h.expiredAt T.keyOp k d
        let input := g.keyInputs.read (fun _ => []) k
        g.get F.KEYSLOT.KIND k = 5 → exec (.keyslotOpDone k) ⟨h, q⟩ = .next
        ⟨((g.setBytes F.KEYSLOT.OUTPUT k 6 (hmac (g.slotKey k) input)).add F.KEYSLOT.OPS k 1).keyslotDone k 2, q⟩) ∧
      (∀ (k : Nat) (d : Nat), k < 32 → h.due T.keyOp k = some d →
        let g := h.expiredAt T.keyOp k d
        let input := g.keyInputs.read (fun _ => []) k
        g.get F.KEYSLOT.KIND k ≠ 5 → exec (.keyslotOpDone k) ⟨h, q⟩ = .next
        ⟨((g.setBytes F.KEYSLOT.OUTPUT k 12 (beBytes 96 (Config.ecdsaSign (g.slotScalar k) input).toNat)).add F.KEYSLOT.OPS k 1).keyslotDone k 2, q⟩) ∧
      (∀ (p : Nat) (ok : Bool), p < 5 → h.get F.SYSTEM.START_STATE 0 ≠ 4 → (h.pieceProgrammed p ok).get F.SYSTEM.START_STATE 0 ≠ 4 →
        exec (.pieceProgrammed p ok) ⟨h, q⟩ = .next ⟨h.pieceProgrammed p ok, q⟩) ∧
      (∀ (p : Nat), p < 5 → (h.part p).staged ≠ [] → (h.part p).ready = false → ((30 * 86400 * sec : Nat) : Int) ≤ h.inactive p →
        exec (.updateAgeDiscard p) ⟨h, q⟩ = .next ⟨h.discardImage p 3, q⟩) ∧
      (∀ (p : Nat) (d : Nat), p < 5 → (h.part p).staged ≠ [] → (h.part p).ready = false → h.inactive p < ((30 * 86400 * sec : Nat) : Int) →
        h.due T.updateAge p = some d →
        let g := h.expiredAt T.updateAge p d
        ((30 * 86400 * sec : Nat) : Int) ≤ g.inactive p → exec (.updateAgeDiscard p) ⟨h, q⟩ = .next ⟨g.discardImage p 3, q⟩) ∧
      (∀ (us : Nat), exec (.activationStepDone us) ⟨h, q⟩ = .next ⟨(h.stepDone us).peeksGoOn.afterGroup, q⟩) ∧
      (∀ (d : Nat), h.due T.autoConfirm 0 = some d → exec (.autoConfirmExpiry) ⟨h, q⟩ = .next ⟨(h.expiredAt T.autoConfirm 0 d).confirm true, q⟩) ∧
      (∀ (l : Nat), l < 4 → h.lkfWaits l 2 = true → h.oldRequest l = false → h.lState l ≠ 5 →
        let start := (h.due T.holdDefer l).getD h.now - 30 * msec
        exec (.holdDeferEnd l) ⟨h, q⟩ = .next
        ⟨((h.disarm T.holdDefer l).notify 283 (l + min ((h.now - start) / usec) 65535 * 2 ^ 16)).modActivation (fun a => { a with phase := 0 }), q⟩) ∧
      (∀ (l : Nat) (d : Nat), l < 4 → h.lkfWaits l 1 = true → h.due T.lkfAwait l = some d → exec (.lkfLandingAwaitExpiry l) ⟨h, q⟩ = .next
        ⟨(h.expiredAt T.lkfAwait l d).lkfAwaitEnd l, q⟩) ∧
      (exec (.poweredTimeUpdate) ⟨h, q⟩ = .next ⟨h.updatePowered, q⟩)) ∧
    (exec (.tamperEvent false) ⟨h, q⟩ = .next ⟨{ h with tamperLow := false }, q⟩) ∧
    (
      let g := (({ h with tamperLow := true }).set F.KEYSLOT.TAMPER_LATCH 0 1).add F.KEYSLOT.TAMPER_COUNT 0 1
      h.mainUp = false → exec (.tamperEvent true) ⟨h, q⟩ = .next ⟨{ g with tamperUnpowered := true }, q⟩) ∧
    (
      let g := (({ h with tamperLow := true }).set F.KEYSLOT.TAMPER_LATCH 0 1).add F.KEYSLOT.TAMPER_COUNT 0 1
      h.mainUp = true → exec (.tamperEvent true) ⟨h, q⟩ = .next
      ⟨(g.zeroize.dropSessions 6 2).notify 472 (g.get F.KEYSLOT.TAMPER_COUNT 0 * 2 ^ 32), q⟩)

/-! ### Governor, Ledger and faults -/

/-- The governor's tick, demand window, sensor sample, ramps and charges, the AVS faults, the paces below their floor and the core overvoltages, and
the Ledger's audits, re-reads and recounts with the memory errors (R28 to R31, R544 to R546, R551, R554 to R560). -/
def Obligations.GovernorAndLedgerAct : Prop :=
  ∀ (q : List Instr) (h : Hub), h.mainUp = true →
    (∀ (power sense readback : Nat) (paces : List Nat), exec (.governorTick power sense readback paces) ⟨h, q⟩ = .next
      ⟨h.governorTick power sense readback paces, q⟩) ∧
    (∀ (waited : Bool), exec (.sprintDemandWindow waited) ⟨h, q⟩ = .next ⟨h.demandWindow waited, q⟩) ∧
    (∀ (d : Nat), h.due T.vcoreRamp 0 = some d →
      let g := h.expiredAt T.vcoreRamp 0 d
      g.gov F.THERMAL.SPRINT_STATE = 1 → exec (.vcoreRampDone) ⟨h, q⟩ = .next
      ⟨(g.modGov (fun r => { r with avsTries := 0 })).setGov F.THERMAL.SPRINT_STATE 2, q⟩) ∧
    (∀ (d : Nat), h.due T.vcoreRamp 0 = some d →
      let g := h.expiredAt T.vcoreRamp 0 d
      g.gov F.THERMAL.SPRINT_STATE = 3 → exec (.vcoreRampDone) ⟨h, q⟩ = .next
      ⟨(g.modGov (fun r => { r with avsTries := 0 })).setGov F.THERMAL.SPRINT_STATE 0, q⟩) ∧
    (∀ (d : Nat), h.sprinting = true → h.due T.sprintCharge 0 = some d →
      let g := h.expiredAt T.sprintCharge 0 d
      let life := min 7200000 (g.gov F.THERMAL.SPRINT_LIFETIME + 60)
      exec (.sprintLifetimeCharge) ⟨h, q⟩ = .next
      ⟨(((g.setGov F.THERMAL.SPRINT_LIFETIME life).ringWrite 5 { life := life }).arm T.sprintCharge 0 (60 * sec)).sprintWorn, q⟩) ∧
    (∀ (k : Nat) (reading : Int), k < 12 → exec (.thermalSensorSample k reading) ⟨h, q⟩ = .next ⟨h.sample k reading, q⟩) ∧
    (∀ (k : Nat) (d : Nat), k < 12 → h.due T.shutdown k = some d → exec (.thermalShutdown k) ⟨h, q⟩ = .next
      ⟨(h.expiredAt T.shutdown k d).thermalShutdown k, q⟩) ∧
    (exec (.avsStartAbsent) ⟨h, q⟩ = .next
      ⟨((h.bar 1 true).notify 498 (1 + h.gov F.THERMAL.VCORE_SENSE * 2 ^ 16 + h.gov F.THERMAL.VCORE_READBACK * 2 ^ 32)).endSprint 4, q⟩) ∧
    (h.governor.avsTries < 3 → exec (.avsCommandTimeout) ⟨h, q⟩ = .next ⟨(h.modGov (fun g => { g with avsTries := g.avsTries + 1 })).commandVcore, q⟩) ∧
    (3 ≤ h.governor.avsTries → exec (.avsCommandTimeout) ⟨h, q⟩ = .next ⟨(h.modGov (fun g => { g with avsTries := 0 })).avsFault 2, q⟩) ∧
    (∀ (sense readback : Nat), (sense + 20 < readback ∨ readback + 20 < sense) → exec (.avsReadbackFault sense readback) ⟨h, q⟩ = .next
      ⟨((h.setGov F.THERMAL.VCORE_SENSE (min sense 1000)).setGov F.THERMAL.VCORE_READBACK (min readback 1000)).avsFault 3, q⟩) ∧
    (∀ (sense : Nat), 950 < sense → h.gov F.THERMAL.VCORE_TARGET < sense → exec (.vcoreOvervoltage sense) ⟨h, q⟩ = .next
      ⟨(((h.setGov F.THERMAL.VCORE_SENSE (min sense 1000)).bar 1 true).endSprint 4).requestVcore 800, q⟩) ∧
    (∀ (sense : Nat), 980 < sense → h.island.step = 9 → exec (.vcoreOvervoltageTrip sense) ⟨h, q⟩ = .next ⟨h.vcoreTrip sense, q⟩) ∧
    (∀ (d : Nat), h.due T.paceLow 0 = some d →
      let g := h.expiredAt T.paceLow 0 d
      let lane := (List.range 16).foldl (fun b i => if g.get F.THERMAL.PACE_YARD 12 i < g.get F.THERMAL.PACE_YARD 12 b then i else b) 0
      let g1 := ((g.bar 3 true).notify 497 (lane + g.get F.THERMAL.PACE_YARD 12 lane * 2 ^ 16)).endSprint 4
      exec (.paceBelowFloor) ⟨h, q⟩ = .next ⟨if g1.gov F.THERMAL.VCORE_TARGET < 800 then g1.requestVcore 800 else g1, q⟩) ∧
    (∀ (errors : List (Nat × Nat × Int)), exec (.ledgerAudit errors) ⟨h, q⟩ = .next ⟨h.audit errors, q⟩) ∧
    (∀ (i : Nat) (d e : Nat) (x : Int), i < 31 → h.due T.ledgerReread i = some d →
      let g := h.expiredAt T.ledgerReread i d
      g.ledger.failed.read (fun _ => none) i = some (e, x) → exec (.ledgerReread i false) ⟨h, q⟩ = .next
      ⟨{ g with ledger := { g.ledger with failed := g.ledger.failed.write (fun _ => none) i none } }, q⟩) ∧
    (∀ (i : Nat) (d e : Nat) (x : Int), i < 31 → h.due T.ledgerReread i = some d → (i < 10 ∨ 26 ≤ i) →
      let g := h.expiredAt T.ledgerReread i d
      g.ledger.failed.read (fun _ => none) i = some (e, x) →
      let found :=
          { g.ledger with failed := g.ledger.failed.write (fun _ => none) i none, correcting := g.ledger.correcting.write (fun _ => none) i (some (e, x)) }
      exec (.ledgerReread i true) ⟨h, q⟩ = .next
      ⟨(((({ g with ledger := found }).add F.LEDGER.MISMATCHES i 1).set F.LEDGER.STATE i 2).set F.LEDGER.LAST_MISMATCH i g.now48).setI
        F.LEDGER.LAST_DELTA i x, q⟩) ∧
    (∀ (i pause : Nat) (items : List (Nat × List Nat)) (x : Nat × Int), i < 31 → h.ledger.correcting.read (fun _ => none) i = some x → i ≠ 28 →
      i ≠ 30 → (¬ (6 ≤ i ∧ i < 10)) → exec (.ledgerRecount i pause items) ⟨h, q⟩ = .next
      ⟨(items.foldl (fun g x => g.doubt i x) h).recounted i pause, q⟩) ∧
    (∀ (memory head page : Nat), 1 ≤ memory → memory ≤ 6 → head < 4 → page < 16384 → memory ≠ 6 →
      exec (.eccCorrectedError memory head page) ⟨h, q⟩ = .next ⟨(h.add F.THERMAL.ECC_CORRECTED 12 1).notify 490 (memory + 2 ^ 32), q⟩) ∧
    (∀ (memory unit addr hit : Nat), 1 ≤ memory → memory ≤ 6 → memory = 2 → exec (.eccUncorrectableError memory unit addr hit) ⟨h, q⟩ = .next
      ⟨(h.add F.THERMAL.ECC_UNCORRECTABLE 12 1).notify 491 (memory + unit % 16 * 16 + addr % 2 ^ 32 * 2 ^ 16), q⟩)

/-! ### Feeds and power contracts -/

/-- The feed die hears the main die's frames or holds after 10 ms without, evaluates its feeds, trips, retries and forgets its retries, records its
measurements and answers power requests (R20, R471 to R485). -/
def Obligations.FeedsAndContractsAct : Prop :=
  ∀ (q : List Instr) (h : Hub),
    (∀ (frame : List Byte), h.feedPowered = true → h.mainUp = true → feedFrameValid frame = false → exec (.feedLinkFrame frame) ⟨h, q⟩ = .next
      ⟨{ h with feedLinkTries := if h.feedLinkTries < 8 then h.feedLinkTries + 1 else 0 }, q⟩) ∧
    (∀ (frame : List Byte), h.feedPowered = true → h.mainUp = true → feedFrameValid frame = true → h.linkHold = false →
      exec (.feedLinkFrame frame) ⟨h, q⟩ = .next ⟨{ h with feedLinkTries := 0 }.feedArm T.feedLink 0 (10 * msec), q⟩) ∧
    (∀ (frame : List Byte), h.feedPowered = true → h.mainUp = true → feedFrameValid frame = true → h.linkHold = true →
      let refused := (List.range 4).any (fun l => (h.contract l).refusedHold)
      let g := { { h with feedLinkTries := 0 }.feedArm T.feedLink 0 (10 * msec) with linkHold := false }.notify 462 ((h.feedNow - h.holdSince) / msec
          % 2 ^ 32 + ofB refused * 2 ^ 32)
      exec (.feedLinkFrame frame) ⟨h, q⟩ = .next
      ⟨((List.range 4).foldl (fun g l => g.modContract l (fun c => { c with refusedHold := false })) g).offerMore, q⟩) ∧
    (∀ (d : Nat), h.feedDue T.feedLink 0 = some d →
      let g := h.feedExpired T.feedLink 0 d
      exec (.feedLinkHoldEntry) ⟨h, q⟩ = .next ⟨{ g with linkHold := true, holdSince := g.feedNow }, q⟩) ∧
    (∀ (samples : List (Int × Nat × Nat)) (vhv : Nat), h.feedPowered = true →
      let g := { h.feedInstant.set F.FEED.VHV_NOW 0 (sat16 vhv) with feedEvals := h.feedEvals + 1 }
      exec (.feedEvaluation samples vhv) ⟨h, q⟩ = .next
      ⟨(List.range 16).foldl (fun g n => (g.evaluateFeed n (samples.getD n (0, 0, 0)).1 (samples.getD n (0, 0, 0)).2.1 (samples.getD n (0, 0,
        0)).2.2).feedFollows n (g.get F.FEED.STATE n)) g, q⟩) ∧
    (∀ (n : Nat) (amps : Int), n < 16 →
      let st := h.get F.FEED.STATE n
      (st = 1 ∨ st = 2 ∨ st = 3) → (h.fastTrip n : Int) ≤ amps →
      let g := (h.modFeed n (fun f => { f with amps := amps, peak := max f.peak amps.toNat })).tripFeed n (if st == 1 then 3 else 2) 0 (h.onTime n)
      exec (.fastTrip n amps) ⟨h, q⟩ = .next ⟨g.feedFollows n st, q⟩) ∧
    (∀ (n : Nat), n < 16 → h.pmfPaused = false → h.get F.FEED.STATE n = 4 → (h.feed n).retryAt ≠ 0 → exec (.feedRetryTimer n) ⟨h, q⟩ = .next
      ⟨((h.feedAdvance ((h.feed n).retryAt - 1)).add F.FEED.RETRIES n 1).enableFeed n, q⟩) ∧
    (∀ (n : Nat), n < 16 → h.get F.FEED.STATE n = 3 → (h.feed n).goodSince ≠ 0 → exec (.feedRetryCountReset n) ⟨h, q⟩ = .next
      ⟨(h.feedAdvance ((h.feed n).goodSince - 1 + 60 * sec)).modFeed n (fun f => { f with retries := 0 }), q⟩) ∧
    (h.linkHold = false → h.pmfPaused = false → exec (.measurementRecord) ⟨h, q⟩ = .next ⟨(List.range 16).foldl (fun g n => g.measureFeed n) h, q⟩) ∧
    (∀ (l : Nat) (body : List Byte), l < 4 → InReplyWindow h l → body.length = 4 → h.pmfPaused = false → exec (.powerReq l body) ⟨h, q⟩ = .next
      ⟨(h.frameTaken l).powerReq l (leAt body 0 2) (leAt body 2 2), q⟩) ∧
    (∀ (l : Nat) (body : List Byte), l < 4 → InReplyWindow h l → body.length = 4 → h.pmfPaused = true → exec (.powerReq l body) ⟨h, q⟩ = .next
      ⟨{ h.frameTaken l with heldReqs := h.heldReqs ++ [(l, leAt body 0 2, leAt body 2 2)] }, q⟩) ∧
    (∀ (l : Nat) (body : List Byte), l < 4 → InReplyWindow h l → body.length = 2 →
      let c := h.contract l
      c.reduceTo ≠ 0 → byteAt body 0 = c.reduceNo →
      let g := (h.frameTaken l).feedDisarm T.powerReduce l
      exec (.powerAck l body) ⟨h, q⟩ = .next ⟨(g.putGrant l (c.reduceTo - 1) 0x10 c.reduceNo (h.chargeable l)).offerMore, q⟩) ∧
    (∀ (l : Nat) (d : Nat), l < 4 → h.feedDue T.powerReduce l = some d → exec (.powerReduceTimeout l) ⟨h, q⟩ = .next
      ⟨(h.feedExpired T.powerReduce l d).endReduce l, q⟩)

/-! ### Power, start and resets -/

/-- The rails rise step by step, fail and are tried again, the button and wake sources start and wake the device, Desk and Deep Standby are entered
and left, start-up sets the machine going, and every reset takes the main die down and releases it (R566 to R583). -/
def Obligations.PowerAndStartSequence : Prop :=
  ∀ (q : List Instr) (h : Hub),
    (h.mainUp = true →
      (∀ (d : Nat), h.due T.standbyIdle 0 = some d →
        let g := h.expiredAt T.standbyIdle 0 d
        exec (.standbyIdleExpiry) ⟨h, q⟩ = .next ⟨if g.get F.SYSTEM.STANDBY_IDLE 0 != 0 && g.deskIdle then g.deskEnter 2 else g, q⟩) ∧
      (∀ (source : Nat), source < 10 → bitB (h.get F.SYSTEM.WAKE_SOURCES 0) source = true → h.get F.SYSTEM.POWER_STATE 0 = 1 →
        exec (.deskStandbyWake source) ⟨h, q⟩ = .next ⟨h.deskLeave 3 (2 ^ source), q⟩) ∧
      (∀ (source : Nat) (d : Nat), source < 10 → bitB (h.get F.SYSTEM.WAKE_SOURCES 0) source = true → h.get F.SYSTEM.POWER_STATE 0 = 2 →
        h.due T.deepEntry 0 = some d → exec (.deskStandbyWake source) ⟨h, q⟩ = .next
        ⟨((((h.disarm T.deepEntry 0).set F.SYSTEM.POWER_STATE 0 0).set F.SYSTEM.POWER_TARGET 0 0).powerNotice 0 2 3 (2 ^ source)).deskResumes, q⟩) ∧
      (∀ (d : Nat), h.get F.SYSTEM.POWER_STATE 0 = 2 → h.due T.deepEntry 0 = some d → exec (.deepStandbyShutdown) ⟨h, q⟩ = .next
        ⟨(h.expiredAt T.deepEntry 0 d).deepShutdown, q⟩) ∧
      (h.get F.SYSTEM.POWER_STATE 0 ≠ 2 →
        let old := h.get F.SYSTEM.POWER_STATE 0
        exec (.pwrbtnHold) ⟨h, q⟩ = .next
        ⟨(({ h with deepWanted := false }.set F.SYSTEM.POWER_STATE 0 2).powerNotice 2 old 4 0).arm T.deepEntry 0 (100 * msec), q⟩) ∧
      (∀ (facts : StartFacts), h.get F.SYSTEM.START_STATE 0 = 0 → exec (.startUp facts) ⟨h, q⟩ = .next ⟨h.startUp facts, q⟩) ∧
      (h.get F.SYSTEM.START_STATE 0 = 0 → exec (.referenceAbsent) ⟨h, q⟩ = .next
        ⟨{ h with feedTime := h.feedNow + sec - h.now }.set F.SYSTEM.START_FAULTS 0 (setBit (h.get F.SYSTEM.START_FAULTS 0) 5), q⟩) ∧
      (
        let group := h.trialMask ||| (match h.activation with | some a => a.group | _ => 0)
        let g := ((h.dieDown true).add F.SYSTEM.WATCHDOG_RESETS 0 1).dieRelease 3
        exec (.watchdogReset) ⟨h, q⟩ = .next ⟨{ g.revertGroup group 1 with activation := none, trialGroups := [] }.keepSwitch, q⟩)) ∧
    (∀ (ms : Nat), 50 ≤ ms → ms ≤ 4000 → h.mainUp = true → exec (.pwrbtnPress ms) ⟨h, q⟩ = .next ⟨(h.wakeBy 5).notify 510 ms, q⟩) ∧
    (∀ (ms : Nat), 50 ≤ ms → h.mainUp = false → exec (.pwrbtnPress ms) ⟨h, q⟩ = .next ⟨h.startRails 6, q⟩) ∧
    (∀ (l : Nat), l < 4 → bitB (h.get F.SYSTEM.DEEP_WAKE 0) l = true → exec (.sidebandWakePulse l) ⟨h, q⟩ = .next ⟨h.startRails 6, q⟩) ∧
    (h.on F.SYSTEM.AUTO_START 0 = true → h.island.byOrder = false → h.island.barred = false → h.island.retrying = false →
      exec (.vhvRise) ⟨h, q⟩ = .next ⟨h.startRails 1, q⟩) ∧
    (h.island.step = 9 → exec (.vhvLoss) ⟨h, q⟩ = .next ⟨h.deepDown false, q⟩) ∧
    (2 ≤ h.island.step → h.island.step ≠ 9 → exec (.vhvLoss) ⟨h, q⟩ = .next ⟨h.railsFail 0, q⟩) ∧
    (
      let k := h.island.step
      1 ≤ k → k < 8 → (k = 6 → h.get F.FEED.STATE 15 = 3) → exec (.railStepComplete) ⟨h, q⟩ = .next ⟨h.railStep (k + 1), q⟩) ∧
    (h.island.step = 8 → exec (.railStepComplete) ⟨h, q⟩ = .next
      ⟨((h.modIsland (fun i => { i with step := 9, tries := 0 })).boardPin 5 false).dieRelease h.island.cause, q⟩) ∧
    (2 ≤ h.island.step → h.island.step ≤ 7 → exec (.railStepTimeout) ⟨h, q⟩ = .next ⟨h.railsFail 0, q⟩) ∧
    (h.island.step = 0 → h.island.retrying = true → exec (.railSequenceRetry) ⟨h, q⟩ = .next
      ⟨((h.feedAdvance (h.feedNow + sec)).modIsland (fun i => { i with retrying := false })).railStep 2, q⟩) ∧
    (h.island.step = 9 → exec (.railLost) ⟨h, q⟩ = .next ⟨h.railsFail 1, q⟩) ∧
    (h.mainUp = true → exec (.resetN) ⟨h, q⟩ = .next
      ⟨((h.modIsland (fun i => { i with resetLow := true })).dieDown true).modIsland (fun i => { i with cause := 2 }), q⟩) ∧
    (h.mainUp = false → exec (.resetN) ⟨h, q⟩ = .next ⟨h.modIsland (fun i => { i with resetLow := true }), q⟩) ∧
    (
      let g := h.modIsland (fun i => { i with resetLow := false })
      h.island.resetLow = true → g.island.step = 9 → g.mainUp = false → exec (.resetNRelease) ⟨h, q⟩ = .next ⟨g.dieRelease h.island.cause, q⟩) ∧
    (exec (.pmfWatchdog) ⟨h, q⟩ = .next ⟨h, q⟩) ∧
    (exec (.vwakeLoss) ⟨h, q⟩ = .next ⟨h.modIsland (fun i => { i with vwake := false, step := if i.step == 9 then 9 else 0, retrying := false }), q⟩) ∧
    (h.island.vwake = true → exec (.vwakeFirstApplied) ⟨h, q⟩ = .next ⟨h, q⟩) ∧
    (h.island.vwake = false →
      let down := h.dieDown false
      let kept (c : Nat × Nat) : Bool := !([F.SYSTEM.DEEP_WAKE, F.SYSTEM.AUTO_START, F.SYSTEM.STARTS, F.SYSTEM.WATCHDOG_RESETS].any (fun f => c.1 / 2
          ^ 38 == 0 && c.1 / 2 ^ 10 % 2 ^ 12 == f.num)) && c.1 / 2 ^ 38 != 29 && !([F.KEYSLOT.TAMPER_LATCH, F.KEYSLOT.TAMPER_HOLD,
          F.KEYSLOT.TAMPER_COUNT].any (fun f => c.1 / 2 ^ 38 == 30 && c.1 / 2 ^ 10 % 2 ^ 12 == f.num))
      exec (.vwakeFirstApplied) ⟨h, q⟩ = .next
      ⟨{ down with fields := ⟨down.fields.cells.filter kept⟩, island := { step := 0, resetLow := h.island.resetLow }, f15 := ({} : Hub).f15, f15Next := [], feeds := {}, feedEvals := 0, contracts := {}, feedTimers := ({} : Hub).feedTimers, linkHold := false, tamperUnpowered := false }.railStep
        1, q⟩)

/-! ### Messages, notices, timers and the Depot memory -/

/-- Every Control message begins with the 8-byte header of R117, as the device sends it and as it reads one: type, version 1, context, flags of zero,
sequence and body length, little-endian, and its body follows. -/
def Obligations.ControlMessagesCarryTheHeader : Prop :=
  ∀ m : OutMsg, m.type < 256 → m.ctx < 6 → m.seq < 65536 → m.body.length < 65536 →
    m.bytes.length = 8 + m.body.length ∧ byteAt m.bytes 0 = m.type ∧ byteAt m.bytes 1 = 1 ∧ byteAt m.bytes 2 = m.ctx ∧ byteAt m.bytes 3 = 0 ∧
      leAt m.bytes 4 2 = m.seq ∧ leAt m.bytes 6 2 = m.body.length ∧
      ctlSeq m.bytes = m.seq ∧ ctlBody m.bytes = m.body

/-- A raise of a source counts in NOTICE.RAISED, and for every context it addresses joins that context's record: the count grows by one up to 4,095
and the record takes the time and payload, an accumulating payload merged with what is pending (R617); no record of another source or of a context
not addressed changes. -/
def Obligations.RaisesAreCountedAndCoalesced : Prop :=
  ∀ (h : Hub) (src payload : Nat) (who : List Nat), h.canonical → h.pend.wf (fun _ => {}) = true → h.mainUp = true → src < 512 →
    let g := h.raise src payload who
    g.get F.NOTICE.RAISED src = (h.get F.NOTICE.RAISED src + 1) % 2 ^ F.NOTICE.RAISED.width ∧
    (∀ n, n < 6 → h.addressed src who n = true →
      (g.pendRec n src).src = src ∧ (g.pendRec n src).count = min 4095 ((h.pendRec n src).count + 1) ∧ (g.pendRec n src).time = h.now48 ∧
        (g.pendRec n src).payload = if (h.pendRec n src).count = 0 then payload else mergePayload src (h.pendRec n src).payload payload) ∧
    (∀ n k, n < 6 → k < 512 → (k ≠ src ∨ h.addressed src who n = false) → g.pendRec n k = h.pendRec n k) ∧
    g.progs = h.progs ∧ g.sets = h.sets ∧ g.ctxs = h.ctxs ∧ g.yard = h.yard ∧ g.links = h.links

/-- The end of a time that is not running changes nothing (the model's reading of such a command, log entry 3). -/
def Obligations.TimersNotRunningChangeNothing : Prop :=
  (∀ (s : State) (n m : Nat) (outcome speed refusal vid pid cls : Nat) (b : Bool) (i : Instr) (kind inst : Nat),
    (i, kind, inst) ∈ [
      (.standingTokenTimeout, T.standingToken, 0), (.k0WindowEnd, T.k0Window, 0),
      (.paceBelowFloor, T.paceLow, 0), (.yardFlush n m, T.flush, unitKey n m), (.incastTimer n, T.incast, n),
      (.backpressureTimer n, T.backpressure, n), (.learnAgeExpiry n, T.learnAge, n),
      (.pauseHonourResume n, T.pauseQuiet, n), (.stormWindow n, T.storm, n), (.dpTrainRetry n, T.dpRetry, n), (.syncLossTimeout, T.syncLoss, 0),
      (.cuePulseEnd n, T.cueEnd, n), (.ppsPulseEnd, T.ppsEnd, 0), (.slotPerstRelease n, T.slotPerst, n), (.slotTrainTimeout n, T.slotTrain, n),
      (.handoverDrainEnd n, T.handDrain, n), (.handoverPerstEnd n, T.handPerst, n), (.farBusLockTimeout n, T.busLock, n),
      (.canTxPeriod n m, T.canTx, 16 * n + m), (.i2cPoll n, T.farPoll, n), (.signalsFlushTimer n m, T.signals, tunnelOf n m),
      (.targetReplyTimeout n m, T.targetReply, 256 * n + m), (.splitHoldExpiry n m, T.splitHold, 256 * n + m),
      (.i2cRecoveryRetry n b, T.busRecovery, n), (.usbPowered n, T.usbPower, n), (.usbBounceHoldEnd n, T.usbBounce, n),
      (.usbResetDone n outcome speed refusal vid pid cls, T.usbReset, n), (.usbResumeDone n, T.usbResume, n), (.legacyIdleReset n, T.legacyIdle, n),
      (.keyslotOpDone n, T.keyOp, n), (.autoConfirmExpiry, T.autoConfirm, 0),
      (.ledgerReread n b, T.ledgerReread, n), (.vcoreRampDone, T.vcoreRamp, 0), (.thermalShutdown n, T.shutdown, n),
      (.heldContextExpiry n, T.heldContext, n), (.depotSelfRefreshReturn, T.selfRefresh, 0), (.followUpTimeout n, T.followUp, n)] →
    i.inRange = true → s.hub.due kind inst = none → exec i s = .next s) ∧
  (∀ (s : State) (n : Nat), n < 2 → s.hub.due T.pauseWatch (s.hub.watchedFirst n) = none → exec (.pauseWatchdogExpiry n) s = .next s) ∧
  (∀ s : State, s.hub.feedDue T.feedLink 0 = none → exec .feedLinkHoldEntry s = .next s) ∧
  (∀ (s : State) (l : Nat), l < 4 → s.hub.feedDue T.powerReduce l = none → exec (.powerReduceTimeout l) s = .next s)

/-- The Depot memory: writing bytes of a surface puts them at their places and leaves every other byte, keeping the memory's canonical form; and a
SURFACE_WRITE changes no byte but those of its rectangle in its surface, and none where the surface is not allocated or not the context's (R18,
R328, R333, R335, R336). -/
def Obligations.DepotWritesOnlyTheirBytes : Prop :=
  (∀ (h : Hub) (s place : Nat) (bs : List Byte), h.pixels.wf (fun _ => 0) = true →
    (h.poke s place bs).pixels.wf (fun _ => 0) = true ∧
    (∀ a, (h.poke s place bs).pixels.read (fun _ => 0) a =
      if s * 2 ^ 30 + place ≤ a ∧ a < s * 2 ^ 30 + place + bs.length then (bs.getD (a - (s * 2 ^ 30 + place)) 0).toNat
      else h.pixels.read (fun _ => 0) a)) ∧
  (∀ (h g : Hub) (q r : List Instr) (l slot : Nat) (msg : List Byte) (a : Nat), h.pixels.wf (fun _ => 0) = true →
    exec (.surfaceWrite l slot msg) ⟨h, q⟩ = .next ⟨g, r⟩ →
    let b := msg.drop 8
    let s := leAt b 0 2
    let f := h.get F.SURFACE.FORMAT s
    let e := sampleBytes f
    let at_ (x y k : Nat) : Nat := s * 2 ^ 30 + planeAt f (h.get F.SURFACE.WIDTH s) e (leAt b 2 2 + x) (leAt b 4 2 + y) + k
    let chroma (x y k : Nat) : Nat := s * 2 ^ 30 + chromaAt f (h.get F.SURFACE.WIDTH s) e (leAt b 2 2 / 2 + x) (leAt b 4 2 / 2 + y) + k
    (h.get F.SURFACE.STATE s ≠ 1 ∨ h.get F.SURFACE.OWNER s ≠ l ∨
      ((∀ x y k, x < leAt b 6 2 → y < leAt b 8 2 → k < e → a ≠ at_ x y k) ∧
        (isYuv f = true → ∀ x y k, x < leAt b 6 2 / 2 → y < leAt b 8 2 / 2 → k < 2 * e → a ≠ chroma x y k))) →
    g.pixels.read (fun _ => 0) a = h.pixels.read (fun _ => 0) a)
end

