-- ==== Sys2Proof/Laws/Commands.lean ====
section
/-! SUPPORT. What operations shared by several commands do: a frame of the host on the sideband, and a PTP message that waits. -/

namespace Sys2Proof.Machine

/-- In its reply window a host frame is taken, or counted as bad where its length is wrong (R170 to R172). -/
theorem Hub.hostFrame_in {h : Hub} {l : Nat} (hw : InReplyWindow h l) (good : Bool) (f : Hub → Hub) :
    h.hostFrame l good f = if good then f (h.frameTaken l) else h.notify (nLanding l 20) 1 := by
  obtain ⟨hp, ha, ht⟩ := hw
  have ht' : ¬ (h.link l).windowEnd < h.feedNow := by omega
  cases good <;> simp [Hub.hostFrame, Hub.frameTaken, hp, ha, ht']

/-- Outside a reply window a host frame is ignored (R170). -/
theorem Hub.hostFrame_out {h : Hub} {l : Nat} (hw : ¬ InReplyWindow h l) (good : Bool) (f : Hub → Hub) : h.hostFrame l good f = h := by
  unfold Hub.hostFrame
  by_cases hp : h.feedPowered = true <;> by_cases ha : (h.link l).answered = false <;> by_cases ht : (h.link l).windowEnd < h.feedNow <;>
    simp_all [InReplyWindow]

@[simp] theorem Hub.frameTaken_lState (h : Hub) (l m : Nat) : (h.frameTaken l).lState m = h.lState m := rfl

/-- A PTP message that arrives in time for its port takes its kind's effect (R375). -/
theorem Hub.onPtp_arrives {h g : Hub} {i : Nat} {m : List Byte} {kinds : List Nat} {t : Nat} (ha : PtpArrives h i m kinds g t) (f : Hub → Nat → Hub) :
    h.onPtp i m kinds f = f g t := by
  obtain ⟨e, hw, hk, ht, he, hd, hc, hg⟩ := ha
  have hc' := Nat.not_le.mpr hc
  simp only [Hub.ptpWindow] at he hd hc' hg
  subst hg ht
  simp only [Hub.onPtp, hw, hk, Bool.not_true, Bool.false_eq_true, if_false, decide_eq_true_eq, he, hd, bne_self_eq_false, Bool.or_false, hc']

end Sys2Proof.Machine
end

