-- ==== Sys2Proof/Laws/State.lean ====
section
/-! SUPPORT. What the named updates of the hub leave as it was, field by field. -/

namespace Sys2Proof.Machine

variable (h : Hub)

@[simp] theorem Hub.setN_effs (c i n e v : Nat) : (h.setN c i n e v).effs = h.effs := rfl
@[simp] theorem Hub.setN_timers (c i n e v : Nat) : (h.setN c i n e v).timers = h.timers := rfl
@[simp] theorem Hub.setN_clk (c i n e v : Nat) : (h.setN c i n e v).clk = h.clk := rfl
@[simp] theorem Hub.setN_clockOffset (c i n e v : Nat) : (h.setN c i n e v).clockOffset = h.clockOffset := rfl
@[simp] theorem Hub.setN_clockAnchor (c i n e v : Nat) : (h.setN c i n e v).clockAnchor = h.clockAnchor := rfl
@[simp] theorem Hub.setN_free (c i n e v : Nat) : (h.setN c i n e v).free = h.free := rfl
@[simp] theorem Hub.setN_ctxs (c i n e v : Nat) : (h.setN c i n e v).ctxs = h.ctxs := rfl
@[simp] theorem Hub.setN_progs (c i n e v : Nat) : (h.setN c i n e v).progs = h.progs := rfl
@[simp] theorem Hub.setN_sets (c i n e v : Nat) : (h.setN c i n e v).sets = h.sets := rfl
@[simp] theorem Hub.setN_standing (c i n e v : Nat) : (h.setN c i n e v).standing = h.standing := rfl
@[simp] theorem Hub.setN_replayPos (c i n e v : Nat) : (h.setN c i n e v).replayPos = h.replayPos := rfl
@[simp] theorem Hub.setN_pend (c i n e v : Nat) : (h.setN c i n e v).pend = h.pend := rfl
@[simp] theorem Hub.setN_fifoIn (c i n e v : Nat) : (h.setN c i n e v).fifoIn = h.fifoIn := rfl
@[simp] theorem Hub.setN_authOrder (c i n e v : Nat) : (h.setN c i n e v).authOrder = h.authOrder := rfl
@[simp] theorem Hub.setN_yard (c i n e v : Nat) : (h.setN c i n e v).yard = h.yard := rfl
@[simp] theorem Hub.setN_out (c i n e v : Nat) : (h.setN c i n e v).out = h.out := rfl
@[simp] theorem Hub.setN_links (c i n e v : Nat) : (h.setN c i n e v).links = h.links := rfl
@[simp] theorem Hub.setN_tunnels (c i n e v : Nat) : (h.setN c i n e v).tunnels = h.tunnels := rfl
@[simp] theorem Hub.setN_feedTime (c i n e v : Nat) : (h.setN c i n e v).feedTime = h.feedTime := rfl
@[simp] theorem Hub.setN_feeds (c i n e v : Nat) : (h.setN c i n e v).feeds = h.feeds := rfl
@[simp] theorem Hub.setN_mainUp (c i n e v : Nat) : (h.setN c i n e v).mainUp = h.mainUp := rfl
@[simp] theorem Hub.setN_depot (c i n e v : Nat) : (h.setN c i n e v).depot = h.depot := rfl
@[simp] theorem Hub.setN_rngFault (c i n e v : Nat) : (h.setN c i n e v).rngFault = h.rngFault := rfl
@[simp] theorem Hub.setN_clock (c i n e v : Nat) : (h.setN c i n e v).clock = h.clock := rfl
@[simp] theorem Hub.setN_island (c i n e v : Nat) : (h.setN c i n e v).island = h.island := rfl

@[simp] theorem Hub.set_effs (f : Fld) (i v e : Nat) : (h.set f i v e).effs = h.effs := rfl
@[simp] theorem Hub.set_timers (f : Fld) (i v e : Nat) : (h.set f i v e).timers = h.timers := rfl
@[simp] theorem Hub.set_clk (f : Fld) (i v e : Nat) : (h.set f i v e).clk = h.clk := rfl
@[simp] theorem Hub.set_clockOffset (f : Fld) (i v e : Nat) : (h.set f i v e).clockOffset = h.clockOffset := rfl
@[simp] theorem Hub.set_clockAnchor (f : Fld) (i v e : Nat) : (h.set f i v e).clockAnchor = h.clockAnchor := rfl
@[simp] theorem Hub.set_free (f : Fld) (i v e : Nat) : (h.set f i v e).free = h.free := rfl
@[simp] theorem Hub.set_ctxs (f : Fld) (i v e : Nat) : (h.set f i v e).ctxs = h.ctxs := rfl
@[simp] theorem Hub.set_progs (f : Fld) (i v e : Nat) : (h.set f i v e).progs = h.progs := rfl
@[simp] theorem Hub.set_sets (f : Fld) (i v e : Nat) : (h.set f i v e).sets = h.sets := rfl
@[simp] theorem Hub.set_standing (f : Fld) (i v e : Nat) : (h.set f i v e).standing = h.standing := rfl
@[simp] theorem Hub.set_replayPos (f : Fld) (i v e : Nat) : (h.set f i v e).replayPos = h.replayPos := rfl
@[simp] theorem Hub.set_pend (f : Fld) (i v e : Nat) : (h.set f i v e).pend = h.pend := rfl
@[simp] theorem Hub.set_fifoIn (f : Fld) (i v e : Nat) : (h.set f i v e).fifoIn = h.fifoIn := rfl
@[simp] theorem Hub.set_authOrder (f : Fld) (i v e : Nat) : (h.set f i v e).authOrder = h.authOrder := rfl
@[simp] theorem Hub.set_yard (f : Fld) (i v e : Nat) : (h.set f i v e).yard = h.yard := rfl
@[simp] theorem Hub.set_out (f : Fld) (i v e : Nat) : (h.set f i v e).out = h.out := rfl
@[simp] theorem Hub.set_links (f : Fld) (i v e : Nat) : (h.set f i v e).links = h.links := rfl
@[simp] theorem Hub.set_tunnels (f : Fld) (i v e : Nat) : (h.set f i v e).tunnels = h.tunnels := rfl
@[simp] theorem Hub.set_feedTime (f : Fld) (i v e : Nat) : (h.set f i v e).feedTime = h.feedTime := rfl
@[simp] theorem Hub.set_feeds (f : Fld) (i v e : Nat) : (h.set f i v e).feeds = h.feeds := rfl
@[simp] theorem Hub.set_mainUp (f : Fld) (i v e : Nat) : (h.set f i v e).mainUp = h.mainUp := rfl
@[simp] theorem Hub.set_depot (f : Fld) (i v e : Nat) : (h.set f i v e).depot = h.depot := rfl
@[simp] theorem Hub.set_rngFault (f : Fld) (i v e : Nat) : (h.set f i v e).rngFault = h.rngFault := rfl
@[simp] theorem Hub.set_clock (f : Fld) (i v e : Nat) : (h.set f i v e).clock = h.clock := rfl
@[simp] theorem Hub.set_island (f : Fld) (i v e : Nat) : (h.set f i v e).island = h.island := rfl

@[simp] theorem Hub.add_effs (f : Fld) (i n e : Nat) : (h.add f i n e).effs = h.effs := rfl
@[simp] theorem Hub.add_timers (f : Fld) (i n e : Nat) : (h.add f i n e).timers = h.timers := rfl
@[simp] theorem Hub.add_clk (f : Fld) (i n e : Nat) : (h.add f i n e).clk = h.clk := rfl
@[simp] theorem Hub.add_clockOffset (f : Fld) (i n e : Nat) : (h.add f i n e).clockOffset = h.clockOffset := rfl
@[simp] theorem Hub.add_clockAnchor (f : Fld) (i n e : Nat) : (h.add f i n e).clockAnchor = h.clockAnchor := rfl
@[simp] theorem Hub.add_free (f : Fld) (i n e : Nat) : (h.add f i n e).free = h.free := rfl
@[simp] theorem Hub.add_ctxs (f : Fld) (i n e : Nat) : (h.add f i n e).ctxs = h.ctxs := rfl
@[simp] theorem Hub.add_progs (f : Fld) (i n e : Nat) : (h.add f i n e).progs = h.progs := rfl
@[simp] theorem Hub.add_sets (f : Fld) (i n e : Nat) : (h.add f i n e).sets = h.sets := rfl
@[simp] theorem Hub.add_standing (f : Fld) (i n e : Nat) : (h.add f i n e).standing = h.standing := rfl
@[simp] theorem Hub.add_replayPos (f : Fld) (i n e : Nat) : (h.add f i n e).replayPos = h.replayPos := rfl
@[simp] theorem Hub.add_pend (f : Fld) (i n e : Nat) : (h.add f i n e).pend = h.pend := rfl
@[simp] theorem Hub.add_fifoIn (f : Fld) (i n e : Nat) : (h.add f i n e).fifoIn = h.fifoIn := rfl
@[simp] theorem Hub.add_authOrder (f : Fld) (i n e : Nat) : (h.add f i n e).authOrder = h.authOrder := rfl
@[simp] theorem Hub.add_yard (f : Fld) (i n e : Nat) : (h.add f i n e).yard = h.yard := rfl
@[simp] theorem Hub.add_out (f : Fld) (i n e : Nat) : (h.add f i n e).out = h.out := rfl
@[simp] theorem Hub.add_links (f : Fld) (i n e : Nat) : (h.add f i n e).links = h.links := rfl
@[simp] theorem Hub.add_tunnels (f : Fld) (i n e : Nat) : (h.add f i n e).tunnels = h.tunnels := rfl
@[simp] theorem Hub.add_feedTime (f : Fld) (i n e : Nat) : (h.add f i n e).feedTime = h.feedTime := rfl
@[simp] theorem Hub.add_feeds (f : Fld) (i n e : Nat) : (h.add f i n e).feeds = h.feeds := rfl
@[simp] theorem Hub.add_mainUp (f : Fld) (i n e : Nat) : (h.add f i n e).mainUp = h.mainUp := rfl
@[simp] theorem Hub.add_depot (f : Fld) (i n e : Nat) : (h.add f i n e).depot = h.depot := rfl
@[simp] theorem Hub.add_rngFault (f : Fld) (i n e : Nat) : (h.add f i n e).rngFault = h.rngFault := rfl
@[simp] theorem Hub.add_clock (f : Fld) (i n e : Nat) : (h.add f i n e).clock = h.clock := rfl
@[simp] theorem Hub.add_island (f : Fld) (i n e : Nat) : (h.add f i n e).island = h.island := rfl

@[simp] theorem Hub.takeN_fields (c i n e : Nat) : (h.takeN c i n e).fields = h.fields := rfl
@[simp] theorem Hub.takeN_timers (c i n e : Nat) : (h.takeN c i n e).timers = h.timers := rfl
@[simp] theorem Hub.takeN_clk (c i n e : Nat) : (h.takeN c i n e).clk = h.clk := rfl
@[simp] theorem Hub.takeN_clockOffset (c i n e : Nat) : (h.takeN c i n e).clockOffset = h.clockOffset := rfl
@[simp] theorem Hub.takeN_clockAnchor (c i n e : Nat) : (h.takeN c i n e).clockAnchor = h.clockAnchor := rfl
@[simp] theorem Hub.takeN_free (c i n e : Nat) : (h.takeN c i n e).free = h.free := rfl
@[simp] theorem Hub.takeN_ctxs (c i n e : Nat) : (h.takeN c i n e).ctxs = h.ctxs := rfl
@[simp] theorem Hub.takeN_progs (c i n e : Nat) : (h.takeN c i n e).progs = h.progs := rfl
@[simp] theorem Hub.takeN_sets (c i n e : Nat) : (h.takeN c i n e).sets = h.sets := rfl
@[simp] theorem Hub.takeN_standing (c i n e : Nat) : (h.takeN c i n e).standing = h.standing := rfl
@[simp] theorem Hub.takeN_replayPos (c i n e : Nat) : (h.takeN c i n e).replayPos = h.replayPos := rfl
@[simp] theorem Hub.takeN_pend (c i n e : Nat) : (h.takeN c i n e).pend = h.pend := rfl
@[simp] theorem Hub.takeN_fifoIn (c i n e : Nat) : (h.takeN c i n e).fifoIn = h.fifoIn := rfl
@[simp] theorem Hub.takeN_authOrder (c i n e : Nat) : (h.takeN c i n e).authOrder = h.authOrder := rfl
@[simp] theorem Hub.takeN_yard (c i n e : Nat) : (h.takeN c i n e).yard = h.yard := rfl
@[simp] theorem Hub.takeN_out (c i n e : Nat) : (h.takeN c i n e).out = h.out := rfl
@[simp] theorem Hub.takeN_links (c i n e : Nat) : (h.takeN c i n e).links = h.links := rfl
@[simp] theorem Hub.takeN_tunnels (c i n e : Nat) : (h.takeN c i n e).tunnels = h.tunnels := rfl
@[simp] theorem Hub.takeN_feedTime (c i n e : Nat) : (h.takeN c i n e).feedTime = h.feedTime := rfl
@[simp] theorem Hub.takeN_feeds (c i n e : Nat) : (h.takeN c i n e).feeds = h.feeds := rfl
@[simp] theorem Hub.takeN_mainUp (c i n e : Nat) : (h.takeN c i n e).mainUp = h.mainUp := rfl
@[simp] theorem Hub.takeN_depot (c i n e : Nat) : (h.takeN c i n e).depot = h.depot := rfl
@[simp] theorem Hub.takeN_rngFault (c i n e : Nat) : (h.takeN c i n e).rngFault = h.rngFault := rfl
@[simp] theorem Hub.takeN_clock (c i n e : Nat) : (h.takeN c i n e).clock = h.clock := rfl
@[simp] theorem Hub.takeN_island (c i n e : Nat) : (h.takeN c i n e).island = h.island := rfl

@[simp] theorem Hub.armAt_fields (k i t : Nat) : (h.armAt k i t).fields = h.fields := rfl
@[simp] theorem Hub.armAt_effs (k i t : Nat) : (h.armAt k i t).effs = h.effs := rfl
@[simp] theorem Hub.armAt_clk (k i t : Nat) : (h.armAt k i t).clk = h.clk := rfl
@[simp] theorem Hub.armAt_clockOffset (k i t : Nat) : (h.armAt k i t).clockOffset = h.clockOffset := rfl
@[simp] theorem Hub.armAt_clockAnchor (k i t : Nat) : (h.armAt k i t).clockAnchor = h.clockAnchor := rfl
@[simp] theorem Hub.armAt_free (k i t : Nat) : (h.armAt k i t).free = h.free := rfl
@[simp] theorem Hub.armAt_ctxs (k i t : Nat) : (h.armAt k i t).ctxs = h.ctxs := rfl
@[simp] theorem Hub.armAt_progs (k i t : Nat) : (h.armAt k i t).progs = h.progs := rfl
@[simp] theorem Hub.armAt_sets (k i t : Nat) : (h.armAt k i t).sets = h.sets := rfl
@[simp] theorem Hub.armAt_standing (k i t : Nat) : (h.armAt k i t).standing = h.standing := rfl
@[simp] theorem Hub.armAt_replayPos (k i t : Nat) : (h.armAt k i t).replayPos = h.replayPos := rfl
@[simp] theorem Hub.armAt_pend (k i t : Nat) : (h.armAt k i t).pend = h.pend := rfl
@[simp] theorem Hub.armAt_fifoIn (k i t : Nat) : (h.armAt k i t).fifoIn = h.fifoIn := rfl
@[simp] theorem Hub.armAt_authOrder (k i t : Nat) : (h.armAt k i t).authOrder = h.authOrder := rfl
@[simp] theorem Hub.armAt_yard (k i t : Nat) : (h.armAt k i t).yard = h.yard := rfl
@[simp] theorem Hub.armAt_out (k i t : Nat) : (h.armAt k i t).out = h.out := rfl
@[simp] theorem Hub.armAt_links (k i t : Nat) : (h.armAt k i t).links = h.links := rfl
@[simp] theorem Hub.armAt_tunnels (k i t : Nat) : (h.armAt k i t).tunnels = h.tunnels := rfl
@[simp] theorem Hub.armAt_feedTime (k i t : Nat) : (h.armAt k i t).feedTime = h.feedTime := rfl
@[simp] theorem Hub.armAt_feeds (k i t : Nat) : (h.armAt k i t).feeds = h.feeds := rfl
@[simp] theorem Hub.armAt_mainUp (k i t : Nat) : (h.armAt k i t).mainUp = h.mainUp := rfl
@[simp] theorem Hub.armAt_depot (k i t : Nat) : (h.armAt k i t).depot = h.depot := rfl
@[simp] theorem Hub.armAt_rngFault (k i t : Nat) : (h.armAt k i t).rngFault = h.rngFault := rfl
@[simp] theorem Hub.armAt_clock (k i t : Nat) : (h.armAt k i t).clock = h.clock := rfl
@[simp] theorem Hub.armAt_island (k i t : Nat) : (h.armAt k i t).island = h.island := rfl

@[simp] theorem Hub.arm_fields (k i t : Nat) : (h.arm k i t).fields = h.fields := rfl
@[simp] theorem Hub.arm_effs (k i t : Nat) : (h.arm k i t).effs = h.effs := rfl
@[simp] theorem Hub.arm_clk (k i t : Nat) : (h.arm k i t).clk = h.clk := rfl
@[simp] theorem Hub.arm_clockOffset (k i t : Nat) : (h.arm k i t).clockOffset = h.clockOffset := rfl
@[simp] theorem Hub.arm_clockAnchor (k i t : Nat) : (h.arm k i t).clockAnchor = h.clockAnchor := rfl
@[simp] theorem Hub.arm_free (k i t : Nat) : (h.arm k i t).free = h.free := rfl
@[simp] theorem Hub.arm_ctxs (k i t : Nat) : (h.arm k i t).ctxs = h.ctxs := rfl
@[simp] theorem Hub.arm_progs (k i t : Nat) : (h.arm k i t).progs = h.progs := rfl
@[simp] theorem Hub.arm_sets (k i t : Nat) : (h.arm k i t).sets = h.sets := rfl
@[simp] theorem Hub.arm_standing (k i t : Nat) : (h.arm k i t).standing = h.standing := rfl
@[simp] theorem Hub.arm_replayPos (k i t : Nat) : (h.arm k i t).replayPos = h.replayPos := rfl
@[simp] theorem Hub.arm_pend (k i t : Nat) : (h.arm k i t).pend = h.pend := rfl
@[simp] theorem Hub.arm_fifoIn (k i t : Nat) : (h.arm k i t).fifoIn = h.fifoIn := rfl
@[simp] theorem Hub.arm_authOrder (k i t : Nat) : (h.arm k i t).authOrder = h.authOrder := rfl
@[simp] theorem Hub.arm_yard (k i t : Nat) : (h.arm k i t).yard = h.yard := rfl
@[simp] theorem Hub.arm_out (k i t : Nat) : (h.arm k i t).out = h.out := rfl
@[simp] theorem Hub.arm_links (k i t : Nat) : (h.arm k i t).links = h.links := rfl
@[simp] theorem Hub.arm_tunnels (k i t : Nat) : (h.arm k i t).tunnels = h.tunnels := rfl
@[simp] theorem Hub.arm_feedTime (k i t : Nat) : (h.arm k i t).feedTime = h.feedTime := rfl
@[simp] theorem Hub.arm_feeds (k i t : Nat) : (h.arm k i t).feeds = h.feeds := rfl
@[simp] theorem Hub.arm_mainUp (k i t : Nat) : (h.arm k i t).mainUp = h.mainUp := rfl
@[simp] theorem Hub.arm_depot (k i t : Nat) : (h.arm k i t).depot = h.depot := rfl
@[simp] theorem Hub.arm_rngFault (k i t : Nat) : (h.arm k i t).rngFault = h.rngFault := rfl
@[simp] theorem Hub.arm_clock (k i t : Nat) : (h.arm k i t).clock = h.clock := rfl
@[simp] theorem Hub.arm_island (k i t : Nat) : (h.arm k i t).island = h.island := rfl

@[simp] theorem Hub.disarm_fields (k i : Nat) : (h.disarm k i).fields = h.fields := rfl
@[simp] theorem Hub.disarm_effs (k i : Nat) : (h.disarm k i).effs = h.effs := rfl
@[simp] theorem Hub.disarm_clk (k i : Nat) : (h.disarm k i).clk = h.clk := rfl
@[simp] theorem Hub.disarm_clockOffset (k i : Nat) : (h.disarm k i).clockOffset = h.clockOffset := rfl
@[simp] theorem Hub.disarm_clockAnchor (k i : Nat) : (h.disarm k i).clockAnchor = h.clockAnchor := rfl
@[simp] theorem Hub.disarm_free (k i : Nat) : (h.disarm k i).free = h.free := rfl
@[simp] theorem Hub.disarm_ctxs (k i : Nat) : (h.disarm k i).ctxs = h.ctxs := rfl
@[simp] theorem Hub.disarm_progs (k i : Nat) : (h.disarm k i).progs = h.progs := rfl
@[simp] theorem Hub.disarm_sets (k i : Nat) : (h.disarm k i).sets = h.sets := rfl
@[simp] theorem Hub.disarm_standing (k i : Nat) : (h.disarm k i).standing = h.standing := rfl
@[simp] theorem Hub.disarm_replayPos (k i : Nat) : (h.disarm k i).replayPos = h.replayPos := rfl
@[simp] theorem Hub.disarm_pend (k i : Nat) : (h.disarm k i).pend = h.pend := rfl
@[simp] theorem Hub.disarm_fifoIn (k i : Nat) : (h.disarm k i).fifoIn = h.fifoIn := rfl
@[simp] theorem Hub.disarm_authOrder (k i : Nat) : (h.disarm k i).authOrder = h.authOrder := rfl
@[simp] theorem Hub.disarm_yard (k i : Nat) : (h.disarm k i).yard = h.yard := rfl
@[simp] theorem Hub.disarm_out (k i : Nat) : (h.disarm k i).out = h.out := rfl
@[simp] theorem Hub.disarm_links (k i : Nat) : (h.disarm k i).links = h.links := rfl
@[simp] theorem Hub.disarm_tunnels (k i : Nat) : (h.disarm k i).tunnels = h.tunnels := rfl
@[simp] theorem Hub.disarm_feedTime (k i : Nat) : (h.disarm k i).feedTime = h.feedTime := rfl
@[simp] theorem Hub.disarm_feeds (k i : Nat) : (h.disarm k i).feeds = h.feeds := rfl
@[simp] theorem Hub.disarm_mainUp (k i : Nat) : (h.disarm k i).mainUp = h.mainUp := rfl
@[simp] theorem Hub.disarm_depot (k i : Nat) : (h.disarm k i).depot = h.depot := rfl
@[simp] theorem Hub.disarm_rngFault (k i : Nat) : (h.disarm k i).rngFault = h.rngFault := rfl
@[simp] theorem Hub.disarm_clock (k i : Nat) : (h.disarm k i).clock = h.clock := rfl
@[simp] theorem Hub.disarm_island (k i : Nat) : (h.disarm k i).island = h.island := rfl

@[simp] theorem Hub.advanceTo_fields (t : Nat) : (h.advanceTo t).fields = h.fields := rfl
@[simp] theorem Hub.advanceTo_effs (t : Nat) : (h.advanceTo t).effs = h.effs := rfl
@[simp] theorem Hub.advanceTo_timers (t : Nat) : (h.advanceTo t).timers = h.timers := rfl
@[simp] theorem Hub.advanceTo_clockOffset (t : Nat) : (h.advanceTo t).clockOffset = h.clockOffset := rfl
@[simp] theorem Hub.advanceTo_clockAnchor (t : Nat) : (h.advanceTo t).clockAnchor = h.clockAnchor := rfl
@[simp] theorem Hub.advanceTo_free (t : Nat) : (h.advanceTo t).free = h.free := rfl
@[simp] theorem Hub.advanceTo_ctxs (t : Nat) : (h.advanceTo t).ctxs = h.ctxs := rfl
@[simp] theorem Hub.advanceTo_progs (t : Nat) : (h.advanceTo t).progs = h.progs := rfl
@[simp] theorem Hub.advanceTo_sets (t : Nat) : (h.advanceTo t).sets = h.sets := rfl
@[simp] theorem Hub.advanceTo_standing (t : Nat) : (h.advanceTo t).standing = h.standing := rfl
@[simp] theorem Hub.advanceTo_replayPos (t : Nat) : (h.advanceTo t).replayPos = h.replayPos := rfl
@[simp] theorem Hub.advanceTo_pend (t : Nat) : (h.advanceTo t).pend = h.pend := rfl
@[simp] theorem Hub.advanceTo_fifoIn (t : Nat) : (h.advanceTo t).fifoIn = h.fifoIn := rfl
@[simp] theorem Hub.advanceTo_authOrder (t : Nat) : (h.advanceTo t).authOrder = h.authOrder := rfl
@[simp] theorem Hub.advanceTo_yard (t : Nat) : (h.advanceTo t).yard = h.yard := rfl
@[simp] theorem Hub.advanceTo_out (t : Nat) : (h.advanceTo t).out = h.out := rfl
@[simp] theorem Hub.advanceTo_links (t : Nat) : (h.advanceTo t).links = h.links := rfl
@[simp] theorem Hub.advanceTo_tunnels (t : Nat) : (h.advanceTo t).tunnels = h.tunnels := rfl
@[simp] theorem Hub.advanceTo_feedTime (t : Nat) : (h.advanceTo t).feedTime = h.feedTime := rfl
@[simp] theorem Hub.advanceTo_feeds (t : Nat) : (h.advanceTo t).feeds = h.feeds := rfl
@[simp] theorem Hub.advanceTo_mainUp (t : Nat) : (h.advanceTo t).mainUp = h.mainUp := rfl
@[simp] theorem Hub.advanceTo_depot (t : Nat) : (h.advanceTo t).depot = h.depot := rfl
@[simp] theorem Hub.advanceTo_rngFault (t : Nat) : (h.advanceTo t).rngFault = h.rngFault := rfl
@[simp] theorem Hub.advanceTo_clock (t : Nat) : (h.advanceTo t).clock = h.clock := rfl
@[simp] theorem Hub.advanceTo_island (t : Nat) : (h.advanceTo t).island = h.island := rfl

@[simp] theorem Hub.tick_fields : (h.tick).fields = h.fields := rfl
@[simp] theorem Hub.tick_effs : (h.tick).effs = h.effs := rfl
@[simp] theorem Hub.tick_timers : (h.tick).timers = h.timers := rfl
@[simp] theorem Hub.tick_clockOffset : (h.tick).clockOffset = h.clockOffset := rfl
@[simp] theorem Hub.tick_clockAnchor : (h.tick).clockAnchor = h.clockAnchor := rfl
@[simp] theorem Hub.tick_free : (h.tick).free = h.free := rfl
@[simp] theorem Hub.tick_ctxs : (h.tick).ctxs = h.ctxs := rfl
@[simp] theorem Hub.tick_progs : (h.tick).progs = h.progs := rfl
@[simp] theorem Hub.tick_sets : (h.tick).sets = h.sets := rfl
@[simp] theorem Hub.tick_standing : (h.tick).standing = h.standing := rfl
@[simp] theorem Hub.tick_replayPos : (h.tick).replayPos = h.replayPos := rfl
@[simp] theorem Hub.tick_pend : (h.tick).pend = h.pend := rfl
@[simp] theorem Hub.tick_fifoIn : (h.tick).fifoIn = h.fifoIn := rfl
@[simp] theorem Hub.tick_authOrder : (h.tick).authOrder = h.authOrder := rfl
@[simp] theorem Hub.tick_yard : (h.tick).yard = h.yard := rfl
@[simp] theorem Hub.tick_out : (h.tick).out = h.out := rfl
@[simp] theorem Hub.tick_links : (h.tick).links = h.links := rfl
@[simp] theorem Hub.tick_tunnels : (h.tick).tunnels = h.tunnels := rfl
@[simp] theorem Hub.tick_feedTime : (h.tick).feedTime = h.feedTime := rfl
@[simp] theorem Hub.tick_feeds : (h.tick).feeds = h.feeds := rfl
@[simp] theorem Hub.tick_mainUp : (h.tick).mainUp = h.mainUp := rfl
@[simp] theorem Hub.tick_depot : (h.tick).depot = h.depot := rfl
@[simp] theorem Hub.tick_rngFault : (h.tick).rngFault = h.rngFault := rfl
@[simp] theorem Hub.tick_clock : (h.tick).clock = h.clock := rfl
@[simp] theorem Hub.tick_island : (h.tick).island = h.island := rfl

@[simp] theorem Hub.drawn_fields : (h.drawn).fields = h.fields := rfl
@[simp] theorem Hub.drawn_effs : (h.drawn).effs = h.effs := rfl
@[simp] theorem Hub.drawn_timers : (h.drawn).timers = h.timers := rfl
@[simp] theorem Hub.drawn_clk : (h.drawn).clk = h.clk := rfl
@[simp] theorem Hub.drawn_clockOffset : (h.drawn).clockOffset = h.clockOffset := rfl
@[simp] theorem Hub.drawn_clockAnchor : (h.drawn).clockAnchor = h.clockAnchor := rfl
@[simp] theorem Hub.drawn_ctxs : (h.drawn).ctxs = h.ctxs := rfl
@[simp] theorem Hub.drawn_progs : (h.drawn).progs = h.progs := rfl
@[simp] theorem Hub.drawn_sets : (h.drawn).sets = h.sets := rfl
@[simp] theorem Hub.drawn_standing : (h.drawn).standing = h.standing := rfl
@[simp] theorem Hub.drawn_replayPos : (h.drawn).replayPos = h.replayPos := rfl
@[simp] theorem Hub.drawn_pend : (h.drawn).pend = h.pend := rfl
@[simp] theorem Hub.drawn_fifoIn : (h.drawn).fifoIn = h.fifoIn := rfl
@[simp] theorem Hub.drawn_authOrder : (h.drawn).authOrder = h.authOrder := rfl
@[simp] theorem Hub.drawn_yard : (h.drawn).yard = h.yard := rfl
@[simp] theorem Hub.drawn_out : (h.drawn).out = h.out := rfl
@[simp] theorem Hub.drawn_links : (h.drawn).links = h.links := rfl
@[simp] theorem Hub.drawn_tunnels : (h.drawn).tunnels = h.tunnels := rfl
@[simp] theorem Hub.drawn_feedTime : (h.drawn).feedTime = h.feedTime := rfl
@[simp] theorem Hub.drawn_feeds : (h.drawn).feeds = h.feeds := rfl
@[simp] theorem Hub.drawn_mainUp : (h.drawn).mainUp = h.mainUp := rfl
@[simp] theorem Hub.drawn_depot : (h.drawn).depot = h.depot := rfl
@[simp] theorem Hub.drawn_rngFault : (h.drawn).rngFault = h.rngFault := rfl
@[simp] theorem Hub.drawn_clock : (h.drawn).clock = h.clock := rfl
@[simp] theorem Hub.drawn_island : (h.drawn).island = h.island := rfl

@[simp] theorem Hub.modCtx_fields (n : Nat) (f : Ctx → Ctx) : (h.modCtx n f).fields = h.fields := rfl
@[simp] theorem Hub.modCtx_effs (n : Nat) (f : Ctx → Ctx) : (h.modCtx n f).effs = h.effs := rfl
@[simp] theorem Hub.modCtx_timers (n : Nat) (f : Ctx → Ctx) : (h.modCtx n f).timers = h.timers := rfl
@[simp] theorem Hub.modCtx_clk (n : Nat) (f : Ctx → Ctx) : (h.modCtx n f).clk = h.clk := rfl
@[simp] theorem Hub.modCtx_clockOffset (n : Nat) (f : Ctx → Ctx) : (h.modCtx n f).clockOffset = h.clockOffset := rfl
@[simp] theorem Hub.modCtx_clockAnchor (n : Nat) (f : Ctx → Ctx) : (h.modCtx n f).clockAnchor = h.clockAnchor := rfl
@[simp] theorem Hub.modCtx_free (n : Nat) (f : Ctx → Ctx) : (h.modCtx n f).free = h.free := rfl
@[simp] theorem Hub.modCtx_progs (n : Nat) (f : Ctx → Ctx) : (h.modCtx n f).progs = h.progs := rfl
@[simp] theorem Hub.modCtx_sets (n : Nat) (f : Ctx → Ctx) : (h.modCtx n f).sets = h.sets := rfl
@[simp] theorem Hub.modCtx_standing (n : Nat) (f : Ctx → Ctx) : (h.modCtx n f).standing = h.standing := rfl
@[simp] theorem Hub.modCtx_replayPos (n : Nat) (f : Ctx → Ctx) : (h.modCtx n f).replayPos = h.replayPos := rfl
@[simp] theorem Hub.modCtx_pend (n : Nat) (f : Ctx → Ctx) : (h.modCtx n f).pend = h.pend := rfl
@[simp] theorem Hub.modCtx_fifoIn (n : Nat) (f : Ctx → Ctx) : (h.modCtx n f).fifoIn = h.fifoIn := rfl
@[simp] theorem Hub.modCtx_authOrder (n : Nat) (f : Ctx → Ctx) : (h.modCtx n f).authOrder = h.authOrder := rfl
@[simp] theorem Hub.modCtx_yard (n : Nat) (f : Ctx → Ctx) : (h.modCtx n f).yard = h.yard := rfl
@[simp] theorem Hub.modCtx_out (n : Nat) (f : Ctx → Ctx) : (h.modCtx n f).out = h.out := rfl
@[simp] theorem Hub.modCtx_links (n : Nat) (f : Ctx → Ctx) : (h.modCtx n f).links = h.links := rfl
@[simp] theorem Hub.modCtx_tunnels (n : Nat) (f : Ctx → Ctx) : (h.modCtx n f).tunnels = h.tunnels := rfl
@[simp] theorem Hub.modCtx_feedTime (n : Nat) (f : Ctx → Ctx) : (h.modCtx n f).feedTime = h.feedTime := rfl
@[simp] theorem Hub.modCtx_feeds (n : Nat) (f : Ctx → Ctx) : (h.modCtx n f).feeds = h.feeds := rfl
@[simp] theorem Hub.modCtx_mainUp (n : Nat) (f : Ctx → Ctx) : (h.modCtx n f).mainUp = h.mainUp := rfl
@[simp] theorem Hub.modCtx_depot (n : Nat) (f : Ctx → Ctx) : (h.modCtx n f).depot = h.depot := rfl
@[simp] theorem Hub.modCtx_rngFault (n : Nat) (f : Ctx → Ctx) : (h.modCtx n f).rngFault = h.rngFault := rfl
@[simp] theorem Hub.modCtx_clock (n : Nat) (f : Ctx → Ctx) : (h.modCtx n f).clock = h.clock := rfl
@[simp] theorem Hub.modCtx_island (n : Nat) (f : Ctx → Ctx) : (h.modCtx n f).island = h.island := rfl

@[simp] theorem Hub.setPend_fields (n src : Nat) (r : NoticeRec) : (h.setPend n src r).fields = h.fields := rfl
@[simp] theorem Hub.setPend_effs (n src : Nat) (r : NoticeRec) : (h.setPend n src r).effs = h.effs := rfl
@[simp] theorem Hub.setPend_timers (n src : Nat) (r : NoticeRec) : (h.setPend n src r).timers = h.timers := rfl
@[simp] theorem Hub.setPend_clk (n src : Nat) (r : NoticeRec) : (h.setPend n src r).clk = h.clk := rfl
@[simp] theorem Hub.setPend_clockOffset (n src : Nat) (r : NoticeRec) : (h.setPend n src r).clockOffset = h.clockOffset := rfl
@[simp] theorem Hub.setPend_clockAnchor (n src : Nat) (r : NoticeRec) : (h.setPend n src r).clockAnchor = h.clockAnchor := rfl
@[simp] theorem Hub.setPend_free (n src : Nat) (r : NoticeRec) : (h.setPend n src r).free = h.free := rfl
@[simp] theorem Hub.setPend_ctxs (n src : Nat) (r : NoticeRec) : (h.setPend n src r).ctxs = h.ctxs := rfl
@[simp] theorem Hub.setPend_progs (n src : Nat) (r : NoticeRec) : (h.setPend n src r).progs = h.progs := rfl
@[simp] theorem Hub.setPend_sets (n src : Nat) (r : NoticeRec) : (h.setPend n src r).sets = h.sets := rfl
@[simp] theorem Hub.setPend_standing (n src : Nat) (r : NoticeRec) : (h.setPend n src r).standing = h.standing := rfl
@[simp] theorem Hub.setPend_replayPos (n src : Nat) (r : NoticeRec) : (h.setPend n src r).replayPos = h.replayPos := rfl
@[simp] theorem Hub.setPend_fifoIn (n src : Nat) (r : NoticeRec) : (h.setPend n src r).fifoIn = h.fifoIn := rfl
@[simp] theorem Hub.setPend_authOrder (n src : Nat) (r : NoticeRec) : (h.setPend n src r).authOrder = h.authOrder := rfl
@[simp] theorem Hub.setPend_yard (n src : Nat) (r : NoticeRec) : (h.setPend n src r).yard = h.yard := rfl
@[simp] theorem Hub.setPend_out (n src : Nat) (r : NoticeRec) : (h.setPend n src r).out = h.out := rfl
@[simp] theorem Hub.setPend_links (n src : Nat) (r : NoticeRec) : (h.setPend n src r).links = h.links := rfl
@[simp] theorem Hub.setPend_tunnels (n src : Nat) (r : NoticeRec) : (h.setPend n src r).tunnels = h.tunnels := rfl
@[simp] theorem Hub.setPend_feedTime (n src : Nat) (r : NoticeRec) : (h.setPend n src r).feedTime = h.feedTime := rfl
@[simp] theorem Hub.setPend_feeds (n src : Nat) (r : NoticeRec) : (h.setPend n src r).feeds = h.feeds := rfl
@[simp] theorem Hub.setPend_mainUp (n src : Nat) (r : NoticeRec) : (h.setPend n src r).mainUp = h.mainUp := rfl
@[simp] theorem Hub.setPend_depot (n src : Nat) (r : NoticeRec) : (h.setPend n src r).depot = h.depot := rfl
@[simp] theorem Hub.setPend_rngFault (n src : Nat) (r : NoticeRec) : (h.setPend n src r).rngFault = h.rngFault := rfl
@[simp] theorem Hub.setPend_clock (n src : Nat) (r : NoticeRec) : (h.setPend n src r).clock = h.clock := rfl
@[simp] theorem Hub.setPend_island (n src : Nat) (r : NoticeRec) : (h.setPend n src r).island = h.island := rfl

end Sys2Proof.Machine
end

