-- ==== Sys2Proof/Laws/Table.lean ====
section
/-! SUPPORT. Laws of the sparse tables: a read after a write, and the canonical form kept by every write. -/

namespace Sys2Proof.Machine

variable {α : Type}

/-- Keys above a bound are above any smaller bound. -/
theorem risingFrom_weaken {i j : Nat} (hij : i ≤ j) :
    ∀ {c : List (Nat × α)}, risingFrom (some j) c = true → risingFrom (some i) c = true
  | [], _ => rfl
  | (k, _) :: _, h => by
    simp only [risingFrom, Bool.and_eq_true, decide_eq_true_eq] at h ⊢
    exact ⟨by omega, h.2⟩

/-- A key at or below a rising list's bound is not listed. -/
theorem lookupCell_below {i j : Nat} (hij : i ≤ j) :
    ∀ {c : List (Nat × α)}, risingFrom (some j) c = true → lookupCell c i = none
  | [], _ => rfl
  | (k, _) :: t, h => by
    simp only [risingFrom, Bool.and_eq_true, decide_eq_true_eq] at h
    have hne : (i == k) = false := by simp only [beq_eq_false_iff_ne]; omega
    simp only [lookupCell, hne, Bool.false_eq_true, if_false]
    exact lookupCell_below (by omega) h.2

/-- A listed value is read back at its key. -/
theorem lookupCell_putCell_some (j : Nat) (v : α) : ∀ c : List (Nat × α), lookupCell (putCell c j (some v)) j = some v
  | [] => by simp [putCell, lookupCell]
  | (k, _) :: t => by
    by_cases h1 : j < k
    · simp [putCell, lookupCell, h1]
    · by_cases h2 : j = k
      · subst h2; simp [putCell, lookupCell]
      · simp [putCell, lookupCell, h1, h2, lookupCell_putCell_some j v t]

/-- A key taken out is not listed any more. -/
theorem lookupCell_putCell_none (j : Nat) :
    ∀ c : List (Nat × α), risingFrom none c = true → lookupCell (putCell c j none) j = none
  | [], _ => rfl
  | (k, v) :: t, h => by
    have ht : risingFrom (some k) t = true := h
    by_cases h1 : j < k
    · have hb := lookupCell_below (i := j) (j := k) (by omega) ht
      have hne : j ≠ k := by omega
      simp [putCell, lookupCell, h1, hne, hb]
    · by_cases h2 : j = k
      · subst h2; simpa [putCell] using lookupCell_below (Nat.le_refl j) ht
      · have ht' : risingFrom none t = true := by
          cases t with
          | nil => rfl
          | cons a u => simp only [risingFrom, Bool.and_eq_true] at ht ⊢; exact ht.2
        simp [putCell, lookupCell, h1, h2, lookupCell_putCell_none j t ht']

/-- A key that is not written is listed as before. -/
theorem lookupCell_putCell_other {i j : Nat} (hij : i ≠ j) (w : Option α) :
    ∀ c : List (Nat × α), lookupCell (putCell c j w) i = lookupCell c i
  | [] => by cases w <;> simp [putCell, lookupCell, hij]
  | (k, _) :: t => by
    by_cases h1 : j < k
    · cases w <;> simp [putCell, lookupCell, h1, hij]
    · by_cases h2 : j = k
      · subst h2; cases w <;> simp [putCell, lookupCell, hij]
      · simp [putCell, lookupCell, h1, h2, lookupCell_putCell_other hij w t]

/-- A put keeps the keys rising above a bound below the key. -/
theorem risingFrom_putCell {b : Option Nat} (j : Nat) (w : Option α) (hb : ∀ i, b = some i → i < j) :
    ∀ {c : List (Nat × α)}, risingFrom b c = true → risingFrom b (putCell c j w) = true
  | [], _ => by
    cases w with
    | none => simp [putCell, risingFrom]
    | some v => cases b with
      | none => simp [putCell, risingFrom]
      | some i => simp [putCell, risingFrom, hb i rfl]
  | (k, v) :: t, h => by
    have hk : risingFrom (some k) t = true ∧ ∀ i, b = some i → i < k := by
      cases b with
      | none => exact ⟨h, by simp⟩
      | some i =>
        simp only [risingFrom, Bool.and_eq_true, decide_eq_true_eq] at h
        exact ⟨h.2, by simpa using h.1⟩
    by_cases h1 : j < k
    · cases w with
      | none => simpa [putCell, h1] using h
      | some x => cases b with
        | none => simp [putCell, h1, risingFrom, hk.1]
        | some i => simp [putCell, h1, risingFrom, hk.1, hb i rfl]
    · by_cases h2 : j = k
      · subst h2
        cases w with
        | none =>
          cases b with
          | none =>
            simp only [putCell, Nat.lt_irrefl, if_false, beq_self_eq_true, if_true]
            cases t with
            | nil => rfl
            | cons a u => have := hk.1; simp only [risingFrom, Bool.and_eq_true] at this ⊢; exact this.2
          | some i => simpa [putCell] using risingFrom_weaken (Nat.le_of_lt (hb i rfl)) hk.1
        | some x => cases b with
          | none => simpa [putCell, risingFrom] using hk.1
          | some i => simp [putCell, risingFrom, hk.1, hb i rfl]
      · have ih := risingFrom_putCell (b := some k) j w (by intro i hi; cases hi; omega) hk.1
        cases b with
        | none => simpa [putCell, h1, h2, risingFrom] using ih
        | some i => simp [putCell, h1, h2, risingFrom, ih, hk.2 i rfl]

/-- What stands in a list after a put was put or stood before. -/
theorem mem_putCell {j : Nat} {w : Option α} {x : Nat × α} :
    ∀ {c : List (Nat × α)}, x ∈ putCell c j w → (x.1 = j ∧ w = some x.2) ∨ x ∈ c
  | [], h => by cases w <;> simp [putCell] at h; subst h; simp
  | (k, v) :: t, h => by
    by_cases h1 : j < k
    · cases w with
      | none => simp [putCell, h1] at h; exact Or.inr (by simpa using h)
      | some y =>
        simp only [putCell, h1, if_true, List.mem_cons] at h
        rcases h with h | h | h
        · subst h; simp
        · exact Or.inr (by simp [h])
        · exact Or.inr (by simp [h])
    · by_cases h2 : j = k
      · subst h2
        cases w with
        | none => simp [putCell] at h; exact Or.inr (by simp [h])
        | some y =>
          simp only [putCell, Nat.lt_irrefl, if_false, beq_self_eq_true, if_true, List.mem_cons] at h
          rcases h with h | h
          · subst h; simp
          · exact Or.inr (by simp [h])
      · have hne : (j == k) = false := by simpa using h2
        simp only [putCell, h1, hne, if_false, Bool.false_eq_true, List.mem_cons] at h
        rcases h with h | h
        · exact Or.inr (by simp [h])
        · rcases mem_putCell h with g | g
          · exact Or.inl g
          · exact Or.inr (by simp [g])

/-- The empty table is canonical. -/
@[simp] theorem Table.wf_empty [DecidableEq α] (d : Nat → α) : (({} : Table α).wf d) = true := rfl

/-- Every write keeps the canonical form. -/
theorem Table.wf_write [DecidableEq α] (d : Nat → α) (t : Table α) (k : Nat) (v : α) (h : t.wf d = true) :
    (t.write d k v).wf d = true := by
  simp only [Table.wf, Bool.and_eq_true, List.all_eq_true, decide_eq_true_eq] at h ⊢
  refine ⟨risingFrom_putCell k _ (by simp) h.1, fun x hx => ?_⟩
  rcases mem_putCell hx with ⟨h1, h2⟩ | h1
  · by_cases hv : v = d k
    · simp [hv] at h2
    · simp only [hv, if_false, Option.some.injEq] at h2
      rw [h1, ← h2]; exact hv
  · exact h.2 x h1

/-- A read of the key just written answers the value written. -/
theorem Table.read_write_same [DecidableEq α] (d : Nat → α) (t : Table α) (k : Nat) (v : α) (h : t.wf d = true) :
    (t.write d k v).read d k = v := by
  simp only [Table.wf, Bool.and_eq_true] at h
  by_cases hv : v = d k
  · simp [Table.read, Table.write, hv, lookupCell_putCell_none k t.cells h.1]
  · simp [Table.read, Table.write, hv, lookupCell_putCell_some]

/-- A read of another key answers what it answered before. -/
theorem Table.read_write_other [DecidableEq α] (d : Nat → α) (t : Table α) {i k : Nat} (v : α) (hik : i ≠ k) :
    (t.write d k v).read d i = t.read d i := by
  simp [Table.read, Table.write, lookupCell_putCell_other hik]

/-- An unlisted key reads as its default. -/
@[simp] theorem Table.read_empty (d : Nat → α) (k : Nat) : (({} : Table α).read d k) = d k := rfl

end Sys2Proof.Machine
end

