-- ==== Sys2Proof/Laws/Ops.lean ====
section
/-! SUPPORT. What the shared operations over the state do: outcomes, fields, timers, contexts, notices and programs. -/

namespace Sys2Proof.Machine

/-! ### Outcomes -/

theorem act_up {s : State} (f : Hub → Hub) (h : s.hub.mainUp = true) : act s f = .next { s with hub := f s.hub } := by
  simp [act, h]

theorem act_down {s : State} (f : Hub → Hub) (h : s.hub.mainUp = false) : act s f = .next s := by
  simp [act, h]

theorem actIf_up {s : State} {b : Bool} (f : Hub → Hub) (hb : b = true) (h : s.hub.mainUp = true) :
    actIf b s f = .next { s with hub := f s.hub } := by
  simp [actIf, hb, act_up f h]

theorem actAnyIf_real {s : State} {b : Bool} (f : Hub → Hub) (hb : b = true) : actAnyIf b s f = .next { s with hub := f s.hub } := by
  simp [actAnyIf, actAny, hb]

/-- Whatever act answers is a next state with the queue as it was. -/
theorem act_cases (s : State) (f : Hub → Hub) : ∃ h, act s f = .next ⟨h, s.pending⟩ := ⟨_, rfl⟩

/-- actIf answers a next state with the queue as it was, or the fault of a missing instance. -/
theorem actIf_cases (b : Bool) (s : State) (f : Hub → Hub) :
    (b = true ∧ ∃ h, actIf b s f = .next ⟨h, s.pending⟩) ∨ (b = false ∧ actIf b s f = .fault .noSuchInstance) := by
  cases b
  · exact .inr ⟨rfl, rfl⟩
  · exact .inl ⟨rfl, act_cases s f⟩

theorem actAnyIf_cases (b : Bool) (s : State) (f : Hub → Hub) :
    (b = true ∧ ∃ h, actAnyIf b s f = .next ⟨h, s.pending⟩) ∨ (b = false ∧ actAnyIf b s f = .fault .noSuchInstance) := by
  cases b
  · exact .inr ⟨rfl, rfl⟩
  · exact .inl ⟨rfl, _, rfl⟩

/-! ### Fields -/

theorem Hub.getN_setN_same (h : Hub) (c i n e v : Nat) (hw : h.fields.wf fieldDefault = true) :
    (h.setN c i n e v).getN c i n e = v := Table.read_write_same _ _ _ _ hw

theorem Hub.getN_setN_other (h : Hub) {c i n e c' i' n' e' : Nat} (v : Nat) (hk : fieldKey c' i' n' e' ≠ fieldKey c i n e) :
    (h.setN c i n e v).getN c' i' n' e' = h.getN c' i' n' e' := Table.read_write_other _ _ _ hk

theorem Hub.fields_wf_setN (h : Hub) (c i n e v : Nat) (hw : h.fields.wf fieldDefault = true) :
    (h.setN c i n e v).fields.wf fieldDefault = true := Table.wf_write _ _ _ _ hw

theorem Hub.get_set_same (h : Hub) (f : Fld) (i v e : Nat) (hw : h.fields.wf fieldDefault = true) :
    (h.set f i v e).get f i e = v % 2 ^ f.width := Hub.getN_setN_same h _ _ _ _ _ hw

theorem Hub.get_set_other (h : Hub) {f g : Fld} {i j e d : Nat} (v : Nat)
    (hk : fieldKey g.cls j g.num d ≠ fieldKey f.cls i f.num e) : (h.set f i v e).get g j d = h.get g j d :=
  Hub.getN_setN_other h _ hk

theorem Hub.fields_wf_set (h : Hub) (f : Fld) (i v e : Nat) (hw : h.fields.wf fieldDefault = true) :
    (h.set f i v e).fields.wf fieldDefault = true := Hub.fields_wf_setN h _ _ _ _ _ hw

theorem Hub.get_add_same (h : Hub) (f : Fld) (i n e : Nat) (hw : h.fields.wf fieldDefault = true) :
    (h.add f i n e).get f i e = (h.get f i e + n) % 2 ^ f.width := Hub.get_set_same h _ _ _ _ hw

theorem Hub.fields_wf_add (h : Hub) (f : Fld) (i n e : Nat) (hw : h.fields.wf fieldDefault = true) :
    (h.add f i n e).fields.wf fieldDefault = true := Hub.fields_wf_set h _ _ _ _ hw

/-- A lagging field's value in effect is its committed value once it has been taken. -/
theorem Hub.use_take_same (h : Hub) (f : Fld) (i e : Nat) (hw : h.effs.wf fieldDefault = true) :
    (h.take f i e).use f i e = h.get f i e := Table.read_write_same _ _ _ _ hw

theorem Hub.effs_wf_take (h : Hub) (f : Fld) (i e : Nat) (hw : h.effs.wf fieldDefault = true) :
    (h.take f i e).effs.wf fieldDefault = true := Table.wf_write _ _ _ _ hw

/-! ### Timers -/

theorem Hub.due_armAt_same (h : Hub) (k i t : Nat) : (h.armAt k i t).due k i = some t := by
  simp [Hub.due, Hub.armAt, Table.read, Table.write, lookupCell_putCell_some]

theorem Hub.due_disarm_same (h : Hub) (k i : Nat) (hw : h.timers.wf (fun _ => 0) = true) : (h.disarm k i).due k i = none := by
  simp only [Hub.due, Hub.disarm]
  rw [Table.read_write_same _ _ _ _ hw]

theorem Hub.due_armAt_other (h : Hub) {k i k' i' t : Nat} (hk : timerKey k' i' ≠ timerKey k i) :
    (h.armAt k i t).due k' i' = h.due k' i' := by
  simp only [Hub.due, Hub.armAt]
  rw [Table.read_write_other _ _ _ hk]

theorem Hub.timers_wf_armAt (h : Hub) (k i t : Nat) (hw : h.timers.wf (fun _ => 0) = true) :
    (h.armAt k i t).timers.wf (fun _ => 0) = true := Table.wf_write _ _ _ _ hw

theorem Hub.timers_wf_disarm (h : Hub) (k i : Nat) (hw : h.timers.wf (fun _ => 0) = true) :
    (h.disarm k i).timers.wf (fun _ => 0) = true := Table.wf_write _ _ _ _ hw

/-- A timer that does not run has no expiry. -/
theorem Hub.expire_idle (h : Hub) (k i : Nat) (f : Hub → Hub) (hd : h.due k i = none) : h.expire k i f = h := by
  simp [Hub.expire, hd]

/-- A running timer's expiry comes at its due moment, with the timer stopped. -/
theorem Hub.expire_due (h : Hub) (k i : Nat) (f : Hub → Hub) {t : Nat} (hd : h.due k i = some t) :
    h.expire k i f = f ((h.advanceTo t).disarm k i) := by
  simp [Hub.expire, hd]

/-- The local counter never goes back. -/
theorem Hub.advanceTo_le (h : Hub) (t : Nat) : h.clk ≤ (h.advanceTo t).clk := Nat.le_max_left _ _

/-! ### Contexts and programs -/

theorem Hub.ctx_modCtx_same (h : Hub) (n : Nat) (f : Ctx → Ctx) (hw : h.ctxs.wf (fun _ => {}) = true) :
    (h.modCtx n f).ctx n = f (h.ctx n) := Table.read_write_same _ _ _ _ hw

theorem Hub.ctx_modCtx_other (h : Hub) {n m : Nat} (f : Ctx → Ctx) (hm : m ≠ n) : (h.modCtx n f).ctx m = h.ctx m :=
  Table.read_write_other _ _ _ hm

theorem Hub.prog_setProg_same (h : Hub) (k : Nat) (p : Prog) : (h.setProg k p).prog k = some p := by
  simp [Hub.prog, Hub.setProg, Table.read, Table.write, lookupCell_putCell_some]

theorem Hub.prog_setProg_other (h : Hub) {k j : Nat} (p : Prog) (hj : j ≠ k) : (h.setProg k p).prog j = h.prog j :=
  Table.read_write_other _ _ _ hj

/-! ### Notices -/

theorem Hub.raise_down (h : Hub) (src payload : Nat) (who : List Nat) (skip : Option Nat) (hm : h.mainUp = false) :
    h.raise src payload who skip = h := by
  simp [Hub.raise, hm]

/-- The pending records a raise leaves, whatever it walks over. -/
theorem raise_fold_frame (src payload t : Nat) (p : Hub → Nat → Bool) :
    ∀ (l : List Nat) (g : Hub),
      ∃ x, l.foldl (fun g n => if p g n then g.setPend n src ((g.pendRec n src).raised src t payload) else g) g = { g with pend := x }
  | [], g => ⟨g.pend, rfl⟩
  | n :: l, g => by
    simp only [List.foldl_cons]
    by_cases hp : p g n = true
    · simp only [hp, if_true]
      obtain ⟨x, hx⟩ := raise_fold_frame src payload t p l (g.setPend n src ((g.pendRec n src).raised src t payload))
      exact ⟨x, by rw [hx]; rfl⟩
    · simp only [hp]
      exact raise_fold_frame src payload t p l g

/-- A raise changes the committed fields of its NOTICE instance and pending records, nothing else. -/
theorem Hub.raise_frame (h : Hub) (src payload : Nat) (who : List Nat) (skip : Option Nat) :
    ∃ f x, h.raise src payload who skip = { h with fields := f, pend := x } := by
  by_cases hm : h.mainUp = true
  · rw [Hub.raise, if_neg (by simp [hm])]
    obtain ⟨x, hx⟩ := raise_fold_frame src payload h.now48 (fun _ n => h.addressed src who n && skip != some n) (List.range 6)
      (((h.add F.NOTICE.RAISED src 1).set F.NOTICE.LAST_TIME src h.now48).set F.NOTICE.LAST_PAYLOAD src payload)
    refine ⟨(((h.add F.NOTICE.RAISED src 1).set F.NOTICE.LAST_TIME src h.now48).set F.NOTICE.LAST_PAYLOAD src payload).fields, x, hx⟩
  · exact ⟨h.fields, h.pend, by rw [Hub.raise_down _ _ _ _ _ (by simpa using hm)]⟩

end Sys2Proof.Machine
end

