-- ==== Sys2Proof/Laws/Knaen.lean ====
section
/-! SUPPORT. What executing one Knaen word does: work registers, and a program that stands at a word. -/

namespace Sys2Proof.Machine

/-! ### Work registers -/

@[simp] theorem Prog.reg_zero (q : Prog) : q.reg 0#4 = 0#32 := by simp [Prog.reg]

@[simp] theorem Prog.setReg_zero (q : Prog) (v : Word) : q.setReg 0#4 v = q := by simp [Prog.setReg]

theorem Prog.reg_setReg_same (q : Prog) {r : RegNo} (v : Word) (hr : r ≠ 0#4) (hq : q.canonical) : (q.setReg r v).reg r = v := by
  simp only [Prog.reg, Prog.setReg, hr, if_false]
  exact Table.read_write_same _ _ _ _ hq

theorem Prog.reg_setReg_other (q : Prog) {r x : RegNo} (v : Word) (hx : x ≠ r) : (q.setReg r v).reg x = q.reg x := by
  by_cases hr : r = 0#4
  · simp [hr]
  · simp only [Prog.reg, Prog.setReg, hr, if_false]
    rw [Table.read_write_other _ _ _ (by simpa [BitVec.toNat_inj] using hx)]

/-- A write of a register shows at it alone, and at w0 nowhere (R49). -/
theorem Prog.setReg_wrote (q : Prog) (r : RegNo) (v : Word) (hq : q.canonical) : Wrote q (q.setReg r v) r v := by
  intro x
  by_cases hx : x = r
  · by_cases hr : r = 0#4
    · subst hr; simp
    · simp [hx, hr, Prog.reg_setReg_same q v hr hq]
  · simp [hx, Prog.reg_setReg_other q v hx]

theorem Prog.canonical_setReg (q : Prog) (r : RegNo) (v : Word) (hq : q.canonical) : (q.setReg r v).canonical := by
  by_cases hr : r = 0#4
  · simpa [hr] using hq
  · simp only [Prog.canonical, Prog.setReg, hr, if_false]
    exact Table.wf_write _ _ _ _ hq

/-- What a register write leaves. -/
theorem Prog.setReg_rest (q : Prog) (r : RegNo) (v : Word) : ∃ t, q.setReg r v = { q with regs := t } := by
  by_cases hr : r = 0#4
  · exact ⟨q.regs, by simp [hr]⟩
  · exact ⟨q.regs.write (fun _ => 0#32) r.toNat v, by simp [Prog.setReg, hr]⟩

/-! ### A program at a word -/

@[simp] theorem Prog.counted_reg (q : Prog) (x : RegNo) : q.counted.reg x = q.reg x := rfl
@[simp] theorem Prog.counted_canonical (q : Prog) : q.counted.canonical ↔ q.canonical := Iff.rfl

/-- Nothing holds a program that stands at a word. -/
theorem at_unblocked {s : State} {p : ProgId} {w : Word} {q : Prog} (ha : At s p w q) : q.block = none := by
  have he := ha.2.2.2.1
  simp only [Hub.executes, Bool.and_eq_true, Option.isNone_iff_eq_none] at he
  exact he.1.1.1

/-- A program at a word that meets no fault before the instruction's own effect takes that effect. -/
theorem runWord_at {s : State} {p : ProgId} {w : Word} {q : Prog} (ha : At s p w q) (a : Asks) (body : Hub → Prog → Ran)
    (hb : q.counted.barred a = none) :
    s.hub.runWord p w a body =
      match body (s.hub.countStep p) q.counted with
      | .fault c => (s.hub.countStep p).faultProg p q.counted c
      | .on h r => (h.passTurn r.block.isSome).goOn p r
      | .ends h => h := by
  obtain ⟨-, -, hq, he, hl⟩ := ha
  have hl' : ¬ s.hub.stepLimit q ≤ q.steps := by omega
  simp only [Hub.runWord, hq, he, Bool.not_true, Bool.false_eq_true, if_false, hl']
  simp only [Prog.counted] at hb
  rw [hb]
  rfl

/-- A program at a word that meets a fault before the instruction's own effect faults. -/
theorem runWord_barred {s : State} {p : ProgId} {w : Word} {q : Prog} (ha : At s p w q) (a : Asks) (body : Hub → Prog → Ran) {c : Nat}
    (hb : q.counted.barred a = some c) :
    s.hub.runWord p w a body = (s.hub.countStep p).faultProg p q.counted c := by
  obtain ⟨-, -, hq, he, hl⟩ := ha
  have hl' : ¬ s.hub.stepLimit q ≤ q.steps := by omega
  simp only [Hub.runWord, hq, he, Bool.not_true, Bool.false_eq_true, if_false, hl']
  simp only [Prog.counted] at hb
  rw [hb]
  rfl

/-- The command of a Knaen instruction of a program at its word. -/
theorem knaen_at {s : State} {p : ProgId} {w : Word} {q : Prog} (ha : At s p w q) (f : Hub → Hub) :
    knaen p s f = .next { s with hub := f s.hub } := actIf_up f ha.2.1 ha.1

/-- An instruction that changes only registers and flags, with no reserved bit set. -/
theorem runRegs_at {s : State} {p : ProgId} {w : Word} {q : Prog} (ha : At s p w q) {clean : Bool} (hc : clean = true) (f : Prog → Prog)
    (hf : (f q.counted).block = none) :
    knaen p s (fun h => h.runRegs p w clean f) = .next (s.goesTo p (f q.counted).next) := by
  rw [knaen_at ha]
  simp only [Hub.runRegs]
  rw [runWord_at ha { clean := clean } _ (by simp [Prog.barred, hc])]
  simp only [Prog.next, hf, Option.isSome_none, Hub.passTurn, Bool.false_eq_true, if_false]
  rfl

end Sys2Proof.Machine
end

