-- ==== Sys2Proof/Laws/PerInstr.lean ====
section
/-! SUPPORT. One fact of each command as syntax: the instances named by an instruction that has a Knaen word are its program alone. -/

namespace Sys2Proof.Laws.WordProgram

open Sys2Proof

/-- An instruction with a Knaen word is in range exactly when the program that executes it exists. -/
def Statement (i : Instr) : Prop := ∀ p w, knaenWord i = some (p, w) → i.inRange = p.real

/-- The fact holds of an instruction that has a word, as its program decides its range. -/
theorem of_word {i : Instr} {p : ProgId} {w : Word} (hw : knaenWord i = some (p, w)) (hr : i.inRange = p.real) : Statement i := by
  intro p' w' h
  rw [hw] at h
  cases h
  exact hr

/-- The fact says nothing of a command without a word. -/
theorem of_none {i : Instr} (hw : knaenWord i = none) : Statement i := by
  intro p w h
  rw [hw] at h
  cases h

theorem halt (p : ProgId) (wd wa wb : RegNo) (func : BitVec 14) : Statement (.halt p wd wa wb func) := of_word rfl rfl
theorem nop (p : ProgId) (wd wa wb : RegNo) (func : BitVec 14) : Statement (.nop p wd wa wb func) := of_word rfl rfl
theorem lit (p : ProgId) (wd wa : RegNo) (imm : BitVec 18) : Statement (.lit p wd wa imm) := of_word rfl rfl
theorem litw (p : ProgId) (wd wa : RegNo) (imm : BitVec 18) : Statement (.litw p wd wa imm) := of_word rfl rfl
theorem mov (p : ProgId) (wd wa wb : RegNo) (func : BitVec 14) : Statement (.mov p wd wa wb func) := of_word rfl rfl
theorem add (p : ProgId) (wd wa wb : RegNo) (func : BitVec 14) : Statement (.add p wd wa wb func) := of_word rfl rfl
theorem addi (p : ProgId) (wd wa : RegNo) (imm : BitVec 18) : Statement (.addi p wd wa imm) := of_word rfl rfl
theorem sub (p : ProgId) (wd wa wb : RegNo) (func : BitVec 14) : Statement (.sub p wd wa wb func) := of_word rfl rfl
theorem mul (p : ProgId) (wd wa wb : RegNo) (func : BitVec 14) : Statement (.mul p wd wa wb func) := of_word rfl rfl
theorem mulh (p : ProgId) (wd wa wb : RegNo) (func : BitVec 13) : Statement (.mulh p wd wa wb func) := of_word rfl rfl
theorem mulhu (p : ProgId) (wd wa wb : RegNo) (func : BitVec 13) : Statement (.mulhu p wd wa wb func) := of_word rfl rfl
theorem and (p : ProgId) (wd wa wb : RegNo) (func : BitVec 14) : Statement (.and p wd wa wb func) := of_word rfl rfl
theorem or (p : ProgId) (wd wa wb : RegNo) (func : BitVec 14) : Statement (.or p wd wa wb func) := of_word rfl rfl
theorem xor (p : ProgId) (wd wa wb : RegNo) (func : BitVec 14) : Statement (.xor p wd wa wb func) := of_word rfl rfl
theorem andi (p : ProgId) (wd wa : RegNo) (imm : BitVec 18) : Statement (.andi p wd wa imm) := of_word rfl rfl
theorem ori (p : ProgId) (wd wa : RegNo) (imm : BitVec 18) : Statement (.ori p wd wa imm) := of_word rfl rfl
theorem shl (p : ProgId) (wd wa wb : RegNo) (func : BitVec 14) : Statement (.shl p wd wa wb func) := of_word rfl rfl
theorem shr (p : ProgId) (wd wa wb : RegNo) (func : BitVec 14) : Statement (.shr p wd wa wb func) := of_word rfl rfl
theorem sar (p : ProgId) (wd wa wb : RegNo) (func : BitVec 14) : Statement (.sar p wd wa wb func) := of_word rfl rfl
theorem min (p : ProgId) (wd wa wb : RegNo) (func : BitVec 13) : Statement (.min p wd wa wb func) := of_word rfl rfl
theorem minu (p : ProgId) (wd wa wb : RegNo) (func : BitVec 13) : Statement (.minu p wd wa wb func) := of_word rfl rfl
theorem max (p : ProgId) (wd wa wb : RegNo) (func : BitVec 13) : Statement (.max p wd wa wb func) := of_word rfl rfl
theorem maxu (p : ProgId) (wd wa wb : RegNo) (func : BitVec 13) : Statement (.maxu p wd wa wb func) := of_word rfl rfl
theorem cmp (p : ProgId) (wd wa wb : RegNo) (func : BitVec 14) : Statement (.cmp p wd wa wb func) := of_word rfl rfl
theorem br (p : ProgId) (cond wa : RegNo) (offset : BitVec 18) : Statement (.br p cond wa offset) := of_word rfl rfl
theorem call (p : ProgId) (cond wa : RegNo) (offset : BitVec 18) : Statement (.call p cond wa offset) := of_word rfl rfl
theorem ret (p : ProgId) (cond wa : RegNo) (offset : BitVec 18) : Statement (.ret p cond wa offset) := of_word rfl rfl
theorem executeReservedOpcode (p : ProgId) (opcode : BitVec 6) (rest : BitVec 26) : Statement (.executeReservedOpcode p opcode rest) := of_word rfl rfl
theorem openObject (p : ProgId) (wd wa : RegNo) (imm : BitVec 18) : Statement (.openObject p wd wa imm) := of_word rfl rfl
theorem get (p : ProgId) (wv wh : RegNo) (field : BitVec 12) (modifier : BitVec 6) : Statement (.get p wv wh field modifier) := of_word rfl rfl
theorem gets (p : ProgId) (wv wh : RegNo) (field : BitVec 12) (modifier : BitVec 6) : Statement (.gets p wv wh field modifier) := of_word rfl rfl
theorem set (p : ProgId) (wv wh : RegNo) (field : BitVec 12) (modifier : BitVec 6) : Statement (.set p wv wh field modifier) := of_word rfl rfl
theorem setx (p : ProgId) (wv wh : RegNo) (field : BitVec 12) (modifier : BitVec 6) : Statement (.setx p wv wh field modifier) := of_word rfl rfl
theorem setm (p : ProgId) (wv wh : RegNo) (field : BitVec 12) (modifier : BitVec 6) : Statement (.setm p wv wh field modifier) := of_word rfl rfl
theorem commitNow (p : ProgId) (wa wb : RegNo) (index : BitVec 14) : Statement (.commitNow p wa wb index) := of_word rfl rfl
theorem commitRefill (p : ProgId) (wa wb : RegNo) (index : BitVec 14) : Statement (.commitRefill p wa wb index) := of_word rfl rfl
theorem commitBlanking (p : ProgId) (wa wb : RegNo) (index : BitVec 14) : Statement (.commitBlanking p wa wb index) := of_word rfl rfl
theorem commitTime (p : ProgId) (wa wb : RegNo) (index : BitVec 14) : Statement (.commitTime p wa wb index) := of_word rfl rfl
theorem commitCycle (p : ProgId) (wa wb : RegNo) (index : BitVec 14) : Statement (.commitCycle p wa wb index) := of_word rfl rfl
theorem commitQuiet (p : ProgId) (wa wb : RegNo) (index : BitVec 14) : Statement (.commitQuiet p wa wb index) := of_word rfl rfl
theorem commitReservedKind (p : ProgId) (wa wb : RegNo) (kind : BitVec 4) (index : BitVec 14) : Statement (.commitReservedKind p wa wb kind index) := of_word rfl rfl
theorem abandon (p : ProgId) (wd wa wb : RegNo) (func : BitVec 14) : Statement (.abandon p wd wa wb func) := of_word rfl rfl
theorem waitNow (p : ProgId) (wa wb : RegNo) (index : BitVec 14) : Statement (.waitNow p wa wb index) := of_word rfl rfl
theorem waitRefill (p : ProgId) (wa wb : RegNo) (index : BitVec 14) : Statement (.waitRefill p wa wb index) := of_word rfl rfl
theorem waitBlanking (p : ProgId) (wa wb : RegNo) (index : BitVec 14) : Statement (.waitBlanking p wa wb index) := of_word rfl rfl
theorem waitTime (p : ProgId) (wa wb : RegNo) (index : BitVec 14) : Statement (.waitTime p wa wb index) := of_word rfl rfl
theorem waitCycle (p : ProgId) (wa wb : RegNo) (index : BitVec 14) : Statement (.waitCycle p wa wb index) := of_word rfl rfl
theorem waitQuiet (p : ProgId) (wa wb : RegNo) (index : BitVec 14) : Statement (.waitQuiet p wa wb index) := of_word rfl rfl
theorem waitDelay (p : ProgId) (wa wb : RegNo) (kind : BitVec 4) (index : BitVec 14) : Statement (.waitDelay p wa wb kind index) := of_word rfl rfl
theorem waitDelayExpiry (ctx : Nat) : Statement (.waitDelayExpiry ctx) := of_none rfl
theorem own (p : ProgId) (wd wa : RegNo) (imm : BitVec 17) : Statement (.own p wd wa imm) := of_word rfl rfl
theorem ownForce (p : ProgId) (wd wa : RegNo) (imm : BitVec 17) : Statement (.ownForce p wd wa imm) := of_word rfl rfl
theorem yield (p : ProgId) (wd wa : RegNo) (imm : BitVec 17) : Statement (.yield p wd wa imm) := of_word rfl rfl
theorem yieldForce (p : ProgId) (wd wa : RegNo) (imm : BitVec 17) : Statement (.yieldForce p wd wa imm) := of_word rfl rfl
theorem note (p : ProgId) (wd wa wb : RegNo) (func : BitVec 14) : Statement (.note p wd wa wb func) := of_word rfl rfl
theorem timeLocal (p : ProgId) (wd wa wb : RegNo) (func : BitVec 13) : Statement (.timeLocal p wd wa wb func) := of_word rfl rfl
theorem timeNetwork (p : ProgId) (wd wa wb : RegNo) (func : BitVec 13) : Statement (.timeNetwork p wd wa wb func) := of_word rfl rfl
theorem xfer (p : ProgId) (wa wb : RegNo) (kind : BitVec 4) (index : BitVec 14) : Statement (.xfer p wa wb kind index) := of_word rfl rfl
theorem xferDone (ctx : Nat) : Statement (.xferDone ctx) := of_none rfl
theorem release (p : ProgId) (wd wa wb : RegNo) (func : BitVec 14) : Statement (.release p wd wa wb func) := of_word rfl rfl
theorem ext (p : ProgId) (wd wa wb : RegNo) (func : BitVec 14) : Statement (.ext p wd wa wb func) := of_word rfl rfl
theorem ins (p : ProgId) (wd wa wb : RegNo) (func : BitVec 14) : Statement (.ins p wd wa wb func) := of_word rfl rfl
theorem scale (p : ProgId) (wd wa wb : RegNo) (func : BitVec 14) : Statement (.scale p wd wa wb func) := of_word rfl rfl
theorem look (p : ProgId) (wd wa wb : RegNo) (func : BitVec 14) : Statement (.look p wd wa wb func) := of_word rfl rfl
theorem fwd (p : ProgId) (wa wb : RegNo) (kind : BitVec 3) (index : BitVec 14) : Statement (.fwd p wa wb kind index) := of_word rfl rfl
theorem fwdReplace (p : ProgId) (wa wb : RegNo) (kind : BitVec 3) (index : BitVec 14) : Statement (.fwdReplace p wa wb kind index) := of_word rfl rfl
theorem drop (p : ProgId) (wd wa wb : RegNo) (func : BitVec 14) : Statement (.drop p wd wa wb func) := of_word rfl rfl
theorem mirr (p : ProgId) (wa wb : RegNo) (kind : BitVec 4) (index : BitVec 14) : Statement (.mirr p wa wb kind index) := of_word rfl rfl
theorem stamp (p : ProgId) (wa wb : RegNo) (kind : BitVec 3) (index : BitVec 14) : Statement (.stamp p wa wb kind index) := of_word rfl rfl
theorem stampEgress (p : ProgId) (wa wb : RegNo) (kind : BitVec 3) (index : BitVec 14) : Statement (.stampEgress p wa wb kind index) := of_word rfl rfl
theorem corr (p : ProgId) (wa wb : RegNo) (kind : BitVec 4) (index : BitVec 14) : Statement (.corr p wa wb kind index) := of_word rfl rfl
theorem csumCompute (p : ProgId) (wd wa wb : RegNo) (func : BitVec 14) : Statement (.csumCompute p wd wa wb func) := of_word rfl rfl
theorem csumFix (p : ProgId) (wd wa wb : RegNo) (func : BitVec 12) : Statement (.csumFix p wd wa wb func) := of_word rfl rfl
theorem emit (p : ProgId) (wa wb : RegNo) (kind : BitVec 4) (index : BitVec 14) : Statement (.emit p wa wb kind index) := of_word rfl rfl
theorem count (p : ProgId) (wa wb : RegNo) (kind : BitVec 4) (index : BitVec 14) : Statement (.count p wa wb kind index) := of_word rfl rfl
theorem shunterProgramStart (engine thread : Nat) : Statement (.shunterProgramStart engine thread) := of_none rfl
theorem helloMessage (ch : Chan) (msg : List Byte) : Statement (.helloMessage ch msg) := of_none rfl
theorem manifestMessage (ch : Chan) (msg : List Byte) : Statement (.manifestMessage ch msg) := of_none rfl
theorem manifestStart (ctx : Nat) : Statement (.manifestStart ctx) := of_none rfl
theorem peekMessage (ch : Chan) (msg : List Byte) : Statement (.peekMessage ch msg) := of_none rfl
theorem localWriteInboundFifo (data : List Byte) : Statement (.localWriteInboundFifo data) := of_none rfl
theorem localReadOutboundFifo (count : Nat) : Statement (.localReadOutboundFifo count) := of_none rfl
theorem localReadStatus : Statement (.localReadStatus) := of_none rfl
theorem epochNetworkTime : Statement (.epochNetworkTime) := of_none rfl
theorem commitTimeoutExpiry (ctx : Nat) : Statement (.commitTimeoutExpiry ctx) := of_none rfl
theorem standingReplay : Statement (.standingReplay) := of_none rfl
theorem standingClear (ctx slot : Nat) : Statement (.standingClear ctx slot) := of_none rfl
theorem standingTokenTimeout : Statement (.standingTokenTimeout) := of_none rfl
theorem k0WindowEnd : Statement (.k0WindowEnd) := of_none rfl
theorem noticeCollectorRound (ctx : Nat) : Statement (.noticeCollectorRound ctx) := of_none rfl
theorem noticeEntryTaken (ctx : Nat) : Statement (.noticeEntryTaken ctx) := of_none rfl
theorem feedLinkFrame (frame : List Byte) : Statement (.feedLinkFrame frame) := of_none rfl
theorem feedLinkHoldEntry : Statement (.feedLinkHoldEntry) := of_none rfl
theorem paceBelowFloor : Statement (.paceBelowFloor) := of_none rfl
theorem avsStartAbsent : Statement (.avsStartAbsent) := of_none rfl
theorem avsCommandTimeout : Statement (.avsCommandTimeout) := of_none rfl
theorem avsReadbackFault (sense readback : Nat) : Statement (.avsReadbackFault sense readback) := of_none rfl
theorem vcoreOvervoltage (sense : Nat) : Statement (.vcoreOvervoltage sense) := of_none rfl
theorem vcoreOvervoltageTrip (sense : Nat) : Statement (.vcoreOvervoltageTrip sense) := of_none rfl
theorem sidebandPoll (l : Nat) : Statement (.sidebandPoll l) := of_none rfl
theorem sidebandUnplug (l : Nat) : Statement (.sidebandUnplug l) := of_none rfl
theorem pong (l : Nat) : Statement (.pong l) := of_none rfl
theorem sidebandBadFrame (l : Nat) : Statement (.sidebandBadFrame l) := of_none rfl
theorem linkHello (l : Nat) (body : List Byte) : Statement (.linkHello l body) := of_none rfl
theorem linkHelloTimeout (l : Nat) : Statement (.linkHelloTimeout l) := of_none rfl
theorem linkSelectEcho (l : Nat) (body : List Byte) : Statement (.linkSelectEcho l body) := of_none rfl
theorem sidebandWake (l : Nat) : Statement (.sidebandWake l) := of_none rfl
theorem trainingStart (l : Nat) : Statement (.trainingStart l) := of_none rfl
theorem trainingComplete (l : Nat) (allotted reversed : List TrainingResult) (eyes : List Nat) : Statement (.trainingComplete l allotted reversed eyes) := of_none rfl
theorem trainingRetryTimer (l : Nat) : Statement (.trainingRetryTimer l) := of_none rfl
theorem alignComplete (l : Nat) : Statement (.alignComplete l) := of_none rfl
theorem alignTimeout (l : Nat) : Statement (.alignTimeout l) := of_none rfl
theorem retrainComplete (l : Nat) (results : List TrainingResult) : Statement (.retrainComplete l results) := of_none rfl
theorem dataFlit (l pair fec : Nat) (flit : List Byte) : Statement (.dataFlit l pair fec flit) := of_none rfl
theorem idleFlit (l pair fec : Nat) (flit : List Byte) : Statement (.idleFlit l pair fec flit) := of_none rfl
theorem ackFlit (l pair fec : Nat) (flit : List Byte) : Statement (.ackFlit l pair fec flit) := of_none rfl
theorem tagFlit (l pair fec : Nat) (flit : List Byte) : Statement (.tagFlit l pair fec flit) := of_none rfl
theorem swapAck (l pair fec : Nat) (flit : List Byte) : Statement (.swapAck l pair fec flit) := of_none rfl
theorem swapNak (l pair fec : Nat) (flit : List Byte) : Statement (.swapNak l pair fec flit) := of_none rfl
theorem swapDone (l pair fec : Nat) (flit : List Byte) : Statement (.swapDone l pair fec flit) := of_none rfl
theorem swapEosReceived (l : Nat) : Statement (.swapEosReceived l) := of_none rfl
theorem swapPairLocked (l : Nat) : Statement (.swapPairLocked l) := of_none rfl
theorem swapAckTimeout (l : Nat) : Statement (.swapAckTimeout l) := of_none rfl
theorem swapLockTimeout (l : Nat) (restored : Bool) : Statement (.swapLockTimeout l restored) := of_none rfl
theorem rekeyFlit (l pair fec : Nat) (flit : List Byte) : Statement (.rekeyFlit l pair fec flit) := of_none rfl
theorem rekeyFlitLimit (l : Nat) : Statement (.rekeyFlitLimit l) := of_none rfl
theorem idleReq (l pair fec : Nat) (flit : List Byte) : Statement (.idleReq l pair fec flit) := of_none rfl
theorem idleAck (l pair fec : Nat) (flit : List Byte) : Statement (.idleAck l pair fec flit) := of_none rfl
theorem sleepReq (l pair fec : Nat) (flit : List Byte) : Statement (.sleepReq l pair fec flit) := of_none rfl
theorem retrainReq (l pair fec : Nat) (flit : List Byte) : Statement (.retrainReq l pair fec flit) := of_none rfl
theorem pairOut (l pair fec : Nat) (flit : List Byte) : Statement (.pairOut l pair fec flit) := of_none rfl
theorem pairJoin (l pair fec : Nat) (flit : List Byte) : Statement (.pairJoin l pair fec flit) := of_none rfl
theorem resync (l pair fec : Nat) (flit : List Byte) : Statement (.resync l pair fec flit) := of_none rfl
theorem reservedControlFlit (l pair fec : Nat) (flit : List Byte) : Statement (.reservedControlFlit l pair fec flit) := of_none rfl
theorem ackTimer (l : Nat) : Statement (.ackTimer l) := of_none rfl
theorem nakTimer (l : Nat) : Statement (.nakTimer l) := of_none rfl
theorem replayTimer (l : Nat) : Statement (.replayTimer l) := of_none rfl
theorem sealGroupTimer (l : Nat) : Statement (.sealGroupTimer l) := of_none rfl
theorem flitTransmit (l : Nat) : Statement (.flitTransmit l) := of_none rfl
theorem quietPoint (l : Nat) : Statement (.quietPoint l) := of_none rfl
theorem demandWindow (l load : Nat) : Statement (.demandWindow l load) := of_none rfl
theorem allotRetryTimer (l : Nat) : Statement (.allotRetryTimer l) := of_none rfl
theorem pairFailure (l pair cause : Nat) : Statement (.pairFailure l pair cause) := of_none rfl
theorem soloRetrainTimer (pair : Nat) : Statement (.soloRetrainTimer pair) := of_none rfl
theorem soloRetrainDone (pair : Nat) (results : List TrainingResult) : Statement (.soloRetrainDone pair results) := of_none rfl
theorem lidleEntryTimer (l : Nat) : Statement (.lidleEntryTimer l) := of_none rfl
theorem lidleExit (l : Nat) : Statement (.lidleExit l) := of_none rfl
theorem authInit (ch : Chan) (pair fec : Nat) (data : List Byte) : Statement (.authInit ch pair fec data) := of_none rfl
theorem authProof (ch : Chan) (pair fec : Nat) (data : List Byte) : Statement (.authProof ch pair fec data) := of_none rfl
theorem authGo (ch : Chan) (pair fec : Nat) (data : List Byte) : Statement (.authGo ch pair fec data) := of_none rfl
theorem authAbort (ch : Chan) (pair fec : Nat) (data : List Byte) : Statement (.authAbort ch pair fec data) := of_none rfl
theorem authTimeout (ch : Chan) : Statement (.authTimeout ch) := of_none rfl
theorem creditStallTimer (l cls : Nat) : Statement (.creditStallTimer l cls) := of_none rfl
theorem detectEnableCommit (ctx l value : Nat) : Statement (.detectEnableCommit ctx l value) := of_none rfl
theorem landingRekeyCommit (ctx l : Nat) : Statement (.landingRekeyCommit ctx l) := of_none rfl
theorem allotInChange (ctx l value : Nat) : Statement (.allotInChange ctx l value) := of_none rfl
theorem pairEnableChange (ctx pair value : Nat) : Statement (.pairEnableChange ctx pair value) := of_none rfl
theorem ceilingWindow (l slot : Nat) : Statement (.ceilingWindow l slot) := of_none rfl
theorem guestAllowClear (ctx inst : Nat) : Statement (.guestAllowClear ctx inst) := of_none rfl
theorem networkFrame (l slot : Nat) (msg : List Byte) : Statement (.networkFrame l slot msg) := of_none rfl
theorem cellMatch : Statement (.cellMatch) := of_none rfl
theorem egressSelect (port unit : Nat) : Statement (.egressSelect port unit) := of_none rfl
theorem yardPortDown (port unit : Nat) : Statement (.yardPortDown port unit) := of_none rfl
theorem yardPortUp (port unit : Nat) : Statement (.yardPortUp port unit) := of_none rfl
theorem yardFlush (port unit : Nat) : Statement (.yardFlush port unit) := of_none rfl
theorem incastTimer (output : Nat) : Statement (.incastTimer output) := of_none rfl
theorem backpressureTimer (voq : Nat) : Statement (.backpressureTimer voq) := of_none rfl
theorem learnAgeExpiry (entry : Nat) : Statement (.learnAgeExpiry entry) := of_none rfl
theorem shunterDispatch : Statement (.shunterDispatch) := of_none rfl
theorem shunterEngineFault (engine : Nat) : Statement (.shunterEngineFault engine) := of_none rfl
theorem shunterDisable (ctx engine : Nat) : Statement (.shunterDisable ctx engine) := of_none rfl
theorem programLoad (ctx slot : Nat) (stores : List (Nat × Nat × Int)) : Statement (.programLoad ctx slot stores) := of_none rfl
theorem programUnload (ctx slot : Nat) : Statement (.programUnload ctx slot) := of_none rfl
theorem shaperRefill (n : Nat) : Statement (.shaperRefill n) := of_none rfl
theorem wheelSlotExpiry : Statement (.wheelSlotExpiry) := of_none rfl
theorem timetableEntryBoundary (port : Nat) : Statement (.timetableEntryBoundary port) := of_none rfl
theorem timetableCycleBoundary (port : Nat) : Statement (.timetableCycleBoundary port) := of_none rfl
theorem timetableCommit (ctx port : Nat) (stores : List (Nat × Nat × Int)) : Statement (.timetableCommit ctx port stores) := of_none rfl
theorem launchTimeReached (leaf : Nat) : Statement (.launchTimeReached leaf) := of_none rfl
theorem ethFrameReceived (mac : Nat) (frame : List Byte) : Statement (.ethFrameReceived mac frame) := of_none rfl
theorem pauseReceived (mac : Nat) (frame : List Byte) : Statement (.pauseReceived mac frame) := of_none rfl
theorem pauseWatchdogExpiry (mac : Nat) : Statement (.pauseWatchdogExpiry mac) := of_none rfl
theorem pauseHonourResume (mac : Nat) : Statement (.pauseHonourResume mac) := of_none rfl
theorem stormWindow (mac : Nat) : Statement (.stormWindow mac) := of_none rfl
theorem ethLinkChange (mac : Nat) (isUp : Bool) (speed fault : Nat) : Statement (.ethLinkChange mac isUp speed fault) := of_none rfl
theorem mdioRequest (ctx mac value : Nat) : Statement (.mdioRequest ctx mac value) := of_none rfl
theorem mdioDone (mac : Nat) (answered : Bool) (data : Nat) : Statement (.mdioDone mac answered data) := of_none rfl
theorem surfaceWrite (l slot : Nat) (msg : List Byte) : Statement (.surfaceWrite l slot msg) := of_none rfl
theorem tileDelta (l slot : Nat) (msg : List Byte) : Statement (.tileDelta l slot msg) := of_none rfl
theorem present (l slot : Nat) (msg : List Byte) : Statement (.present l slot msg) := of_none rfl
theorem turnJob (l slot : Nat) (msg : List Byte) : Statement (.turnJob l slot msg) := of_none rfl
theorem turnJobDone (l : Nat) : Statement (.turnJobDone l) := of_none rfl
theorem cloneCopyDone (layer : Nat) : Statement (.cloneCopyDone layer) := of_none rfl
theorem cloneStart (ctx layer source : Nat) (stores : List (Nat × Nat × Int)) : Statement (.cloneStart ctx layer source stores) := of_none rfl
theorem surfaceAllocate (ctx surface : Nat) (stores : List (Nat × Nat × Int)) : Statement (.surfaceAllocate ctx surface stores) := of_none rfl
theorem surfaceFree (ctx surface : Nat) : Statement (.surfaceFree ctx surface) := of_none rfl
theorem layerSurfaceStore (ctx layer surface : Nat) : Statement (.layerSurfaceStore ctx layer surface) := of_none rfl
theorem startOfBlanking (head : Nat) : Statement (.startOfBlanking head) := of_none rfl
theorem scanoutStart (ctx head : Nat) : Statement (.scanoutStart ctx head) := of_none rfl
theorem modeRestartDone (head us : Nat) : Statement (.modeRestartDone head us) := of_none rfl
theorem frameStart (head : Nat) : Statement (.frameStart head) := of_none rfl
theorem lineMatch (head : Nat) : Statement (.lineMatch head) := of_none rfl
theorem frameDone (head : Nat) : Statement (.frameDone head) := of_none rfl
theorem lineUnderrun (head line : Nat) : Statement (.lineUnderrun head line) := of_none rfl
theorem sinkAbsent (head : Nat) : Statement (.sinkAbsent head) := of_none rfl
theorem sinkPresent (head caps : Nat) (edid : List Nat) (answered intact : Bool) : Statement (.sinkPresent head caps edid answered intact) := of_none rfl
theorem hpdIrq (head : Nat) (lost : Bool) : Statement (.hpdIrq head lost) := of_none rfl
theorem dpTrainingDone (head : Nat) (ok : Bool) : Statement (.dpTrainingDone head ok) := of_none rfl
theorem dpTrainRetry (head : Nat) : Statement (.dpTrainRetry head) := of_none rfl
theorem refLost : Statement (.refLost) := of_none rfl
theorem refRestored (ms : Nat) : Statement (.refRestored ms) := of_none rfl
theorem ptpSync (port : Nat) (msg : List Byte) : Statement (.ptpSync port msg) := of_none rfl
theorem ptpFollowUp (port : Nat) (msg : List Byte) : Statement (.ptpFollowUp port msg) := of_none rfl
theorem ptpDelayReq (port : Nat) (msg : List Byte) : Statement (.ptpDelayReq port msg) := of_none rfl
theorem ptpDelayResp (port : Nat) (msg : List Byte) : Statement (.ptpDelayResp port msg) := of_none rfl
theorem ptpPdelayReq (port : Nat) (msg : List Byte) : Statement (.ptpPdelayReq port msg) := of_none rfl
theorem ptpPdelayResp (port : Nat) (msg : List Byte) : Statement (.ptpPdelayResp port msg) := of_none rfl
theorem ptpAnnounce (port : Nat) (msg : List Byte) : Statement (.ptpAnnounce port msg) := of_none rfl
theorem ptpUnsupported (port : Nat) (msg : List Byte) : Statement (.ptpUnsupported port msg) := of_none rfl
theorem ptpSyncTxTimer (port : Nat) : Statement (.ptpSyncTxTimer port) := of_none rfl
theorem ptpPdelayTxTimer (port : Nat) : Statement (.ptpPdelayTxTimer port) := of_none rfl
theorem ptpAnnounceTxTimer (port : Nat) : Statement (.ptpAnnounceTxTimer port) := of_none rfl
theorem syncLossTimeout : Statement (.syncLossTimeout) := of_none rfl
theorem clockStep (ctx : Nat) (ns : Int) (force : Bool) : Statement (.clockStep ctx ns force) := of_none rfl
theorem rateChange (ctx : Nat) (rate : Int) : Statement (.rateChange ctx rate) := of_none rfl
theorem hostLockCommit (ctx value : Nat) : Statement (.hostLockCommit ctx value) := of_none rfl
theorem triggerArm (ctx trigger : Nat) (stores : List (Nat × Nat × Int)) : Statement (.triggerArm ctx trigger stores) := of_none rfl
theorem triggerFire (trigger : Nat) : Statement (.triggerFire trigger) := of_none rfl
theorem cuePulseEnd (cue : Nat) : Statement (.cuePulseEnd cue) := of_none rfl
theorem ppsPulse : Statement (.ppsPulse) := of_none rfl
theorem ppsPulseEnd : Statement (.ppsPulseEnd) := of_none rfl
theorem storageTlpFromHost (l slot : Nat) (msg : List Byte) : Statement (.storageTlpFromHost l slot msg) := of_none rfl
theorem storageTlpFromSlot (n : Nat) (tlp : List Byte) : Statement (.storageTlpFromSlot n tlp) := of_none rfl
theorem slotPresence (n : Nat) : Statement (.slotPresence n) := of_none rfl
theorem slotPowerGood (n : Nat) : Statement (.slotPowerGood n) := of_none rfl
theorem slotPerstRelease (n : Nat) : Statement (.slotPerstRelease n) := of_none rfl
theorem slotLinkUp (n gen width mps : Nat) : Statement (.slotLinkUp n gen width mps) := of_none rfl
theorem slotTrainTimeout (n : Nat) : Statement (.slotTrainTimeout n) := of_none rfl
theorem slotEnableChange (ctx n value : Nat) : Statement (.slotEnableChange ctx n value) := of_none rfl
theorem surpriseRemoval (n : Nat) : Statement (.surpriseRemoval n) := of_none rfl
theorem slotLinkDown (n : Nat) : Statement (.slotLinkDown n) := of_none rfl
theorem postedWriteAck (n count : Nat) : Statement (.postedWriteAck n count) := of_none rfl
theorem cplTimeout (n : Nat) (toHost : Bool) : Statement (.cplTimeout n toHost) := of_none rfl
theorem handoverDrainEnd (n : Nat) : Statement (.handoverDrainEnd n) := of_none rfl
theorem handoverPerstEnd (n : Nat) : Statement (.handoverPerstEnd n) := of_none rfl
theorem holdDeferEnd (l : Nat) : Statement (.holdDeferEnd l) := of_none rfl
theorem farBusLockTimeout (n : Nat) : Statement (.farBusLockTimeout n) := of_none rfl
theorem access (l slot : Nat) (msg : List Byte) : Statement (.access l slot msg) := of_none rfl
theorem branchTransactionDone (n status cause pieces : Nat) (data : List Byte) : Statement (.branchTransactionDone n status cause pieces data) := of_none rfl
theorem canFrameReceived (n addr : Nat) (data : List Byte) (remote : Bool) : Statement (.canFrameReceived n addr data remote) := of_none rfl
theorem canTxPeriod (n frame : Nat) : Statement (.canTxPeriod n frame) := of_none rfl
theorem canErrorState (n st tec rec_ : Nat) : Statement (.canErrorState n st tec rec_) := of_none rfl
theorem i2cPoll (entry : Nat) : Statement (.i2cPoll entry) := of_none rfl
theorem signalsFlushTimer (l slot : Nat) : Statement (.signalsFlushTimer l slot) := of_none rfl
theorem signalSet (l slot : Nat) (msg : List Byte) : Statement (.signalSet l slot msg) := of_none rfl
theorem signalEnable (ctx entry : Nat) (stores : List (Nat × Nat × Int)) : Statement (.signalEnable ctx entry stores) := of_none rfl
theorem gpioEdge (levels : Nat) : Statement (.gpioEdge levels) := of_none rfl
theorem i2cTargetWrite (n reg : Nat) (data : List Byte) : Statement (.i2cTargetWrite n reg data) := of_none rfl
theorem i2cTargetRead (n reg len : Nat) : Statement (.i2cTargetRead n reg len) := of_none rfl
theorem targetReply (l slot : Nat) (msg : List Byte) : Statement (.targetReply l slot msg) := of_none rfl
theorem targetReplyTimeout (n reg : Nat) : Statement (.targetReplyTimeout n reg) := of_none rfl
theorem splitHoldExpiry (n reg : Nat) : Statement (.splitHoldExpiry n reg) := of_none rfl
theorem i2cRecoveryRetry (n : Nat) (recovered : Bool) : Statement (.i2cRecoveryRetry n recovered) := of_none rfl
theorem branchModeCommit (ctx n : Nat) (stores : List (Nat × Nat × Int)) : Statement (.branchModeCommit ctx n stores) := of_none rfl
theorem canTxPeriodCommit (ctx n frame period : Nat) : Statement (.canTxPeriodCommit ctx n frame period) := of_none rfl
theorem usbPowered (n : Nat) : Statement (.usbPowered n) := of_none rfl
theorem usbConnect (n speed : Nat) : Statement (.usbConnect n speed) := of_none rfl
theorem usbDisconnect (n : Nat) : Statement (.usbDisconnect n) := of_none rfl
theorem usbBounceHoldEnd (n : Nat) : Statement (.usbBounceHoldEnd n) := of_none rfl
theorem portReset (ctx n : Nat) : Statement (.portReset ctx n) := of_none rfl
theorem usbResetDone (n outcome speed refusal vid pid cls : Nat) : Statement (.usbResetDone n outcome speed refusal vid pid cls) := of_none rfl
theorem portSuspend (ctx n : Nat) : Statement (.portSuspend ctx n) := of_none rfl
theorem portResume (ctx n : Nat) (deviceK : Bool) : Statement (.portResume ctx n deviceK) := of_none rfl
theorem usbResumeDone (n : Nat) : Statement (.usbResumeDone n) := of_none rfl
theorem portPower (ctx n : Nat) (want : Bool) : Statement (.portPower ctx n want) := of_none rfl
theorem portEnableClear (ctx n : Nat) : Statement (.portEnableClear ctx n) := of_none rfl
theorem portTest (ctx n mode : Nat) : Statement (.portTest ctx n mode) := of_none rfl
theorem usbDeviceWake (n : Nat) : Statement (.usbDeviceWake n) := of_none rfl
theorem usbBabble (n index : Nat) : Statement (.usbBabble n index) := of_none rfl
theorem usbModeChange (ctx n mode : Nat) : Statement (.usbModeChange ctx n mode) := of_none rfl
theorem transfer (l slot need : Nat) (msg : List Byte) : Statement (.transfer l slot need msg) := of_none rfl
theorem transferDone (n index status actual : Nat) (data : List Byte) (lens : List Nat) : Statement (.transferDone n index status actual data lens) := of_none rfl
theorem cancel (l slot : Nat) (msg : List Byte) : Statement (.cancel l slot msg) := of_none rfl
theorem busSuspend (l slot : Nat) (msg : List Byte) : Statement (.busSuspend l slot msg) := of_none rfl
theorem busResume (l slot : Nat) (msg : List Byte) : Statement (.busResume l slot msg) := of_none rfl
theorem busReset (l slot : Nat) (msg : List Byte) : Statement (.busReset l slot msg) := of_none rfl
theorem proxyPointerReport (n len : Nat) (absolute : Bool) (x y : Int) (buttons wheel pan : Nat) : Statement (.proxyPointerReport n len absolute x y buttons wheel pan) := of_none rfl
theorem proxyKeyboardReport (n len : Nat) (consumer : Bool) (report : List Byte) : Statement (.proxyKeyboardReport n len consumer report) := of_none rfl
theorem legacyBusReset (l stage speed : Nat) (outCut inCut : Bool) : Statement (.legacyBusReset l stage speed outCut inCut) := of_none rfl
theorem legacySuspend (l : Nat) : Statement (.legacySuspend l) := of_none rfl
theorem legacyResume (l : Nat) : Statement (.legacyResume l) := of_none rfl
theorem legacyWakeSignal (l : Nat) (hostFirst : Bool) : Statement (.legacyWakeSignal l hostFirst) := of_none rfl
theorem legacyIdleReset (l : Nat) : Statement (.legacyIdleReset l) := of_none rfl
theorem legacyEnableChange (ctx l value : Nat) : Statement (.legacyEnableChange ctx l value) := of_none rfl
theorem getStatus (l fn : Nat) (setup : List Byte) : Statement (.getStatus l fn setup) := of_none rfl
theorem clearFeature (l fn : Nat) (setup : List Byte) : Statement (.clearFeature l fn setup) := of_none rfl
theorem setFeature (l fn : Nat) (setup : List Byte) : Statement (.setFeature l fn setup) := of_none rfl
theorem setAddress (l fn : Nat) (setup : List Byte) : Statement (.setAddress l fn setup) := of_none rfl
theorem getDescriptor (l fn : Nat) (setup : List Byte) : Statement (.getDescriptor l fn setup) := of_none rfl
theorem getConfiguration (l fn : Nat) (setup : List Byte) : Statement (.getConfiguration l fn setup) := of_none rfl
theorem setConfiguration (l fn : Nat) (setup : List Byte) : Statement (.setConfiguration l fn setup) := of_none rfl
theorem getInterface (l fn : Nat) (setup : List Byte) : Statement (.getInterface l fn setup) := of_none rfl
theorem setInterface (l fn : Nat) (setup : List Byte) : Statement (.setInterface l fn setup) := of_none rfl
theorem clearTtBuffer (l fn : Nat) (setup : List Byte) : Statement (.clearTtBuffer l fn setup) := of_none rfl
theorem resetTt (l fn : Nat) (setup : List Byte) : Statement (.resetTt l fn setup) := of_none rfl
theorem unsupportedRequest (l fn : Nat) (setup data : List Byte) : Statement (.unsupportedRequest l fn setup data) := of_none rfl
theorem feedEvaluation (samples : List (Int × Nat × Nat)) (vhv : Nat) : Statement (.feedEvaluation samples vhv) := of_none rfl
theorem fastTrip (n : Nat) (amps : Int) : Statement (.fastTrip n amps) := of_none rfl
theorem feedRetryTimer (n : Nat) : Statement (.feedRetryTimer n) := of_none rfl
theorem feedRetryCountReset (n : Nat) : Statement (.feedRetryCountReset n) := of_none rfl
theorem latchClear (ctx n : Nat) : Statement (.latchClear ctx n) := of_none rfl
theorem measurementRecord : Statement (.measurementRecord) := of_none rfl
theorem powerReq (l : Nat) (body : List Byte) : Statement (.powerReq l body) := of_none rfl
theorem powerAck (l : Nat) (body : List Byte) : Statement (.powerAck l body) := of_none rfl
theorem powerReduceTimeout (l : Nat) : Statement (.powerReduceTimeout l) := of_none rfl
theorem chargeBudgetCommit (ctx value : Nat) : Statement (.chargeBudgetCommit ctx value) := of_none rfl
theorem rngFault (test : Nat) : Statement (.rngFault test) := of_none rfl
theorem rngRecovered : Statement (.rngRecovered) := of_none rfl
theorem attestReq (ch : Chan) (msg : List Byte) : Statement (.attestReq ch msg) := of_none rfl
theorem mgmtSealedDatagram (mac : Nat) (frames : List (List Byte)) : Statement (.mgmtSealedDatagram mac frames) := of_none rfl
theorem mgmtSessionIdle : Statement (.mgmtSessionIdle) := of_none rfl
theorem sealedMessage (l : Nat) (msg : List Byte) : Statement (.sealedMessage l msg) := of_none rfl
theorem keyslotClaim (ctx k kind : Nat) : Statement (.keyslotClaim ctx k kind) := of_none rfl
theorem keyslotHmac (ctx k : Nat) (input : List Nat) : Statement (.keyslotHmac ctx k input) := of_none rfl
theorem keyslotSign (ctx k : Nat) (input : List Nat) : Statement (.keyslotSign ctx k input) := of_none rfl
theorem keyslotOpDone (k : Nat) : Statement (.keyslotOpDone k) := of_none rfl
theorem measureExtend (ctx : Nat) (digest : List Nat) : Statement (.measureExtend ctx digest) := of_none rfl
theorem tamperEvent (low : Bool) : Statement (.tamperEvent low) := of_none rfl
theorem tamperClear (ctx : Nat) : Statement (.tamperClear ctx) := of_none rfl
theorem lcAdvance (ctx value : Nat) : Statement (.lcAdvance ctx value) := of_none rfl
theorem updatePiece (ch : Chan) (msg : List Byte) : Statement (.updatePiece ch msg) := of_none rfl
theorem updateAbort (ch : Chan) (msg : List Byte) : Statement (.updateAbort ch msg) := of_none rfl
theorem pieceProgrammed (p : Nat) (ok : Bool) : Statement (.pieceProgrammed p ok) := of_none rfl
theorem updateAgeDiscard (p : Nat) : Statement (.updateAgeDiscard p) := of_none rfl
theorem activate (ctx : Nat) : Statement (.activate ctx) := of_none rfl
theorem activationStepDone (us : Nat) : Statement (.activationStepDone us) := of_none rfl
theorem confirm (ctx : Nat) : Statement (.confirm ctx) := of_none rfl
theorem autoConfirmExpiry : Statement (.autoConfirmExpiry) := of_none rfl
theorem ledgerAudit (errors : List (Nat × Nat × Int)) : Statement (.ledgerAudit errors) := of_none rfl
theorem ledgerReread (n : Nat) (fails : Bool) : Statement (.ledgerReread n fails) := of_none rfl
theorem ledgerRecount (n pause : Nat) (items : List (Nat × List Nat)) : Statement (.ledgerRecount n pause items) := of_none rfl
theorem portStall (port : Nat) : Statement (.portStall port) := of_none rfl
theorem eccCorrectedError (memory head page : Nat) : Statement (.eccCorrectedError memory head page) := of_none rfl
theorem eccUncorrectableError (memory unit addr hit : Nat) : Statement (.eccUncorrectableError memory unit addr hit) := of_none rfl
theorem governorTick (power sense readback : Nat) (paces : List Nat) : Statement (.governorTick power sense readback paces) := of_none rfl
theorem sprintDemandWindow (waited : Bool) : Statement (.sprintDemandWindow waited) := of_none rfl
theorem vcoreRampDone : Statement (.vcoreRampDone) := of_none rfl
theorem sprintLifetimeCharge : Statement (.sprintLifetimeCharge) := of_none rfl
theorem thermalSensorSample (k : Nat) (reading : Int) : Statement (.thermalSensorSample k reading) := of_none rfl
theorem thermalShutdown (k : Nat) : Statement (.thermalShutdown k) := of_none rfl
theorem powerTargetDeskStandby (ctx : Nat) : Statement (.powerTargetDeskStandby ctx) := of_none rfl
theorem powerTargetRunning (ctx : Nat) : Statement (.powerTargetRunning ctx) := of_none rfl
theorem powerTargetDeepStandby (ctx : Nat) : Statement (.powerTargetDeepStandby ctx) := of_none rfl
theorem standbyIdleExpiry : Statement (.standbyIdleExpiry) := of_none rfl
theorem deskStandbyWake (source : Nat) : Statement (.deskStandbyWake source) := of_none rfl
theorem deepStandbyShutdown : Statement (.deepStandbyShutdown) := of_none rfl
theorem pwrbtnPress (ms : Nat) : Statement (.pwrbtnPress ms) := of_none rfl
theorem pwrbtnHold : Statement (.pwrbtnHold) := of_none rfl
theorem sidebandWakePulse (l : Nat) : Statement (.sidebandWakePulse l) := of_none rfl
theorem vhvRise : Statement (.vhvRise) := of_none rfl
theorem vhvLoss : Statement (.vhvLoss) := of_none rfl
theorem railStepComplete : Statement (.railStepComplete) := of_none rfl
theorem railStepTimeout : Statement (.railStepTimeout) := of_none rfl
theorem railSequenceRetry : Statement (.railSequenceRetry) := of_none rfl
theorem railLost : Statement (.railLost) := of_none rfl
theorem startUp (facts : StartFacts) : Statement (.startUp facts) := of_none rfl
theorem referenceAbsent : Statement (.referenceAbsent) := of_none rfl
theorem resetN : Statement (.resetN) := of_none rfl
theorem warmReset (ctx : Nat) (same : Bool) : Statement (.warmReset ctx same) := of_none rfl
theorem watchdogReset : Statement (.watchdogReset) := of_none rfl
theorem pmfWatchdog : Statement (.pmfWatchdog) := of_none rfl
theorem heldContextExpiry (n : Nat) : Statement (.heldContextExpiry n) := of_none rfl
theorem contextReset (ctx n : Nat) : Statement (.contextReset ctx n) := of_none rfl
theorem f15ConfigStore (ctx elem value : Nat) : Statement (.f15ConfigStore ctx elem value) := of_none rfl
theorem resetNRelease : Statement (.resetNRelease) := of_none rfl
theorem vwakeFirstApplied : Statement (.vwakeFirstApplied) := of_none rfl
theorem vwakeLoss : Statement (.vwakeLoss) := of_none rfl
theorem depotSelfRefreshReturn : Statement (.depotSelfRefreshReturn) := of_none rfl
theorem lkfLandingAwaitExpiry (l : Nat) : Statement (.lkfLandingAwaitExpiry l) := of_none rfl
theorem poweredTimeUpdate : Statement (.poweredTimeUpdate) := of_none rfl
theorem followUpTimeout (port : Nat) : Statement (.followUpTimeout port) := of_none rfl

end Sys2Proof.Laws.WordProgram
end

