-- ==== Sys2Proof/Tests/Slice0.lean ====
section
/-! SUPPORT. The model's own tests: which instances a command may name, how Knaen words read, single steps on small states, and for every
statement with hypotheses a state and operands that meet them together. -/

open Sys2Proof Sys2Proof.Machine

namespace Sys2Proof.Tests

section

set_option Elab.async false
set_option linter.unusedVariables false

/-! ### Well-formed commands -/

/-- Commands that name the last instance of each kind are well formed (R1, R2, R121, R129, R259, R268 and each class of the object model). -/
theorem test_last_instances_exist :
    (([.halt (.manifest 5) 0 0 0 0, .halt (.shunter 7 15) 0 0 0 0, .waitDelayExpiry 5, .shunterProgramStart 7 15,
    .helloMessage (.ldl 3) [], .helloMessage (.legacy 3) [], .standingClear 5 15, .sidebandPoll 3, .dataFlit 3 3 0 [],
    .soloRetrainTimer 15, .authInit (.ldl 3) 3 0 [], .authInit (.legacy 3) 9 0 [], .authInit .mgmt 1 0 [],
    .creditStallTimer 3 7, .detectEnableCommit 5 3 0, .pairEnableChange 5 15 0, .ceilingWindow 3 2047, .guestAllowClear 5 31,
    .egressSelect 6 2, .egressSelect 15 0, .incastTimer 15, .backpressureTimer 2047, .learnAgeExpiry 8191,
    .shunterEngineFault 7, .shunterDisable 5 7, .programLoad 5 63 [], .shaperRefill 2175, .timetableEntryBoundary 15,
    .timetableCommit 5 15 [], .launchTimeReached 2047] ++
    [.ethFrameReceived 1 [], .mdioRequest 5 1 0, .cloneCopyDone 31, .cloneStart 5 31 0 [], .surfaceAllocate 5 1023 [],
    .startOfBlanking 3, .scanoutStart 5 3, .ptpSync 5 [], .triggerArm 5 31 [], .triggerFire 31, .cuePulseEnd 7,
    .storageTlpFromSlot 1 [], .slotEnableChange 5 1 0, .farBusLockTimeout 5, .canTxPeriod 1 15, .i2cPoll 2047,
    .signalEnable 5 2047 [], .i2cTargetWrite 3 255 [], .i2cRecoveryRetry 3 false, .branchModeCommit 5 5 [], .usbPowered 7,
    .usbModeChange 5 7 0, .fastTrip 15 0, .latchClear 5 15, .keyslotClaim 5 31 0, .keyslotOpDone 31, .pieceProgrammed 4 false,
    .ledgerReread 30 false, .eccCorrectedError 6 3 16383, .eccUncorrectableError 6 0 0 0] ++
    [.thermalSensorSample 11 0, .deskStandbyWake 9] : List Instr).all (fun i => i.inRange)) = true := by decide +kernel

/-- Commands that name an instance the hardware lacks are not. -/
theorem test_missing_instances_refused :
    (([.halt (.manifest 6) 0 0 0 0, .halt (.shunter 8 15) 0 0 0 0, .halt (.shunter 7 16) 0 0 0 0, .waitDelayExpiry 6,
    .shunterProgramStart 8 15, .shunterProgramStart 7 16, .helloMessage (.ldl 4) [], .helloMessage (.legacy 4) [],
    .standingClear 6 15, .standingClear 5 16, .sidebandPoll 4, .dataFlit 4 3 0 [], .dataFlit 3 4 0 [], .soloRetrainTimer 16,
    .authInit (.ldl 3) 4 0 [], .authInit (.ldl 4) 3 0 [], .authInit (.legacy 4) 0 0 [], .authInit .mgmt 2 0 [],
    .creditStallTimer 4 7, .creditStallTimer 3 8, .detectEnableCommit 6 3 0, .detectEnableCommit 5 4 0,
    .pairEnableChange 6 15 0, .pairEnableChange 5 16 0, .ceilingWindow 4 2047, .ceilingWindow 3 2048, .guestAllowClear 6 31,
    .guestAllowClear 5 32, .egressSelect 6 0, .egressSelect 6 3] ++
    [.egressSelect 16 0, .egressSelect 15 1, .incastTimer 16, .backpressureTimer 2048, .learnAgeExpiry 8192,
    .shunterEngineFault 8, .shunterDisable 6 7, .shunterDisable 5 8, .programLoad 6 63 [], .programLoad 5 64 [],
    .shaperRefill 2176, .timetableEntryBoundary 16, .timetableCommit 6 15 [], .timetableCommit 5 16 [],
    .launchTimeReached 2048, .ethFrameReceived 2 [], .mdioRequest 6 1 0, .mdioRequest 5 2 0, .cloneCopyDone 32,
    .cloneStart 6 31 0 [], .cloneStart 5 32 0 [], .surfaceAllocate 6 1023 [], .surfaceAllocate 5 1024 [], .startOfBlanking 4,
    .scanoutStart 6 3, .scanoutStart 5 4, .ptpSync 6 [], .triggerArm 6 31 [], .triggerArm 5 32 [], .triggerFire 32] ++
    [.cuePulseEnd 8, .storageTlpFromSlot 2 [], .slotEnableChange 6 1 0, .slotEnableChange 5 2 0, .farBusLockTimeout 6,
    .canTxPeriod 2 15, .canTxPeriod 1 16, .i2cPoll 2048, .signalEnable 6 2047 [], .signalEnable 5 2048 [],
    .i2cTargetWrite 4 255 [], .i2cTargetWrite 3 256 [], .i2cTargetWrite 1 255 [], .i2cRecoveryRetry 4 false,
    .i2cRecoveryRetry 1 false, .branchModeCommit 6 5 [], .branchModeCommit 5 6 [], .usbPowered 8, .usbModeChange 6 7 0,
    .usbModeChange 5 8 0, .fastTrip 16 0, .latchClear 6 15, .latchClear 5 16, .keyslotClaim 6 31 0, .keyslotClaim 5 32 0,
    .keyslotOpDone 32, .pieceProgrammed 5 false, .ledgerReread 31 false, .eccCorrectedError 6 4 16383,
    .eccCorrectedError 6 3 16384] ++
    [.eccCorrectedError 7 3 16383, .eccCorrectedError 0 3 16383, .eccUncorrectableError 7 0 0 0, .eccUncorrectableError 0 0 0 0,
    .thermalSensorSample 12 0, .deskStandbyWake 10] : List Instr).all (fun i => !i.inRange)) = true := by decide +kernel

/-- A row of other words is refused: an opcode with a row of its own, a kind of another COMMIT or WAIT row, a CSUM fix written as a sum (R55, R67). -/
theorem test_rows_of_other_words_refused :
    [Instr.executeReservedOpcode (.manifest 0) 0x26#6 0, .executeReservedOpcode (.manifest 0) 0x3B#6 0, .commitReservedKind (.manifest 0) 0 0 5 0,
      .waitDelay (.manifest 0) 0 0 5 0, .csumCompute (.manifest 0) 0 0 0 1].all (fun i => i.inRange && !i.formOk) = true := by decide +kernel

/-! ### Knaen words, written out from the formats of R54 and the opcodes of R59 to R67 -/

theorem test_halt_word (p : ProgId) : knaenDecode p 0x00000000#32 = .halt p 0 0 0 0 := rfl
theorem test_add_word (p : ProgId) : knaenDecode p 0b00010100110001001000000000000000#32 = .add p 3 1 2 0 := rfl
theorem test_lit_word (p : ProgId) : knaenDecode p 0b00001001010000111111111111111111#32 = .lit p 5 0 0x3FFFF := rfl
theorem test_shl_word (p : ProgId) : knaenDecode p 0b00111100010010000010000000000111#32 = .shl p 1 2 0 0x2007 := rfl
theorem test_br_word (p : ProgId) : knaenDecode p 0b01010100010000111111111111111110#32 = .br p 1 0 0x3FFFE := rfl
theorem test_set_word (p : ProgId) : knaenDecode p 0b01101001000001000000000110000011#32 = .set p 4 1 6 3 := rfl
theorem test_commit_word (p : ProgId) : knaenDecode p 0b01111000100011001100000000000000#32 = .commitTime p 2 3 0 := rfl
theorem test_own_word (p : ProgId) : knaenDecode p 0b10000100010000100000000000000101#32 = .ownForce p 1 0 5 := rfl
theorem test_count_word (p : ProgId) : knaenDecode p 0b11101100010010000000000000001010#32 = .count p 1 2 0 10 := rfl
theorem test_reserved_word (p : ProgId) : knaenDecode p 0b10011100000000000000000000000001#32 = .executeReservedOpcode p 0x27 1 := rfl

/-! ### States the tests use -/

/-- The machine after reset with the main die up. -/
def up : Hub := { State.reset.hub with mainUp := true }
def down : Hub := { up with mainUp := false }
/-- A field committed and in effect. -/
def both (h : Hub) (f : Fld) (i v : Nat) : Hub := (h.set f i v).take f i
/-- One message waiting in a port's inbox. -/
def inbox (port : Nat) (e : Nat × Nat × List Byte) : Hub := up.modYard (fun y => { y with inbox := y.inbox.write (fun _ => []) port [e] })
/-- Context C4 up with one message in the local port's FIFO. -/
def fifo (m : List Byte) : Hub := { up.set F.CONTEXT.STATE 4 1 with fifoIn := [m] }
def ctlMsg (type body0 : Nat) (rest : List Byte) : List Byte := leBytes 2 (type + 256) ++ [4, 0, 0, 0] ++ leBytes 2 (1 + rest.length) ++ leBytes 1 body0 ++ rest
def zeros (n : Nat) : List Byte := List.replicate n 0
def gotten (h : Hub) (m : List Byte) : Hub := ((h.takeControl .localPort m).getD (up, false)).1
def setWait (e : Epoch) : WaitSet := { head := { ctx := 5 }, words := [], epoch := e, kind := 3, deadline := 9, staged := [], notes := [], clamps := [], steps := 0 }
def onLeaf (p : Pkt) : LeafPkt := { id := 0, input := 0, pkt := p, slot := 0, reserve := 0, shared := 262144, whole := true }
def msgTo (type : Nat) : OutMsg := { chan := .localPort, ctx := 4, type := type, seq := 0, body := [] }
/-- A whole UDP datagram in one Ethernet frame, its payload empty. -/
def datagram : List Byte := zeros 12 ++ [8, 0, 0x45, 0, 0, 28] ++ zeros 20 ++ [0, 8, 0, 0]
def lit (h : Hub) (n : Nat) : Hub := both h F.HEAD.SCANOUT n 1
def swapping (w : Swap) : Hub := up.modLink 3 (fun k => { k with swap := some w })
/-- The machine with its feed die powered. -/
def fed : Hub := up.modIsland (fun k => { k with step := 8 })
/-- A feed-die timer running. -/
def feedAt (h : Hub) (kind inst t : Nat) : Hub := { h with feedTimers := h.feedTimers.write (fun _ => 0) (timerKey kind inst) (t + 1) }
/-- A training frame of L3's pair m with its own number as source and target, ready, and a result that passes in both directions. -/
def heardFrame (m : Nat) : List Byte := trainingHead m m 0 true false ++ zeros 512
def heard (m : Nat) : TrainingResult := { pair := m, frame := heardFrame m, bits := 200000000, errors := 0 }
/-- An enabled port of L3 with one PTP message of a kind waiting. -/
def ptpIn (kind : Nat) : Hub := (inbox 11 (3, 0, zeros 10 ++ [0, 0, 5, 0, 0, 0, 0, 0] ++ leBytes 1 kind ++ zeros 4)).set F.PTPPORT.ENABLE 3 1
theorem ptp_arrives {h : Hub} {i : Nat} {m : List Byte} {kinds : List Nat} (e : Nat × Nat × List Byte)
    (h1 : h.ptpWaiting i m = some e ∧ kinds.contains (byteAt m 0 % 16) = true ∧ ((h.takeInbox 11 e.1 e.2.1 e.2.2).ptpWindow i).on F.PTPPORT.ENABLE i = true ∧
      byteAt m 4 = ((h.takeInbox 11 e.1 e.2.1 e.2.2).ptpWindow i).get F.CLOCK.DOMAIN 0 ∧ (((h.takeInbox 11 e.1 e.2.1 e.2.2).ptpWindow i).ptp i).windowCount < 1000) :
    ∃ g t, PtpArrives h i m kinds g t := ⟨_, _, e, h1.1, h1.2.1, rfl, h1.2.2.1, h1.2.2.2.1, h1.2.2.2.2, rfl⟩

/-! ### Witnesses: the machine and Knaen -/

/-- The last Manifest context and the last Shunter thread. -/
abbrev m5 : ProgId := .manifest 5
abbrev sh : ProgId := .shunter 7 15
def withProg (p : ProgId) (q : Prog) : State := ⟨up.setProg (progKey p) q, []⟩
/-- A program at its first word, w1 = 5, w2 = the most negative number, w3 all ones. -/
def prog (w : Word) : Prog := (((({ words := [w, 7#32] } : Prog).setReg 1#4 5#32).setReg 2#4 0x80000000#32).setReg 3#4 0xFFFFFFFF#32).setReg 15#4 0x00050005#32
def shProg (w : Word) : Prog := { prog w with shunter := true, job := { bytes := zeros 16 } }
def isAt (s : State) (p : ProgId) (w : Word) (q : Prog) : Bool :=
  s.hub.mainUp && progExists p && decide (s.hub.prog (progKey p) = some q) && s.hub.executes p q w && decide (q.steps < s.hub.stepLimit q)
theorem at_of {s : State} {p : ProgId} {w : Word} {q : Prog} (h : isAt s p w q = true) : At s p w q := by
  simp only [isAt, Bool.and_eq_true, decide_eq_true_eq] at h
  exact ⟨h.1.1.1.1, h.1.1.1.2, h.1.1.2, h.1.2, h.2⟩
theorem all_at {ws : List Word} {p : ProgId} {f : Word → Prog}
    (h : ws.all (fun w => decide ((f w).regs.wf (fun _ => 0#32) = true) && isAt (withProg p (f w)) p w (f w)) = true) :
    ∀ w ∈ ws, (f w).canonical ∧ At (withProg p (f w)) p w (f w) := fun w hw => by
  have := List.all_eq_true.mp h w hw
  rw [Bool.and_eq_true, decide_eq_true_eq] at this
  exact ⟨this.1, at_of this.2⟩

theorem witness_StepCarriesOutFrontCommand : ∃ (c : Instr) (rest : List Instr) (s : State), s.pending = c :: rest := ⟨.cellMatch, [], ⟨up, [.cellMatch]⟩, rfl⟩
theorem witness_IdleStepTicksLocalCounter : State.reset.pending = [] := rfl
theorem witness_CommandsGoOnUnlessInstanceMissing : (Instr.startOfBlanking 3).inRange = true ∧ (Instr.startOfBlanking 4).inRange = false := by decide +kernel
theorem witness_RealQueueIsKeptAndRunsToItsEnd : ∃ s t : State, s.queueReal ∧ s.pending ≠ [] ∧ step s = .next t := by
  refine ⟨⟨up, [.rngFault 0]⟩, _, ?_, by simp, rfl⟩
  intro c hc
  cases List.mem_singleton.mp hc
  rfl
theorem witness_MainDieDownHoldsItsCommands :
    ∃ (i : Instr) (s : State), s.hub.mainUp = false ∧ i.inRange = true ∧ besideMainDie i = false := ⟨.startOfBlanking 3, ⟨down, []⟩, by decide +kernel⟩
theorem witness_KnaenDecodeUndoesEncode :
    ∃ (i : Instr) (p : ProgId) (w : Word), i.formOk = true ∧ knaenWord i = some (p, w) := ⟨.count m5 15 15 0 0x3FFF, _, _, rfl, rfl⟩
theorem witness_AddSubtractCompareResults :
    ∀ w ∈ [wordA 0x05#6 15#4 3#4 3#4 0#14, wordI 0x06#6 15#4 2#4 0x20000#18, wordA 0x07#6 15#4 2#4 1#4 0#14, wordA 0x14#6 0#4 2#4 1#4 0#14,
      wordA 0x14#6 15#4 2#4 1#4 0#14], (prog w).canonical ∧ At (withProg m5 (prog w)) m5 w (prog w) := all_at (by decide +kernel)
theorem witness_MoveLogicMinAndMaxResults :
    ∀ w ∈ [wordA 0x04#6 0#4 3#4 0#4 0#14, wordA 0x0a#6 15#4 3#4 2#4 0#14, wordA 0x0b#6 15#4 3#4 2#4 0#14, wordA 0x0c#6 15#4 3#4 2#4 0#14,
      wordI 0x0d#6 15#4 3#4 0x3FFFF#18, wordI 0x0e#6 15#4 3#4 0x20000#18, wordA 0x12#6 15#4 3#4 2#4 0#14, wordA 0x12#6 15#4 3#4 2#4 1#14,
      wordA 0x13#6 15#4 3#4 2#4 0#14, wordA 0x13#6 15#4 3#4 2#4 1#14], (prog w).canonical ∧ At (withProg m5 (prog w)) m5 w (prog w) :=
  all_at (by decide +kernel)
theorem witness_MultiplyResults :
    ∀ w ∈ [wordA 0x08#6 15#4 3#4 2#4 0#14, wordA 0x09#6 15#4 3#4 2#4 0#14, wordA 0x09#6 15#4 3#4 2#4 1#14],
      (shProg w).canonical ∧ At (withProg sh (shProg w)) sh w (shProg w) := all_at (by decide +kernel)
theorem witness_ShiftResults :
    (∀ w ∈ [wordA 0x0f#6 15#4 3#4 3#4 0#14, wordA 0x10#6 15#4 3#4 0#4 0x201F#14, wordA 0x11#6 15#4 3#4 0#4 0x2000#14, wordA 0x0f#6 15#4 3#4 3#4 0x20#14,
      wordA 0x10#6 15#4 3#4 1#4 0x2000#14, wordA 0x11#6 15#4 3#4 1#4 1#14], (prog w).canonical ∧ At (withProg m5 (prog w)) m5 w (prog w)) ∧
    31 = ((prog 0).reg 3#4).toNat % 32 ∧ (0x201F#14 = BitVec.ofNat 14 (2 ^ 13 + 31)) ∧ (0x20#14).extractLsb' 5 8 ≠ 0#8 :=
  ⟨all_at (by decide +kernel), by decide +kernel⟩
theorem witness_HaltNopAndLiteralResults :
    (∀ w ∈ [wordA 0x00#6 0#4 0#4 0#4 0#14, wordA 0x01#6 0#4 0#4 0#4 0#14, wordI 0x02#6 15#4 0#4 0x20000#18, wordI 0x03#6 15#4 0#4 0#18],
      (prog w).canonical ∧ At (withProg m5 (prog w)) m5 w (prog w)) ∧ (prog 0).words[0 + 1]? = some 7#32 ∧
    ∃ q : Prog, q.canonical ∧ At (withProg m5 q) m5 (wordI 0x03#6 15#4 0#4 0#18) q ∧ q.words[q.pc + 1]? = none :=
  ⟨all_at (by decide +kernel), rfl, { words := [wordI 0x03#6 15#4 0#4 0#18] }, by unfold Prog.canonical; decide +kernel, at_of (by decide +kernel), rfl⟩
theorem witness_TimeResults :
    ∀ w ∈ [wordA 0x24#6 15#4 0#4 0#4 0#14, wordA 0x24#6 15#4 14#4 0#4 1#14, wordA 0x24#6 15#4 15#4 0#4 1#14],
      (prog w).canonical ∧ At (withProg m5 (prog w)) m5 w (prog w) := all_at (by decide +kernel)
theorem witness_BranchCallAndReturn :
    (∀ w ∈ [wordI 0x15#6 13#4 0#4 0#18, wordI 0x15#6 0#4 0#4 0#18, wordI 0x15#6 12#4 3#4 0#18, wordI 0x15#6 12#4 0#4 1#18, wordI 0x16#6 13#4 0#4 0#18,
      wordI 0x16#6 0#4 0#4 0#18, wordI 0x16#6 12#4 3#4 0#18, wordI 0x16#6 12#4 0#4 1#18, wordI 0x17#6 13#4 0#4 0#18, wordI 0x17#6 0#4 0#4 0#18,
      wordI 0x17#6 12#4 0#4 0#18, wordI 0x17#6 12#4 0#4 1#18], (prog w).canonical ∧ At (withProg m5 (prog w)) m5 w (prog w)) ∧
    (prog 0).cond 13#4 = none ∧ (prog 0).cond 0#4 = some false ∧ (prog 0).cond 12#4 = some true ∧ (prog 0).stack = [] ∧
    (0 ≤ (0 : Int) + (1#18).toInt ∧ (0 : Int) + (1#18).toInt < 2 ∧ 1 ∉ literals 0 [wordI 0x15#6 12#4 0#4 1#18, 7#32]) ∧
    (∃ q : Prog, At (withProg m5 q) m5 (wordI 0x16#6 12#4 0#4 1#18) q ∧ 16 ≤ q.stack.length) ∧
    (∃ q : Prog, At (withProg m5 q) m5 (wordI 0x17#6 12#4 0#4 0#18) q ∧ q.stack = [1]) ∧
    (∃ q : Prog, At (withProg m5 q) m5 (wordI 0x17#6 12#4 0#4 0#18) q ∧ q.stack = [2]) :=
  ⟨all_at (by decide +kernel), by decide +kernel, by decide +kernel, by decide +kernel, by decide +kernel, by decide +kernel,
    ⟨{ words := [wordI 0x16#6 12#4 0#4 1#18, 7#32], stack := List.replicate 16 1 }, at_of (by decide +kernel), by decide +kernel⟩,
    ⟨{ words := [wordI 0x17#6 12#4 0#4 0#18, 7#32], stack := [1] }, at_of (by decide +kernel), rfl⟩,
    ⟨{ words := [wordI 0x17#6 12#4 0#4 0#18, 7#32], stack := [2] }, at_of (by decide +kernel), rfl⟩⟩
theorem witness_ProgramGoesOnAlone :
    ∃ (p : ProgId) (r t : Prog), progExists p = true ∧ r.block = none ∧ r.pc < r.words.length ∧ t.block = none ∧ t.words.length ≤ t.pc :=
  ⟨sh, shProg 0, { shProg 0 with pc := 2 }, by decide +kernel⟩
theorem witness_StepLimitOpcodeAndProfileFaults :
    (∃ (i : Instr) (s : State) (w : Word) (q : Prog), i.formOk = true ∧ knaenWord i = some (m5, w) ∧ s.hub.mainUp = true ∧ progExists m5 = true ∧
      s.hub.prog (progKey m5) = some q ∧ s.hub.executes m5 q w = true ∧ s.hub.stepLimit q ≤ q.steps) ∧
    (∀ w ∈ [0x9C000000#32, 0xBC000000#32, 0xF0000000#32, wordA 0x30#6 1#4 1#4 0#4 0#14, wordE 0x3b#6 1#4 1#4 0#4 0#14],
      (prog w).canonical ∧ At (withProg m5 (prog w)) m5 w (prog w)) ∧
    (∀ w ∈ [wordI 0x18#6 1#4 1#4 0#18, wordA 0x26#6 0#4 1#4 0#4 0#14], (shProg w).canonical ∧ At (withProg sh (shProg w)) sh w (shProg w)) :=
  ⟨⟨.nop m5 0 0 0 0, withProg m5 { prog 0x04000000#32 with steps := 65536 }, 0x04000000#32, { prog 0x04000000#32 with steps := 65536 }, by decide +kernel⟩,
    all_at (by decide +kernel), all_at (by decide +kernel)⟩
theorem witness_ReservedBitsFault :
    ∀ w ∈ [wordA 0x00#6 0#4 0#4 0#4 1#14, wordA 0x01#6 15#4 0#4 0#4 0#14, wordA 0x04#6 1#4 1#4 1#4 0#14, wordA 0x05#6 1#4 1#4 1#4 0x2000#14,
      wordA 0x07#6 1#4 1#4 1#4 1#14, wordA 0x08#6 1#4 1#4 1#4 1#14, wordA 0x0a#6 1#4 1#4 1#4 1#14, wordA 0x0b#6 1#4 1#4 1#4 1#14,
      wordA 0x0c#6 1#4 1#4 1#4 1#14, wordA 0x14#6 0#4 1#4 1#4 1#14], (prog w).canonical ∧ At (withProg m5 (prog w)) m5 w (prog w) :=
  all_at (by decide +kernel)

/-! ### Witnesses: the Manifest profile -/

theorem witness_OpenWritesTheObjectsHandle :
    (∀ w ∈ [wordI 0x18#6 15#4 1#4 (BitVec.ofNat 18 (0x24 * 1024)), wordI 0x18#6 15#4 1#4 1#18, wordI 0x18#6 15#4 0#4 0#18],
      (prog w).canonical ∧ At (withProg m5 (prog w)) m5 w (prog w)) ∧
    (0x24 : Nat) ≤ (BitVec.ofNat 18 (0x24 * 1024)).toNat / 2 ^ 10 ∧ classInstances 0 ≤ 5 + 1 ∧ 0 < classInstances 0 ∧
    handleOf 0x00010005#32 = some (1, 5) := ⟨all_at (by decide +kernel), by decide +kernel⟩
/-- CONTEXT.COMMIT_TIMEOUT of C5, whose handle stands in w15 in place of 0x00050005. -/
def onField (op : BitVec 6) (f : Fld) (inst : Nat) (staged : List Staged) : Prog :=
  { (prog (wordF op 1#4 15#4 (BitVec.ofNat 12 f.num) 0#6)).setReg 15#4 (BitVec.ofNat 32 (f.cls * 2 ^ 16 + inst)) with head := { ctx := 5 }, staged := staged }
def fieldWord (op : BitVec 6) (f : Fld) : Word := wordF op 1#4 15#4 (BitVec.ofNat 12 f.num) 0#6
def fieldAt (op : BitVec 6) (f : Fld) (inst : Nat) (staged : List Staged) (p : FieldRef → Prog → Bool) : Bool :=
  let q := onField op f inst staged
  isAt (withProg m5 q) m5 (fieldWord op f) q && decide (q.regs.wf (fun _ => 0#32) = true) &&
    (match q.fieldOperand 1#4 15#4 (BitVec.ofNat 12 f.num) 0#6 with | .ok r => p r q | .error _ => false)
theorem field_at {op : BitVec 6} {f : Fld} {inst : Nat} {staged : List Staged} {p : FieldRef → Prog → Bool} (h : fieldAt op f inst staged p = true) :
    ∃ (q : Prog) (r : FieldRef), q.canonical ∧ At (withProg m5 q) m5 (fieldWord op f) q ∧
      q.fieldOperand 1#4 15#4 (BitVec.ofNat 12 f.num) 0#6 = .ok r ∧ p r q = true := by
  unfold fieldAt at h
  simp only [Bool.and_eq_true, decide_eq_true_eq] at h
  obtain ⟨⟨h1, h2⟩, h3⟩ := h
  split at h3
  · exact ⟨_, _, h2, at_of h1, by assumption, h3⟩
  · cases h3
theorem witness_GetReadsLiveAndGetsStaged :
    (∀ p ∈ [fieldAt 0x19#6 F.CONTEXT.COMMIT_TIMEOUT 5 [] (fun r _ => up.mayRead 5 r.info r.cls r.inst),
      fieldAt 0x19#6 F.TOKEN.LAST_MOVE 56 [] (fun r _ => r.info.wide && up.mayRead 5 r.info r.cls r.inst),
      fieldAt 0x1d#6 F.CONTEXT.COMMIT_TIMEOUT 5 [⟨F.CONTEXT.COMMIT_TIMEOUT.cls, 5, F.CONTEXT.COMMIT_TIMEOUT.num, 0, 9⟩] (fun r q => q.stagedValue r == some 9),
      fieldAt 0x1d#6 F.CONTEXT.COMMIT_TIMEOUT 5 [] (fun r q => q.stagedValue r == none && up.mayRead 5 r.info r.cls r.inst),
      fieldAt 0x19#6 F.CONTEXT.PFL_ENTRY_LO 4 [] (fun r _ => !up.mayRead 5 r.info r.cls r.inst),
      fieldAt 0x1d#6 F.CONTEXT.PFL_ENTRY_LO 4 [] (fun r q => q.stagedValue r == none && !up.mayRead 5 r.info r.cls r.inst)], p = true) := by
  decide +kernel
theorem witness_SetStagesCheckedValue :
    ∀ p ∈ [fieldAt 0x1a#6 F.CONTEXT.COMMIT_TIMEOUT 5 [] (fun _ _ => true), fieldAt 0x1b#6 F.CONTEXT.COMMIT_TIMEOUT 5 [] (fun _ q => q.level != 0x10),
      fieldAt 0x1c#6 F.CONTEXT.COMMIT_TIMEOUT 5 [] (fun r q => match q.maskOperand 1#4 15#4 (BitVec.ofNat 12 F.CONTEXT.COMMIT_TIMEOUT.num) 0#6 with
        | .ok x => x == r | .error _ => false)], p = true := by decide +kernel
def timeoutInfo : FieldInfo := fu "COMMIT_TIMEOUT" 16 1 60000 [] 1 1000 .commit
theorem witness_StoresStayInRange :
    (∃ (f : FieldInfo) (v : Int), f.type = .unsigned ∧ f.ranged v = true ∧ f.lo ≤ f.hi ∧ 0 < f.step ∧ (f.hi - f.lo) % (f.step : Int) = 0 ∧ f.hi < v) ∧
    (∃ (q : Storing) (f : FieldInfo) (x : Nat), (q.store f F.CONTEXT.COMMIT_TIMEOUT.cls 5 F.CONTEXT.COMMIT_TIMEOUT.num 0 60000 [] true).value = some x) :=
  ⟨⟨timeoutInfo, 60001, by decide +kernel⟩,
   ⟨(onField 0x1a#6 F.CONTEXT.COMMIT_TIMEOUT 5 []).storing up, timeoutInfo, 60000, by decide +kernel⟩⟩
def set4 : List WaitSet := List.replicate 4 (setWait (.time 7))
def staged1 : Staged := ⟨F.CONTEXT.COMMIT_TIMEOUT.cls, 5, F.CONTEXT.COMMIT_TIMEOUT.num, 0, 9⟩
def c5 (w : Word) : Prog := { prog w with head := { ctx := 5 } }
theorem witness_CommitHandsOverTheSet :
    (∀ w ∈ [wordE 0x1e#6 0#4 0#4 0#4 0#14, wordE 0x1e#6 0#4 0#4 2#4 3#14, wordE 0x1e#6 0#4 0#4 2#4 4#14, wordE 0x1e#6 3#4 3#4 3#4 0#14, wordE 0x1e#6 3#4 1#4 3#4 0#14,
      wordE 0x1e#6 0#4 0#4 4#4 15#14, wordE 0x1e#6 0#4 0#4 5#4 3#14, wordE 0x1e#6 0#4 0#4 1#4 0#14, wordE 0x1e#6 0#4 0#4 6#4 0#14],
      (c5 w).canonical ∧ At (withProg m5 (c5 w)) m5 w (c5 w)) ∧
    (c5 0).epochFault 2 0#4 0#4 4#14 = some 0x0C ∧ (c5 0).epochFault 3 3#4 3#4 0#14 = some 0x0C ∧ (c5 0).epochFault 3 3#4 1#4 0#14 = none ∧
    (c5 0).epochFault 0 0#4 0#4 0#14 = none ∧ (c5 0).epochFault 1 0#4 0#4 0#14 = none ∧ (c5 0).epochFault 2 0#4 0#4 3#14 = none ∧
    (c5 0).epochFault 4 0#4 0#4 15#14 = none ∧ (c5 0).epochFault 5 0#4 0#4 3#14 = none ∧
    (withProg m5 (c5 0)).hub.waitingSets 5 < 4 ∧ 4 ≤ ({ up with sets := set4 } : Hub).waitingSets 5 ∧
    (∃ s : State, At s m5 (wordE 0x1e#6 0#4 0#4 0#4 0#14) (c5 (wordE 0x1e#6 0#4 0#4 0#4 0#14)) ∧ 4 ≤ s.hub.waitingSets 5) :=
  by
  refine ⟨all_at (by decide +kernel), ?_⟩
  repeat' apply And.intro
  all_goals first
    | decide +kernel
    | exact ⟨⟨({ up with sets := set4 } : Hub).setProg 5 (c5 (wordE 0x1e#6 0#4 0#4 0#4 0#14)), []⟩, at_of (by decide +kernel), by decide +kernel⟩
theorem witness_SetEntersCommitStageWithItsLastStores :
    (∃ (h : Hub) (a b : Nat), ((h.get F.CONTEXT.COMMIT_TIMEOUT 5 * 1000000 : Nat) : Int) < diff48 a h.network48 ∧
      diff48 b h.network48 ≤ ((h.get F.CONTEXT.COMMIT_TIMEOUT 5 * 1000000 : Nat) : Int)) ∧
    (∃ (a : Applied) (h : Hub) (staged before after : List Staged) (s : Staged), a.sts = lastStores staged ∧ h.fields.wf fieldDefault = true ∧
      staged = before ++ s :: after ∧ ∀ x ∈ after, s.same x = false) :=
  ⟨⟨up, 1000000001, 1000000000, by decide +kernel⟩,
   ⟨{ ctx := 5, desk := false, quiet := none, old := up, sts := [staged1] }, up, [staged1, staged1], [staged1], [], staged1, by decide +kernel⟩⟩
theorem witness_AbandonWaitAndNote :
    (∀ w ∈ [wordA 0x1f#6 0#4 0#4 0#4 0x3FFF#14, wordE 0x20#6 0#4 0#4 0#4 0#14, wordE 0x20#6 0#4 0#4 2#4 4#14, wordE 0x20#6 3#4 1#4 3#4 0#14,
      wordE 0x20#6 0#4 0#4 15#4 0#14, wordE 0x20#6 0#4 0#4 6#4 0#14, wordE 0x20#6 3#4 0#4 6#4 0#14, wordE 0x20#6 1#4 0#4 6#4 0#14,
      wordA 0x23#6 0#4 1#4 2#4 0#14], (c5 w).canonical ∧ At (withProg m5 (c5 w)) m5 w (c5 w)) ∧
    up.atOnce .now = true ∧ up.atOnce (up.epochOf 3 0 0xFFFFFFFF 5 []) = false ∧ (c5 0).notes.length < 32 ∧
    (∃ q : Prog, At (withProg m5 q) m5 (wordA 0x23#6 0#4 1#4 2#4 0#14) q ∧ 32 ≤ q.notes.length) ∧
    (∃ s : State, At s m5 (wordE 0x20#6 1#4 0#4 3#4 0#14) (c5 (wordE 0x20#6 1#4 0#4 3#4 0#14)) ∧ s.hub.atOnce (.time 5) = false) ∧
    (∃ (s : State) (q : Prog), s.hub.mainUp = true ∧ s.hub.prog 5 = some q ∧ q.block = some (.delay 8 9)) :=
  ⟨all_at (by decide +kernel), by decide +kernel, by decide +kernel, by decide +kernel,
    ⟨{ c5 (wordA 0x23#6 0#4 1#4 2#4 0#14) with notes := List.replicate 32 (0, 0) }, at_of (by decide +kernel), by decide +kernel⟩,
    ⟨withProg m5 (c5 (wordE 0x20#6 1#4 0#4 3#4 0#14)), at_of (by decide +kernel), by decide +kernel⟩,
    ⟨withProg m5 { c5 0 with block := some (.delay 8 9) }, { c5 0 with block := some (.delay 8 9) }, by decide +kernel⟩⟩
theorem witness_OwnAndYieldMoveTokens :
    (∀ w ∈ [wordI 0x21#6 15#4 0#4 56#18, wordI 0x21#6 15#4 0#4 (BitVec.ofNat 18 (2 ^ 17 + 63)), wordI 0x21#6 15#4 3#4 0#18,
      wordI 0x22#6 15#4 0#4 (BitVec.ofNat 18 (5 * 256 + 56)), wordI 0x22#6 15#4 0#4 (BitVec.ofNat 18 (6 * 256)), wordI 0x22#6 15#4 3#4 (BitVec.ofNat 18 (2 ^ 17 + 15 * 256))],
      (c5 w).canonical ∧ At (withProg m5 (c5 w)) m5 w (c5 w)) ∧
    up.ownRefused (c5 0) 5 56 false = false ∧ up.ownRefused (c5 0) 5 63 false = true ∧ (up.set F.TOKEN.HOLDER 56 5).yieldRefused (c5 0) 5 56 15 false = false ∧
    up.yieldRefused (c5 0) 5 56 4 false = true :=
  ⟨all_at (by decide +kernel), by decide +kernel⟩
theorem witness_TokenMoveShowsNewHolder :
    ∃ h : Hub, h.canonical ∧ h.holder 56 ≠ 5 ∧ h.startNoted = true := ⟨{ up with startNoted := true }, by unfold Hub.canonical; decide +kernel⟩
/-- A Manifest of C5 on the last Branch interface: w1 its handle, w2 an address. -/
def branchProg (w : Word) (b addr : Nat) : Prog :=
  { ((({ words := [w, 7#32] } : Prog).setReg 1#4 (BitVec.ofNat 32 (F.BRANCH.MODE.cls * 2 ^ 16 + b))).setReg 2#4 (BitVec.ofNat 32 addr)) with head := { ctx := 5 } }
theorem witness_BranchTransactionsOfManifests :
    (∀ x ∈ [(17, 5), (0, 5), (16, 6), (16, 5)], ∃ (s : State) (q : Prog), At s m5 (wordE 0x25#6 1#4 2#4 8#4 (BitVec.ofNat 14 x.1)) q ∧ branchOf (q.reg 1#4) = (if x.2 < 6 then some x.2 else none)) ∧
    up.holds 5 50 = false ∧
    (∃ (s : State) (q : Prog), At s m5 (wordE 0x25#6 1#4 2#4 8#4 16#14) q ∧ branchOf (q.reg 1#4) = some 4 ∧ s.hub.holds 5 49 = true ∧ s.hub.get F.BRANCH.MODE 4 ≠ 0 ∧
      farAddrOk 4 (q.reg 2#4).toNat 16 0 = true ∧ (s.hub.farBus 4).stuck = false) ∧
    (∃ (s : State) (q : Prog), s.hub.mainUp = true ∧ s.hub.prog 5 = some q ∧ q.block = some (.xfer 4 0) ∧ s.hub.xferDone.read (fun _ => none) 5 = some (0, [])) ∧
    (∀ b ∈ [5, 6], ∃ (s : State) (q : Prog), At s m5 (wordA 0x26#6 0#4 1#4 0#4 0#14) q ∧ branchOf (q.reg 1#4) = (if b < 6 then some b else none)) := by
  refine ⟨?_, by decide +kernel, ⟨⟨((up.set F.TOKEN.HOLDER 49 5).set F.BRANCH.MODE 4 1).setProg 5 (branchProg (wordE 0x25#6 1#4 2#4 8#4 16#14) 4 0), []⟩,
    branchProg (wordE 0x25#6 1#4 2#4 8#4 16#14) 4 0, at_of (by decide +kernel), by decide +kernel⟩,
    ⟨⟨{ up.setProg 5 { c5 0 with block := some (.xfer 4 0) } with xferDone := up.xferDone.write (fun _ => none) 5 (some (0, [])) }, []⟩,
      { c5 0 with block := some (.xfer 4 0) }, by decide +kernel⟩, ?_⟩
  · intro x hx
    simp only [List.mem_cons, List.not_mem_nil, or_false] at hx
    rcases hx with rfl | rfl | rfl | rfl
    · exact ⟨withProg m5 (branchProg (wordE 0x25#6 1#4 2#4 8#4 17#14) 5 0), branchProg (wordE 0x25#6 1#4 2#4 8#4 17#14) 5 0, at_of (by decide +kernel), by decide +kernel⟩
    · exact ⟨withProg m5 (branchProg (wordE 0x25#6 1#4 2#4 8#4 0#14) 5 0), branchProg (wordE 0x25#6 1#4 2#4 8#4 0#14) 5 0, at_of (by decide +kernel), by decide +kernel⟩
    · exact ⟨withProg m5 (branchProg (wordE 0x25#6 1#4 2#4 8#4 16#14) 6 0), branchProg (wordE 0x25#6 1#4 2#4 8#4 16#14) 6 0, at_of (by decide +kernel), by decide +kernel⟩
    · exact ⟨withProg m5 (branchProg (wordE 0x25#6 1#4 2#4 8#4 16#14) 5 0), branchProg (wordE 0x25#6 1#4 2#4 8#4 16#14) 5 0, at_of (by decide +kernel), by decide +kernel⟩
  · intro b hb
    simp only [List.mem_cons, List.not_mem_nil, or_false] at hb
    rcases hb with rfl | rfl
    · exact ⟨withProg m5 (branchProg (wordA 0x26#6 0#4 1#4 0#4 0#14) 5 0), branchProg (wordA 0x26#6 0#4 1#4 0#4 0#14) 5 0, at_of (by decide +kernel), by decide +kernel⟩
    · exact ⟨withProg m5 (branchProg (wordA 0x26#6 0#4 1#4 0#4 0#14) 6 0), branchProg (wordA 0x26#6 0#4 1#4 0#4 0#14) 6 0, at_of (by decide +kernel), by decide +kernel⟩

/-! ### Witnesses: the Shunter profile -/

/-- A Shunter program of slot 0 with w1 = a, w2 = b on a message of 16 bytes. -/
def sp (w : Word) (a b : Nat) : Prog :=
  { ((({ words := [w, 7#32] } : Prog).setReg 1#4 (BitVec.ofNat 32 a)).setReg 2#4 (BitVec.ofNat 32 b)) with shunter := true, job := { bytes := zeros 16 } }
def onSlot (h : Hub) : Hub := h.set F.PROGRAM.SCOPE 0 0xF
def spAt (w : Word) (a b : Nat) : Bool := let q := sp w a b
  decide (q.regs.wf (fun _ => 0#32) = true) && isAt ⟨(onSlot up).setProg (progKey sh) q, []⟩ sh w q
theorem witness_MessageFieldsExtractedAndInserted :
    ∀ x ∈ [(wordA 0x30#6 15#4 1#4 0#4 0#14, 127), (wordA 0x30#6 15#4 1#4 0#4 0x7F#14, 96), (wordA 0x30#6 15#4 1#4 0#4 0x3FFF#14, 1),
      (wordA 0x31#6 2#4 1#4 0#4 31#14, 96), (wordA 0x31#6 2#4 1#4 0#4 31#14, 97)], spAt x.1 x.2 0xFFFFFFFF = true := by decide +kernel
theorem witness_InsertedFieldReadsBack :
    (1 : Nat) ≤ 1 ∧ 1 ≤ 32 ∧ 96 + 32 ≤ 8 * (zeros 16).length ∧ 127 + 1 ≤ 8 * (zeros 16).length := by decide
theorem witness_ScaleLookEmitAndCount :
    (∀ x ∈ [(wordA 0x32#6 15#4 1#4 2#4 1#14, 0xFFFFFFFF, 2047), (wordA 0x32#6 15#4 1#4 2#4 0#14, 5, 2048), (wordA 0x33#6 15#4 1#4 2#4 0#14, 0, 0),
      (wordA 0x33#6 15#4 1#4 2#4 2#14, 0, 0), (wordA 0x33#6 15#4 1#4 2#4 15#14, 0, 0), (wordE 0x3a#6 1#4 2#4 0#4 0x3FF#14, 1, 1024),
      (wordE 0x3a#6 1#4 2#4 0#4 0x400#14, 1, 1024), (wordE 0x3b#6 1#4 2#4 0#4 15#14, 4080, 1), (wordE 0x3b#6 1#4 2#4 0#4 16#14, 4080, 1)],
      spAt x.1 x.2.1 x.2.2 = true) ∧ (0 : Nat) / 2 = 0 ∧ 15 / 16 = 0 ∧ up.look 2 0 0 = none ∧ up.look 0 0 0 = some none ∧ up.look 14 0 0 = some none ∧ up.look 15 15 0 = some (some 8191) ∧ up.look 15 16 0 = some none ∧
    (up.modYard (fun y => { y with routes := y.routes.write (fun _ => 0) 8175 1 })).look 0 0 0 = some (some 8175) := by decide +kernel
def full : Prog := { sp (wordE 0x34#6 1#4 2#4 0#4 1#14) 2000 5 with job := { bytes := zeros 16, dests := (List.range 16).map (fun x => (x, 0)) } }
theorem witness_DestinationsDropsAndMarks :
    (∀ x ∈ [(wordE 0x34#6 1#4 2#4 0#4 47#14, 2000), (wordE 0x34#6 1#4 2#4 0#4 48#14, 2000), (wordE 0x34#6 1#4 2#4 1#4 47#14, 2000),
      (wordE 0x34#6 1#4 2#4 1#4 48#14, 2000), (wordA 0x35#6 0#4 0#4 0#4 255#14, 0), (wordE 0x36#6 0#4 0#4 0#4 3#14, 0)], spAt x.1 x.2 5 = true) ∧
    (onSlot up).get F.PROGRAM.SCOPE 0 = 0xF ∧ (255#14).toNat < 256 ∧ (3#14).toNat < 4 ∧
    (∃ s : State, At s sh (wordE 0x34#6 1#4 2#4 0#4 1#14) full ∧ 16 ≤ full.job.dests.length ∧ (∀ x ∈ full.job.dests, x.1 ≠ 2001)) ∧
    (∃ (s : State) (q : Prog), At s sh (wordE 0x34#6 1#4 2#4 0#4 1#14) q ∧ (∃ x ∈ q.job.dests, x.1 = 2001) ∧ q.job.dests.length < 16) :=
  ⟨by decide +kernel, by decide +kernel, by decide +kernel, by decide +kernel,
    ⟨⟨(onSlot up).setProg (progKey sh) full, []⟩, at_of (by decide +kernel), by decide +kernel, by decide +kernel⟩,
    ⟨⟨(onSlot up).setProg (progKey sh) { full with job := { dests := [(2001, 7)] } }, []⟩, { full with job := { dests := [(2001, 7)] } }, at_of (by decide +kernel),
      ⟨(2001, 7), by decide⟩, by decide⟩⟩
theorem witness_TimeFieldsAndChecksums :
    (∀ x ∈ [(wordE 0x37#6 1#4 0#4 0#4 8#14, 0), (wordE 0x37#6 1#4 0#4 1#4 6#14, 0), (wordE 0x37#6 1#4 0#4 2#4 9#14, 0), (wordE 0x37#6 1#4 0#4 3#4 12#14, 0),
      (wordE 0x37#6 1#4 0#4 3#4 12#14, 1), (wordE 0x37#6 1#4 0#4 8#4 8#14, 0), (wordE 0x37#6 1#4 0#4 11#4 13#14, 0), (wordE 0x38#6 1#4 2#4 0#4 0#14, 0),
      (wordE 0x38#6 1#4 2#4 3#4 8#14, 0), (wordE 0x38#6 1#4 2#4 2#4 9#14, 0), (wordE 0x38#6 1#4 2#4 7#4 8#14, 0), (wordA 0x39#6 15#4 1#4 2#4 0#14, 0),
      (wordA 0x39#6 15#4 1#4 2#4 0#14, 0xFFFFFFFF), (wordA 0x39#6 0#4 1#4 0#4 1#14, 14), (wordA 0x39#6 0#4 1#4 0#4 1#14, 15)], spAt x.1 x.2 0xFFFFFFFF = true) ∧
    (sp 0 0 0).level ≠ 0x10 ∧ 8 + stampLen 0 = 16 ∧ 6 + stampLen 1 = 16 ∧ 12 + stampLen 3 = 16 := by decide +kernel
def waitingTicket : Ticket := { id := 4, input := 15, slot := 63, pkt := { bytes := zeros 16, port := 15, index := 4095, cls := 7 } }
def withTicket (k : Ticket) (id : Nat) : Hub :=
  up.modYard (fun y => { y with tickets := [k], threads := y.threads.write (fun _ => 0) 127 id, loaded := y.loaded.write (fun _ => none) 63 (some (0x20, [7#32])) })
theorem witness_ShunterProgramStartsOnMessage :
    (∃ h : Hub, h.mainUp = true ∧ h.yard.tickets.find? (fun x => x.id + 1 == h.threadOf 7 15) = some waitingTicket ∧ h.prog (progKey sh) = none ∧
      h.yard.loaded.read (fun _ => none) waitingTicket.slot = some (0x20, [7#32])) ∧
    waitingTicket.pkt.port < 16 ∧ waitingTicket.pkt.index < 4096 ∧ waitingTicket.pkt.cls < 8 := ⟨⟨withTicket waitingTicket 5, by decide +kernel⟩, by decide⟩

/-! ### Witnesses: flits, commits and the rest -/

/-- A number evaluated before it is passed on. -/
def evaluated (n : Nat) (f : Nat → Nat) : Nat := match n with | 0 => f 0 | k + 1 => f (k + 1)
theorem evaluated_eq (n : Nat) (f : Nat → Nat) : evaluated n f = f n := by cases n <;> rfl
/-- The CRC-32C byte by byte. -/
def crcRun : List Byte → Nat → Nat
  | [], c => c ^^^ 0xFFFFFFFF
  | b :: t, c => evaluated (crcByte c b) (crcRun t)
theorem crcRun_eq (bs : List Byte) (c : Nat) : crcRun bs c = bs.foldl crcByte c ^^^ 0xFFFFFFFF := by
  induction bs generalizing c with
  | nil => rfl
  | cons b t ih => rw [crcRun, evaluated_eq, ih, List.foldl_cons]
theorem crc_run (bs : List Byte) : crc32c bs = crcRun bs 0xFFFFFFFF := (crcRun_eq bs _).symm
/-- A flit with its CRC. -/
def flitOf (header : Nat) (payload : List Byte) : List Byte := let b := leBytes 4 header ++ payload; b ++ leBytes 4 (crcRun b 0xFFFFFFFF)
/-- A control flit of a type, its sequence number 0. -/
def ctlFlit (t : Nat) (payload : List Byte) : List Byte :=
  flitOf (2 ^ 31 + t / 16 * 2 ^ 28 + t % 16 * 2 ^ 24 + (if ctlSequenced t then 2 ^ 15 else 0)) payload
/-- Landing L3 working, its last pair inbound. -/
def flowing : Hub := ((up.set F.LANDING.STATE 3 4).set F.PAIR.STATE 15 2).set F.PAIR.DIR 15 1
def sealedIn : Hub := flowing.modLink 3 (fun k => { k with sealIn := true, granted := k.granted.write (fun _ => 0) 7 1 })
def intactB (h : Hub) (flit : List Byte) (fec : Nat) : Bool :=
  h.flitsRun 3 && h.hearsOn 3 3 && decide (fec ≤ 15) && decide (flit.length = 136) && decide (leAt flit 132 4 = crcRun (flit.take 132) 0xFFFFFFFF) &&
    decide ((h.link 3).resync = false ∧ leAt flit 0 4 % 4096 = (h.link 3).rxSeq % 4096)
def ctlB (t : Nat) (flit : List Byte) : Bool :=
  decide (2 ^ 31 ≤ leAt flit 0 4) && decide (ctypeOf flit = t) && decide (bitB (leAt flit 0 4) 15 = ctlSequenced t) && decide (bits (leAt flit 0 4) 16 8 = 0) &&
    decide (bitB (leAt flit 0 4) 14 = false) && decide (bitB (leAt flit 0 4) 12 = false)
theorem intact_of {h : Hub} {flit : List Byte} {fec : Nat} (x : intactB h flit fec = true) : Intact h 3 3 fec flit ∧ InOrder h 3 flit := by
  simp only [intactB, Bool.and_eq_true, decide_eq_true_eq] at x
  exact ⟨⟨x.1.1.1.1.1, x.1.1.1.1.2, x.1.1.1.2, x.1.1.2, x.1.2.trans (crc_run _).symm⟩, x.2⟩
theorem control_of {t : Nat} {flit : List Byte} (x : ctlB t flit = true) : ControlOf t flit := by
  simp only [ctlB, Bool.and_eq_true, decide_eq_true_eq] at x
  exact ⟨x.1.1.1.1.1, x.1.1.1.1.2, x.1.1.1.2, x.1.1.2, x.1.2, x.2⟩
theorem all_controls {ts : List Nat} (h : ts.all (fun t => intactB flowing (ctlFlit t (zeros 128)) 15 && intactB sealedIn (ctlFlit t (zeros 128)) 15 && ctlB t (ctlFlit t (zeros 128))) = true) :
    ∀ t ∈ ts, ∃ flit, Intact flowing 3 3 15 flit ∧ InOrder flowing 3 flit ∧ Intact sealedIn 3 3 15 flit ∧ InOrder sealedIn 3 flit ∧ ControlOf t flit := fun t ht => by
  have x := List.all_eq_true.mp h t ht
  simp only [Bool.and_eq_true] at x
  exact ⟨_, (intact_of x.1.1).1, (intact_of x.1.1).2, (intact_of x.1.2).1, (intact_of x.1.2).2, control_of x.2⟩
theorem all_segments {ts : List Nat} (h : ts.all (fun t => intactB flowing (ctlFlit 0x10 (leBytes 1 t ++ zeros 127)) 0 && ctlB 0x10 (ctlFlit 0x10 (leBytes 1 t ++ zeros 127)) &&
      decide (byteAt (ctlFlit 0x10 (leBytes 1 t ++ zeros 127)) 4 = t)) = true) :
    ∀ t ∈ ts, ∃ flit, Intact flowing 3 3 0 flit ∧ InOrder flowing 3 flit ∧ ControlOf 0x10 flit ∧ byteAt flit 4 = t := fun t ht => by
  have x := List.all_eq_true.mp h t ht
  simp only [Bool.and_eq_true, decide_eq_true_eq] at x
  exact ⟨_, (intact_of x.1.1).1, (intact_of x.1.1).2, control_of x.1.2, x.2⟩
def dataFlit7 : List Byte := flitOf (7 * 2 ^ 28 + 3 * 2 ^ 14) (zeros 128)
theorem witness_FlitsInOrderTakeEffect :
    (∀ t ∈ [0, 1, 0x14, 5, 6, 7, 9, 0x0A, 0x0B, 0x0C, 0x11, 0x12, 0x13, 2], ∃ flit,
      Intact flowing 3 3 15 flit ∧ InOrder flowing 3 flit ∧ Intact sealedIn 3 3 15 flit ∧ InOrder sealedIn 3 flit ∧ ControlOf t flit) ∧
    (flowing.link 3).sealIn = false ∧ (sealedIn.link 3).sealIn = true ∧
    (∀ t ∈ [1, 3, 5, 6], ∃ flit, Intact flowing 3 3 0 flit ∧ InOrder flowing 3 flit ∧ ControlOf 0x10 flit ∧ byteAt flit 4 = t) ∧
    (Intact sealedIn 3 3 15 dataFlit7 ∧ InOrder sealedIn 3 dataFlit7 ∧ leAt dataFlit7 0 4 < 2 ^ 31 ∧ bitB (leAt dataFlit7 0 4) 12 = false ∧
      (sealedIn.add F.PAIR.FEC_CORRECTED 15 15).heldFlits 3 (bits (leAt dataFlit7 0 4) 28 3) < (sealedIn.link 3).granted.read (fun _ => 0) (bits (leAt dataFlit7 0 4) 28 3)) ∧
    2 ^ 31 ≤ leAt (ctlFlit 5 (zeros 128)) 0 4 ∧
    (∃ p : List Byte, byteAt p 1 = 0 ∧ byteAt p 2 = 1 ∧ byteAt p 3 = 0 ∧ leAt p 4 2 = leAt p 6 2 ∧ leAt p 6 2 ≤ 120 ∧ p.length = 128) :=
  ⟨all_controls (by decide +kernel), by decide +kernel, by decide +kernel, all_segments (by decide +kernel),
    ⟨(intact_of (fec := 15) (by decide +kernel)).1, (intact_of (fec := 15) (by decide +kernel)).2, by decide +kernel⟩, by decide +kernel,
    ⟨[6, 0, 1, 0, 120, 0, 120, 0] ++ zeros 120, by decide +kernel⟩⟩
/-- A data flit of sequence number n. -/
def dataFlit (n : Nat) : List Byte := flitOf (3 * 2 ^ 14 + n) (zeros 128)
def expecting (n : Nat) : Hub := flowing.modLink 3 (fun k => { k with rxSeq := (4096 - n) % 4096 })
def wholeB (h : Hub) (flit : List Byte) (fec : Nat) : Bool :=
  h.flitsRun 3 && h.hearsOn 3 3 && decide (fec ≤ 15) && decide (flit.length = 136) && decide (leAt flit 132 4 = crcRun (flit.take 132) 0xFFFFFFFF)
theorem whole_of {h : Hub} {flit : List Byte} {fec : Nat} (x : wholeB h flit fec = true) : Intact h 3 3 fec flit := by
  simp only [wholeB, Bool.and_eq_true, decide_eq_true_eq] at x
  exact ⟨x.1.1.1.1, x.1.1.1.2, x.1.1.2, x.1.2, x.2.trans (crc_run _).symm⟩
theorem witness_FlitsOutOfOrderOrBad :
    (Intact (expecting 256) 3 3 0 (dataFlit 0) ∧ Intact (expecting 255) 3 3 0 (dataFlit 0) ∧ leAt (dataFlit 0) 0 4 < 2 ^ 31 ∧ bitB (leAt (dataFlit 0) 0 4) 12 = false ∧
      (0 + 4096 - ((expecting 256).link 3).rxSeq % 4096) % 4096 = 256 ∧ (0 + 4096 - ((expecting 255).link 3).rxSeq % 4096) % 4096 = 255 ∧
      ((expecting 256).link 3).resync = false ∧ ((expecting 255).link 3).resync = false) ∧
    (∃ h : Hub, Intact h 3 3 0 (dataFlit 1) ∧ (h.link 3).rxSeq = 0 ∧ (∃ f, (1, f) ∈ (h.link 3).reorder)) ∧
    (Intact flowing 3 3 0 (dataFlit 1) ∧ (flowing.link 3).rxSeq = 0 ∧ (flowing.link 3).reorder = []) ∧
    (flowing.flitsRun 3 = true ∧ flowing.hearsOn 3 3 = true) ∧
    ((zeros 136).length = 136 ∧ leAt (zeros 132 ++ leBytes 4 1) 132 4 ≠ crc32c ((zeros 132 ++ leBytes 4 1).take 132) ∧ (zeros 132 ++ leBytes 4 1).length = 136) ∧
    (Intact flowing 3 3 15 (ctlFlit 0x15 (zeros 128)) ∧ 2 ^ 31 ≤ leAt (ctlFlit 0x15 (zeros 128)) 0 4 ∧ 0x14 < ctypeOf (ctlFlit 0x15 (zeros 128))) ∧
    (Intact flowing 3 3 15 (ctlFlit 4 (zeros 128)) ∧ 2 ^ 31 ≤ leAt (ctlFlit 4 (zeros 128)) 0 4 ∧ ctypeOf (ctlFlit 4 (zeros 128)) ≤ 0x14 ∧
      ctlFromHost (ctypeOf (ctlFlit 4 (zeros 128))) = false) :=
  ⟨⟨whole_of (by decide +kernel), whole_of (by decide +kernel), by decide +kernel⟩,
    ⟨flowing.modLink 3 (fun k => { k with reorder := [(1, [])] }), whole_of (by decide +kernel), by decide +kernel, [], by decide +kernel⟩,
    ⟨whole_of (by decide +kernel), by decide +kernel⟩, by decide +kernel, ⟨by decide +kernel, by rw [crc_run]; decide +kernel, by decide +kernel⟩, ⟨whole_of (by decide +kernel), by decide +kernel⟩,
    ⟨whole_of (by decide +kernel), by decide +kernel⟩⟩
/-- The stores of a command stage something, no CLOCK.STEP refused. -/
def stagesB (h : Hub) (ctx : Nat) (cls inst : Nat) (sts : List (Nat × Nat × Int)) : Bool :=
  !(h.stageAll ctx cls inst sts).staged.isEmpty && (h.stageAll ctx cls inst sts).stepsRefused.isEmpty
theorem stages_of {h : Hub} {ctx cls inst : Nat} {sts : List (Nat × Nat × Int)} (x : stagesB h ctx cls inst sts = true) :
    ∃ staged, Stages h ctx cls inst sts staged := by
  simp only [stagesB, Bool.and_eq_true, Bool.not_eq_true', List.isEmpty_iff, List.isEmpty_eq_false_iff] at x
  exact ⟨_, rfl, x.1, x.2⟩
def keys (kind : Nat) : Hub := (up.set F.KEYSLOT.KIND 31 kind).set F.KEYSLOT.OWNER 31 5
/-- C4 holds the Desk token. -/
def desked : Hub := up.set F.TOKEN.HOLDER 0 4
theorem witness_CommitsTakeEffect :
    (∃ staged, Stages desked 4 F.LANDING.DETECT_ENABLE.cls 3 [(F.LANDING.DETECT_ENABLE.num, 0, 0)] staged) ∧
    (Instr.detectEnableCommit 4 3 0).inRange = true ∧
    (up.stageAll 4 F.LANDING.DETECT_ENABLE.cls 3 [(F.LANDING.DETECT_ENABLE.num, 0, 0)]).staged = [] ∧
    (∀ kind ∈ [5, 6], (keys kind).mainUp = true ∧ (keys kind).get F.KEYSLOT.KIND 31 = kind ∧
      ∃ staged, Stages (keys kind) 5 F.KEYSLOT.OP.cls 31 ([(F.KEYSLOT.INPUT.num, 0, 9)] ++ [(F.KEYSLOT.OP.num, 0, 1)]) staged) ∧
    desked.warming = false ∧ ({ up with warming := true } : Hub).mainUp = true ∧
    ∃ staged, Stages desked 4 F.SYSTEM.WARM_RESET.cls 0 [(F.SYSTEM.WARM_RESET.num, 0, 1)] staged := by
  refine ⟨stages_of (by decide +kernel), by decide +kernel, by decide +kernel, ?_, by decide +kernel, rfl, stages_of (by decide +kernel)⟩
  intro kind hk
  simp only [List.mem_cons, List.not_mem_nil, or_false] at hk
  rcases hk with rfl | rfl
  · exact ⟨by decide +kernel, by decide +kernel, stages_of (by decide +kernel)⟩
  · exact ⟨by decide +kernel, by decide +kernel, stages_of (by decide +kernel)⟩
theorem witness_ControlMessagesCarryTheHeader :
    ∃ m : OutMsg, m.type = 255 ∧ m.ctx = 5 ∧ m.seq = 65535 ∧ m.body.length = 120 := ⟨⟨.mgmt, 5, 255, 65535, zeros 120, 0, 0⟩, by decide⟩
theorem witness_RaisesAreCountedAndCoalesced :
    (∃ h : Hub, h.canonical ∧ h.pend.wf (fun _ => {}) = true ∧ h.mainUp = true ∧ h.addressed 511 [] 5 = true ∧ h.addressed 511 [] 4 = false ∧
      (h.pendRec 5 511).count = 0) ∧
    (∃ h : Hub, h.canonical ∧ h.pend.wf (fun _ => {}) = true ∧ h.mainUp = true ∧ h.addressed 511 [] 5 = true ∧ (h.pendRec 5 511).count = 4095) :=
  ⟨⟨up.set F.NOTICE.DELIVER 511 1 5, by unfold Hub.canonical; decide +kernel⟩,
    ⟨{ up.set F.NOTICE.DELIVER 511 1 5 with pend := up.pend.write (fun _ => {}) (5 * 512 + 511) { src := 511, count := 4095 } }, by unfold Hub.canonical; decide +kernel⟩⟩
theorem witness_TimersNotRunningChangeNothing :
    (Instr.yardFlush 15 0).inRange = true ∧ (Instr.canTxPeriod 1 15).inRange = true ∧ (Instr.heldContextExpiry 5).inRange = true ∧
    up.due T.heldContext 5 = none ∧ up.due T.pauseWatch (up.watchedFirst 1) = none ∧ (up.feedDisarm T.feedLink 0).feedDue T.feedLink 0 = none ∧
    up.feedDue T.powerReduce 3 = none := by decide +kernel
theorem witness_DepotWritesOnlyTheirBytes :
    (∃ (h : Hub) (s place : Nat) (bs : List Byte), h.pixels.wf (fun _ => 0) = true ∧ bs.length = 2 ∧ s = 2046 ∧ place = 2 ^ 30 - 2) ∧
    (∃ (h g : Hub) (q r : List Instr) (msg : List Byte), h.pixels.wf (fun _ => 0) = true ∧ exec (.surfaceWrite 3 63 msg) ⟨h, q⟩ = .next ⟨g, r⟩ ∧
      h.get F.SURFACE.STATE (leAt (msg.drop 8) 0 2) ≠ 1) :=
  ⟨⟨up, 2046, 2 ^ 30 - 2, [1, 2], by decide +kernel⟩, ⟨up, _, [], [], zeros 24, by decide +kernel, rfl, by decide +kernel⟩⟩
theorem witness_LegacyInterfaceAnswers_requests :
    (∀ x ∈ [([0x80, 0, 0, 0, 0, 0, 2, 0], 0), ([0, 1, 0, 0, 0, 0, 0, 0], 1), ([0, 3, 0, 0, 0, 0, 0, 0], 3), ([0, 5, 0, 0, 0, 0, 0, 0], 5), ([0x80, 6, 0, 0, 0, 0, 0, 0], 6),
      ([0x80, 8, 0, 0, 0, 0, 0, 0], 8), ([0, 9, 0, 0, 0, 0, 0, 0], 9), ([0x81, 10, 0, 0, 0, 0, 0, 0], 10), ([1, 11, 0, 0, 0, 0, 0, 0], 11)],
      isRequest x.1 x.2 false = true ∧ x.1.length = 8) ∧ isRequest [0xA0, 0, 0, 0, 0, 0, 2, 0] 0 true = true ∧ ownRequest 2 (zeros 7 ++ [1]) = true ∧
    ownRequest 2 ([0x21, 1] ++ zeros 6) = false ∧ (up.set F.LEGACY.STATE 3 3).get F.LEGACY.STATE 3 = 3 := by decide +kernel

/-! ### Witnesses: the blocks' commands, clause by clause -/

theorem witness_ControlMessagesTakeEffect :
    (∃ (h : Hub) (ch : Chan) (msg : List Byte) (g : Hub) (raw : Bool), h.mainUp = true ∧ chanOk ch = true ∧ byteAt msg 0 = 1 ∧
      h.takeControl ch msg = some (g, raw) ∧ g.controlFault ch raw msg = none ∧ g.helloAccepted ch = true) ∧
    (∃ (h : Hub) (ch : Chan) (msg : List Byte) (g : Hub) (raw : Bool) (reason : Nat), h.mainUp = true ∧ chanOk ch = true ∧ byteAt msg 0 = 1 ∧
      h.takeControl ch msg = some (g, raw) ∧ g.controlFault ch raw msg = some reason) ∧
    (∃ (h : Hub) (ch : Chan) (msg : List Byte) (g : Hub) (raw : Bool) (head : ManHead), h.mainUp = true ∧ chanOk ch = true ∧ byteAt msg 0 = 2 ∧
      h.takeControl ch msg = some (g, raw) ∧ g.controlFault ch raw msg = none ∧ g.get F.SYSTEM.START_STATE 0 ≠ 4 ∧
      let b := ctlBody msg; head = { ctx := ch.ctx, chan := ch, seq := ctlSeq msg, tag := leAt b 4 4, level := byteAt b 0, standing := bitB (byteAt msg 3) 0, slotByte := byteAt b 1 } ∧
      g.manifestRefused head (leAt b 2 2) b.length = none) ∧
    (∃ (h : Hub) (ch : Chan) (msg : List Byte) (g : Hub) (raw : Bool) (head : ManHead) (status detail : Nat), h.mainUp = true ∧ chanOk ch = true ∧
      byteAt msg 0 = 2 ∧ h.takeControl ch msg = some (g, raw) ∧ g.controlFault ch raw msg = none ∧ g.get F.SYSTEM.START_STATE 0 ≠ 4 ∧
      let b := ctlBody msg; head = { ctx := ch.ctx, chan := ch, seq := ctlSeq msg, tag := leAt b 4 4, level := byteAt b 0, standing := bitB (byteAt msg 3) 0, slotByte := byteAt b 1 } ∧
      g.manifestRefused head (leAt b 2 2) b.length = some (status, detail)) ∧
    (∃ (h : Hub) (ch : Chan) (msg : List Byte) (g : Hub) (raw : Bool) (reason : Nat), h.mainUp = true ∧ chanOk ch = true ∧ byteAt msg 0 = 2 ∧
      h.takeControl ch msg = some (g, raw) ∧ g.controlFault ch raw msg = some reason) ∧
    (∃ (h : Hub) (ch : Chan) (msg : List Byte) (g : Hub) (raw : Bool), h.mainUp = true ∧ chanOk ch = true ∧ byteAt msg 0 = 5 ∧
      h.takeControl ch msg = some (g, raw) ∧ g.controlFault ch raw msg = none ∧ g.peeksOpen ch.ctx < 4 ∧ g.boxPaused = false) ∧
    (∃ (h : Hub) (ch : Chan) (msg : List Byte) (g : Hub) (raw : Bool), h.mainUp = true ∧ chanOk ch = true ∧ byteAt msg 0 = 5 ∧
      h.takeControl ch msg = some (g, raw) ∧ g.controlFault ch raw msg = none ∧ g.peeksOpen ch.ctx < 4 ∧ g.boxPaused = true) ∧
    (∃ (h : Hub) (ch : Chan) (msg : List Byte) (g : Hub) (raw : Bool), h.mainUp = true ∧ chanOk ch = true ∧ byteAt msg 0 = 5 ∧
      h.takeControl ch msg = some (g, raw) ∧ g.controlFault ch raw msg = none ∧ 4 ≤ g.peeksOpen ch.ctx) ∧
    (∃ (h : Hub) (ch : Chan) (msg : List Byte) (g : Hub) (raw : Bool), h.mainUp = true ∧ chanOk ch = true ∧ byteAt msg 0 = 9 ∧
      h.takeControl ch msg = some (g, raw) ∧ g.controlFault ch raw msg = none ∧ (ctlBody msg).length = 32) ∧
    (∃ (h : Hub) (ch : Chan) (msg : List Byte) (g : Hub) (raw : Bool), h.mainUp = true ∧ chanOk ch = true ∧ byteAt msg 0 = 9 ∧
      h.takeControl ch msg = some (g, raw) ∧ g.controlFault ch raw msg = none ∧ (ctlBody msg).length ≠ 32) ∧
    (∃ (h : Hub) (ch : Chan) (msg : List Byte) (g : Hub) (raw : Bool), h.mainUp = true ∧ chanOk ch = true ∧ byteAt msg 0 = 7 ∧
      bitB (byteAt msg 9) 0 = false ∧ h.takeControl ch msg = some (g, raw) ∧ g.controlFault ch raw msg = none) ∧
    (∃ (h : Hub) (ch : Chan) (msg : List Byte) (g : Hub) (raw : Bool), h.mainUp = true ∧ chanOk ch = true ∧ byteAt msg 0 = 7 ∧
      bitB (byteAt msg 9) 0 = true ∧ h.takeControl ch msg = some (g, raw) ∧ g.controlFault ch raw msg = none) ∧
    (∃ (h : Hub) (mac : Nat) (frames : List (List Byte)) (g : Hub) (d : List Byte), h.mainUp = true ∧ mac < 2 ∧ h.takeDatagram mac frames = some (g,
      d)) ∧
    (∃ (h : Hub) (l : Nat) (msg : List Byte) (g : Hub), h.mainUp = true ∧ l < 4 ∧ byteAt msg 0 = 0x0C ∧ h.takeBulk l msg = some g) ∧
    (∃ (h : Hub) (l : Nat) (msg : List Byte), h.mainUp = true ∧ l < 4 ∧ byteAt msg 0 = 0x0C ∧ h.takeBulk l msg = none) ∧
    (∃ (h : Hub) (ctx : Nat) (m : Manifest) (rest : List Manifest), h.mainUp = true ∧ ctx < 6 ∧ (h.ctx ctx).queue = m :: rest ∧ h.prog ctx = none ∧
      h.boxPaused = false ∧ (h.get F.SYSTEM.START_STATE 0 = 2 ∨ h.get F.SYSTEM.START_STATE 0 = 3) ∧ h.receiptsWaiting ctx < 16) ∧
    (∃ (h : Hub) (ctx : Nat), h.mainUp = true ∧ ctx < 6 ∧ 16 ≤ h.receiptsWaiting ctx) :=
  ⟨⟨fifo (ctlMsg 1 1 [0, 0, 4, 0, 0, 0, 0]), .localPort, ctlMsg 1 1 [0, 0, 4, 0, 0, 0, 0], gotten (fifo (ctlMsg 1 1 [0, 0, 4, 0, 0, 0,
      0])) (ctlMsg 1 1 [0, 0, 4, 0, 0, 0, 0]), false, by decide +kernel +zetaReduce⟩,
    ⟨fifo [1, 2], .localPort, [1, 2], gotten (fifo [1, 2]) [1, 2], false, 1, by decide +kernel +zetaReduce⟩,
    ⟨fifo (ctlMsg 2 0x11 [0xFF, 1, 0, 0, 0, 0, 0, 0, 0, 0, 0]), .localPort, ctlMsg 2 0x11 [0xFF, 1, 0, 0, 0, 0, 0, 0, 0, 0, 0],
      gotten (fifo (ctlMsg 2 0x11 [0xFF, 1, 0, 0, 0, 0, 0, 0, 0, 0, 0])) (ctlMsg 2 0x11 [0xFF, 1, 0, 0, 0, 0, 0, 0, 0, 0, 0]), false, { ctx := 4 },
      by decide +kernel +zetaReduce⟩,
    ⟨fifo (ctlMsg 2 9 [0xFF, 1, 0, 0, 0, 0, 0, 0, 0, 0, 0]), .localPort, ctlMsg 2 9 [0xFF, 1, 0, 0, 0, 0, 0, 0, 0, 0, 0],
      gotten (fifo (ctlMsg 2 9 [0xFF, 1, 0, 0, 0, 0, 0, 0, 0, 0, 0])) (ctlMsg 2 9 [0xFF, 1, 0, 0, 0, 0, 0, 0, 0, 0, 0]), false, { ctx := 4, level := 9 },
      5, 9, by decide +kernel +zetaReduce⟩,
    ⟨fifo [2, 2], .localPort, [2, 2], gotten (fifo [2, 2]) [2, 2], false, 1, by decide +kernel +zetaReduce⟩,
    ⟨fifo (ctlMsg 5 0 (zeros 11)), .localPort, ctlMsg 5 0 (zeros 11), gotten (fifo (ctlMsg 5 0 (zeros 11))) (ctlMsg 5 0 (zeros 11)), false,
      by decide +kernel +zetaReduce⟩,
    ⟨{ fifo (ctlMsg 5 0 (zeros 11)) with boxPaused := true }, .localPort, ctlMsg 5 0 (zeros 11),
      gotten ({ fifo (ctlMsg 5 0 (zeros 11)) with boxPaused := true }) (ctlMsg 5 0 (zeros 11)), false, by decide +kernel +zetaReduce⟩,
    ⟨{ fifo (ctlMsg 5 0 (zeros 11)) with peeksHeld := List.replicate 4 (.localPort, []) }, .localPort, ctlMsg 5 0 (zeros 11),
      gotten ({ fifo (ctlMsg 5 0 (zeros 11)) with peeksHeld := List.replicate 4 (.localPort, []) }) (ctlMsg 5 0 (zeros 11)), false,
      by decide +kernel +zetaReduce⟩,
    ⟨fifo (ctlMsg 9 0 (zeros 31)), .localPort, ctlMsg 9 0 (zeros 31), gotten (fifo (ctlMsg 9 0 (zeros 31))) (ctlMsg 9 0 (zeros 31)), false,
      by decide +kernel +zetaReduce⟩,
    ⟨fifo (ctlMsg 9 0 (zeros 30)), .localPort, ctlMsg 9 0 (zeros 30), gotten (fifo (ctlMsg 9 0 (zeros 30))) (ctlMsg 9 0 (zeros 30)), false,
      by decide +kernel +zetaReduce⟩,
    ⟨fifo (ctlMsg 7 0 (zeros 7)), .localPort, ctlMsg 7 0 (zeros 7), gotten (fifo (ctlMsg 7 0 (zeros 7))) (ctlMsg 7 0 (zeros 7)), false,
      by decide +kernel +zetaReduce⟩,
    ⟨fifo (ctlMsg 7 0 (1 :: zeros 6)), .localPort, ctlMsg 7 0 (1 :: zeros 6), gotten (fifo (ctlMsg 7 0 (1 :: zeros 6))) (ctlMsg 7 0 (1 :: zeros 6)),
      false, by decide +kernel +zetaReduce⟩,
    ⟨inbox 10 (6, 1, datagram), 1, [datagram], (((inbox 10 (6, 1, datagram)).takeDatagram 1 [datagram]).getD (up, [])).1, [],
      by decide +kernel +zetaReduce⟩,
    ⟨inbox 10 (8, 3, [0x0C]), 3, [0x0C], ((inbox 10 (8, 3, [0x0C])).takeBulk 3 [0x0C]).getD up, by decide +kernel +zetaReduce⟩,
    ⟨up, 3, [0x0C], by decide +kernel +zetaReduce⟩,
    ⟨(up.set F.SYSTEM.START_STATE 0 3).modCtx 5 (fun c => { c with queue := [{ head := {}, words := [0] }] }), 5, { head := {}, words := [0] }, [],
      by decide +kernel +zetaReduce⟩,
    ⟨up.modCtx 5 (fun c => { c with out := List.replicate 16 (msgTo 3) }), 5, by decide +kernel +zetaReduce⟩⟩

theorem witness_LocalPortMovesMessagesByBytes :
    (∃ (h : Hub) (msg : List Byte), h.mainUp = true ∧ h.localOpen = true ∧ msg.length = 8 + leAt msg 6 2 ∧ msg.length + 4 ≤ h.localFree) ∧
    (∃ (h : Hub), h.mainUp = true ∧ h.localOpen = false) ∧
    (∃ (h : Hub), h.mainUp = true ∧ fittingOut 32768 (h.ctx 4).out = []) ∧
    (∃ (h : Hub) (count : Nat) (m : OutMsg) (rest : List OutMsg), h.mainUp = true ∧ fittingOut 32768 (h.ctx 4).out = m :: rest ∧
      let left := (fifoBytes m).drop (h.ctx 4).readPos; count < left.length) ∧
    (∃ (h : Hub), h.mainUp = true ∧ h.localOpen = true) ∧
    (∃ (h : Hub), h.mainUp = true ∧ h.localOpen = false ∧ h.warming = false) :=
  ⟨⟨up.set F.SYSTEM.START_STATE 0 2, ctlMsg 9 0 (zeros 30), by decide +kernel +zetaReduce⟩,
    ⟨up, by decide +kernel +zetaReduce⟩,
    ⟨up, by decide +kernel +zetaReduce⟩,
    ⟨up.modCtx 4 (fun c => { c with out := [msgTo 3] }), 11, msgTo 3, [], by decide +kernel +zetaReduce⟩,
    ⟨up.set F.SYSTEM.START_STATE 0 2, by decide +kernel +zetaReduce⟩,
    ⟨up, by decide +kernel +zetaReduce⟩⟩

theorem witness_WaitingWorkAndNoticesMoveOn :
    (∃ (h : Hub) (t : Nat), h.mainUp = true ∧ h.epochs.filterMap (fun e => match e with | .time t => some t | _ => none) = [t]) ∧
    (∃ (h : Hub) (ctx : Nat) (w : WaitSet), h.mainUp = true ∧ ctx < 6 ∧ h.sets.filter (fun w => w.head.ctx == ctx && !w.arrived) = [w] ∧
      h.waitDeadline ctx = none) ∧
    (∃ (h : Hub) (ctx : Nat) (p : Prog) (d : Nat), h.mainUp = true ∧ ctx < 6 ∧ h.sets.filter (fun w => w.head.ctx == ctx && !w.arrived) = [] ∧
      h.prog ctx = some p ∧ h.waitDeadline ctx = some d) ∧
    (∃ (h : Hub), h.mainUp = true ∧ h.get F.SYSTEM.START_STATE 0 = 2 ∧ h.replaying = false ∧ h.replayPos < 16) ∧
    (∃ (h : Hub), h.mainUp = true ∧ h.get F.SYSTEM.START_STATE 0 = 2 ∧ h.replaying = false ∧ 16 ≤ h.replayPos) ∧
    (∃ (h : Hub) (d : Nat), h.mainUp = true ∧ h.due T.standingToken 0 = some d) ∧
    (∃ (h : Hub) (d : Nat), h.mainUp = true ∧ h.due T.k0Window 0 = some d ∧
      let g := { h.expiredAt T.k0Window 0 d with k0Window := false }; g.holder 0 ≠ 0xF) ∧
    (∃ (h : Hub) (d l : Nat) (rest : List Nat), h.mainUp = true ∧ h.due T.k0Window 0 = some d ∧
      let g := { h.expiredAt T.k0Window 0 d with k0Window := false }; g.holder 0 = 0xF ∧ g.authOrder = l :: rest) ∧
    (∃ (h : Hub) (n d : Nat), h.mainUp = true ∧ n < 6 ∧ h.due T.heldContext n = some d ∧
      let g := h.expiredAt T.heldContext n d; g.get F.CONTEXT.STATE n = 2) ∧
    (∃ (h : Hub) (d : Nat), h.mainUp = true ∧ (h.session 8).up = true ∧ h.due T.mgmtIdle 0 = some d) ∧
    (∃ (h : Hub) (ctx : Nat), h.mainUp = true ∧ ctx < 6 ∧ h.up ctx = true) ∧
    (∃ (h : Hub) (ctx : Nat), h.mainUp = true ∧ ctx < 6 ∧ let k := (h.ctx ctx).inTransfer; k ≠ 0 ∧ h.noticeCrossing ctx = false) :=
  ⟨⟨{ up with sets := [setWait (.time 7)] }, 7, by decide +kernel +zetaReduce⟩,
    ⟨{ up with sets := [setWait (.time 7)] }, 5, setWait (.time 7), by decide +kernel +zetaReduce⟩,
    ⟨up.setProg 5 { block := some (.wait .now 9) }, 5, { block := some (.wait .now 9) }, 9, by decide +kernel +zetaReduce⟩,
    ⟨{ up.set F.SYSTEM.START_STATE 0 2 with replayPos := 15 }, by decide +kernel +zetaReduce⟩,
    ⟨up.set F.SYSTEM.START_STATE 0 2, by decide +kernel +zetaReduce⟩,
    ⟨up.armAt T.standingToken 0 9, 9, by decide +kernel +zetaReduce⟩,
    ⟨(up.armAt T.k0Window 0 9).set F.TOKEN.HOLDER 0 4, 9, by decide +kernel +zetaReduce⟩,
    ⟨{ up.armAt T.k0Window 0 9 with authOrder := [3] }, 9, 3, [], by decide +kernel +zetaReduce⟩,
    ⟨(up.armAt T.heldContext 5 9).set F.CONTEXT.STATE 5 2, 5, 9, by decide +kernel +zetaReduce⟩,
    ⟨{ up.armAt T.mgmtIdle 0 9 with sessions := up.sessions.write (fun _ => {}) 8 { up := true } }, 9, by decide +kernel +zetaReduce⟩,
    ⟨up.set F.CONTEXT.STATE 5 1, 5, by decide +kernel +zetaReduce⟩,
    ⟨up.modCtx 5 (fun c => { c with inTransfer := 16 }), 5, by decide +kernel +zetaReduce⟩⟩

theorem witness_LandingsAreFoundAgreedAndTrained :
    (∃ (h : Hub) (l : Nat), l < 4 ∧ 150 ≤ (h.link l).missed ∧ h.lState l ≠ 0 ∧ h.lState l ≠ 11) ∧
    (∃ (h : Hub) (l : Nat), l < 4 ∧ (h.link l).answered = true) ∧
    (∃ (h : Hub) (l : Nat), l < 4 ∧ h.feedPowered = true ∧ (h.link l).windowEnd < h.feedNow) ∧
    (∃ (h : Hub) (l : Nat), l < 4 ∧ InReplyWindow h l ∧ h.lState l ≠ 0) ∧
    (∃ (h : Hub) (l : Nat), l < 4 ∧ InReplyWindow h l ∧ h.lState l = 0 ∧
      let g := (h.frameTaken l).modLink l (fun k => { k with pongs := k.pongs + 1 }); (g.link l).pongs < 3) ∧
    (∃ (h : Hub) (l : Nat), l < 4 ∧ InReplyWindow h l ∧ h.lState l = 0 ∧
      let g := (h.frameTaken l).modLink l (fun k => { k with pongs := k.pongs + 1 }); 3 ≤ (g.link l).pongs) ∧
    (∃ (h : Hub) (l : Nat) (body : List Byte), l < 4 ∧ InReplyWindow h l ∧ body.length ≠ 48) ∧
    (∃ (h : Hub) (l : Nat) (body : List Byte), l < 4 ∧ InReplyWindow h l ∧ body.length = 48 ∧ (h.lState l = 1 ∨ h.lState l = 11)) ∧
    (∃ (h : Hub) (l d : Nat), l < 4 ∧ h.lState l = 1 ∧ h.due T.hello l = some d ∧ let g := h.expiredAt T.hello l d; (g.link l).helloTries < 3) ∧
    (∃ (h : Hub) (l d : Nat), l < 4 ∧ h.lState l = 1 ∧ h.due T.hello l = some d ∧ let g := h.expiredAt T.hello l d; 3 ≤ (g.link l).helloTries) ∧
    (∃ (h : Hub) (l : Nat) (body : List Byte), l < 4 ∧ InReplyWindow h l ∧ body.length ≠ 16) ∧
    (∃ (h : Hub) (l : Nat) (body : List Byte), l < 4 ∧ InReplyWindow h l ∧ body.length = 16 ∧ h.lState l = 1) ∧
    (∃ (h : Hub) (l : Nat), l < 4 ∧ InReplyWindow h l ∧ h.lState l = 7) ∧
    (∃ (h : Hub) (l d : Nat), l < 4 ∧ h.lState l = 1 ∧ h.get F.SYSTEM.START_STATE 0 = 3 ∧ h.due T.trainStart l = some d) ∧
    (∃ (h : Hub) (l : Nat), l < 4 ∧ h.lState l = 2 ∧ let ms := h.training l; ms ≠ []) ∧
    (∃ (h : Hub) (l d : Nat), l < 4 ∧ h.lState l = 2 ∧ h.due T.trainRetry l = some d) ∧
    (∃ (h : Hub) (l : Nat), l < 4 ∧ h.lState l = 3) ∧
    (∃ (h : Hub) (l d : Nat), l < 4 ∧ h.lState l = 3 ∧ h.due T.align l = some d) ∧
    (∃ (h : Hub) (l : Nat) (results : List TrainingResult), l < 4 ∧ h.lState l = 8 ∧
      let ms := h.training l; let passed := passedPairs results ms (h.pairDir l); (∃ m ∈ passed, h.pairDir l m = 1) ∧ (∃ m ∈ passed,
      h.pairDir l m = 2)) ∧
    (∃ (h : Hub) (l : Nat) (results : List TrainingResult), l < 4 ∧ h.lState l = 8 ∧
      let ms := h.training l; let passed := passedPairs results ms (h.pairDir l); ((∀ m ∈ passed, h.pairDir l m ≠ 1) ∨ (∀ m ∈ passed,
      h.pairDir l m ≠ 2))) :=
  ⟨⟨(up.set F.LANDING.STATE 3 5).modLink 3 (fun k => { k with missed := 150 }), 3, by decide +kernel +zetaReduce⟩,
    ⟨up.modLink 3 (fun k => { k with answered := true }), 3, by decide +kernel +zetaReduce⟩,
    ⟨{ up.modIsland (fun k => { k with step := 8 }) with clk := 9 * 65536 }, 3, by decide +kernel +zetaReduce⟩,
    ⟨((up.modIsland (fun k => { k with step := 8 })).modLink 3 (fun k => { k with answered := false })).set F.LANDING.STATE 3 5, 3,
      by unfold InReplyWindow; decide +kernel +zetaReduce⟩,
    ⟨((up.modIsland (fun k => { k with step := 8 })).modLink 3 (fun k => { k with answered := false })).set F.LANDING.STATE 3 0, 3,
      by unfold InReplyWindow; decide +kernel +zetaReduce⟩,
    ⟨(((up.modIsland (fun k => { k with step := 8 })).modLink 3 (fun k => { k with answered := false })).set F.LANDING.STATE 3 0).modLink 3 (fun k => { k with pongs := 2 }),
      3, by unfold InReplyWindow; decide +kernel +zetaReduce⟩,
    ⟨(up.modIsland (fun k => { k with step := 8 })).modLink 3 (fun k => { k with answered := false }), 3, [],
      by unfold InReplyWindow; decide +kernel +zetaReduce⟩,
    ⟨((up.modIsland (fun k => { k with step := 8 })).modLink 3 (fun k => { k with answered := false })).set F.LANDING.STATE 3 1, 3, zeros 48,
      by unfold InReplyWindow; decide +kernel +zetaReduce⟩,
    ⟨(up.set F.LANDING.STATE 3 1).armAt T.hello 3 9, 3, 9, by decide +kernel +zetaReduce⟩,
    ⟨((up.set F.LANDING.STATE 3 1).armAt T.hello 3 9).modLink 3 (fun k => { k with helloTries := 3 }), 3, 9, by decide +kernel +zetaReduce⟩,
    ⟨(up.modIsland (fun k => { k with step := 8 })).modLink 3 (fun k => { k with answered := false }), 3, [],
      by unfold InReplyWindow; decide +kernel +zetaReduce⟩,
    ⟨((up.modIsland (fun k => { k with step := 8 })).modLink 3 (fun k => { k with answered := false })).set F.LANDING.STATE 3 1, 3, zeros 16,
      by unfold InReplyWindow; decide +kernel +zetaReduce⟩,
    ⟨((up.modIsland (fun k => { k with step := 8 })).modLink 3 (fun k => { k with answered := false })).set F.LANDING.STATE 3 7, 3,
      by unfold InReplyWindow; decide +kernel +zetaReduce⟩,
    ⟨((up.set F.LANDING.STATE 3 1).set F.SYSTEM.START_STATE 0 3).armAt T.trainStart 3 9, 3, 9, by decide +kernel +zetaReduce⟩,
    ⟨(up.set F.LANDING.STATE 3 2).set F.PAIR.STATE 15 1, 3, by decide +kernel +zetaReduce⟩,
    ⟨(up.set F.LANDING.STATE 3 2).armAt T.trainRetry 3 9, 3, 9, by decide +kernel +zetaReduce⟩,
    ⟨up.set F.LANDING.STATE 3 3, 3, by decide +kernel +zetaReduce⟩,
    ⟨(up.set F.LANDING.STATE 3 3).armAt T.align 3 9, 3, 9, by decide +kernel +zetaReduce⟩,
    ⟨(((up.set F.LANDING.STATE 3 8).set F.PAIR.STATE 15 1).set F.PAIR.STATE 12 1 |>.set F.PAIR.DIR 15 1).set F.PAIR.DIR 12 2, 3, [heard 3, heard 0],
      by decide +kernel +zetaReduce⟩,
    ⟨((up.set F.LANDING.STATE 3 8).set F.PAIR.STATE 15 1).set F.PAIR.DIR 15 1, 3, [heard 3], by decide +kernel +zetaReduce⟩⟩

theorem witness_LinkTimersAct :
    (∃ (h : Hub) (l : Nat), l < 4 ∧ h.flitsRun l = true ∧ (h.link l).resync = false ∧ (h.link l).ackDue = true) ∧
    (∃ (h : Hub) (l d : Nat), l < 4 ∧ h.flitsRun l = true ∧ (h.link l).resync = false ∧ (h.link l).ackDue = false ∧ h.due T.ack l = some d) ∧
    (∃ (h : Hub) (l d : Nat), l < 4 ∧ h.flitsRun l = true ∧ (h.link l).reorder ≠ [] ∧ h.due T.nak l = some d) ∧
    (∃ (h : Hub) (l d : Nat) (f : TxFlit) (rest : List TxFlit), l < 4 ∧ h.flitsRun l = true ∧ (h.link l).unacked = f :: rest ∧
      h.due T.replay l = some d) ∧
    (∃ (h : Hub) (l d : Nat), l < 4 ∧ h.due T.sealGroup l = some d) ∧
    (∃ (h : Hub) (l : Nat), l < 4 ∧ h.flitsRun l = true) ∧
    (∃ (h : Hub) (l : Nat), l < 4 ∧ h.lState l = 7 ∧ h.on F.LANDING.WAKE_HOST l = true ∧ h.hasTraffic l = true) ∧
    (∃ (h : Hub) (l : Nat), l < 4 ∧ h.lState l = 6 ∧ h.hasTraffic l = true) ∧
    (∃ (h : Hub) (l : Nat), l < 4 ∧ h.flitsRun l = true ∧ (0xFFF00000 ≤ (h.link l).flitsOnKey ∨ (h.link l).rekeyOwed = true)) ∧
    (∃ (h : Hub) (l cls d : Nat), l < 4 ∧ cls < 8 ∧ h.due T.creditStall (8 * l + cls) = some d) ∧
    (∃ (h : Hub) (l d : Nat), l < 4 ∧ h.lState l = 5 ∧ let k := h.link l; bitB k.features 2 = true ∧ h.on F.LANDING.LIDLE_ENABLE l = true ∧
      h.busyOut l = false ∧ h.quietWaits l = false ∧ k.swap = none ∧ k.swapWanted = none ∧ k.idleReqSent = false ∧ h.due T.lidle l = some d) ∧
    (∃ (h : Hub) (l : Nat), l < 4 ∧ h.lState l = 6) ∧
    (∃ (h : Hub) (l load d : Nat), l < 4 ∧ h.due T.demand l = some d ∧
      let g := (h.expiredAt T.demand l d).arm T.demand l msec; let k := g.link l; ¬ (170 * k.demandCount < k.demandSum ∧ load < 60) ∧
      (¬ (170 < load ∧ (k.demandSum < 60 * k.demandCount ∨ k.demandCount = 0)))) ∧
    (∃ (h : Hub) (l load d : Nat), l < 4 ∧ h.due T.demand l = some d ∧
      let g := (h.expiredAt T.demand l d).arm T.demand l msec; let k := g.link l; g.lState l ≠ 9 ∧ 170 * k.demandCount < k.demandSum ∧ load < 60 ∧
      k.lopsidedDir = 1 ∧ k.lopsided < 49) ∧
    (∃ (h : Hub) (l d : Nat), h.mainUp = true ∧ chanOk (.ldl l) = true ∧ h.due T.auth l = some d ∧ let g := h.expiredAt T.auth l d; g.lState l = 4) ∧
    (∃ (h : Hub) (l d : Nat), h.mainUp = true ∧ chanOk (.legacy l) = true ∧ h.due T.auth (4 + l) = some d) ∧
    (∃ (h : Hub) (d : Nat), h.mainUp = true ∧ chanOk .mgmt = true ∧ h.due T.auth 8 = some d) :=
  ⟨⟨((up.set F.LANDING.STATE 3 5).modLink 3 (fun k => { k with resync := false })).modLink 3 (fun k => { k with ackDue := true }), 3,
      by decide +kernel +zetaReduce⟩,
    ⟨(((up.set F.LANDING.STATE 3 5).modLink 3 (fun k => { k with resync := false })).modLink 3 (fun k => { k with ackDue := false })).armAt T.ack 3 9,
      3, 9, by decide +kernel +zetaReduce⟩,
    ⟨((up.set F.LANDING.STATE 3 5).armAt T.nak 3 9).modLink 3 (fun k => { k with reorder := [(1, [])] }), 3, 9, by decide +kernel +zetaReduce⟩,
    ⟨((up.set F.LANDING.STATE 3 5).armAt T.replay 3 9).modLink 3 (fun k => { k with unacked := [{ seq := 0, cls := 0, bytes := [] }] }), 3, 9,
      { seq := 0, cls := 0, bytes := [] }, [], by decide +kernel +zetaReduce⟩,
    ⟨up.armAt T.sealGroup 3 9, 3, 9, by decide +kernel +zetaReduce⟩,
    ⟨up.set F.LANDING.STATE 3 5, 3, by decide +kernel +zetaReduce⟩,
    ⟨((up.set F.LANDING.STATE 3 7).set F.LANDING.WAKE_HOST 3 1).modLink 3 (fun k => { k with ctl := [(0, [])] }), 3, by decide +kernel +zetaReduce⟩,
    ⟨(up.set F.LANDING.STATE 3 6).modLink 3 (fun k => { k with ctl := [(0, [])] }), 3, by decide +kernel +zetaReduce⟩,
    ⟨(up.set F.LANDING.STATE 3 5).modLink 3 (fun k => { k with flitsOnKey := 0xFFF00000 }), 3, by decide +kernel +zetaReduce⟩,
    ⟨up.armAt T.creditStall (8 * 3 + 7) 9, 3, 7, 9, by decide +kernel +zetaReduce⟩,
    ⟨((((up.set F.LANDING.STATE 3 5).set F.LANDING.LIDLE_ENABLE 3 1).armAt T.lidle 3 9).set F.LANDING.LIDLE_ENABLE 3 1).modLink 3 (fun k => { k with features := 4 }),
      3, 9, by decide +kernel +zetaReduce⟩,
    ⟨up.set F.LANDING.STATE 3 6, 3, by decide +kernel +zetaReduce⟩,
    ⟨up.armAt T.demand 3 9, 3, 0, 9, by decide +kernel +zetaReduce⟩,
    ⟨(up.armAt T.demand 3 9).modLink 3 (fun k => { k with demandCount := 1, demandSum := 171, lopsidedDir := 1, lopsided := 48 }), 3, 59, 9,
      by decide +kernel +zetaReduce⟩,
    ⟨(up.armAt T.auth 3 9).set F.LANDING.STATE 3 4, 3, 9, by decide +kernel +zetaReduce⟩,
    ⟨up.armAt T.auth (4 + 3) 9, 3, 9, by decide +kernel +zetaReduce⟩,
    ⟨up.armAt T.auth 8 9, 9, by decide +kernel +zetaReduce⟩⟩

theorem witness_PairsSwapFailAndRejoin :
    (∃ (h : Hub) (l : Nat) (w : Swap), l < 4 ∧ (h.link l).swap = some w ∧ w.dir = 2 ∧ w.phase = 1) ∧
    (∃ (h : Hub) (l : Nat) (w : Swap), l < 4 ∧ (h.link l).swap = some w ∧ w.dir = 1 ∧ w.phase = 1) ∧
    (∃ (h : Hub) (l m : Nat) (rest : List (Nat × Nat)), l < 4 ∧ (h.link l).swap = none ∧ (h.link l).rejoin = (m, 1) :: rest ∧ (h.link l).locked = []) ∧
    (∃ (h : Hub) (l : Nat) (w : Swap) (d : Nat), l < 4 ∧ (h.link l).swap = some w ∧ w.phase = 0 ∧ h.due T.swapAck l = some d) ∧
    (∃ (h : Hub) (l : Nat) (w : Swap) (d : Nat), l < 4 ∧ (h.link l).swap = some w ∧ h.due T.swapLock l = some d) ∧
    (∃ (h : Hub) (l : Nat) (w : Swap) (d : Nat), l < 4 ∧ (h.link l).swap = some w ∧ h.due T.swapLock l = some d) ∧
    (∃ (h : Hub) (l d : Nat), l < 4 ∧ h.lState l = 5 ∧ h.due T.allotRetry l = some d) ∧
    (∃ (h : Hub) (l pair cause : Nat), l < 4 ∧ pair < 4 ∧ h.flitsRun l = true ∧
      let bad := ((h.link l).badCodes.read (fun _ => []) pair).filter (fun t => h.now < t + msec); ((cause = 1 ∧ 16 ≤ bad.length) ∨ cause = 2) ∧
      (h.activePairs l 1).contains pair = true) ∧
    (∃ (h : Hub) (pair d : Nat), pair < 16 ∧ let l := pair / 4; let m := pair % 4; h.lState l = 5 ∧ h.pairState l m = 5 ∧ h.due T.solo pair = some d) ∧
    (∃ (h : Hub) (pair : Nat) (results : List TrainingResult), pair < 16 ∧
      let m := pair % 4; let k := h.link (pair / 4); h.soloPasses (pair / 4) m results = true ∧ k.soloRunning.read (fun _ => false) m = true) ∧
    (∃ (h : Hub) (pair : Nat) (results : List TrainingResult), pair < 16 ∧
      let m := pair % 4; let k := h.link (pair / 4); h.soloPasses (pair / 4) m results = false ∧
      let failed := k.failAt.read (fun _ => 0) m; k.soloRunning.read (fun _ => false) m = true ∧ failed ≠ 0) ∧
    (∃ (h : Hub) (l : Nat), h.mainUp = true ∧ l < 4 ∧ h.lState l = 5 ∧ h.windowRoom l 4 = true ∧
      let g := (if 31 ≤ (h.link l).groupCount then h.sendTag l else h); let g1 := (g.putCtl l 3 (leBytes 4 (h.link l).quiet)).modLink l (fun k => { k with quiet := (k.quiet + 1) % 2 ^ 32, holdCtl := true }); let g2 := (g1.quietCloses l).reached (fun e => e == .quiet l) (some l); (g2.link l).quietStores = false ∧
      (g2.link l).increases = false) :=
  ⟨⟨swapping { dir := 2, phase := 1 }, 3, { dir := 2, phase := 1 }, by decide +kernel +zetaReduce⟩,
    ⟨swapping { dir := 1, phase := 1 }, 3, { dir := 1, phase := 1 }, by decide +kernel +zetaReduce⟩,
    ⟨up.modLink 3 (fun k => { k with rejoin := [(3, 1)] }), 3, 3, [], by decide +kernel +zetaReduce⟩,
    ⟨(swapping {}).armAt T.swapAck 3 9, 3, {}, 9, by decide +kernel +zetaReduce⟩,
    ⟨(swapping {}).armAt T.swapLock 3 9, 3, {}, 9, by decide +kernel +zetaReduce⟩,
    ⟨(swapping {}).armAt T.swapLock 3 9, 3, {}, 9, by decide +kernel +zetaReduce⟩,
    ⟨(up.set F.LANDING.STATE 3 5).armAt T.allotRetry 3 9, 3, 9, by decide +kernel +zetaReduce⟩,
    ⟨((up.set F.LANDING.STATE 3 5).set F.PAIR.STATE 15 2).set F.PAIR.DIR 15 1, 3, 3, 2, by decide +kernel +zetaReduce⟩,
    ⟨((up.set F.LANDING.STATE 3 5).set F.PAIR.STATE 15 5).armAt T.solo 15 9, 15, 9, by decide +kernel +zetaReduce⟩,
    ⟨up.modLink 3 (fun k => { k with soloRunning := k.soloRunning.write (fun _ => false) 3 true, trainHeard := k.trainHeard.write (fun _ => 0) 3 (2 ^ 14 + 32) }),
      15, [heard 3], by decide +kernel +zetaReduce⟩,
    ⟨up.modLink 3 (fun k => { k with soloRunning := k.soloRunning.write (fun _ => false) 3 true, failAt := k.failAt.write (fun _ => 0) 3 1 }), 15,
      [heard 3], by decide +kernel +zetaReduce⟩,
    ⟨((up.set F.LANDING.STATE 3 5).modLink 3 (fun k => { k with quietStores := false })).modLink 3 (fun k => { k with increases := false }), 3,
      by decide +kernel +zetaReduce⟩⟩

theorem witness_YardAndShuntersMoveMessages :
    (∃ (h : Hub) (port unit : Nat), h.mainUp = true ∧ unitExists port unit = true ∧ port < 14 ∧ (h.mustBeDown port unit = true ∨ 6 < port) ∧
      h.unitUp port unit = true ∧ h.get F.YARDPORT.FLUSH_DELAY port ≠ 0) ∧
    (∃ (h : Hub) (port unit : Nat), h.mainUp = true ∧ unitExists port unit = true ∧ port < 14 ∧ (h.mustBeDown port unit = true ∨ 6 < port) ∧
      h.unitUp port unit = true ∧ h.get F.YARDPORT.FLUSH_DELAY port = 0) ∧
    (∃ (h : Hub) (port unit : Nat), h.mainUp = true ∧ unitExists port unit = true ∧ h.mustBeDown port unit = false) ∧
    (∃ (h : Hub) (port unit d : Nat), h.mainUp = true ∧ unitExists port unit = true ∧ h.due T.flush (unitKey port unit) = some d ∧
      let g := h.expiredAt T.flush (unitKey port unit) d; g.unitUp port unit = false) ∧
    (∃ (h : Hub) (output d : Nat), h.mainUp = true ∧ output < 16 ∧ h.due T.incast output = some d) ∧
    (∃ (h : Hub) (voq d : Nat), h.mainUp = true ∧ voq < 2048 ∧ h.due T.backpressure voq = some d ∧
      let g := h.expiredAt T.backpressure voq d; g.yard.voq voq ≠ [] ∧ g.voqEligible (voq / 128) (voq / 8 % 16) (voq % 8) = false) ∧
    (∃ (h : Hub) (entry d : Nat), h.mainUp = true ∧ entry < 8192 ∧ h.due T.learnAge entry = some d ∧
      let g := h.expiredAt T.learnAge entry d; entryType (g.route entry) = 2 ∧ bitB (g.route entry) 4 = false) ∧
    (∃ (h : Hub) (t : Ticket) (e k : Nat), h.mainUp = true ∧ h.nextTicket = some t ∧ h.freeEngine = some e ∧
      firstWhere 16 (fun k => h.threadOf e k == 0) = some k) :=
  ⟨⟨(up.set F.YARDPORT.UP 13 1).set F.YARDPORT.FLUSH_DELAY 13 1, 13, 0, by decide +kernel +zetaReduce⟩,
    ⟨(up.set F.YARDPORT.UP 13 1).set F.YARDPORT.FLUSH_DELAY 13 0, 13, 0, by decide +kernel +zetaReduce⟩,
    ⟨up, 15, 0, by decide +kernel +zetaReduce⟩,
    ⟨up.armAt T.flush (unitKey 6 2) 9, 6, 2, 9, by decide +kernel +zetaReduce⟩,
    ⟨up.armAt T.incast 15 9, 15, 9, by decide +kernel +zetaReduce⟩,
    ⟨((up.armAt T.backpressure 2046 9).set F.POOL.RESERVE 15 0 6).modYard (fun y => { y with slices := [{ id := 0, input := 15, pkt := { bytes := [0] }, copies := 1 }], voqs := y.voqs.write (fun _ => []) 2046 [{ id := 0, leaf := 1926, slot := 0, cellsLeft := 1 }], leaves := y.leaves.write (fun _ => []) 1926 [onLeaf {}] }),
      2046, 9, by decide +kernel +zetaReduce⟩,
    ⟨(up.armAt T.learnAge 8175 9).modYard (fun y => { y with routes := y.routes.write (fun _ => 0) 8175 2 }), 8175, 9, by decide +kernel +zetaReduce⟩,
    ⟨up.modYard (fun y => { y with tickets := [{ id := 3, input := 15, slot := 63, pkt := {} }] }), { id := 3, input := 15, slot := 63, pkt := {} },
      0, 0, by decide +kernel +zetaReduce⟩⟩

theorem witness_ShapersAndTimetablesKeepTime :
    (∃ (h : Hub) (port : Nat), h.mainUp = true ∧ port < 16 ∧ h.on F.TIMETABLE.ENABLE port = true) ∧
    (∃ (h : Hub) (port : Nat), h.mainUp = true ∧ port < 16 ∧ h.on F.TIMETABLE.ENABLE port = true) ∧
    (∃ (h : Hub) (leaf : Nat) (e : LeafPkt) (rest : List LeafPkt) (t : Nat), h.mainUp = true ∧ leaf < 2048 ∧ h.yard.leaf leaf = e :: rest ∧
      e.pkt.launch = some t ∧ leaf / 128 = 6) :=
  ⟨⟨up.set F.TIMETABLE.ENABLE 15 1, 15, by decide +kernel +zetaReduce⟩,
    ⟨up.set F.TIMETABLE.ENABLE 15 1, 15, by decide +kernel +zetaReduce⟩,
    ⟨up.modYard (fun y => { y with leaves := y.leaves.write (fun _ => []) 895 [onLeaf { launch := some 7 }] }), 895, onLeaf { launch := some 7 }, [],
      7, by decide +kernel +zetaReduce⟩⟩

theorem witness_EthernetFramesAndLinks :
    (∃ (h : Hub) (l slot : Nat) (msg : List Byte), h.mainUp = true ∧ l < 4 ∧ slot < 2048 ∧ (h.yard.inbox.read (fun _ => []) l).contains (l, slot,
      msg) = true ∧ h.use F.TUNNEL.CLASS (tunnelOf l slot) = 3) ∧
    (∃ (h : Hub) (mac : Nat), h.mainUp = true ∧ mac < 2 ∧ h.on F.ETHPORT.LINK mac = true) ∧
    (∃ (h : Hub) (mac : Nat) (frame : List Byte), h.mainUp = true ∧ mac < 2 ∧ h.on F.ETHPORT.LINK mac = true ∧ isPause frame = true) ∧
    (∃ (h : Hub) (mac d e : Nat), h.mainUp = true ∧ mac < 2 ∧ let k := h.watchedFirst mac; h.due T.pauseWatch k = some d ∧
      let g := h.expiredAt T.pauseWatch k d; g.yard.pauseIgnored.read (fun _ => false) mac = false ∧ g.due T.pauseEnd k = some e ∧ g.now ≤ e) ∧
    (∃ (h : Hub) (mac d : Nat), h.mainUp = true ∧ mac < 2 ∧ h.due T.pauseQuiet mac = some d) ∧
    (∃ (h : Hub) (mac d : Nat), h.mainUp = true ∧ mac < 2 ∧ h.due T.storm mac = some d) ∧
    (∃ (h : Hub) (mac : Nat) (isUp : Bool) (speed fault : Nat), h.mainUp = true ∧ mac < 2 ∧
      (isUp = false ∨ h.get F.SYSTEM.POWER_STATE 0 ≠ 1 ∨ h.on F.ETHPORT.MGMT_ENABLE mac = true) ∧
      let iface := h.get F.ETHPORT.IFACE mac; let isNow := isUp && iface != 0; isNow ≠ h.on F.ETHPORT.LINK mac ∧ (isNow = false ∨ iface ≠ 3 ∨ ([100,
      1000, 2500, 5000, 10000] : List Nat).contains speed = true) ∧ fault ≠ 2 ∧ fault ≠ 3) ∧
    (∃ (h : Hub) (mac d : Nat), h.mainUp = true ∧ mac < 2 ∧ h.due T.mdio mac = some d) ∧
    (∃ (h : Hub) (mac d : Nat), h.mainUp = true ∧ mac < 2 ∧ h.due T.mdio mac = some d) :=
  ⟨⟨both (inbox 3 (3, 2047, [])) F.TUNNEL.CLASS (tunnelOf 3 2047) 3, 3, 2047, [], by decide +kernel +zetaReduce⟩,
    ⟨up.set F.ETHPORT.LINK 1 1, 1, by decide +kernel +zetaReduce⟩,
    ⟨up.set F.ETHPORT.LINK 1 1, 1, zeros 12 ++ [0x88, 8], by decide +kernel +zetaReduce⟩,
    ⟨(up.armAt T.pauseWatch 15 9).armAt T.pauseEnd 15 20, 1, 9, 20, by decide +kernel +zetaReduce⟩,
    ⟨up.armAt T.pauseQuiet 1 9, 1, 9, by decide +kernel +zetaReduce⟩,
    ⟨up.armAt T.storm 1 9, 1, 9, by decide +kernel +zetaReduce⟩,
    ⟨up.set F.ETHPORT.IFACE 1 1, 1, true, 0, 0, by decide +kernel +zetaReduce⟩,
    ⟨up.armAt T.mdio 1 9, 1, 9, by decide +kernel +zetaReduce⟩,
    ⟨up.armAt T.mdio 1 9, 1, 9, by decide +kernel +zetaReduce⟩⟩

theorem witness_DisplayCommandsAndHeadsAct :
    (∃ (h : Hub) (l slot : Nat) (msg : List Byte), h.mainUp = true ∧ l < 4 ∧ slot < 2048 ∧ h.depot ≠ 1 ∧ h.firstOf 7 l slot msg = true ∧
      bits (leAt msg 0 2) 4 8 = 1 ∧ (∀ j ∈ h.jobs, ¬ (j.l = l ∧ j.slot = slot))) ∧
    (∃ (h : Hub) (l slot : Nat) (msg : List Byte), h.mainUp = true ∧ l < 4 ∧ slot < 2048 ∧ h.depot ≠ 1 ∧ h.firstOf 7 l slot msg = true ∧
      bits (leAt msg 0 2) 4 8 = 2 ∧ (∀ j ∈ h.jobs, ¬ (j.l = l ∧ j.slot = slot))) ∧
    (∃ (h : Hub) (l slot : Nat) (msg : List Byte), h.mainUp = true ∧ l < 4 ∧ slot < 2048 ∧ h.firstOf 7 l slot msg = true ∧
      bits (leAt msg 0 2) 4 8 = 3 ∧ (∀ j ∈ h.jobs, ¬ (j.l = l ∧ j.slot = slot))) ∧
    (∃ (h : Hub) (l slot : Nat) (msg : List Byte), h.mainUp = true ∧ l < 4 ∧ slot < 2048 ∧ h.firstOf 7 l slot msg = true ∧
      bits (leAt msg 0 2) 4 8 = 5) ∧
    (∃ (h : Hub) (l : Nat) (j : Job), h.mainUp = true ∧ l < 4 ∧ h.depot ≠ 1 ∧ (h.clones.cells.any (fun c => c.2.copy.isSome)) = false ∧
      h.jobs.find? (fun j => j.l == l) = some j) ∧
    (∃ (h : Hub) (layer : Nat) (j : Job), h.mainUp = true ∧ layer < 32 ∧ h.depot ≠ 1 ∧ (h.clone layer).copy = some j ∧ (h.clone layer).again = false) ∧
    (∃ (h : Hub) (d : Nat), h.mainUp = true ∧ h.due T.selfRefresh 0 = some d) ∧
    (∃ (h : Hub) (head : Nat), h.mainUp = true ∧ head < 4 ∧ (h.head head).gap ≠ 0 ∧ (h.head head).training = false) ∧
    (∃ (h : Hub) (head : Nat), h.mainUp = true ∧ head < 4 ∧ h.scanning head = true ∧ (h.head head).gap = 0 ∧ (h.head head).inBlank = true) ∧
    (∃ (h : Hub) (head : Nat), h.mainUp = true ∧ head < 4 ∧ h.scanning head = true ∧
      let k := h.head head; let line := h.use F.HEAD.LINE_MATCH head; k.gap = 0 ∧ k.inBlank = false ∧ k.matched = false ∧
      line < h.use F.HEAD.TIMING_VACT head) ∧
    (∃ (h : Hub) (head : Nat), h.mainUp = true ∧ head < 4 ∧ h.scanning head = true ∧ let k := h.head head; k.gap = 0 ∧ k.done = false) ∧
    (∃ (h : Hub) (head line : Nat), h.mainUp = true ∧ head < 4 ∧ h.scanning head = true) ∧
    (∃ (h : Hub) (head : Nat), h.mainUp = true ∧ head < 4 ∧ (h.head head).sink = true ∧ h.get F.HEAD.LINK_ACTIVE head < 128) ∧
    (∃ (h : Hub) (head : Nat), h.mainUp = true ∧ head < 4 ∧ (h.head head).sink = false) ∧
    (∃ (h : Hub) (head : Nat), h.mainUp = true ∧ head < 4 ∧ (h.head head).sink = false) ∧
    (∃ (h : Hub) (head : Nat), h.mainUp = true ∧ head < 4 ∧ let k := h.head head; k.sink = true ∧ (k.irqAt = 0 ∨ k.irqAt - 1 + 10 * msec ≤ h.now)) ∧
    (∃ (h : Hub) (head : Nat), h.mainUp = true ∧ head < 4 ∧ let k := h.head head; k.sink = true ∧ k.irqAt ≠ 0 ∧ h.now < k.irqAt - 1 + 10 * msec) ∧
    (∃ (h : Hub) (head : Nat), h.mainUp = true ∧ head < 4 ∧ let k := h.head head; k.training = true) ∧
    (∃ (h : Hub) (head : Nat), h.mainUp = true ∧ head < 4 ∧ (h.head head).training = true) ∧
    (∃ (h : Hub) (head d : Nat), h.mainUp = true ∧ head < 4 ∧ h.due T.dpRetry head = some d) :=
  ⟨⟨inbox 7 (3, 2047, [16, 0]), 3, 2047, [16, 0], by decide +kernel +zetaReduce⟩,
    ⟨inbox 7 (3, 2047, [32, 0]), 3, 2047, [32, 0], by decide +kernel +zetaReduce⟩,
    ⟨inbox 7 (3, 2047, [48, 0]), 3, 2047, [48, 0], by decide +kernel +zetaReduce⟩,
    ⟨inbox 7 (3, 2047, [80, 0]), 3, 2047, [80, 0], by decide +kernel +zetaReduce⟩,
    ⟨{ up with jobs := [{ l := 3 }] }, 3, { l := 3 }, by decide +kernel +zetaReduce⟩,
    ⟨up.modClone 31 (fun c => { c with copy := some {} }), 31, {}, by decide +kernel +zetaReduce⟩,
    ⟨up.armAt T.selfRefresh 0 9, 9, by decide +kernel +zetaReduce⟩,
    ⟨up.modHead 3 (fun k => { k with gap := 1 }), 3, by decide +kernel +zetaReduce⟩,
    ⟨((lit (up) 3).modHead 3 (fun k => { k with gap := 0 })).modHead 3 (fun k => { k with inBlank := true }), 3, by decide +kernel +zetaReduce⟩,
    ⟨lit (up) 3, 3, by decide +kernel +zetaReduce⟩,
    ⟨lit (up) 3, 3, by decide +kernel +zetaReduce⟩,
    ⟨lit (up) 3, 3, 0, by decide +kernel +zetaReduce⟩,
    ⟨up.modHead 3 (fun k => { k with sink := true }), 3, by decide +kernel +zetaReduce⟩,
    ⟨up.modHead 3 (fun k => { k with sink := false }), 3, by decide +kernel +zetaReduce⟩,
    ⟨up.modHead 3 (fun k => { k with sink := false }), 3, by decide +kernel +zetaReduce⟩,
    ⟨up.modHead 3 (fun k => { k with sink := true }), 3, by decide +kernel +zetaReduce⟩,
    ⟨up.modHead 3 (fun k => { k with sink := true, irqAt := 1 }), 3, by decide +kernel +zetaReduce⟩,
    ⟨up.modHead 3 (fun k => { k with training := true }), 3, by decide +kernel +zetaReduce⟩,
    ⟨up.modHead 3 (fun k => { k with training := true }), 3, by decide +kernel +zetaReduce⟩,
    ⟨up.armAt T.dpRetry 3 9, 3, 9, by decide +kernel +zetaReduce⟩⟩

theorem witness_ClockPulsesTriggersAndPtpAct :
    (∃ (h : Hub), h.mainUp = true ∧ h.get F.CLOCK.REF_STATE 0 ≠ 1) ∧
    (∃ (h : Hub) (ms : Nat), h.mainUp = true ∧ h.get F.CLOCK.REF_STATE 0 ≠ 0) ∧
    (∃ (h : Hub) (d : Nat), h.mainUp = true ∧ h.due T.syncLoss 0 = some d ∧ let g := h.expiredAt T.syncLoss 0 d; g.holder 1 = 0xF) ∧
    (∃ (h : Hub) (port d : Nat), h.mainUp = true ∧ port < 6 ∧ h.due T.followUp port = some d) ∧
    (∃ (h : Hub) (trigger : Nat), h.mainUp = true ∧ trigger < 32 ∧ h.on F.TRIGGER.ENABLE trigger = true) ∧
    (∃ (h : Hub) (cue d : Nat), h.mainUp = true ∧ cue < 8 ∧ h.due T.cueEnd cue = some d) ∧
    (∃ (h : Hub), h.mainUp = true ∧ h.on F.CLOCK.PPS_ENABLE 0 = true ∧ (h.on F.CLOCK.PPS_LOCKED_ONLY 0 = false ∨ h.get F.CLOCK.STATE 0 = 2)) ∧
    (∃ (h : Hub) (d : Nat), h.mainUp = true ∧ h.due T.ppsEnd 0 = some d) ∧
    (∃ (h : Hub) (msg : List Byte), h.mainUp = true ∧ ∃ g t, PtpArrives h 3 msg [0] g t) ∧
    (∃ (h : Hub) (msg : List Byte), h.mainUp = true ∧ ∃ g t, PtpArrives h 3 msg [8] g t) ∧
    (∃ (h : Hub) (msg : List Byte), h.mainUp = true ∧ ∃ g t, PtpArrives h 3 msg [1] g t) ∧
    (∃ (h : Hub) (msg : List Byte), h.mainUp = true ∧ ∃ g t, PtpArrives h 3 msg [9] g t) ∧
    (∃ (h : Hub) (msg : List Byte), h.mainUp = true ∧ ∃ g t, PtpArrives h 3 msg [2] g t) ∧
    (∃ (h : Hub) (msg : List Byte), h.mainUp = true ∧ ∃ g t, PtpArrives h 3 msg [3, 10] g t) ∧
    (∃ (h : Hub) (msg : List Byte), h.mainUp = true ∧ ∃ g t, PtpArrives h 3 msg [11] g t) ∧
    (∃ (h : Hub) (msg : List Byte), h.mainUp = true ∧ ∃ g t, PtpArrives h 3 msg [12, 13] g t) ∧
    (∃ (h : Hub) (port d : Nat), h.mainUp = true ∧ port < 6 ∧ h.due T.syncTx port = some d ∧
      let g := h.expiredAt T.syncTx port d; g.on F.PTPPORT.ENABLE port = true) ∧
    (∃ (h : Hub) (port d : Nat), h.mainUp = true ∧ port < 6 ∧ h.due T.pdelayTx port = some d ∧
      let g := h.expiredAt T.pdelayTx port d; g.on F.PTPPORT.ENABLE port = true) ∧
    (∃ (h : Hub) (port d : Nat), h.mainUp = true ∧ port < 6 ∧ h.due T.announceTx port = some d ∧
      let g := h.expiredAt T.announceTx port d; g.on F.PTPPORT.ENABLE port = true) :=
  ⟨⟨up, by decide +kernel +zetaReduce⟩,
    ⟨up.set F.CLOCK.REF_STATE 0 1, 0, by decide +kernel +zetaReduce⟩,
    ⟨up.armAt T.syncLoss 0 9, 9, by decide +kernel +zetaReduce⟩,
    ⟨up.armAt T.followUp 5 9, 5, 9, by decide +kernel +zetaReduce⟩,
    ⟨up.set F.TRIGGER.ENABLE 31 1, 31, by decide +kernel +zetaReduce⟩,
    ⟨up.armAt T.cueEnd 7 9, 7, 9, by decide +kernel +zetaReduce⟩,
    ⟨(up.set F.CLOCK.PPS_ENABLE 0 1).set F.CLOCK.PPS_LOCKED_ONLY 0 0, by decide +kernel +zetaReduce⟩,
    ⟨up.armAt T.ppsEnd 0 9, 9, by decide +kernel +zetaReduce⟩,
    ⟨ptpIn 0, leBytes 1 0 ++ zeros 4, by decide +kernel, ptp_arrives (3, 0, zeros 10 ++ [0, 0, 5, 0, 0, 0, 0,
      0] ++ leBytes 1 0 ++ zeros 4) (by decide +kernel)⟩,
    ⟨ptpIn 8, leBytes 1 8 ++ zeros 4, by decide +kernel, ptp_arrives (3, 0, zeros 10 ++ [0, 0, 5, 0, 0, 0, 0,
      0] ++ leBytes 1 8 ++ zeros 4) (by decide +kernel)⟩,
    ⟨ptpIn 1, leBytes 1 1 ++ zeros 4, by decide +kernel, ptp_arrives (3, 0, zeros 10 ++ [0, 0, 5, 0, 0, 0, 0,
      0] ++ leBytes 1 1 ++ zeros 4) (by decide +kernel)⟩,
    ⟨ptpIn 9, leBytes 1 9 ++ zeros 4, by decide +kernel, ptp_arrives (3, 0, zeros 10 ++ [0, 0, 5, 0, 0, 0, 0,
      0] ++ leBytes 1 9 ++ zeros 4) (by decide +kernel)⟩,
    ⟨ptpIn 2, leBytes 1 2 ++ zeros 4, by decide +kernel, ptp_arrives (3, 0, zeros 10 ++ [0, 0, 5, 0, 0, 0, 0,
      0] ++ leBytes 1 2 ++ zeros 4) (by decide +kernel)⟩,
    ⟨ptpIn 10, leBytes 1 10 ++ zeros 4, by decide +kernel, ptp_arrives (3, 0, zeros 10 ++ [0, 0, 5, 0, 0, 0, 0,
      0] ++ leBytes 1 10 ++ zeros 4) (by decide +kernel)⟩,
    ⟨ptpIn 11, leBytes 1 11 ++ zeros 4, by decide +kernel, ptp_arrives (3, 0, zeros 10 ++ [0, 0, 5, 0, 0, 0, 0,
      0] ++ leBytes 1 11 ++ zeros 4) (by decide +kernel)⟩,
    ⟨ptpIn 13, leBytes 1 13 ++ zeros 4, by decide +kernel, ptp_arrives (3, 0, zeros 10 ++ [0, 0, 5, 0, 0, 0, 0,
      0] ++ leBytes 1 13 ++ zeros 4) (by decide +kernel)⟩,
    ⟨(up.armAt T.syncTx 5 9).set F.PTPPORT.ENABLE 5 1, 5, 9, by decide +kernel +zetaReduce⟩,
    ⟨(up.armAt T.pdelayTx 5 9).set F.PTPPORT.ENABLE 5 1, 5, 9, by decide +kernel +zetaReduce⟩,
    ⟨(up.armAt T.announceTx 5 9).set F.PTPPORT.ENABLE 5 1, 5, 9, by decide +kernel +zetaReduce⟩⟩

theorem witness_StorageSlotsComeUpAndGo :
    (∃ (h : Hub) (n : Nat), h.mainUp = true ∧ n < 2 ∧ h.on F.STORAGE.PRESENT n = false) ∧
    (∃ (h : Hub) (n : Nat), h.mainUp = true ∧ n < 2 ∧ h.get F.STORAGE.STATE n = 1 ∧ h.get F.FEED.STATE (12 + n) = 3) ∧
    (∃ (h : Hub) (n d : Nat), h.mainUp = true ∧ n < 2 ∧ h.due T.slotPerst n = some d ∧
      let g := h.expiredAt T.slotPerst n d; g.get F.STORAGE.STATE n = 2 ∧ (g.slot n).power = true ∧ (g.slot n).phase = 0 ∧ g.holder (11 + n) < 6) ∧
    (∃ (h : Hub) (n gen width mps w g m : Nat), h.mainUp = true ∧ n < 2 ∧ h.get F.STORAGE.STATE n = 3 ∧
      (w = (if width = 4 ∨ width = 2 then min width (h.get F.STORAGE.MAX_WIDTH n) else 1)) ∧ g = max 1 (min gen (h.get F.STORAGE.MAX_GEN n)) ∧
      m = (if 512 ≤ mps then 512 else if 256 ≤ mps then 256 else 128)) ∧
    (∃ (h : Hub) (n d : Nat), h.mainUp = true ∧ n < 2 ∧ h.due T.slotTrain n = some d) ∧
    (∃ (h : Hub) (n : Nat), h.mainUp = true ∧ n < 2 ∧ h.get F.STORAGE.STATE n = 4) ∧
    (∃ (h : Hub) (n : Nat), h.mainUp = true ∧ n < 2 ∧ h.on F.STORAGE.PRESENT n = true) ∧
    (∃ (h : Hub) (l slot : Nat) (msg : List Byte), h.mainUp = true ∧ l < 4 ∧ slot < 2048 ∧ (h.yard.inbox.read (fun _ => []) l).contains (l, slot,
      msg) = true ∧ h.use F.TUNNEL.CLASS (tunnelOf l slot) = 2) ∧
    (∃ (h : Hub) (n : Nat) (tlp : List Byte), h.mainUp = true ∧ n < 2 ∧ h.get F.STORAGE.STATE n = 4 ∧ tlpKind tlp = some .memRead) ∧
    (∃ (h : Hub) (n : Nat) (tlp : List Byte), h.mainUp = true ∧ n < 2 ∧ h.get F.STORAGE.STATE n = 4 ∧ tlpKind tlp = some .memWrite) ∧
    (∃ (h : Hub) (n count : Nat), h.mainUp = true ∧ n < 2) ∧
    (∃ (h : Hub) (n : Nat) (r : HostReq), h.mainUp = true ∧ n < 2 ∧ (h.slot n).down.filter (fun r => r.sentAt != 0) = [r]) ∧
    (∃ (h : Hub) (n d : Nat), h.mainUp = true ∧ n < 2 ∧ h.due T.handDrain n = some d) ∧
    (∃ (h : Hub) (n d : Nat), h.mainUp = true ∧ n < 2 ∧ h.due T.handPerst n = some d) :=
  ⟨⟨up.set F.STORAGE.PRESENT 1 0, 1, by decide +kernel +zetaReduce⟩,
    ⟨(up.set F.STORAGE.STATE 1 1).set F.FEED.STATE (12 + 1) 3, 1, by decide +kernel +zetaReduce⟩,
    ⟨((((up.armAt T.slotPerst 1 9).set F.STORAGE.STATE 1 2).modSlot 1 (fun k => { k with power := true })).modSlot 1 (fun k => { k with phase := 0 })).set F.TOKEN.HOLDER 12 5,
      1, 9, by decide +kernel +zetaReduce⟩,
    ⟨up.set F.STORAGE.STATE 1 3, 1, 5, 4, 512, 4, 5, 512, by decide +kernel +zetaReduce⟩,
    ⟨up.armAt T.slotTrain 1 9, 1, 9, by decide +kernel +zetaReduce⟩,
    ⟨up.set F.STORAGE.STATE 1 4, 1, by decide +kernel +zetaReduce⟩,
    ⟨up.set F.STORAGE.PRESENT 1 1, 1, by decide +kernel +zetaReduce⟩,
    ⟨both (inbox 3 (3, 2047, [])) F.TUNNEL.CLASS (tunnelOf 3 2047) 2, 3, 2047, [], by decide +kernel +zetaReduce⟩,
    ⟨up.set F.STORAGE.STATE 1 4, 1, [1, 0, 0, 0] ++ zeros 8, by decide +kernel +zetaReduce⟩,
    ⟨up.set F.STORAGE.STATE 1 4, 1, [1, 0, 0, 0x40] ++ zeros 12, by decide +kernel +zetaReduce⟩,
    ⟨up, 1, 0, by decide +kernel +zetaReduce⟩,
    ⟨up.modSlot 1 (fun k => { k with down := [{ sentAt := 1 }] }), 1, { sentAt := 1 }, by decide +kernel +zetaReduce⟩,
    ⟨up.armAt T.handDrain 1 9, 1, 9, by decide +kernel +zetaReduce⟩,
    ⟨up.armAt T.handPerst 1 9, 1, 9, by decide +kernel +zetaReduce⟩⟩

theorem witness_BranchMessagesAndTimersAct :
    (∃ (h : Hub) (l slot : Nat) (msg : List Byte), h.mainUp = true ∧ l < 4 ∧ slot < 2048 ∧ WaitsAt h 9 l slot msg 1) ∧
    (∃ (h : Hub) (l slot : Nat) (msg : List Byte), h.mainUp = true ∧ l < 4 ∧ slot < 2048 ∧ WaitsAt h 9 l slot msg 4) ∧
    (∃ (h : Hub) (l slot : Nat) (msg : List Byte), h.mainUp = true ∧ l < 4 ∧ slot < 2048 ∧ WaitsAt h 9 l slot msg 8) ∧
    (∃ (h : Hub) (n d : Nat), h.mainUp = true ∧ n < 6 ∧ h.due T.busLock n = some d) ∧
    (∃ (h : Hub) (n status : Nat) (a : Access), h.mainUp = true ∧ n < 6 ∧ (h.farBus n).job = some (.access a) ∧ n < 5 ∧ a.readLen = 0 ∧ status = 0) ∧
    (∃ (h : Hub) (n : Nat), h.mainUp = true ∧ n < 2 ∧ h.get F.BRANCH.MODE n ≠ 0) ∧
    (∃ (h : Hub) (n : Nat), h.mainUp = true ∧ n < 2 ∧ h.get F.BRANCH.MODE n ≠ 0 ∧
      let g := (h.add F.BRANCH.RX_COUNT n 1).drainCan n; (g.farBus n).job = none ∧ g.branchRoom = true ∧ (g.farBus n).rxFifo = []) ∧
    (∃ (h : Hub) (n st : Nat), h.mainUp = true ∧ n < 2 ∧ h.get F.BRANCH.CAN_STATE n = min st 2) ∧
    (∃ (h : Hub) (n st tec rec_ : Nat), h.mainUp = true ∧ n < 2 ∧ let new := min st 2; h.get F.BRANCH.CAN_STATE n ≠ new ∧
      (h.get F.BRANCH.CAN_STATE n ≠ 2 ∨ h.on F.BRANCH.AUTO_RECOVER n = true) ∧ new ≠ 2) ∧
    (∃ (h : Hub) (n st tec rec_ : Nat), h.mainUp = true ∧ n < 2 ∧ let new := min st 2; h.get F.BRANCH.CAN_STATE n ≠ new ∧
      (h.get F.BRANCH.CAN_STATE n ≠ 2 ∨ h.on F.BRANCH.AUTO_RECOVER n = true) ∧ new = 2 ∧
      let g := ((((h.set F.BRANCH.CAN_STATE n new).set F.BRANCH.TEC n tec).set F.BRANCH.REC n rec_).branchNotice n 304 (n + new * 2 ^ 4 + tec % 256 * 2 ^ 8 + rec_ % 256 * 2 ^ 16)).farEvent n 3 (new + tec % 256 * 2 ^ 8 + rec_ % 256 * 2 ^ 16); (g.farBus n).job = none) ∧
    (∃ (h : Hub) (n frame d : Nat), h.mainUp = true ∧ n < 2 ∧ frame < 16 ∧ h.due T.canTx (16 * n + frame) = some d) ∧
    (∃ (h : Hub) (entry d : Nat), h.mainUp = true ∧ entry < 2048 ∧ h.due T.farPoll entry = some d) ∧
    (∃ (h : Hub) (l slot d : Nat), h.mainUp = true ∧ l < 4 ∧ slot < 2048 ∧ h.due T.signals (tunnelOf l slot) = some d) ∧
    (∃ (h : Hub) (levels : Nat), h.mainUp = true) ∧
    (∃ (h : Hub) (n reg : Nat), h.mainUp = true ∧ 2 ≤ n ∧ n < 4 ∧ reg < 256 ∧ h.targetMode n = true) ∧
    (∃ (h : Hub) (n reg : Nat), h.mainUp = true ∧ 2 ≤ n ∧ n < 4 ∧ reg < 256 ∧ h.targetMode n = true) ∧
    (∃ (h : Hub) (n reg d : Nat), h.mainUp = true ∧ 2 ≤ n ∧ n < 4 ∧ reg < 256 ∧ h.due T.targetReply (256 * n + reg) = some d) ∧
    (∃ (h : Hub) (n reg d : Nat), h.mainUp = true ∧ 2 ≤ n ∧ n < 4 ∧ reg < 256 ∧ h.due T.splitHold (256 * n + reg) = some d) ∧
    (∃ (h : Hub) (n d : Nat), h.mainUp = true ∧ 2 ≤ n ∧ n < 4 ∧ h.due T.busRecovery n = some d) :=
  ⟨⟨inbox 9 (3, 2047, [16, 0]), 3, 2047, [16, 0], by unfold WaitsAt; decide +kernel +zetaReduce⟩,
    ⟨inbox 9 (3, 2047, [64, 0]), 3, 2047, [64, 0], by unfold WaitsAt; decide +kernel +zetaReduce⟩,
    ⟨inbox 9 (3, 2047, [128, 0]), 3, 2047, [128, 0], by unfold WaitsAt; decide +kernel +zetaReduce⟩,
    ⟨up.armAt T.busLock 5 9, 5, 9, by decide +kernel +zetaReduce⟩,
    ⟨up.modFar 4 (fun b => { b with job := some (.access {}) }), 4, 0, {}, by decide +kernel +zetaReduce⟩,
    ⟨up.set F.BRANCH.MODE 1 1, 1, by decide +kernel +zetaReduce⟩,
    ⟨up.set F.BRANCH.MODE 1 1, 1, by decide +kernel +zetaReduce⟩,
    ⟨up, 1, 0, by decide +kernel +zetaReduce⟩,
    ⟨up, 1, 1, 0, 0, by decide +kernel +zetaReduce⟩,
    ⟨up, 1, 2, 0, 0, by decide +kernel +zetaReduce⟩,
    ⟨up.armAt T.canTx (16 * 1 + 15) 9, 1, 15, 9, by decide +kernel +zetaReduce⟩,
    ⟨up.armAt T.farPoll 2047 9, 2047, 9, by decide +kernel +zetaReduce⟩,
    ⟨up.armAt T.signals (tunnelOf 3 2047) 9, 3, 2047, 9, by decide +kernel +zetaReduce⟩,
    ⟨up, 0, by decide +kernel +zetaReduce⟩,
    ⟨up.set F.BRANCH.MODE 3 2, 3, 255, by decide +kernel +zetaReduce⟩,
    ⟨up.set F.BRANCH.MODE 3 2, 3, 255, by decide +kernel +zetaReduce⟩,
    ⟨up.armAt T.targetReply (256 * 3 + 255) 9, 3, 255, 9, by decide +kernel +zetaReduce⟩,
    ⟨up.armAt T.splitHold (256 * 3 + 255) 9, 3, 255, 9, by decide +kernel +zetaReduce⟩,
    ⟨up.armAt T.busRecovery 3 9, 3, 9, by decide +kernel +zetaReduce⟩⟩

theorem witness_UsbPortsAndTransfersAct :
    (∃ (h : Hub) (n d : Nat), h.mainUp = true ∧ n < 8 ∧ h.due T.usbPower n = some d ∧
      let g := h.expiredAt T.usbPower n d; g.get F.USBPORT.STATE n = 0 ∧ g.usbWants n = true) ∧
    (∃ (h : Hub) (n : Nat), h.mainUp = true ∧ n < 8 ∧ h.get F.USBPORT.STATE n = 1 ∧ h.due T.usbBounce n = none ∧
      let recent := ((h.usb n).connects.filter (fun t => h.now < t + 10 * sec)) ++ [h.now]; h.get F.USBPORT.BOUNCE_LIMIT n < recent.length) ∧
    (∃ (h : Hub) (n speed : Nat), h.mainUp = true ∧ n < 8 ∧ h.get F.USBPORT.STATE n = 1 ∧ h.due T.usbBounce n = none ∧
      let recent := ((h.usb n).connects.filter (fun t => h.now < t + 10 * sec)) ++ [h.now]; recent.length ≤ h.get F.USBPORT.BOUNCE_LIMIT n) ∧
    (∃ (h : Hub) (n : Nat), h.mainUp = true ∧ n < 8 ∧ 2 ≤ h.get F.USBPORT.STATE n) ∧
    (∃ (h : Hub) (n d : Nat), h.mainUp = true ∧ n < 8 ∧ h.due T.usbBounce n = some d) ∧
    (∃ (h : Hub) (ctx n : Nat), h.mainUp = true ∧ n < 8 ∧ h.ownsPort ctx n = true ∧ 2 ≤ h.get F.USBPORT.STATE n) ∧
    (∃ (h : Hub) (n d : Nat), h.mainUp = true ∧ n < 8 ∧ h.due T.usbReset n = some d) ∧
    (∃ (h : Hub) (ctx n : Nat), h.mainUp = true ∧ n < 8 ∧ h.ownsPort ctx n = true ∧ h.get F.USBPORT.STATE n = 4) ∧
    (∃ (h : Hub) (ctx n : Nat), h.mainUp = true ∧ n < 8 ∧ h.ownsPort ctx n = true ∧ h.get F.USBPORT.STATE n = 5) ∧
    (∃ (h : Hub) (ctx n : Nat), h.mainUp = true ∧ n < 8 ∧ h.ownsPort ctx n = true ∧ h.get F.USBPORT.STATE n = 5) ∧
    (∃ (h : Hub) (n d : Nat), h.mainUp = true ∧ n < 8 ∧ h.due T.usbResume n = some d) ∧
    (∃ (h : Hub) (ctx n : Nat) (want : Bool), h.mainUp = true ∧ n < 8 ∧ h.ownsPort ctx n = true) ∧
    (∃ (h : Hub) (ctx n : Nat), h.mainUp = true ∧ n < 8 ∧ h.ownsPort ctx n = true ∧ 3 ≤ h.get F.USBPORT.STATE n) ∧
    (∃ (h : Hub) (ctx n mode : Nat), h.mainUp = true ∧ n < 8 ∧ h.ownsPort ctx n = true ∧ 1 ≤ mode ∧ mode ≤ 5 ∧ h.get F.USBPORT.STATE n ≠ 0) ∧
    (∃ (h : Hub) (n : Nat), h.mainUp = true ∧ n < 8 ∧ h.get F.USBPORT.STATE n = 5 ∧ h.on F.USBPORT.REMOTE_WAKE n = false) ∧
    (∃ (h : Hub) (n : Nat), h.mainUp = true ∧ n < 8 ∧ h.get F.USBPORT.STATE n = 5 ∧ h.on F.USBPORT.REMOTE_WAKE n = true ∧
      (4 ≤ h.holder (3 + n) ∨ h.get F.USBPORT.PATH n = 0)) ∧
    (∃ (h : Hub) (n index : Nat) (t : Transfer), h.mainUp = true ∧ n < 8 ∧ h.get F.USBPORT.STATE n = 4 ∧ (h.usb n).transfers[index]? = some t) ∧
    (∃ (h : Hub) (l slot : Nat) (msg : List Byte), h.mainUp = true ∧ l < 4 ∧ slot < 2048 ∧ WaitsAt h 8 l slot msg 1) ∧
    (∃ (h : Hub) (l slot : Nat) (msg : List Byte), h.mainUp = true ∧ l < 4 ∧ slot < 2048 ∧ WaitsAt h 8 l slot msg 3) ∧
    (∃ (h : Hub) (l slot : Nat) (msg : List Byte), h.mainUp = true ∧ l < 4 ∧ slot < 2048 ∧ WaitsAt h 8 l slot msg 4 ∧
      byteAt ((msg.drop 8).take (leAt msg 2 2)) 0 = 1) ∧
    (∃ (h : Hub) (l slot : Nat) (msg : List Byte), h.mainUp = true ∧ l < 4 ∧ slot < 2048 ∧ WaitsAt h 8 l slot msg 4 ∧
      byteAt ((msg.drop 8).take (leAt msg 2 2)) 0 = 2 ∧ let g := h.takeInbox 8 l slot msg; (g.vhub l 1).suspended = true) ∧
    (∃ (h : Hub) (l slot : Nat) (msg : List Byte), h.mainUp = true ∧ l < 4 ∧ slot < 2048 ∧ WaitsAt h 8 l slot msg 4 ∧
      byteAt ((msg.drop 8).take (leAt msg 2 2)) 0 = 3) ∧
    (∃ (h : Hub) (n index status actual : Nat) (data : List Byte) (t : Transfer), h.mainUp = true ∧ n < 8 ∧ h.get F.USBPORT.STATE n = 4 ∧
      h.due T.usbRecover n = none ∧ (h.usb n).transfers[index]? = some t ∧ (∀ x ∈ (h.usb n).transfers.take index, x.ep ≠ t.ep) ∧ t.type ≠ 0 ∧
      status = 0) ∧
    (∃ (h : Hub) (n : Nat), h.mainUp = true ∧ n < 8 ∧ (h.usb n).proxied = true) ∧
    (∃ (h : Hub) (n len : Nat) (g : Hub), h.mainUp = true ∧ n < 8 ∧ (h.usb n).proxied = true ∧ h.reportPass n len = (g, false)) ∧
    (∃ (h : Hub) (n len : Nat) (consumer : Bool) (report : List Byte) (g : Hub), h.mainUp = true ∧ n < 8 ∧ (h.usb n).proxied = true ∧
      h.reportPass n len = (g, true) ∧ 4 ≤ g.get F.USBPORT.FOCUS 0 ∧ g.get F.USBPORT.FOCUS 0 ≠ 0xF) :=
  ⟨⟨(up.armAt T.usbPower 7 9).set F.USBPORT.STATE 7 0, 7, 9, by decide +kernel +zetaReduce⟩,
    ⟨(up.set F.USBPORT.STATE 7 1).modUsb 7 (fun u => { u with connects := List.replicate 255 0 }), 7, by decide +kernel +zetaReduce⟩,
    ⟨up.set F.USBPORT.STATE 7 1, 7, 0, by decide +kernel +zetaReduce⟩,
    ⟨up.set F.USBPORT.STATE 7 2, 7, by decide +kernel +zetaReduce⟩,
    ⟨up.armAt T.usbBounce 7 9, 7, 9, by decide +kernel +zetaReduce⟩,
    ⟨(up.set F.TOKEN.HOLDER (3 + 7) 5).set F.USBPORT.STATE 7 2, 5, 7, by decide +kernel +zetaReduce⟩,
    ⟨up.armAt T.usbReset 7 9, 7, 9, by decide +kernel +zetaReduce⟩,
    ⟨(up.set F.TOKEN.HOLDER (3 + 7) 5).set F.USBPORT.STATE 7 4, 5, 7, by decide +kernel +zetaReduce⟩,
    ⟨(up.set F.TOKEN.HOLDER (3 + 7) 5).set F.USBPORT.STATE 7 5, 5, 7, by decide +kernel +zetaReduce⟩,
    ⟨(up.set F.TOKEN.HOLDER (3 + 7) 5).set F.USBPORT.STATE 7 5, 5, 7, by decide +kernel +zetaReduce⟩,
    ⟨up.armAt T.usbResume 7 9, 7, 9, by decide +kernel +zetaReduce⟩,
    ⟨up.set F.TOKEN.HOLDER (3 + 7) 5, 5, 7, false, by decide +kernel +zetaReduce⟩,
    ⟨(up.set F.TOKEN.HOLDER (3 + 7) 5).set F.USBPORT.STATE 7 3, 5, 7, by decide +kernel +zetaReduce⟩,
    ⟨((up.set F.TOKEN.HOLDER (3 + 7) 5).set F.USBPORT.STATE 7 1).set F.USBPORT.STATE 7 1, 5, 7, 5, by decide +kernel +zetaReduce⟩,
    ⟨(up.set F.USBPORT.STATE 7 5).set F.USBPORT.REMOTE_WAKE 7 0, 7, by decide +kernel +zetaReduce⟩,
    ⟨(up.set F.USBPORT.STATE 7 5).set F.USBPORT.REMOTE_WAKE 7 1, 7, by decide +kernel +zetaReduce⟩,
    ⟨(up.set F.USBPORT.STATE 7 4).modUsb 7 (fun u => { u with transfers := [{}] }), 7, 0, {}, by decide +kernel +zetaReduce⟩,
    ⟨inbox 8 (3, 2047, [16, 0]), 3, 2047, [16, 0], by unfold WaitsAt; decide +kernel +zetaReduce⟩,
    ⟨inbox 8 (3, 2047, [48, 0]), 3, 2047, [48, 0], by unfold WaitsAt; decide +kernel +zetaReduce⟩,
    ⟨inbox 8 (3, 2047, [64, 0, 4, 0, 0, 0, 0, 0, 1, 0, 0, 0]), 3, 2047, [64, 0, 4, 0, 0, 0, 0, 0, 1, 0, 0, 0],
      by unfold WaitsAt; decide +kernel +zetaReduce⟩,
    ⟨{ inbox 8 (3, 2047, [64, 0, 4, 0, 0, 0, 0, 0, 2, 0, 0, 0]) with vhubs := up.vhubs.write (fun _ => {}) 6 { suspended := true } }, 3, 2047, [64,
      0, 4, 0, 0, 0, 0, 0, 2, 0, 0, 0], by unfold WaitsAt; decide +kernel +zetaReduce⟩,
    ⟨inbox 8 (3, 2047, [64, 0, 4, 0, 0, 0, 0, 0, 3, 0, 0, 0]), 3, 2047, [64, 0, 4, 0, 0, 0, 0, 0, 3, 0, 0, 0],
      by unfold WaitsAt; decide +kernel +zetaReduce⟩,
    ⟨(up.set F.USBPORT.STATE 7 4).modUsb 7 (fun u => { u with transfers := [{ type := 2 }] }), 7, 0, 0, 0, [], { type := 2 },
      by decide +kernel +zetaReduce⟩,
    ⟨up.modUsb 7 (fun k => { k with proxied := true }), 7, by decide +kernel +zetaReduce⟩,
    ⟨up.modUsb 7 (fun k => { k with proxied := true }), 7, 65, ((up.modUsb 7 (fun k => { k with proxied := true })).reportPass 7 65).1,
      by decide +kernel +zetaReduce⟩,
    ⟨(up.modUsb 7 (fun k => { k with proxied := true })).set F.USBPORT.FOCUS 0 4, 7, 8, false, [],
      (((up.modUsb 7 (fun k => { k with proxied := true })).set F.USBPORT.FOCUS 0 4).reportPass 7 8).1, by decide +kernel +zetaReduce⟩⟩

theorem witness_LegacyInterfaceAnswers :
    (∃ (h : Hub) (l : Nat), h.mainUp = true ∧ l < 4 ∧ h.get F.LEGACY.STATE l ≠ 0) ∧
    (∃ (h : Hub) (l : Nat), h.mainUp = true ∧ l < 4 ∧ let st := h.get F.LEGACY.STATE l; st ≠ 0 ∧ st ≠ 4) ∧
    (∃ (h : Hub) (l : Nat), h.mainUp = true ∧ l < 4 ∧ h.due T.legacyWake l = none ∧ h.get F.LEGACY.STATE l = 4) ∧
    (∃ (h : Hub) (l d : Nat), h.mainUp = true ∧ l < 4 ∧ h.due T.legacyWake l = some d) ∧
    (∃ (h : Hub) (l d : Nat), h.mainUp = true ∧ l < 4 ∧ h.due T.legacyWake l = some d) ∧
    (∃ (h : Hub) (l d : Nat), h.mainUp = true ∧ l < 4 ∧ h.due T.legacyIdle l = some d ∧
      let g := h.expiredAt T.legacyIdle l d; (g.up l = true ∨ g.get F.CONTEXT.STATE l = 2)) :=
  ⟨⟨up.set F.LEGACY.STATE 3 1, 3, by decide +kernel +zetaReduce⟩,
    ⟨up.set F.LEGACY.STATE 3 3, 3, by decide +kernel +zetaReduce⟩,
    ⟨up.set F.LEGACY.STATE 3 4, 3, by decide +kernel +zetaReduce⟩,
    ⟨up.armAt T.legacyWake 3 9, 3, 9, by decide +kernel +zetaReduce⟩,
    ⟨up.armAt T.legacyWake 3 9, 3, 9, by decide +kernel +zetaReduce⟩,
    ⟨(up.armAt T.legacyIdle 3 9).set F.CONTEXT.STATE 3 2, 3, 9, by decide +kernel +zetaReduce⟩⟩

theorem witness_KeysTamperAndUpdatesAct :
    (∃ (h : Hub) (k d : Nat), h.mainUp = true ∧ k < 32 ∧ h.due T.keyOp k = some d ∧ let g := h.expiredAt T.keyOp k d; g.get F.KEYSLOT.KIND k = 5) ∧
    (∃ (h : Hub) (k d : Nat), h.mainUp = true ∧ k < 32 ∧ h.due T.keyOp k = some d ∧ let g := h.expiredAt T.keyOp k d; g.get F.KEYSLOT.KIND k ≠ 5) ∧
    (∃ (h : Hub), h.mainUp = false) ∧
    (∃ (h : Hub), h.mainUp = true) ∧
    (∃ (h : Hub) (p : Nat) (ok : Bool), h.mainUp = true ∧ p < 5 ∧ h.get F.SYSTEM.START_STATE 0 ≠ 4 ∧
      (h.pieceProgrammed p ok).get F.SYSTEM.START_STATE 0 ≠ 4) ∧
    (∃ (h : Hub) (p : Nat), h.mainUp = true ∧ p < 5 ∧ (h.part p).staged ≠ [] ∧ (h.part p).ready = false ∧
      ((30 * 86400 * sec : Nat) : Int) ≤ h.inactive p) ∧
    (∃ (h : Hub) (p d : Nat), h.mainUp = true ∧ p < 5 ∧ (h.part p).staged ≠ [] ∧ (h.part p).ready = false ∧
      h.inactive p < ((30 * 86400 * sec : Nat) : Int) ∧ h.due T.updateAge p = some d ∧
      let g := h.expiredAt T.updateAge p d; ((30 * 86400 * sec : Nat) : Int) ≤ g.inactive p) ∧
    (∃ (h : Hub) (d : Nat), h.mainUp = true ∧ h.due T.autoConfirm 0 = some d) ∧
    (∃ (h : Hub) (l : Nat), h.mainUp = true ∧ l < 4 ∧ h.lkfWaits l 2 = true ∧ h.oldRequest l = false ∧ h.lState l ≠ 5) ∧
    (∃ (h : Hub) (l d : Nat), h.mainUp = true ∧ l < 4 ∧ h.lkfWaits l 1 = true ∧ h.due T.lkfAwait l = some d) :=
  ⟨⟨(up.armAt T.keyOp 31 9).set F.KEYSLOT.KIND 31 5, 31, 9, by decide +kernel +zetaReduce⟩,
    ⟨up.armAt T.keyOp 31 9, 31, 9, by decide +kernel +zetaReduce⟩,
    ⟨down, by decide +kernel +zetaReduce⟩,
    ⟨up, by decide +kernel +zetaReduce⟩,
    ⟨up, 4, false, by decide +kernel +zetaReduce⟩,
    ⟨{ up.modPart 4 (fun k => { k with staged := [1] }) with clk := 65536 * (30 * 86400 * sec) }, 4, by decide +kernel +zetaReduce⟩,
    ⟨(up.modPart 4 (fun k => { k with staged := [1] })).armAt T.updateAge 4 (30 * 86400 * sec), 4, 30 * 86400 * sec, by decide +kernel +zetaReduce⟩,
    ⟨up.armAt T.autoConfirm 0 9, 9, by decide +kernel +zetaReduce⟩,
    ⟨{ up with activation := some { order := [(1, 1)], group := 1, landing := 3, phase := 2 } }, 3, by decide +kernel +zetaReduce⟩,
    ⟨{ up.armAt T.lkfAwait 3 9 with activation := some { order := [(1, 1)], group := 1, landing := 3, phase := 1 } }, 3, 9,
      by decide +kernel +zetaReduce⟩⟩

theorem witness_GovernorAndLedgerAct :
    (∃ (h : Hub) (d : Nat), h.mainUp = true ∧ h.due T.vcoreRamp 0 = some d ∧ let g := h.expiredAt T.vcoreRamp 0 d; g.gov F.THERMAL.SPRINT_STATE = 1) ∧
    (∃ (h : Hub) (d : Nat), h.mainUp = true ∧ h.due T.vcoreRamp 0 = some d ∧ let g := h.expiredAt T.vcoreRamp 0 d; g.gov F.THERMAL.SPRINT_STATE = 3) ∧
    (∃ (h : Hub) (d : Nat), h.mainUp = true ∧ h.sprinting = true ∧ h.due T.sprintCharge 0 = some d) ∧
    (∃ (h : Hub) (k d : Nat), h.mainUp = true ∧ k < 12 ∧ h.due T.shutdown k = some d) ∧
    (∃ (h : Hub), h.mainUp = true ∧ h.governor.avsTries < 3) ∧
    (∃ (h : Hub), h.mainUp = true ∧ 3 ≤ h.governor.avsTries) ∧
    (∃ (h : Hub) (sense readback : Nat), h.mainUp = true ∧ (sense + 20 < readback ∨ readback + 20 < sense)) ∧
    (∃ (h : Hub) (sense : Nat), h.mainUp = true ∧ 950 < sense ∧ h.gov F.THERMAL.VCORE_TARGET < sense) ∧
    (∃ (h : Hub) (sense : Nat), h.mainUp = true ∧ 980 < sense ∧ h.island.step = 9) ∧
    (∃ (h : Hub) (d : Nat), h.mainUp = true ∧ h.due T.paceLow 0 = some d) ∧
    (∃ (h : Hub) (i d e : Nat) (x : Int), h.mainUp = true ∧ i < 31 ∧ h.due T.ledgerReread i = some d ∧
      let g := h.expiredAt T.ledgerReread i d; g.ledger.failed.read (fun _ => none) i = some (e, x)) ∧
    (∃ (h : Hub) (i d e : Nat) (x : Int), h.mainUp = true ∧ i < 31 ∧ h.due T.ledgerReread i = some d ∧ (i < 10 ∨ 26 ≤ i) ∧
      let g := h.expiredAt T.ledgerReread i d; g.ledger.failed.read (fun _ => none) i = some (e, x)) ∧
    (∃ (h : Hub) (i : Nat) (x : Nat × Int), h.mainUp = true ∧ i < 31 ∧ h.ledger.correcting.read (fun _ => none) i = some x ∧ i ≠ 28 ∧ i ≠ 30 ∧
      ¬ (6 ≤ i ∧ i < 10)) ∧
    (∃ (h : Hub) (memory head page : Nat), h.mainUp = true ∧ 1 ≤ memory ∧ memory ≤ 6 ∧ head < 4 ∧ page < 16384 ∧ memory ≠ 6) ∧
    (∃ (h : Hub) (memory : Nat), h.mainUp = true ∧ 1 ≤ memory ∧ memory ≤ 6 ∧ memory = 2) :=
  ⟨⟨(up.armAt T.vcoreRamp 0 9).set F.THERMAL.SPRINT_STATE 12 1, 9, by decide +kernel +zetaReduce⟩,
    ⟨(up.armAt T.vcoreRamp 0 9).set F.THERMAL.SPRINT_STATE 12 3, 9, by decide +kernel +zetaReduce⟩,
    ⟨(up.armAt T.sprintCharge 0 9).set F.THERMAL.SPRINT_STATE 12 2, 9, by decide +kernel +zetaReduce⟩,
    ⟨up.armAt T.shutdown 11 9, 11, 9, by decide +kernel +zetaReduce⟩,
    ⟨up, by decide +kernel +zetaReduce⟩,
    ⟨{ up with governor := { up.governor with avsTries := 3 } }, by decide +kernel +zetaReduce⟩,
    ⟨up, 779, 800, by decide +kernel +zetaReduce⟩,
    ⟨up, 951, by decide +kernel +zetaReduce⟩,
    ⟨up.modIsland (fun k => { k with step := 9 }), 981, by decide +kernel +zetaReduce⟩,
    ⟨up.armAt T.paceLow 0 9, 9, by decide +kernel +zetaReduce⟩,
    ⟨{ up.armAt T.ledgerReread 30 9 with ledger := { up.ledger with failed := up.ledger.failed.write (fun _ => none) 30 (some (2, -1)) } }, 30, 9, 2,
      -1, by decide +kernel +zetaReduce⟩,
    ⟨{ up.armAt T.ledgerReread 30 9 with ledger := { up.ledger with failed := up.ledger.failed.write (fun _ => none) 30 (some (2, -1)) } }, 30, 9, 2,
      -1, by decide +kernel +zetaReduce⟩,
    ⟨{ up with ledger := { up.ledger with correcting := up.ledger.correcting.write (fun _ => none) 5 (some (2, -1)) } }, 5, (2, -1),
      by decide +kernel +zetaReduce⟩,
    ⟨up, 5, 3, 16383, by decide +kernel +zetaReduce⟩,
    ⟨up, 2, by decide +kernel +zetaReduce⟩⟩

theorem witness_FeedsAndContractsAct :
    (∃ (h : Hub) (frame : List Byte), h.feedPowered = true ∧ h.mainUp = true ∧ feedFrameValid frame = false) ∧
    (∃ (h : Hub) (frame : List Byte), h.feedPowered = true ∧ h.mainUp = true ∧ feedFrameValid frame = true ∧ h.linkHold = false) ∧
    (∃ (h : Hub) (frame : List Byte), h.feedPowered = true ∧ h.mainUp = true ∧ feedFrameValid frame = true ∧ h.linkHold = true) ∧
    (∃ (h : Hub) (d : Nat), h.feedDue T.feedLink 0 = some d) ∧
    (∃ (h : Hub) (vhv : Nat), h.feedPowered = true) ∧
    (∃ (h : Hub) (n : Nat) (amps : Int), n < 16 ∧ let st := h.get F.FEED.STATE n; (st = 1 ∨ st = 2 ∨ st = 3) ∧ (h.fastTrip n : Int) ≤ amps) ∧
    (∃ (h : Hub) (n : Nat), n < 16 ∧ h.pmfPaused = false ∧ h.get F.FEED.STATE n = 4 ∧ (h.feed n).retryAt ≠ 0) ∧
    (∃ (h : Hub) (n : Nat), n < 16 ∧ h.get F.FEED.STATE n = 3 ∧ (h.feed n).goodSince ≠ 0) ∧
    (∃ (h : Hub), h.linkHold = false ∧ h.pmfPaused = false) ∧
    (∃ (h : Hub) (l : Nat) (body : List Byte), l < 4 ∧ InReplyWindow h l ∧ body.length = 4 ∧ h.pmfPaused = false) ∧
    (∃ (h : Hub) (l : Nat) (body : List Byte), l < 4 ∧ InReplyWindow h l ∧ body.length = 4 ∧ h.pmfPaused = true) ∧
    (∃ (h : Hub) (l : Nat) (body : List Byte), l < 4 ∧ InReplyWindow h l ∧ body.length = 2 ∧ let c := h.contract l; c.reduceTo ≠ 0 ∧
      byteAt body 0 = c.reduceNo) ∧
    (∃ (h : Hub) (l d : Nat), l < 4 ∧ h.feedDue T.powerReduce l = some d) :=
  ⟨⟨up.modIsland (fun k => { k with step := 8 }), [], by decide +kernel +zetaReduce⟩,
    ⟨{ fed with linkHold := false }, leBytes 4 (crc32c []), by decide +kernel +zetaReduce⟩,
    ⟨{ fed with linkHold := true }, leBytes 4 (crc32c []), by decide +kernel +zetaReduce⟩,
    ⟨feedAt (up) T.feedLink 0 9, 9, by decide +kernel +zetaReduce⟩,
    ⟨up.modIsland (fun k => { k with step := 8 }), 0, by decide +kernel +zetaReduce⟩,
    ⟨up.set F.FEED.STATE 15 3, 15, 2147483647, by decide +kernel +zetaReduce⟩,
    ⟨(up.set F.FEED.STATE 15 4).modFeed 15 (fun f => { f with retryAt := 1 }), 15, by decide +kernel +zetaReduce⟩,
    ⟨(up.set F.FEED.STATE 15 3).modFeed 15 (fun f => { f with goodSince := 1 }), 15, by decide +kernel +zetaReduce⟩,
    ⟨up, by decide +kernel +zetaReduce⟩,
    ⟨(up.modIsland (fun k => { k with step := 8 })).modLink 3 (fun k => { k with answered := false }), 3, zeros 4,
      by unfold InReplyWindow; decide +kernel +zetaReduce⟩,
    ⟨{ ((up.modIsland (fun k => { k with step := 8 })).modLink 3 (fun k => { k with answered := false })).set F.SYSTEM.START_STATE 0 3 with activation := some { order := [(3, 1)], group := 1, landing := 3, phase := 2 } },
      3, zeros 4, by unfold InReplyWindow; decide +kernel +zetaReduce⟩,
    ⟨((up.modIsland (fun k => { k with step := 8 })).modLink 3 (fun k => { k with answered := false })).modContract 3 (fun c => { c with reduceTo := 1, reduceNo := 7 }),
      3, [7, 0], by unfold InReplyWindow; decide +kernel +zetaReduce⟩,
    ⟨feedAt (up) T.powerReduce 3 9, 3, 9, by decide +kernel +zetaReduce⟩⟩

theorem witness_PowerAndStartSequence :
    (∃ (h : Hub) (d : Nat), h.mainUp = true ∧ h.due T.standbyIdle 0 = some d) ∧
    (∃ (h : Hub) (source : Nat), h.mainUp = true ∧ source < 10 ∧ bitB (h.get F.SYSTEM.WAKE_SOURCES 0) source = true ∧
      h.get F.SYSTEM.POWER_STATE 0 = 1) ∧
    (∃ (h : Hub) (source d : Nat), h.mainUp = true ∧ source < 10 ∧ bitB (h.get F.SYSTEM.WAKE_SOURCES 0) source = true ∧
      h.get F.SYSTEM.POWER_STATE 0 = 2 ∧ h.due T.deepEntry 0 = some d) ∧
    (∃ (h : Hub) (d : Nat), h.mainUp = true ∧ h.get F.SYSTEM.POWER_STATE 0 = 2 ∧ h.due T.deepEntry 0 = some d) ∧
    (∃ (h : Hub), h.mainUp = true ∧ h.get F.SYSTEM.POWER_STATE 0 ≠ 2) ∧
    (∃ (h : Hub) (ms : Nat), 50 ≤ ms ∧ ms ≤ 4000 ∧ h.mainUp = true) ∧
    (∃ (h : Hub) (ms : Nat), 50 ≤ ms ∧ h.mainUp = false) ∧
    (∃ (h : Hub) (l : Nat), l < 4 ∧ bitB (h.get F.SYSTEM.DEEP_WAKE 0) l = true) ∧
    (∃ (h : Hub), h.on F.SYSTEM.AUTO_START 0 = true ∧ h.island.byOrder = false ∧ h.island.barred = false ∧ h.island.retrying = false) ∧
    (∃ (h : Hub), h.island.step = 9) ∧
    (∃ (h : Hub), 2 ≤ h.island.step ∧ h.island.step ≠ 9) ∧
    (∃ (h : Hub), let k := h.island.step; 1 ≤ k ∧ k < 8 ∧ (k = 6 → h.get F.FEED.STATE 15 = 3)) ∧
    (∃ (h : Hub), h.island.step = 8) ∧
    (∃ (h : Hub), 2 ≤ h.island.step ∧ h.island.step ≤ 7) ∧
    (∃ (h : Hub), h.island.step = 0 ∧ h.island.retrying = true) ∧
    (∃ (h : Hub), h.island.step = 9) ∧
    (∃ (h : Hub), h.mainUp = true ∧ h.get F.SYSTEM.START_STATE 0 = 0) ∧
    (∃ (h : Hub), h.mainUp = true ∧ h.get F.SYSTEM.START_STATE 0 = 0) ∧
    (∃ (h : Hub), h.mainUp = true) ∧
    (∃ (h : Hub), h.mainUp = false) ∧
    (∃ (h : Hub), let g := h.modIsland (fun i => { i with resetLow := false }); h.island.resetLow = true ∧ g.island.step = 9 ∧ g.mainUp = false) ∧
    (∃ (h : Hub), h.mainUp = true) ∧
    (∃ (h : Hub), h.island.vwake = true) ∧
    (∃ (h : Hub), h.island.vwake = false) :=
  ⟨⟨up.armAt T.standbyIdle 0 9, 9, by decide +kernel +zetaReduce⟩,
    ⟨(up.set F.SYSTEM.POWER_STATE 0 1).set F.SYSTEM.WAKE_SOURCES 0 512, 9, by decide +kernel +zetaReduce⟩,
    ⟨((up.set F.SYSTEM.POWER_STATE 0 2).armAt T.deepEntry 0 9).set F.SYSTEM.WAKE_SOURCES 0 512, 9, 9, by decide +kernel +zetaReduce⟩,
    ⟨(up.set F.SYSTEM.POWER_STATE 0 2).armAt T.deepEntry 0 9, 9, by decide +kernel +zetaReduce⟩,
    ⟨up, by decide +kernel +zetaReduce⟩,
    ⟨up, 4000, by decide +kernel +zetaReduce⟩,
    ⟨down, 50, by decide +kernel +zetaReduce⟩,
    ⟨up, 3, by decide +kernel +zetaReduce⟩,
    ⟨(((up.set F.SYSTEM.AUTO_START 0 1).modIsland (fun k => { k with byOrder := false })).modIsland (fun k => { k with barred := false })).modIsland (fun k => { k with retrying := false }),
      by decide +kernel +zetaReduce⟩,
    ⟨up.modIsland (fun k => { k with step := 9 }), by decide +kernel +zetaReduce⟩,
    ⟨up.modIsland (fun k => { k with step := 2 }), by decide +kernel +zetaReduce⟩,
    ⟨(up.modIsland (fun k => { k with step := 6 })).set F.FEED.STATE 15 3, by decide +kernel +zetaReduce⟩,
    ⟨up.modIsland (fun k => { k with step := 8 }), by decide +kernel +zetaReduce⟩,
    ⟨up.modIsland (fun k => { k with step := 7 }), by decide +kernel +zetaReduce⟩,
    ⟨(up.modIsland (fun k => { k with step := 0 })).modIsland (fun k => { k with retrying := true }), by decide +kernel +zetaReduce⟩,
    ⟨up.modIsland (fun k => { k with step := 9 }), by decide +kernel +zetaReduce⟩,
    ⟨up.set F.SYSTEM.START_STATE 0 0, by decide +kernel +zetaReduce⟩,
    ⟨up.set F.SYSTEM.START_STATE 0 0, by decide +kernel +zetaReduce⟩,
    ⟨up, by decide +kernel +zetaReduce⟩,
    ⟨down, by decide +kernel +zetaReduce⟩,
    ⟨down.modIsland (fun k => { k with resetLow := true }), by decide +kernel +zetaReduce⟩,
    ⟨up, by decide +kernel +zetaReduce⟩,
    ⟨up.modIsland (fun k => { k with vwake := true }), by decide +kernel +zetaReduce⟩,
    ⟨up.modIsland (fun k => { k with vwake := false }), by decide +kernel +zetaReduce⟩⟩

/-! ### The spec's worked examples (02_knaen_instruction_set, 03_manifests_objects_notices) -/

/-- The words of the Manifest of the first worked example. -/
theorem test_worked_manifest_words (p : ProgId) :
    knaenDecode p 0x61004815#32 = .openObject p 4 0 (BitVec.ofNat 18 (0x12 * 1024 + 21)) ∧ knaenDecode p 0x85400022#32 = .own p 5 0 34 ∧
    knaenDecode p 0x54400008#32 = .br p 1 0 8 ∧ knaenDecode p 0x09800780#32 = .lit p 6 0 1920 ∧ knaenDecode p 0x09C00438#32 = .lit p 7 0 1080 ∧
    knaenDecode p 0x56800002#32 = .br p 10 0 2 ∧ knaenDecode p 0x78008002#32 = .commitBlanking p 0 0 2 ∧
    knaenDecode p 0x7C000001#32 = .abandon p 0 0 0 1 := ⟨rfl, rfl, rfl, rfl, rfl, rfl, rfl, rfl⟩
/-- The words of the Shunter program of the second. -/
theorem test_worked_shunter_words (p : ProgId) :
    knaenDecode p 0xC1803822#32 = .ext p 6 0 0 0x3822 ∧ knaenDecode p 0x09C00005#32 = .lit p 7 0 5 ∧ knaenDecode p 0x5019C000#32 = .cmp p 0 6 7 0 ∧
    knaenDecode p 0x55000003#32 = .br p 4 0 3 ∧ knaenDecode p 0xD8000001#32 = .mirr p 0 0 0 1 ∧ knaenDecode p 0xEC040028#32 = .count p 0 1 0 40 :=
  ⟨rfl, rfl, rfl, rfl, rfl, rfl⟩
/-- The priority code point of a tagged frame whose byte 14 is 0xA0: 5, at 112 in BE order and at 117 in LE order. -/
theorem test_worked_field_orders :
    getField 1 (zeros 14 ++ [0xA0, 0x0A]) 112 3 = 5 ∧ getField 0 (zeros 14 ++ [0xA0, 0x0A]) 117 3 = 5 := by decide +kernel
/-- The range and the step of R135's example: 1,000,003 becomes 1,000,000 for reason 1, and 999,999 becomes 1,000,000 for reason 3. -/
theorem test_worked_checks :
    let stored (v : Int) := ((onField 0x1a#6 F.CONTEXT.COMMIT_TIMEOUT 5 []).storing up).store (fu "X" 32 0 1000000 [] 4 0 .commit) F.CONTEXT.COMMIT_TIMEOUT.cls 5
      F.CONTEXT.COMMIT_TIMEOUT.num 0 v [] false
    (stored 1000003).value = some 1000000 ∧ (stored 1000003).clamps.map (fun c => c.reason) = [1] ∧
    (stored 999999).value = some 1000000 ∧ (stored 999999).clamps.map (fun c => c.reason) = [3] := by decide +kernel

/-! ### Single steps -/

/-- What a step of one instruction leaves in a register and the flags Z, N, C, V of a Shunter program. -/
def after (i : Instr) (q : Prog) (x : RegNo) : Option (Nat × Bool × Bool × Bool × Bool) :=
  match exec i ⟨(onSlot up).setProg (progKey sh) q, []⟩ with
  | .next t => (t.hub.prog (progKey sh)).map (fun r => ((r.reg x).toNat, r.z, r.n, r.c, r.v))
  | _ => none
/-- The worked example's EXT writes 5 (R99). -/
theorem test_ext_step :
    after (.ext sh 6 0 0 0x3822) { sp 0xC1803822#32 0 0 with job := { bytes := zeros 14 ++ [0xA0, 0x0A] } } 6 = some (5, false, false, false, false) := by
  decide +kernel
/-- The largest positive number plus 1 overflows to the most negative, without a carry (R63). -/
theorem test_add_step_overflows :
    after (.add sh 1 1 2 0) (sp (wordA 0x05#6 1#4 1#4 2#4 0#14) 0x7FFFFFFF 1) 1 = some (0x80000000, false, true, false, true) := by decide +kernel
/-- Less a greater number borrows (R63). -/
theorem test_sub_step_borrows :
    after (.sub sh 3 1 2 0) (sp (wordA 0x07#6 3#4 1#4 2#4 0#14) 0 1) 3 = some (0xFFFFFFFF, false, true, true, false) := by decide +kernel
/-- An arithmetic shift by 31 of the most negative number leaves all ones (R64). -/
theorem test_sar_step :
    after (.sar sh 3 1 0 0x201F) (sp (wordA 0x11#6 3#4 1#4 0#4 0x201F#14) 0x80000000 0) 3 = some (0xFFFFFFFF, false, true, false, false) := by
  decide +kernel
/-- The upper half of -1 times -1 is 0, unsigned 0xFFFF_FFFE (R62). -/
theorem test_mulh_steps :
    after (.mulh sh 3 1 2 0) (sp (wordA 0x09#6 3#4 1#4 2#4 0#14) 0xFFFFFFFF 0xFFFFFFFF) 3 = some (0, true, false, false, false) ∧
    after (.mulhu sh 3 1 2 0) (sp (wordA 0x09#6 3#4 1#4 2#4 1#14) 0xFFFFFFFF 0xFFFFFFFF) 3 = some (0xFFFFFFFE, false, true, false, false) := by
  decide +kernel

end

end Sys2Proof.Tests
end

section
/-! SUPPORT and the obligations O3 and O4. Every command answers a next state with the queue as it was, or the fault of a missing object; a queue
of real commands is so worked off. -/

namespace Sys2Proof.Machine

/-- What a command answers that leaves a hub: a next state with the queue as it was where the objects it names exist, else the fault of a
missing one (log entry 4). -/
def State.answer (s : State) (real : Bool) (h : Hub) : Host.Outcome State Fault Refusal :=
  if real then .next ⟨h, s.pending⟩ else .fault .noSuchInstance

/-- Every arm of the dispatch ends in act, actAny, actIf or actAnyIf, and the objects it is gated on are those of inRange; those of a message's
channel are told by the channel. -/
theorem exec_answer (i : Instr) (s : State) : ∃ h, exec i s = s.answer i.inRange h := by
  cases i
  case authInit ch _ _ _ | authProof ch _ _ _ | authGo ch _ _ _ | authAbort ch _ _ _ | authTimeout ch | helloMessage ch _ | manifestMessage ch _ |
      peekMessage ch _ | attestReq ch _ | updatePiece ch _ | updateAbort ch _ =>
    cases ch <;> exact ⟨_, rfl⟩
  all_goals exact ⟨_, rfl⟩

/-- A command whose objects all exist goes on to a next state and leaves the queue. -/
theorem exec_of_inRange {i : Instr} {s : State} (hi : i.inRange = true) : ∃ h, exec i s = .next ⟨h, s.pending⟩ := by
  obtain ⟨h, he⟩ := exec_answer i s
  exact ⟨h, by simpa [State.answer, hi] using he⟩

/-- A command that names a missing object faults. -/
theorem exec_of_not_inRange {i : Instr} {s : State} (hi : i.inRange = false) : exec i s = .fault .noSuchInstance := by
  obtain ⟨h, he⟩ := exec_answer i s
  simpa [State.answer, hi] using he

/-- A step from a queue of real commands goes on with the front command taken off; on an empty queue there is none to take. -/
theorem step_of_queueReal {s : State} (hs : s.queueReal) : ∃ h, step s = .next ⟨h, s.pending.tail⟩ := by
  unfold step
  split
  next hp => exact ⟨s.hub.tick, by simp [idle, hp]⟩
  next c rest hp =>
    have hc : c.inRange = true := hs c (by simp [hp])
    simpa [hp] using exec_of_inRange (s := { s with pending := rest }) hc

/-- What remains of a queue of real commands is real. -/
theorem queueReal_tail {s : State} (hs : s.queueReal) (h : Hub) : (⟨h, s.pending.tail⟩ : State).queueReal :=
  fun c hc => hs c (List.mem_of_mem_tail hc)

/-- A run whose first step goes on is the run from the state reached, one step shorter. -/
theorem run_succ {M : Host.Core} {s t : M.State} (hstep : M.step s = .next t) (n : Nat) : M.run (n + 1) s = M.run n t := by
  simp only [Host.Core.run, hstep]

/-- A queue of real commands is worked off in as many steps as it has commands. -/
theorem run_of_queueReal (n : Nat) {s : State} (hn : s.pending.length = n) (hs : s.queueReal) :
    ∃ t, Sys2Proof.core.run n s = .next t ∧ t.pending = [] := by
  induction n generalizing s with
  | zero => exact ⟨s, rfl, List.eq_nil_of_length_eq_zero hn⟩
  | succ n ih =>
    obtain ⟨h, hstep⟩ := step_of_queueReal hs
    obtain ⟨t, hrun, ht⟩ := ih (s := ⟨h, s.pending.tail⟩) (by simp [hn]) (queueReal_tail hs h)
    exact ⟨t, (run_succ (M := Sys2Proof.core) hstep n).trans hrun, ht⟩

/-- Settles O3. -/
theorem commandsGoOnUnlessInstanceMissing : Obligations.CommandsGoOnUnlessInstanceMissing :=
  fun _ _ => ⟨exec_of_inRange, exec_of_not_inRange⟩

/-- Settles O4, by the step lemma `step_of_queueReal` and an induction on the length of the queue. -/
theorem realQueueIsKeptAndRunsToItsEnd : Obligations.RealQueueIsKeptAndRunsToItsEnd := by
  refine ⟨by simp [State.queueReal, State.reset], fun s hs => ?_, fun s hs => run_of_queueReal _ rfl hs⟩
  obtain ⟨h, hstep⟩ := step_of_queueReal hs
  refine ⟨⟨_, hstep⟩, fun t ht => ?_⟩
  obtain rfl : (⟨h, s.pending.tail⟩ : State) = t := by simpa [hstep] using ht
  exact queueReal_tail hs h

end Sys2Proof.Machine
end

section
/-! SUPPORT and the obligation O20. A Manifest instruction at its word, and what a load leaves in a program's registers and flags. -/

namespace Sys2Proof.Machine

/-! ### A Manifest instruction at its word -/

/-- A program of a context is no Shunter program. -/
theorem at_manifest_shunter {s : State} {n : Nat} {w : Word} {q : Prog} (ha : At s (.manifest n) w q) : q.shunter = false := by
  obtain ⟨-, -, -, he, -⟩ := ha
  simp only [Hub.executes, Bool.and_eq_true, beq_iff_eq] at he
  exact he.1.2

/-- Nothing bars a clean Manifest instruction that the program's level has. -/
theorem at_manifest_unbarred {s : State} {n : Nat} {w : Word} {q : Prog} (ha : At s (.manifest n) w q) {new11 : Bool}
    (hl : new11 = true → q.level ≠ 0x10) : q.counted.barred { profile := .manifest, new11 := new11, clean := true } = none := by
  have hs := at_manifest_shunter ha
  cases new11 <;> simp_all [Prog.barred, Prog.counted]

/-- A Manifest instruction whose body lets the program go on, nothing holding it. -/
theorem runManifest_goesTo {s : State} {n : Nat} {w : Word} {q r : Prog} (ha : At s (.manifest n) w q) {new11 : Bool}
    (hl : new11 = true → q.level ≠ 0x10) {body : Nat → Hub → Prog → Ran}
    (hbody : body q.head.ctx (s.hub.countStep (.manifest n)) q.counted = .on (s.hub.countStep (.manifest n)) r) (hr : r.block = none) :
    knaen (.manifest n) s (fun h => h.runManifest (.manifest n) w new11 true body) = .next (s.goesTo (.manifest n) r) := by
  rw [knaen_at ha]
  simp only [Hub.runManifest]
  rw [runWord_at ha _ _ (at_manifest_unbarred ha hl)]
  simp only [show q.counted.head = q.head from rfl, hbody, hr, Option.isSome_none, Hub.passTurn, Bool.false_eq_true, if_false, State.goesTo]

/-- A Manifest instruction whose body faults. -/
theorem runManifest_faulted {s : State} {n : Nat} {w : Word} {q : Prog} (ha : At s (.manifest n) w q) {new11 : Bool}
    (hl : new11 = true → q.level ≠ 0x10) {body : Nat → Hub → Prog → Ran} {c : Nat}
    (hbody : body q.head.ctx (s.hub.countStep (.manifest n)) q.counted = .fault c) :
    knaen (.manifest n) s (fun h => h.runManifest (.manifest n) w new11 true body) = .next (s.faulted (.manifest n) q c) := by
  rw [knaen_at ha]
  simp only [Hub.runManifest]
  rw [runWord_at ha _ _ (at_manifest_unbarred ha hl)]
  simp only [show q.counted.head = q.head from rfl, hbody, State.faulted]

/-! ### What a program counts does not change what it reads -/

@[simp] theorem Prog.counted_fieldOperand (q : Prog) (wv wh : RegNo) (field : BitVec 12) (modifier : BitVec 6) :
    q.counted.fieldOperand wv wh field modifier = q.fieldOperand wv wh field modifier := rfl

@[simp] theorem Prog.counted_stagedValue (q : Prog) (r : FieldRef) : q.counted.stagedValue r = q.stagedValue r := rfl

/-! ### Loads -/

/-- The registers after one is written. -/
theorem Prog.reg_setReg (q : Prog) (hq : q.canonical) (r : RegNo) (v : Word) (y : RegNo) :
    (q.setReg r v).reg y = if y = 0#4 then 0#32 else if y = r then v else q.reg y := by
  rw [q.setReg_wrote r v hq y]
  by_cases hy : y = 0#4 <;> grind [Prog.reg_zero]

/-- The registers after a pair is written: the high half in the second of the two. -/
theorem Prog.reg_setPair (q : Prog) (hq : q.canonical) (r : RegNo) (x : Nat) (y : RegNo) :
    (q.setPair r x).reg y = if y = 0#4 then 0#32 else if y = r + 1#4 then BitVec.ofNat 32 (x / 2 ^ 32)
      else if y = r then BitVec.ofNat 32 x else q.reg y := by
  simp only [Prog.setPair, Prog.reg_setReg _ (q.canonical_setReg r _ hq), Prog.reg_setReg q hq]
  by_cases hy : y = 0#4 <;> simp [hy]

/-- The registers after a load (R77). -/
theorem Prog.reg_load (q : Prog) (hq : q.canonical) (r : FieldRef) (wv : RegNo) (v : Nat) (y : RegNo) :
    (q.load r wv v).reg y = if y = 0#4 then 0#32 else if r.info.wide = true ∧ y = wv + 1#4 then BitVec.ofNat 32 (r.info.carried v / 2 ^ 32)
      else if y = wv then BitVec.ofNat 32 (r.info.carried v % 2 ^ 32) else q.reg y := by
  have hlow : BitVec.ofNat 32 (r.info.carried v % 2 ^ 32) = BitVec.ofNat 32 (r.info.carried v) :=
    BitVec.eq_of_toNat_eq (by simp)
  have hflags (b : Bool) (x : Nat) : (q.valueFlags b x).canonical := hq
  have hregs (b : Bool) (x : Nat) : (q.valueFlags b x).reg y = q.reg y := rfl
  rw [hlow]
  cases hw : r.info.wide
  · simp [Prog.load, hw, Prog.reg_setReg _ (hflags _ _), hregs]
  · simp [Prog.load, hw, Prog.reg_setPair _ (hflags _ _), hregs]

/-- What a load leaves besides the registers. -/
theorem Prog.load_rest (q : Prog) (r : FieldRef) (wv : RegNo) (v : Nat) :
    ∃ t, q.load r wv v = { q.valueFlags r.info.wide (r.info.carried v) with regs := t } := by
  cases hw : r.info.wide
  · simpa [Prog.load, hw] using Prog.setReg_rest _ wv _
  · obtain ⟨t, ht⟩ := Prog.setReg_rest (q.valueFlags true (r.info.carried v)) wv (BitVec.ofNat 32 (r.info.carried v))
    simpa [Prog.load, Prog.setPair, hw, ht] using Prog.setReg_rest { q.valueFlags true (r.info.carried v) with regs := t } (wv + 1#4) _

/-- The program after a GET or GETS: a value loaded, C as given, at the next word. -/
def Prog.loaded (q : Prog) (r : FieldRef) (wv : RegNo) (v : Nat) (c : Bool) : Prog := ((q.counted.load r wv v).withC c).next

/-- GET leaves C as it was. -/
theorem Prog.loaded_own (q : Prog) (r : FieldRef) (wv : RegNo) (v : Nat) : (q.counted.load r wv v).next = q.loaded r wv v q.c := by
  obtain ⟨t, ht⟩ := q.counted.load_rest r wv v
  simp only [Prog.loaded, ht]
  rfl

theorem bitB_eq_testBit (x i : Nat) : bitB x i = x.testBit i := by
  simp only [bitB, Nat.testBit_eq_decide_div_mod_eq]
  rfl

/-- A load writes registers, takes Z and N from the value (R67) and C as given, and moves on to the next word. -/
theorem Prog.loaded_eq (q : Prog) (r : FieldRef) (wv : RegNo) (v : Nat) (c : Bool) :
    ∃ t, q.loaded r wv v c = { q with
      regs := t, z := r.info.carried v == 0, n := (r.info.carried v).testBit (if r.info.wide then 63 else 31), c := c, pc := q.pc + 1,
      steps := q.steps + 1 } := by
  obtain ⟨t, ht⟩ := q.counted.load_rest r wv v
  refine ⟨t, ?_⟩
  simp only [Prog.loaded, ht, ← bitB_eq_testBit]
  rfl

theorem Prog.loaded_block (q : Prog) (r : FieldRef) (wv : RegNo) (v : Nat) (c : Bool) : (q.loaded r wv v c).block = q.block := by
  obtain ⟨t, ht⟩ := q.loaded_eq r wv v c
  rw [ht]

/-! ### GET and GETS -/

section
variable {s : State} {n : Nat} {q : Prog} {wv wh : RegNo} {field : BitVec 12} {modifier : BitVec 6} {r : FieldRef}

/-- GET of a field the context may read (R78). -/
theorem execGet_reads (hf : q.fieldOperand wv wh field modifier = .ok r) (ha : At s (.manifest n) (wordF 0x19#6 wv wh field modifier) q)
    (hm : (s.hub.countStep (.manifest n)).mayRead q.head.ctx r.info r.cls r.inst = true) :
    exec (.get (.manifest n) wv wh field modifier) s =
      .next (s.goesTo (.manifest n) (q.loaded r wv ((s.hub.countStep (.manifest n)).liveValue r.cls r.inst r.num r.elem) q.c)) :=
  runManifest_goesTo ha (by simp) (by simp [hf, hm, Prog.loaded_own]) ((q.loaded_block ..).trans (at_unblocked ha))

/-- GET of a field the context may not read (R35). -/
theorem execGet_faults (hf : q.fieldOperand wv wh field modifier = .ok r) (ha : At s (.manifest n) (wordF 0x19#6 wv wh field modifier) q)
    (hm : (s.hub.countStep (.manifest n)).mayRead q.head.ctx r.info r.cls r.inst = false) :
    exec (.get (.manifest n) wv wh field modifier) s = .next (s.faulted (.manifest n) q 0x0D) :=
  runManifest_faulted ha (by simp) (by simp [hf, hm])

/-- GETS of a field the program has stored (R79). -/
theorem execGets_staged (hf : q.fieldOperand wv wh field modifier = .ok r) (ha : At s (.manifest n) (wordF 0x1d#6 wv wh field modifier) q)
    (hl : q.level ≠ 0x10) {v : Nat} (hv : q.stagedValue r = some v) :
    exec (.gets (.manifest n) wv wh field modifier) s = .next (s.goesTo (.manifest n) (q.loaded r wv v true)) :=
  runManifest_goesTo ha (fun _ => hl) (by simp [hf, hv, Prog.loaded]) ((q.loaded_block ..).trans (at_unblocked ha))

/-- GETS of a field the program has not stored, where the context may read it. -/
theorem execGets_reads (hf : q.fieldOperand wv wh field modifier = .ok r) (ha : At s (.manifest n) (wordF 0x1d#6 wv wh field modifier) q)
    (hl : q.level ≠ 0x10) (hv : q.stagedValue r = none)
    (hm : (s.hub.countStep (.manifest n)).mayRead q.head.ctx r.info r.cls r.inst = true) :
    exec (.gets (.manifest n) wv wh field modifier) s =
      .next (s.goesTo (.manifest n) (q.loaded r wv ((s.hub.countStep (.manifest n)).liveValue r.cls r.inst r.num r.elem) false)) :=
  runManifest_goesTo ha (fun _ => hl) (by simp [hf, hv, hm, Prog.loaded]) ((q.loaded_block ..).trans (at_unblocked ha))

/-- GETS of a field the program has not stored and the context may not read. -/
theorem execGets_faults (hf : q.fieldOperand wv wh field modifier = .ok r) (ha : At s (.manifest n) (wordF 0x1d#6 wv wh field modifier) q)
    (hl : q.level ≠ 0x10) (hv : q.stagedValue r = none)
    (hm : (s.hub.countStep (.manifest n)).mayRead q.head.ctx r.info r.cls r.inst = false) :
    exec (.gets (.manifest n) wv wh field modifier) s = .next (s.faulted (.manifest n) q 0x0D) :=
  runManifest_faulted ha (fun _ => hl) (by simp [hf, hv, hm])

end

/-- Settles O20: each form goes on to `Prog.loaded`, whose registers `Prog.reg_load` and whose rest
`Prog.loaded_eq` tell. -/
theorem getReadsLiveAndGetsStaged : Obligations.GetReadsLiveAndGetsStaged := by
  intro s n q wv wh field modifier r hq hf g live may loaded
  have hloaded (v : Nat) (c : Bool) : loaded (q.loaded r wv v c) v c := by
    refine ⟨Prog.reg_load q.counted hq r wv v, ?_⟩
    obtain ⟨t, ht⟩ := q.loaded_eq r wv v c
    rw [ht]
    exact ⟨⟨rfl, rfl, rfl, rfl, rfl⟩, rfl, rfl⟩
  refine ⟨fun ha => ⟨fun hm => ⟨_, execGet_reads hf ha hm, hloaded _ _⟩, execGet_faults hf ha⟩,
    fun ha hl => ⟨fun v hv => ?_, fun hv hm => ?_, ?_⟩⟩
  · exact ⟨_, execGets_staged hf ha hl hv, hloaded _ _⟩
  · exact ⟨_, execGets_reads hf ha hl hv hm, hloaded _ _⟩
  · exact execGets_faults hf ha hl

end Sys2Proof.Machine
end

section
/-! SUPPORT and the obligations O27 and O6. Keys of different fields, what a raise leaves of the fields, a token's move, and the hub right after reset. -/

namespace Sys2Proof.Machine

/-! ### Keys of fields -/

/-- The class of a field key. -/
theorem fieldKey_cls {cls inst num elem : Nat} (hi : inst < 2 ^ 16) (hn : num < 2 ^ 12) (he : elem < 2 ^ 10) :
    fieldKey cls inst num elem / 2 ^ 38 = cls := by
  unfold fieldKey
  split <;> omega

/-- Fields of different classes have different keys. -/
theorem fieldKey_ne_of_cls {cls inst num elem cls' inst' num' elem' : Nat} (hc : cls ≠ cls') (hi : inst < 2 ^ 16) (hn : num < 2 ^ 12)
    (he : elem < 2 ^ 10) (hi' : inst' < 2 ^ 16) (hn' : num' < 2 ^ 12) (he' : elem' < 2 ^ 10) :
    fieldKey cls inst num elem ≠ fieldKey cls' inst' num' elem' := by
  intro h
  have hcls := fieldKey_cls (cls := cls) hi hn he
  rw [h, fieldKey_cls hi' hn' he'] at hcls
  exact hc hcls.symm

/-- Fields of different numbers have different keys. -/
theorem fieldKey_ne_of_num {cls inst num elem cls' inst' num' elem' : Nat} (hne : num ≠ num') (hn : num < 2 ^ 12) (he : elem < 2 ^ 10)
    (hn' : num' < 2 ^ 12) (he' : elem' < 2 ^ 10) : fieldKey cls inst num elem ≠ fieldKey cls' inst' num' elem' := by
  unfold fieldKey
  omega

/-- A field keeps its value at a write of a field with another number. -/
theorem Hub.get_set_num (h : Hub) {f g : Fld} {i j : Nat} (v : Nat) (hne : g.num ≠ f.num) (hg : g.num < 2 ^ 12) (hf : f.num < 2 ^ 12) :
    (h.set f i v).get g j = h.get g j :=
  h.get_set_other v (fieldKey_ne_of_num hne hg (by decide) hf (by decide))

/-- A field of one object keeps its value at a write of another object's. -/
theorem Hub.get_set_inst (h : Hub) {f : Fld} {i j : Nat} (v : Nat) (hd : deviceWide f.cls f.num = false) (hne : j ≠ i) :
    (h.set f i v).get f j = h.get f j := by
  refine h.get_set_other v ?_
  simp only [fieldKey, hd, Bool.false_eq_true, if_false]
  omega

/-! ### Raises -/

/-- A raise leaves every field of a class other than NOTICE. -/
theorem Hub.get_raise (h : Hub) {src : Nat} (hs : src < 512) (payload : Nat) (who : List Nat) (skip : Option Nat) {f : Fld} {i e : Nat}
    (hc : f.cls ≠ F.NOTICE.RAISED.cls) (hi : i < 2 ^ 16) (hn : f.num < 2 ^ 12) (he : e < 2 ^ 10) :
    (h.raise src payload who skip).get f i e = h.get f i e := by
  have hkey (g : Fld) (hg : g.cls = F.NOTICE.RAISED.cls) (hgn : g.num < 2 ^ 12) : fieldKey f.cls i f.num e ≠ fieldKey g.cls src g.num 0 :=
    fieldKey_ne_of_cls (by rw [hg]; exact hc) hi hn he (by omega) hgn (by decide)
  unfold Hub.raise
  split
  · rfl
  · obtain ⟨x, hx⟩ := raise_fold_frame src payload h.now48 (fun _ n => h.addressed src who n && skip != some n) (List.range 6)
      (((h.add F.NOTICE.RAISED src 1).set F.NOTICE.LAST_TIME src h.now48).set F.NOTICE.LAST_PAYLOAD src payload)
    rw [hx]
    calc (((h.add F.NOTICE.RAISED src 1).set F.NOTICE.LAST_TIME src h.now48).set F.NOTICE.LAST_PAYLOAD src payload).get f i e
      _ = ((h.add F.NOTICE.RAISED src 1).set F.NOTICE.LAST_TIME src h.now48).get f i e := Hub.get_set_other _ _ (hkey _ rfl (by decide))
      _ = (h.add F.NOTICE.RAISED src 1).get f i e := Hub.get_set_other _ _ (hkey _ rfl (by decide))
      _ = h.get f i e := Hub.get_set_other _ _ (hkey _ rfl (by decide))

/-- g is h but for the fields of NOTICE and the pending records. -/
def OnlyNotices (h g : Hub) : Prop :=
  (∃ f x, g = { h with fields := f, pend := x }) ∧
    ∀ (f : Fld) (i e : Nat), f.cls ≠ F.NOTICE.RAISED.cls → i < 2 ^ 16 → f.num < 2 ^ 12 → e < 2 ^ 10 → g.get f i e = h.get f i e

theorem OnlyNotices.refl (h : Hub) : OnlyNotices h h := ⟨⟨h.fields, h.pend, rfl⟩, fun _ _ _ _ _ _ _ => rfl⟩

theorem OnlyNotices.trans {h g k : Hub} (hg : OnlyNotices h g) (gk : OnlyNotices g k) : OnlyNotices h k := by
  obtain ⟨⟨f, x, rfl⟩, hget⟩ := hg
  obtain ⟨⟨f', x', rfl⟩, gget⟩ := gk
  exact ⟨⟨f', x', rfl⟩, fun a i e hc hi hn he => (gget a i e hc hi hn he).trans (hget a i e hc hi hn he)⟩

theorem Hub.raise_onlyNotices (h : Hub) {src : Nat} (hs : src < 512) (payload : Nat) (who : List Nat) (skip : Option Nat) :
    OnlyNotices h (h.raise src payload who skip) :=
  ⟨h.raise_frame src payload who skip, fun _ _ _ hc hi hn he => h.get_raise hs payload who skip hc hi hn he⟩

theorem Hub.raiseIf_onlyNotices (h : Hub) (p : Prop) [Decidable p] {src : Nat} (hs : src < 512) (payload : Nat) (who : List Nat) (skip : Option Nat) :
    OnlyNotices h (if p then h.raise src payload who skip else h) := by
  split
  · exact h.raise_onlyNotices hs payload who skip
  · exact .refl h

theorem OnlyNotices.startNoted {h g : Hub} (hg : OnlyNotices h g) : g.startNoted = h.startNoted := by
  obtain ⟨⟨f, x, rfl⟩, -⟩ := hg
  rfl

/-! ### Token moves -/

/-- The hub at a token's move, before any notice of it. -/
def Hub.tokenShown (h : Hub) (k new : Nat) : Hub :=
  (({ h with replayTokens := h.replayTokens.filter (fun x => x.1 != k) }.set F.TOKEN.HOLDER k new).add F.TOKEN.MOVES k 1).set F.TOKEN.LAST_MOVE k h.now48

/-- The holder a token's move shows, and the holders of the other tokens. -/
theorem Hub.holder_tokenShown (h : Hub) {k new : Nat} (hw : h.fields.wf fieldDefault = true) (hn : new < 16) (j : Nat) :
    (h.tokenShown k new).holder j = if j = k then new else h.holder j := by
  rw [Hub.tokenShown, Hub.holder, Hub.add, Hub.get_set_num _ _ (by decide) (by decide) (by decide),
    Hub.get_set_num _ _ (by decide) (by decide) (by decide)]
  split
  next hj =>
    subst hj
    rw [Hub.get_set_same _ _ _ _ _ (by exact hw)]
    exact Nat.mod_eq_of_lt hn
  next hj => exact Hub.get_set_inst _ _ rfl hj

/-- The moves a token's move shows. -/
theorem Hub.moves_tokenShown (h : Hub) (k new : Nat) (hw : h.fields.wf fieldDefault = true) :
    (h.tokenShown k new).get F.TOKEN.MOVES k = (h.get F.TOKEN.MOVES k + 1) % 2 ^ 32 := by
  rw [Hub.tokenShown, Hub.get_set_num _ _ (by decide) (by decide) (by decide), Hub.get_add_same _ _ _ _ _ (Hub.fields_wf_set _ _ _ _ _ (by exact hw)),
    Hub.get_set_num _ _ (by decide) (by decide) (by decide)]
  rfl

/-- The moment a token's move shows. -/
theorem Hub.lastMove_tokenShown (h : Hub) (k new : Nat) (hw : h.fields.wf fieldDefault = true) :
    (h.tokenShown k new).get F.TOKEN.LAST_MOVE k = h.now48 := by
  rw [Hub.tokenShown, Hub.get_set_same _ _ _ _ _ (Hub.fields_wf_add _ _ _ _ _ (Hub.fields_wf_set _ _ _ _ _ (by exact hw)))]
  exact Nat.mod_mod _ _

/-- No resource follows the token of a head or of an Ethernet MAC. -/
theorem Hub.tokenFollows_of_ge (h : Hub) {k : Nat} (hk : 51 ≤ k) (old : Nat) : h.tokenFollows k old = h := by
  unfold Hub.tokenFollows
  grind

/-- The notice of the start is raised once. -/
theorem Hub.noteStart_of_noted {h : Hub} (hs : h.startNoted = true) : h.noteStart = h := by
  simp [Hub.noteStart, hs]

/-- A move of a head's or a MAC's token raises its notices and changes nothing else beyond what it shows. -/
theorem Hub.moveToken_onlyNotices (h : Hub) {k new : Nat} (acting : Nat) (own : Bool) (hk : 51 ≤ k) (hne : h.holder k ≠ new)
    (hs : h.startNoted = true) : OnlyNotices (h.tokenShown k new) (h.moveToken k new acting own) := by
  have hnotes := ((h.tokenShown k new).raiseIf_onlyNotices (h.holder k < 6) (src := 504) (by decide)
    (k + h.holder k * 2 ^ 8 + new * 2 ^ 12 + acting * 2 ^ 16) [h.holder k] (if own then some new else none)).trans
    (Hub.raiseIf_onlyNotices _ (new < 6) (src := 505) (by decide) (k + h.holder k * 2 ^ 8 + new * 2 ^ 12 + acting * 2 ^ 16) [new]
      (if own then some new else none))
  have hnoted := hnotes.startNoted.trans hs
  simp only [Hub.moveToken, beq_iff_eq, hne, if_false]
  rw [Hub.tokenFollows_of_ge _ hk, Hub.noteStart_of_noted (by exact hnoted)]
  exact hnotes

/-- Settles O27: what a move shows, and that nothing but notices follows it. -/
theorem tokenMoveShowsNewHolder : Obligations.TokenMoveShowsNewHolder := by
  rintro h k new acting own ⟨hw, -, -⟩ hk hk' hnew hne hs g
  obtain ⟨⟨f, x, hfx⟩, hget⟩ := h.moveToken_onlyNotices (new := new) acting own hk hne hs
  have hkeep (a : Fld) (j : Nat) (ha : a.cls ≠ F.NOTICE.RAISED.cls) (han : a.num < 2 ^ 12) (hj : j < 57) : g.get a j = (h.tokenShown k new).get a j :=
    hget a j 0 ha (by omega) han (by decide)
  have hholder (j : Nat) (hj : j < 57) : g.holder j = if j = k then new else h.holder j :=
    (hkeep F.TOKEN.HOLDER j (by decide) (by decide) hj).trans (h.holder_tokenShown hw hnew j)
  refine ⟨by simp [hholder k hk'], fun j hj hjk => by simp [hholder j hj, hjk], ?_, ?_, ?_⟩
  · exact (hkeep F.TOKEN.MOVES k (by decide) (by decide) hk').trans (h.moves_tokenShown k new hw)
  · exact (hkeep F.TOKEN.LAST_MOVE k (by decide) (by decide) hk').trans (h.lastMove_tokenShown k new hw)
  · simp only [g, hfx]
    exact ⟨rfl, rfl, rfl, rfl⟩

/-! ### Reset -/

/-- What an unlisted field reads as is the reset value of its object, or of the one home of a device-wide field. -/
theorem fieldDefault_fieldKey {cls inst num elem : Nat} (hi : inst < 2 ^ 16) (hn : num < 2 ^ 12) (he : elem < 2 ^ 10) :
    fieldDefault (fieldKey cls inst num elem) = resetValue cls (if deviceWide cls num then 0 else inst) num elem := by
  have hcls := fieldKey_cls (cls := cls) hi hn he
  have hinst : fieldKey cls inst num elem / 2 ^ 22 % 2 ^ 16 = if deviceWide cls num then 0 else inst := by
    unfold fieldKey
    split <;> omega
  have hnum : fieldKey cls inst num elem / 2 ^ 10 % 2 ^ 12 = num := by
    unfold fieldKey
    omega
  have helem : fieldKey cls inst num elem % 2 ^ 10 = elem := by
    unfold fieldKey
    omega
  rw [fieldDefault, hcls, hinst, hnum, helem]

/-- A committed field right after reset reads its reset value. -/
theorem get_reset (f : Fld) {i : Nat} (hi : i < 2 ^ 16) (hn : f.num < 2 ^ 12) :
    State.reset.hub.get f i = resetValue f.cls (if deviceWide f.cls f.num then 0 else i) f.num 0 := by
  rw [Hub.get, Hub.getN, State.reset, Table.read_empty, fieldDefault_fieldKey hi hn (by decide)]

/-- Settles O6: every store is empty, so that each field reads its reset value. -/
theorem resetLeavesEveryBlockIdle : Obligations.ResetLeavesEveryBlockIdle := by
  refine ⟨rfl, ⟨rfl, rfl, rfl⟩, fun k hk => ?_, fun n hn => ⟨?_, rfl, rfl⟩, rfl, ?_, fun l hl => ?_, fun _ _ => rfl⟩
  · exact get_reset F.TOKEN.HOLDER (by omega) (by decide)
  · exact get_reset F.CONTEXT.STATE (by omega) (by decide)
  · exact get_reset F.SYSTEM.START_STATE (by decide) (by decide)
  · exact get_reset F.LANDING.STATE (by omega) (by decide)

end Sys2Proof.Machine
end

section
/-! SUPPORT and the obligation O60. The Depot's bytes: what a write of a run of bytes does, what is read at a place no write of a rectangle reaches,
and the ways a SURFACE_WRITE can go. -/

namespace Sys2Proof.Machine

/-! ### Runs of bytes -/

/-- Bytes written from a place on, the n-th of a message first: the form stays canonical, each byte stands at its place and every other key reads as
before. -/
theorem foldl_write_bytes (base : Nat) (bs : List Byte) (n : Nat) (t : Table Nat) (hw : t.wf (fun _ => 0) = true) :
    let u := (bs.zipIdx n).foldl (fun t b => t.write (fun _ => 0) (base + b.2) b.1.toNat) t
    u.wf (fun _ => 0) = true ∧ ∀ a, u.read (fun _ => 0) a =
      if base + n ≤ a ∧ a < base + n + bs.length then (bs.getD (a - (base + n)) 0).toNat else t.read (fun _ => 0) a := by
  induction bs generalizing n t with
  | nil =>
    refine ⟨hw, fun a => ?_⟩
    rw [if_neg (fun hin => Nat.not_lt.mpr hin.1 hin.2)]
    rfl
  | cons b bs ih =>
    have hw1 := Table.wf_write (fun _ => 0) t (base + n) b.toNat hw
    obtain ⟨hwf, hread⟩ := ih (n + 1) (t.write (fun _ => 0) (base + n) b.toNat) hw1
    refine ⟨hwf, fun a => (hread a).trans ?_⟩
    have hlen : (b :: bs).length = bs.length + 1 := List.length_cons
    by_cases ha : a = base + n
    · subst ha
      rw [if_neg (by omega), Table.read_write_same _ _ _ _ hw, if_pos (by omega), Nat.sub_self, List.getD_cons_zero]
    · rw [Table.read_write_other _ _ _ ha]
      by_cases hin : base + (n + 1) ≤ a ∧ a < base + (n + 1) + bs.length
      · have hidx : a - (base + n) = a - (base + (n + 1)) + 1 := by omega
        rw [if_pos hin, if_pos (by omega), hidx, List.getD_cons_succ]
      · rw [if_neg hin, if_neg (by omega)]

/-- What a write of bytes into a surface does to the Depot's bytes. -/
theorem Hub.poke_pixels (h : Hub) (s place : Nat) (bs : List Byte) (hw : h.pixels.wf (fun _ => 0) = true) :
    (h.poke s place bs).pixels.wf (fun _ => 0) = true ∧ ∀ a, (h.poke s place bs).pixels.read (fun _ => 0) a =
      if s * 2 ^ 30 + place ≤ a ∧ a < s * 2 ^ 30 + place + bs.length then (bs.getD (a - (s * 2 ^ 30 + place)) 0).toNat
      else h.pixels.read (fun _ => 0) a := by
  obtain ⟨base, hbase⟩ : ∃ base, s * 2 ^ 30 + place = base := ⟨_, rfl⟩
  simp only [Hub.poke, hbase]
  exact foldl_write_bytes base bs 0 h.pixels hw

/-! ### A place that writes do not reach -/

/-- g's Depot bytes are in canonical form and read at a as h's do. -/
def SameByte (h : Hub) (a : Nat) (g : Hub) : Prop :=
  g.pixels.wf (fun _ => 0) = true ∧ g.pixels.read (fun _ => 0) a = h.pixels.read (fun _ => 0) a

/-- A run of at most n bytes keeps a byte that is none of its n. -/
theorem SameByte.poke {h g : Hub} {a : Nat} (hg : SameByte h a g) (s place n : Nat) (bs : List Byte) (hl : bs.length ≤ n)
    (ha : ∀ k, k < n → a ≠ s * 2 ^ 30 + place + k) : SameByte h a (g.poke s place bs) := by
  obtain ⟨hwf, hread⟩ := g.poke_pixels s place bs hg.1
  refine ⟨hwf, (hread a).trans ?_⟩
  rw [if_neg, hg.2]
  rintro ⟨hle, hlt⟩
  exact ha (a - (s * 2 ^ 30 + place)) (by omega) (by omega)

/-- Rows of columns, each of which keeps a byte, keep it. -/
theorem SameByte.rows {h g : Hub} {a : Nat} (hg : SameByte h a g) (rows cols : Nat) (f : Nat → Nat → Hub → Hub)
    (hf : ∀ r c g, r < rows → c < cols → SameByte h a g → SameByte h a (f r c g)) :
    SameByte h a ((List.range rows).foldl (fun g r => (List.range cols).foldl (fun g c => f r c g) g) g) :=
  List.foldlRecOn _ _ hg (fun _ hg _ hr => List.foldlRecOn _ _ hg (fun _ hg _ hc => hf _ _ _ (List.mem_range.mp hr) (List.mem_range.mp hc) hg))

/-- The places of a rectangle's samples and, in a YUV format, of its chroma pairs. -/
def InWrittenRect (h : Hub) (s x y w n a : Nat) : Prop :=
  (∃ c r k, c < w ∧ r < n ∧ k < sampleBytes (h.get F.SURFACE.FORMAT s) ∧
    a = s * 2 ^ 30 + planeAt (h.get F.SURFACE.FORMAT s) (h.get F.SURFACE.WIDTH s) (sampleBytes (h.get F.SURFACE.FORMAT s)) (x + c) (y + r) + k) ∨
  (isYuv (h.get F.SURFACE.FORMAT s) = true ∧ ∃ c r k, c < w / 2 ∧ r < n / 2 ∧ k < 2 * sampleBytes (h.get F.SURFACE.FORMAT s) ∧
    a = s * 2 ^ 30 + chromaAt (h.get F.SURFACE.FORMAT s) (h.get F.SURFACE.WIDTH s) (sampleBytes (h.get F.SURFACE.FORMAT s)) (x / 2 + c) (y / 2 + r) + k)

/-- Pixel data of a rectangle keeps every byte outside it. -/
theorem Hub.writeRect_sameByte (h : Hub) (s x y w n : Nat) (data : List Byte) (a : Nat) (hw : h.pixels.wf (fun _ => 0) = true)
    (ha : ¬ InWrittenRect h s x y w n a) : SameByte h a (h.writeRect s x y w n data) := by
  have hplane := SameByte.rows (h := h) (a := a) ⟨hw, rfl⟩ n w (fun r c g => g.poke s
    (planeAt (h.get F.SURFACE.FORMAT s) (h.get F.SURFACE.WIDTH s) (sampleBytes (h.get F.SURFACE.FORMAT s)) (x + c) (y + r))
    ((data.drop ((r * w + c) * sampleBytes (h.get F.SURFACE.FORMAT s))).take (sampleBytes (h.get F.SURFACE.FORMAT s))))
    (fun r c g hr hc hg => hg.poke s _ _ _ (List.length_take_le _ _) (fun k hk he => ha (.inl ⟨c, r, k, hc, hr, hk, he⟩)))
  simp only [Hub.writeRect]
  split
  next hyuv =>
    exact hplane.rows (n / 2) (w / 2) _ (fun r c g hr hc hg =>
      hg.poke s _ _ _ (List.length_take_le _ _) (fun k hk he => ha (.inr ⟨hyuv, c, r, k, hc, hr, hk, he⟩)))
  · exact hplane

/-! ### SURFACE_WRITE -/

@[simp] theorem Hub.raise_pixels (h : Hub) (src payload : Nat) (who : List Nat) (skip : Option Nat) :
    (h.raise src payload who skip).pixels = h.pixels := by
  obtain ⟨f, x, hfx⟩ := h.raise_frame src payload who skip
  rw [hfx]

@[simp] theorem Hub.refuseWrite_pixels (h : Hub) (l s reason : Nat) : (h.refuseWrite l s reason).pixels = h.pixels :=
  Hub.raise_pixels ..

/-- A SURFACE_WRITE body changes no Depot byte, or writes its rectangle into an allocated surface of the context and counts the write (R336). -/
theorem Hub.surfaceWrite_cases (h : Hub) (l : Nat) (b : List Byte) :
    (h.surfaceWrite l b).pixels = h.pixels ∨
      (h.get F.SURFACE.STATE (leAt b 0 2) = 1 ∧ h.get F.SURFACE.OWNER (leAt b 0 2) = l ∧
        (h.surfaceWrite l b).pixels = (h.writeRect (leAt b 0 2) (leAt b 2 2) (leAt b 4 2) (leAt b 6 2) (leAt b 8 2) (b.drop 16)).pixels) := by
  by_cases hs : 1024 ≤ leAt b 0 2
  · simp [Hub.surfaceWrite, hs]
  · have hmod : leAt b 0 2 % 1024 = leAt b 0 2 := Nat.mod_eq_of_lt (by omega)
    simp only [Hub.surfaceWrite, hs, hmod, if_false, bne_iff_ne, ne_eq, ite_not]
    split
    next hstate =>
      split
      next howner =>
        split
        · exact .inl (Hub.refuseWrite_pixels ..)
        · split
          · exact .inl (Hub.refuseWrite_pixels ..)
          · split
            · exact .inl (Hub.refuseWrite_pixels ..)
            · exact .inr ⟨hstate, howner, rfl⟩
      · exact .inl (Hub.refuseWrite_pixels ..)
    · exact .inl (Hub.refuseWrite_pixels ..)

/-- Taking a display message from its inbox and waking the Depot change neither a field nor a Depot byte. -/
theorem Hub.touchDepot_takeInbox_frame (h : Hub) (l slot : Nat) (msg : List Byte) :
    ((h.takeInbox 7 l slot msg).touchDepot).fields = h.fields ∧ ((h.takeInbox 7 l slot msg).touchDepot).pixels = h.pixels := by
  unfold Hub.touchDepot
  split <;> exact ⟨rfl, rfl⟩

/-- A message of a Display tunnel is taken and has its effect, or has none (R335). -/
theorem Hub.fromDisplay_cases (h : Hub) (l slot : Nat) (msg : List Byte) (type : Nat) (landed : Bool) (f : Hub → List Byte → Hub) :
    h.fromDisplay l slot msg type landed f = h ∨ h.fromDisplay l slot msg type landed f = f (h.takeInbox 7 l slot msg) (msg.drop 8) := by
  unfold Hub.fromDisplay
  split
  · exact .inr rfl
  · exact .inl rfl

/-- What SURFACE_WRITE answers: the hub as it was, or the effect of the body on the hub with the message taken and the Depot awake. -/
theorem execSurfaceWrite_cases {h g : Hub} {q r : List Instr} {l slot : Nat} {msg : List Byte}
    (he : exec (.surfaceWrite l slot msg) ⟨h, q⟩ = .next ⟨g, r⟩) :
    g = h ∨ g = ((h.takeInbox 7 l slot msg).touchDepot).surfaceWrite l (msg.drop 8) := by
  replace he : execSurfaceWrite l slot msg ⟨h, q⟩ = .next ⟨g, r⟩ := he
  simp only [execSurfaceWrite, actIf, act] at he
  split at he
  · cases he
    split
    · split
      · exact .inl rfl
      · exact h.fromDisplay_cases ..
    · exact .inl rfl
  · cases he

/-- Settles O60: a write reaches the Depot through `Hub.writeRect` alone, which keeps every byte outside its rectangle. -/
theorem depotWritesOnlyTheirBytes : Obligations.DepotWritesOnlyTheirBytes := by
  refine ⟨Hub.poke_pixels, ?_⟩
  intro h g q r l slot msg a hw hexec b s f e at_ chroma hout
  obtain rfl | rfl := execSurfaceWrite_cases hexec
  · rfl
  obtain ⟨hfields, hpixels⟩ := h.touchDepot_takeInbox_frame l slot msg
  have hget (f : Fld) (i : Nat) : ((h.takeInbox 7 l slot msg).touchDepot).get f i = h.get f i := by
    rw [Hub.get, Hub.getN, hfields]
    rfl
  rw [← hpixels] at hw ⊢
  obtain hsame | ⟨hstate, howner, hwrote⟩ := ((h.takeInbox 7 l slot msg).touchDepot).surfaceWrite_cases l (msg.drop 8)
  · rw [hsame]
  rw [hwrote]
  refine (Hub.writeRect_sameByte _ _ _ _ _ _ _ a hw ?_).2
  rw [hget] at hstate howner
  obtain ⟨hplane, hchroma⟩ := (hout.resolve_left (fun hne => hne hstate)).resolve_left (fun hne => hne howner)
  simp only [InWrittenRect, hget]
  rintro (⟨x, y, k, hx, hy, hk, he⟩ | ⟨hyuv, x, y, k, hx, hy, hk, he⟩)
  · exact hplane x y k hx hy hk he
  · exact hchroma hyuv x y k hx hy hk he

end Sys2Proof.Machine
end

section
/-! SUPPORT and the obligations O40, O54 and O55. Each command of these groups where its occasion stands, and the effect it has
there. -/

namespace Sys2Proof.Machine

/-! ### Commands at their occasion -/

section
variable {h g : Hub} {q : List Instr} {f : Hub → Hub}

/-- A command on a running main die, by its effect. -/
theorem act_eq (hm : h.mainUp = true) (hf : f h = g) : act ⟨h, q⟩ f = .next ⟨g, q⟩ := by
  rw [act_up f hm, hf]

/-- A command that names an existing object on a running main die, by its effect. -/
theorem actIf_eq {b : Bool} (hb : b = true) (hm : h.mainUp = true) (hf : f h = g) : actIf b ⟨h, q⟩ f = .next ⟨g, q⟩ := by
  rw [actIf_up f hb hm, hf]

/-- A command beside the main die, by its effect. -/
theorem actAny_eq (hf : f h = g) : actAny ⟨h, q⟩ f = .next ⟨g, q⟩ := by
  rw [actAny, hf]

/-- A command beside the main die that names an existing object, by its effect. -/
theorem actAnyIf_eq {b : Bool} (hb : b = true) (hf : f h = g) : actAnyIf b ⟨h, q⟩ f = .next ⟨g, q⟩ := by
  rw [actAnyIf_real f hb, hf]

/-- The expiry of a running timer, by what follows it. -/
theorem Hub.expire_eq {kind inst d : Nat} (hd : h.due kind inst = some d) (hf : f (h.expiredAt kind inst d) = g) : h.expire kind inst f = g :=
  (h.expire_due kind inst f hd).trans hf

/-- The expiry of a running timer of the feed die, by what follows it. -/
theorem Hub.feedExpire_eq {kind inst d : Nat} (hd : h.feedDue kind inst = some d) (hf : f (h.feedExpired kind inst d) = g) :
    h.feedExpire kind inst f = g := by
  rw [Hub.feedExpire, hd]
  exact hf

end

/-! ### Waiting work and notices (O40) -/

/-- The network-time targets waited for. -/
def Hub.networkTargets (h : Hub) : List Nat := h.epochs.filterMap (fun e => match e with | .time t => some t | _ => none)

/-- The one network-time target waited for is the earliest. -/
theorem Hub.networkEpoch_one {h : Hub} {t : Nat} (ht : h.networkTargets = [t]) :
    h.networkEpoch = (h.advanceToNetwork t).moment (h.advanceToNetwork t).timeReached := by
  unfold Hub.networkEpoch
  split
  next he => cases ht.symm.trans he
  next a rest he =>
    cases ht.symm.trans he
    rfl

/-- A context that waits with one set alone has that set's timeout first. -/
theorem Hub.contextTimeout_set {h : Hub} {ctx : Nat} {w : WaitSet} (hw : h.sets.filter (fun w => w.head.ctx == ctx && !w.arrived) = [w])
    (hd : h.waitDeadline ctx = none) : h.contextTimeout ctx = h.setTimeout w := by
  simp only [Hub.contextTimeout, hw, List.foldl_nil, hd]

/-- A context without a waiting set has its program's timeout. -/
theorem Hub.contextTimeout_wait {h : Hub} {ctx d : Nat} {p : Prog} (hw : h.sets.filter (fun w => w.head.ctx == ctx && !w.arrived) = [])
    (hp : h.prog ctx = some p) (hd : h.waitDeadline ctx = some d) :
    h.contextTimeout ctx = (h.advanceTo d).manifestOn ctx { p with block := none, z := false } := by
  simp only [Hub.contextTimeout, hw, Hub.waitTimeout, hp, hd]

/-- The K0 window closes with K0 held already. -/
theorem Hub.endK0Window_held {h : Hub} (hk : ({ h with k0Window := false } : Hub).holder 0 ≠ 0xF) :
    h.endK0Window = { h with k0Window := false } := by
  simp [Hub.endK0Window, show h.holder 0 ≠ 0xF from hk]

/-- The K0 window closes with K0 free and a landing authenticated. -/
theorem Hub.endK0Window_free {h : Hub} {l : Nat} {rest : List Nat} (hk : ({ h with k0Window := false } : Hub).holder 0 = 0xF)
    (hl : h.authOrder = l :: rest) : h.endK0Window = ({ h with k0Window := false } : Hub).moveToken 0 l 0xF false := by
  simp [Hub.endK0Window, show h.holder 0 = 0xF from hk, hl]

/-- Settles O40, a command a line: where its occasion stands (`act_eq`, `actIf_eq`, `Hub.expire_eq`) and the effect it has there. -/
theorem waitingWorkAndNoticesMoveOn : Obligations.WaitingWorkAndNoticesMoveOn := by
  intro q h hm
  refine ⟨fun t ht => show execEpochNetworkTime _ = _ from act_eq hm (Hub.networkEpoch_one ht),
    fun ctx w hc hw hd => show execCommitTimeoutExpiry ctx _ = _ from actIf_eq (decide_eq_true hc) hm (Hub.contextTimeout_set hw hd),
    fun ctx p d hc hw hp hd => show execCommitTimeoutExpiry ctx _ = _ from actIf_eq (decide_eq_true hc) hm (Hub.contextTimeout_wait hw hp hd),
    fun hs hr hp => show execStandingReplay _ = _ from act_eq hm (by simp [hs, hr, hp]),
    fun hs hr hp => show execStandingReplay _ = _ from act_eq hm (by simp [hs, hr, Nat.not_lt.mpr hp, Hub.running]),
    fun d hd => show execStandingTokenTimeout _ = _ from act_eq hm (Hub.expire_eq hd rfl),
    fun d hd hk => show execK0WindowEnd _ = _ from act_eq hm (Hub.expire_eq hd (Hub.endK0Window_held hk)),
    fun d l rest hd hk hl => show execK0WindowEnd _ = _ from act_eq hm (Hub.expire_eq hd (Hub.endK0Window_free hk hl)),
    fun n d hn hd hs => show execHeldContextExpiry n _ = _ from actIf_eq (decide_eq_true hn) hm (Hub.expire_eq hd (by simp [hs])),
    fun d hs hd => show execMgmtSessionIdle _ = _ from act_eq hm ((if_pos hs).trans (Hub.expire_eq hd rfl)),
    fun ctx hc hu => show execNoticeCollectorRound ctx _ = _ from actIf_eq (decide_eq_true hc) hm (by simp [Hub.collectorRound, hu]),
    fun ctx hc hk hx => show execNoticeEntryTaken ctx _ = _ from actIf_eq (decide_eq_true hc) hm (by simp [Hub.noticeTaken, hk, hx])⟩

/-! ### The governor and the Ledger (O54) -/

@[simp] theorem Hub.modGov_gov (h : Hub) (f : Governor → Governor) (x : Fld) : (h.modGov f).gov x = h.gov x := rfl

/-- A recount of a balance without pages and contracts decides the items in doubt and ends (R544, R546). -/
theorem Hub.recount_items {h : Hub} {i pause : Nat} {items : List (Nat × List Nat)} {x : Nat × Int}
    (hc : h.ledger.correcting.read (fun _ => none) i = some x) (h28 : i ≠ 28) (h30 : i ≠ 30) (hs : ¬ (6 ≤ i ∧ i < 10)) :
    h.recount i pause items = (items.foldl (fun g x => g.doubt i x) h).recounted i pause := by
  simp [Hub.recount, hc, h28, h30, hs]

/-- Settles O54, a command a line, as O40. -/
theorem governorAndLedgerAct : Obligations.GovernorAndLedgerAct := by
  intro q h hm
  refine ⟨fun power sense readback paces => show execGovernorTick power sense readback paces _ = _ from act_eq hm rfl,
    fun waited => show execSprintDemandWindow waited _ = _ from act_eq hm rfl,
    fun d hd hs => show execVcoreRampDone _ = _ from act_eq hm (Hub.expire_eq hd (by simp only [Hub.modGov_gov, hs])),
    fun d hd hs => show execVcoreRampDone _ = _ from act_eq hm (Hub.expire_eq hd (by simp only [Hub.modGov_gov, hs])),
    fun d hs hd => show execSprintLifetimeCharge _ = _ from act_eq hm ((if_pos hs).trans (Hub.expire_eq hd rfl)),
    fun k reading hk => show execThermalSensorSample k reading _ = _ from actIf_eq (decide_eq_true hk) hm rfl,
    fun k d hk hd => show execThermalShutdown k _ = _ from actIf_eq (decide_eq_true hk) hm (Hub.expire_eq hd rfl),
    show execAvsStartAbsent _ = _ from act_eq hm rfl,
    fun ht => show execAvsCommandTimeout _ = _ from act_eq hm (if_pos ht),
    fun ht => show execAvsCommandTimeout _ = _ from act_eq hm (if_neg (Nat.not_lt.mpr ht)),
    fun sense readback hr => show execAvsReadbackFault sense readback _ = _ from act_eq hm (if_pos (by simpa [readbackOff] using hr)),
    fun sense hlim htarget => show execVcoreOvervoltage sense _ = _ from act_eq hm (if_pos (by simp [hlim, htarget])),
    fun sense hlim hstep => show execVcoreOvervoltageTrip sense _ = _ from act_eq hm (if_pos (by simp [hlim, hstep])),
    fun d hd => show execPaceBelowFloor _ = _ from act_eq hm (Hub.expire_eq hd rfl),
    fun errors => show execLedgerAudit errors _ = _ from act_eq hm rfl,
    fun i d e x hi hd hf => show execLedgerReread i false _ = _ from actIf_eq (decide_eq_true hi) hm (Hub.expire_eq hd (by simp [hf])),
    fun i d e x hi hd ho hf => show execLedgerReread i true _ = _ from actIf_eq (decide_eq_true hi) hm
      (Hub.expire_eq hd (by simp [hf, show ¬ (10 ≤ i ∧ i < 26) by omega])),
    fun i pause items x hi hc h28 h30 hs => show execLedgerRecount i pause items _ = _ from
      actIf_eq (decide_eq_true hi) hm (Hub.recount_items hc h28 h30 hs),
    fun memory head page h1 h6 hh hp hne => show execEccCorrectedError memory head page _ = _ from
      actIf_eq (decide_eq_true ⟨h1, h6, hh, hp⟩) hm (if_pos (by simpa using hne)),
    fun memory unit addr hit h1 h6 h2 => show execEccUncorrectableError memory unit addr hit _ = _ from
      actIf_eq (decide_eq_true ⟨h1, h6⟩) hm (by subst h2; rfl)⟩

/-! ### Feeds and power contracts (O55) -/

/-- A feed that is on or coming up trips at its fast trip's current at once (R475). -/
theorem Hub.fastTripNow_trips {h : Hub} {n : Nat} {amps : Int} (hs : h.get F.FEED.STATE n = 1 ∨ h.get F.FEED.STATE n = 2 ∨ h.get F.FEED.STATE n = 3)
    (ha : (h.fastTrip n : Int) ≤ amps) : h.fastTripNow n amps =
      (h.modFeed n (fun f => { f with amps := amps, peak := max f.peak amps.toNat })).tripFeed n (if h.get F.FEED.STATE n == 1 then 3 else 2) 0
        (h.onTime n) := by
  simp only [Hub.fastTripNow]
  exact if_pos (by simp [ha, or_assoc, hs])

/-- A reduction under way ends in the grant it came to, and what it freed is offered (R483). -/
theorem Hub.endReduce_running {h : Hub} {l : Nat} (hr : (h.contract l).reduceTo ≠ 0) : h.endReduce l =
    ((h.feedDisarm T.powerReduce l).putGrant l ((h.contract l).reduceTo - 1) 0x10 (h.contract l).reduceNo (h.chargeable l)).offerMore := by
  simp [Hub.endReduce, hr]

@[simp] theorem Hub.frameTaken_contract (h : Hub) (l m : Nat) : (h.frameTaken l).contract m = h.contract m := rfl
@[simp] theorem Hub.frameTaken_pmfPaused (h : Hub) (l : Nat) : (h.frameTaken l).pmfPaused = h.pmfPaused := rfl

/-- A host frame of the right length in its reply window has its effect on the hub with the frame taken (R170 to R172). -/
theorem Hub.hostFrame_eq {h g : Hub} {l : Nat} {good : Bool} {f : Hub → Hub} (hw : InReplyWindow h l) (hg : good = true) (hf : f (h.frameTaken l) = g) :
    h.hostFrame l good f = g := by
  rw [Hub.hostFrame_in hw, if_pos hg, hf]

/-- Settles O55, a command a line, as O40; most act beside the main die (`actAny_eq`, `actAnyIf_eq`), contracts in a reply window (`Hub.hostFrame_eq`). -/
theorem feedsAndContractsAct : Obligations.FeedsAndContractsAct := by
  intro q h
  refine ⟨fun frame hp hm hv => show execFeedLinkFrame frame _ = _ from actAny_eq (by simp [Hub.feedLinkFrame, hp, hm, hv]),
    fun frame hp hm hv hl => show execFeedLinkFrame frame _ = _ from actAny_eq (by simp [Hub.feedLinkFrame, hp, hm, hv, hl]),
    fun frame hp hm hv hl => show execFeedLinkFrame frame _ = _ from actAny_eq (by simp [Hub.feedLinkFrame, hp, hm, hv, hl]),
    fun d hd => show execFeedLinkHoldEntry _ = _ from actAny_eq (Hub.feedExpire_eq hd rfl),
    fun samples vhv hp => show execFeedEvaluation samples vhv _ = _ from actAny_eq (by simp [Hub.feedEvaluation, hp]),
    fun n amps hn hs ht => show execFastTrip n amps _ = _ from
      actAnyIf_eq (decide_eq_true hn) (congrArg (fun g : Hub => g.feedFollows n (h.get F.FEED.STATE n)) (Hub.fastTripNow_trips hs ht)),
    fun n hn hp hs hr => show execFeedRetryTimer n _ = _ from actAnyIf_eq (decide_eq_true hn) (by simp [Hub.feedRetry, hp, hs, hr]),
    fun n hn hs hg => show execFeedRetryCountReset n _ = _ from actAnyIf_eq (decide_eq_true hn) (by simp [Hub.feedRetryReset, hs, hg]),
    fun hl hp => show execMeasurementRecord _ = _ from actAny_eq (by simp [hl, hp]),
    fun l body hl hw hb hp => show execPowerReq l body _ = _ from
      actAnyIf_eq (decide_eq_true hl) (Hub.hostFrame_eq hw (by simp [hb]) (if_neg (by simp [hp]))),
    fun l body hl hw hb hp => show execPowerReq l body _ = _ from
      actAnyIf_eq (decide_eq_true hl) (Hub.hostFrame_eq hw (by simp [hb]) (if_pos hp)),
    fun l body hl hw hb hr hn => show execPowerAck l body _ = _ from
      actAnyIf_eq (decide_eq_true hl) (Hub.hostFrame_eq hw (by simp [hb]) ((if_pos (by simp [hr, hn])).trans (Hub.endReduce_running hr))),
    fun l d hl hd => show execPowerReduceTimeout l _ = _ from actAnyIf_eq (decide_eq_true hl) (Hub.feedExpire_eq hd rfl)⟩

end Sys2Proof.Machine
end

section
/-! SUPPORT and the obligation O57. Numbers written and read little-endian, and the header of a Control message. -/

namespace Sys2Proof.Machine

/-! ### Little-endian numbers -/

@[simp] theorem length_leBytes (k n : Nat) : (leBytes k n).length = k := by
  induction k generalizing n with
  | zero => rfl
  | succ k ih => simp [leBytes, ih]

/-- What k bytes spell of a number written in them. -/
theorem leNat_leBytes (k n : Nat) : leNat (leBytes k n) = n % 256 ^ k := by
  induction k generalizing n with
  | zero => simp [leBytes, leNat, Nat.mod_one]
  | succ k ih =>
    calc leNat (leBytes (k + 1) n)
      _ = n % 256 + 256 * (n / 256 % 256 ^ k) := by simp [leBytes, leNat, ih]
      _ = n % 256 ^ (k + 1) := by rw [Nat.pow_succ', Nat.mod_mul]

/-- A number that fits its bytes is read back. -/
theorem leNat_leBytes_of_lt {k n : Nat} (hn : n < 256 ^ k) : leNat (leBytes k n) = n := by
  rw [leNat_leBytes, Nat.mod_eq_of_lt hn]

/-- A number that ends within a list is read alike in a longer one. -/
theorem leAt_append {bs : List Byte} {i k : Nat} (more : List Byte) (hk : i + k ≤ bs.length) : leAt (bs ++ more) i k = leAt bs i k := by
  rw [leAt, leAt, List.drop_append_of_le_length (by omega), List.take_append_of_le_length (by rw [List.length_drop]; omega)]

/-! ### The header of R117 (O57) -/

theorem OutMsg.length_bytes (m : OutMsg) : m.bytes.length = 8 + m.body.length := by
  simp only [OutMsg.bytes, List.length_append, length_leBytes]

/-- Bytes 4 and 5 of a message are its sequence. -/
theorem OutMsg.leAt_bytes_seq (m : OutMsg) (hs : m.seq < 65536) : leAt m.bytes 4 2 = m.seq := leNat_leBytes_of_lt (k := 2) hs

/-- Bytes 6 and 7 of a message are its body's length. -/
theorem OutMsg.leAt_bytes_length (m : OutMsg) (hl : m.body.length < 65536) : leAt m.bytes 6 2 = m.body.length := leNat_leBytes_of_lt (k := 2) hl

/-- Settles O57: each part of the header is a little-endian number at its place in the bytes. -/
theorem controlMessagesCarryTheHeader : Obligations.ControlMessagesCarryTheHeader := by
  intro m ht hc hs hl
  exact ⟨m.length_bytes, Nat.mod_eq_of_lt ht, rfl, Nat.mod_eq_of_lt (by omega), rfl, m.leAt_bytes_seq hs, m.leAt_bytes_length hl,
    m.leAt_bytes_seq hs, rfl⟩

end Sys2Proof.Machine
end

section
/-! SUPPORT and the obligation O58. The pending records after a raise: those it is addressed to take it in, every other stays. -/

namespace Sys2Proof.Machine

/-- A pending record is kept apart from those of other contexts and sources. -/
theorem Hub.pendRec_setPend (h : Hub) {n src m k : Nat} (r : NoticeRec) (hw : h.pend.wf (fun _ => {}) = true) (hs : src < 512) (hk : k < 512) :
    (h.setPend n src r).pendRec m k = if m = n ∧ k = src then r else h.pendRec m k := by
  by_cases hmk : m = n ∧ k = src
  · obtain ⟨rfl, rfl⟩ := hmk
    rw [if_pos ⟨rfl, rfl⟩]
    exact Table.read_write_same _ _ _ _ hw
  · rw [if_neg hmk]
    exact Table.read_write_other _ _ _ (by omega)

/-- The records after a raise has walked over contexts: each of them that it reaches takes it in once. -/
theorem pendRec_raise_fold {src : Nat} (hs : src < 512) (payload t : Nat) (p : Nat → Bool) (m : Nat) {k : Nat} (hk : k < 512) (l : List Nat)
    (hl : l.Nodup) (g : Hub) (hw : g.pend.wf (fun _ => {}) = true) :
    (l.foldl (fun g n => if p n then g.setPend n src ((g.pendRec n src).raised src t payload) else g) g).pendRec m k =
      if m ∈ l ∧ p m = true ∧ k = src then (g.pendRec m src).raised src t payload else g.pendRec m k := by
  induction l generalizing g with
  | nil => simp
  | cons n l ih =>
    obtain ⟨hn, hl⟩ := List.nodup_cons.mp hl
    rw [List.foldl_cons]
    by_cases hp : p n = true
    · rw [if_pos hp, ih hl _ (Table.wf_write _ _ _ _ hw), Hub.pendRec_setPend _ _ hw hs hs, Hub.pendRec_setPend _ _ hw hs hk]
      by_cases hm : m = n
      · subst hm
        by_cases hks : k = src <;> simp [hn, hp, hks]
      · simp [hm]
    · rw [if_neg hp, ih hl _ hw]
      by_cases hm : m = n
      · subst hm
        simp [hn, hp]
      · simp [hm]

/-- The hub at a raise, before any context's record takes it in. -/
def Hub.raiseShown (h : Hub) (src payload : Nat) : Hub :=
  ((h.add F.NOTICE.RAISED src 1).set F.NOTICE.LAST_TIME src h.now48).set F.NOTICE.LAST_PAYLOAD src payload

@[simp] theorem Hub.raiseShown_pendRec (h : Hub) (src payload n k : Nat) : (h.raiseShown src payload).pendRec n k = h.pendRec n k := rfl

/-- A raise that passes no context by shows in the source's fields and walks over the contexts addressed (R159). -/
theorem Hub.raise_up (h : Hub) (src payload : Nat) (who : List Nat) (hm : h.mainUp = true) :
    h.raise src payload who = (List.range 6).foldl
      (fun g n => if h.addressed src who n then g.setPend n src ((g.pendRec n src).raised src h.now48 payload) else g) (h.raiseShown src payload) := by
  simp [Hub.raise, Hub.raiseShown, hm]

/-- The pending records of the contexts after a raise (R159). -/
theorem Hub.pendRec_raise (h : Hub) {src : Nat} (payload : Nat) (who : List Nat) (hw : h.pend.wf (fun _ => {}) = true) (hm : h.mainUp = true)
    (hs : src < 512) {n k : Nat} (hn : n < 6) (hk : k < 512) :
    (h.raise src payload who).pendRec n k =
      if h.addressed src who n = true ∧ k = src then (h.pendRec n src).raised src h.now48 payload else h.pendRec n k := by
  have hfold := pendRec_raise_fold hs payload h.now48 (h.addressed src who) n hk (List.range 6) List.nodup_range (h.raiseShown src payload) hw
  rw [← Hub.raise_up h src payload who hm] at hfold
  simpa [hn] using hfold

/-- A raise counts in RAISED of its source (R159). -/
theorem Hub.raised_raise (h : Hub) (src payload : Nat) (who : List Nat) (hw : h.fields.wf fieldDefault = true) (hm : h.mainUp = true) :
    (h.raise src payload who).get F.NOTICE.RAISED src = (h.get F.NOTICE.RAISED src + 1) % 2 ^ F.NOTICE.RAISED.width := by
  obtain ⟨x, hx⟩ := raise_fold_frame src payload h.now48 (fun _ => h.addressed src who) (List.range 6) (h.raiseShown src payload)
  rw [Hub.raise_up h src payload who hm, hx]
  calc (h.raiseShown src payload).get F.NOTICE.RAISED src
    _ = ((h.add F.NOTICE.RAISED src 1).set F.NOTICE.LAST_TIME src h.now48).get F.NOTICE.RAISED src := Hub.get_set_num _ _ (by decide) (by decide) (by decide)
    _ = (h.add F.NOTICE.RAISED src 1).get F.NOTICE.RAISED src := Hub.get_set_num _ _ (by decide) (by decide) (by decide)
    _ = (h.get F.NOTICE.RAISED src + 1) % 2 ^ F.NOTICE.RAISED.width := Hub.get_add_same h _ _ _ _ hw

/-- A record's count grows by one up to 4,095. -/
theorem NoticeRec.count_raised (r : NoticeRec) (src t payload : Nat) : (r.raised src t payload).count = min 4095 (r.count + 1) := by
  simp only [NoticeRec.raised, satAdd]
  split <;> omega

/-- The first raise gives a record its payload, a later one merges its own in (R617). -/
theorem NoticeRec.payload_raised (r : NoticeRec) (src t payload : Nat) :
    (r.raised src t payload).payload = if r.count = 0 then payload else mergePayload src r.payload payload := by
  simp [NoticeRec.raised]

/-- Settles O58: RAISED counts, an addressed record of the source takes the raise in, every other record and the rest of the hub stay. -/
theorem raisesAreCountedAndCoalesced : Obligations.RaisesAreCountedAndCoalesced := by
  rintro h src payload who ⟨hf, -, -⟩ hw hm hs g
  refine ⟨h.raised_raise src payload who hf hm, fun n hn ha => ?_, fun n k hn hk hother => ?_, ?_⟩
  · have hrec : g.pendRec n src = (h.pendRec n src).raised src h.now48 payload := by
      simp [g, h.pendRec_raise payload who hw hm hs hn hs, ha]
    rw [hrec]
    exact ⟨rfl, NoticeRec.count_raised .., rfl, NoticeRec.payload_raised ..⟩
  · rw [h.pendRec_raise payload who hw hm hs hn hk, if_neg]
    rintro ⟨ha, rfl⟩
    simp [ha] at hother
  · obtain ⟨f, x, hg⟩ := h.raise_frame src payload who none
    simp [g, hg]

end Sys2Proof.Machine
end

section
/-! SUPPORT and the obligation O37. A context's commit of stores outside a Manifest, and the rows that are such commits. -/

namespace Sys2Proof.Machine

/-- Stores of which none is staged change nothing. -/
theorem Hub.commitStores_none {h : Hub} {ctx cls inst : Nat} {sts : List (Nat × Nat × Int)} (hs : (h.stageAll ctx cls inst sts).staged = []) :
    h.commitStores ctx cls inst sts = h := by
  simp [Hub.commitStores, hs]

/-- What stores stage commits as a set of the context (log entry 12). -/
theorem Hub.commitStores_stages {h : Hub} {ctx cls inst : Nat} {sts : List (Nat × Nat × Int)} {staged : List Staged}
    (hs : Stages h ctx cls inst sts staged) : h.commitStores ctx cls inst sts = h.setDone ctx staged := by
  obtain ⟨rfl, hne, hsteps⟩ := hs
  simp [Hub.commitStores, Hub.setDone, hne, hsteps]

/-- A command is a context's commit of stores to one object, on a running main die. -/
def CommitsStores (i : Instr) (ctx cls inst : Nat) (sts : List (Nat × Nat × Int)) : Prop :=
  ∀ s, exec i s = actIf i.inRange s (fun h => h.commitStores ctx cls inst sts)

/-- Such a command ends as its stores' checks say. -/
theorem CommitsStores.takes_effect {i : Instr} {ctx cls inst : Nat} {sts : List (Nat × Nat × Int)} (hi : CommitsStores i ctx cls inst sts)
    (hr : i.inRange = true) (q : List Instr) {h : Hub} (hm : h.mainUp = true) :
    ((h.stageAll ctx cls inst sts).staged = [] → exec i ⟨h, q⟩ = .next ⟨h, q⟩) ∧
      ∀ staged, Stages h ctx cls inst sts staged → exec i ⟨h, q⟩ = .next ⟨h.setDone ctx staged, q⟩ :=
  ⟨fun hs => (hi _).trans (actIf_eq hr hm (Hub.commitStores_none hs)), fun _ hs => (hi _).trans (actIf_eq hr hm (Hub.commitStores_stages hs))⟩

/-- A key operation on a slot of its kind commits its stores. -/
theorem Hub.commitOp_stages {h : Hub} {ctx k kind : Nat} {input : List Nat} {staged : List Staged} (hk : h.get F.KEYSLOT.KIND k = kind)
    (hs : Stages h ctx F.KEYSLOT.OP.cls k ((input.take 6).zipIdx.map (fun x => (F.KEYSLOT.INPUT.num, x.2, (x.1 : Int))) ++ [(F.KEYSLOT.OP.num, 0, 1)]) staged) :
    h.commitOp ctx k kind input = h.setDone ctx staged := by
  rw [Hub.commitOp, if_neg (by simp [hk]), Hub.commitStores_stages hs]

/-- Settles O37: each row of the list is a commit of its stores (`CommitsStores`); the key operations and the warm reset are one under their
own condition. -/
theorem commitsTakeEffect : Obligations.CommitsTakeEffect := by
  intro q h hm
  refine ⟨fun ctx n value elem stores v force digest i cls inst sts hrow hr => ?_, fun ctx k kind input i staged hrow hc hk hkind hs => ?_,
    fun ctx same staged hc => ⟨fun hw => ?_, fun hw hs => ?_⟩⟩
  · have hi : CommitsStores i ctx cls inst sts := by
      refine (?_ : ∀ x ∈ (_ : List (Instr × Nat × Nat × List (Nat × Nat × Int))), CommitsStores x.1 ctx x.2.1 x.2.2.1 x.2.2.2) _ hrow
      simp only [List.forall_mem_cons, List.not_mem_nil, false_implies, implies_true, and_true]
      and_intros <;> exact fun _ => rfl
    exact hi.takes_effect hr q hm
  · simp only [List.mem_cons, List.not_mem_nil, or_false, Prod.mk.injEq] at hrow
    rcases hrow with ⟨rfl, rfl⟩ | ⟨rfl, rfl⟩
    · show execKeyslotHmac ctx k input _ = _
      exact actIf_eq (decide_eq_true ⟨hc, hk⟩) hm (Hub.commitOp_stages hkind hs)
    · show execKeyslotSign ctx k input _ = _
      exact actIf_eq (decide_eq_true ⟨hc, hk⟩) hm (Hub.commitOp_stages hkind hs)
  · show execWarmReset ctx same _ = _
    exact actIf_eq (decide_eq_true hc) hm (if_pos hw)
  · show execWarmReset ctx same _ = _
    exact actIf_eq (decide_eq_true hc) hm ((if_neg (by simp [hw])).trans (Hub.commitStores_stages hs))

end Sys2Proof.Machine
end

section
/-! SUPPORT and the obligations O38 and O39. A Control message that waits on its channel, and the local port's FIFOs. -/

namespace Sys2Proof.Machine

/-! ### Control messages (O38) -/

section
variable {h g k : Hub} {ch : Chan} {msg : List Byte} {type : Nat} {raw : Bool} {f : Hub → Hub}

/-- A waiting message of a command's own TYPE that R118 does not refuse is acted on. -/
theorem Hub.onControl_acts (ht : byteAt msg 0 = type) (hw : h.takeControl ch msg = some (g, raw)) (hc : g.controlFault ch raw msg = none)
    (hf : f g = k) : h.onControl ch msg type f = k := by
  simp [Hub.onControl, ht, hw, hc, hf]

/-- A waiting message of a command's own TYPE is refused with the reason R118 gives. -/
theorem Hub.onControl_refuses {reason : Nat} (ht : byteAt msg 0 = type) (hw : h.takeControl ch msg = some (g, raw))
    (hc : g.controlFault ch raw msg = some reason) : h.onControl ch msg type f = g.refuseControl ch msg reason := by
  simp [Hub.onControl, ht, hw, hc]

end

/-- The head of the Manifest in a MANIFEST message (R127). -/
def manifestHead (ch : Chan) (msg : List Byte) : ManHead :=
  { ctx := ch.ctx, chan := ch, seq := ctlSeq msg, tag := leAt (ctlBody msg) 4 4, level := byteAt (ctlBody msg) 0, standing := bitB (byteAt msg 3) 0,
    slotByte := byteAt (ctlBody msg) 1 }

/-- A MANIFEST that R128 does not refuse is queued. -/
theorem Hub.manifest_queues {g : Hub} {ch : Chan} {msg : List Byte}
    (hr : g.manifestRefused (manifestHead ch msg) (leAt (ctlBody msg) 2 2) (ctlBody msg).length = none) :
    g.manifest ch msg = g.modCtx ch.ctx (fun c =>
      { c with queue := c.queue ++ [{ head := manifestHead ch msg, words := manifestWords (leAt (ctlBody msg) 2 2) ((ctlBody msg).drop 8) }] }) := by
  dsimp only [Hub.manifest]
  split
  next hs => cases hr.symm.trans hs
  next => rfl

/-- A MANIFEST that R128 refuses is answered with a Receipt of the refusal. -/
theorem Hub.manifest_reports {g : Hub} {ch : Chan} {msg : List Byte} {status detail : Nat}
    (hr : g.manifestRefused (manifestHead ch msg) (leAt (ctlBody msg) 2 2) (ctlBody msg).length = some (status, detail)) :
    g.manifest ch msg = g.report (manifestHead ch msg) [] { status := status, detail := detail } := by
  dsimp only [Hub.manifest]
  split
  next hs =>
    cases hr.symm.trans hs
    rfl
  next hs => cases hr.symm.trans hs

/-- Outside recovery a MANIFEST is served (R589). -/
theorem Hub.manifest_served {g k : Hub} {ch : Chan} {msg : List Byte} (hs : g.get F.SYSTEM.START_STATE 0 ≠ 4) (hk : g.manifest ch msg = k) :
    (if g.get F.SYSTEM.START_STATE 0 == 4 then g else g.manifest ch msg) = k :=
  (if_neg (by simpa using hs)).trans hk

/-- A PEEK is answered where fewer than four are open and nothing pauses the Signal Box (R151, R152). -/
theorem Hub.peek_answers {g : Hub} {ch : Chan} (msg : List Byte) (ho : g.peeksOpen ch.ctx < 4) (hb : g.boxPaused = false) :
    g.peek ch msg = g.answerPeek ch msg := by
  simp [Hub.peek, Nat.not_le.mpr ho, hb]

/-- A PEEK waits while the Signal Box is paused (R535). -/
theorem Hub.peek_holds {g : Hub} {ch : Chan} (msg : List Byte) (ho : g.peeksOpen ch.ctx < 4) (hb : g.boxPaused = true) :
    g.peek ch msg = { g with peeksHeld := g.peeksHeld ++ [(ch, msg)] } := by
  simp [Hub.peek, Nat.not_le.mpr ho, hb]

/-- A context's next Manifest starts where none of it runs, the Signal Box runs Manifests and the Receipt ring has room (R129, R130). -/
theorem Hub.startManifest_starts {h : Hub} {n : Nat} {m : Manifest} {rest : List Manifest} (hq : (h.ctx n).queue = m :: rest) (hp : h.prog n = none)
    (hb : h.boxPaused = false) (hs : h.get F.SYSTEM.START_STATE 0 = 2 ∨ h.get F.SYSTEM.START_STATE 0 = 3) (hr : h.receiptsWaiting n < 16) :
    h.startManifest n =
      (h.modCtx n (fun c => { c with queue := rest })).manifestOn n { level := m.head.level, words := m.words, head := m.head } := by
  have hstate : (h.get F.SYSTEM.START_STATE 0 != 2 && h.get F.SYSTEM.START_STATE 0 != 3) = false := by
    rcases hs with hs | hs <;> simp [hs]
  simp [Hub.startManifest, hq, hp, hb, hstate, Nat.not_le.mpr hr]

/-- No Manifest of a context starts while its Receipt ring is full (R130). -/
theorem Hub.startManifest_full {h : Hub} {n : Nat} (hr : 16 ≤ h.receiptsWaiting n) : h.startManifest n = h := by
  unfold Hub.startManifest
  split
  · simp [hr]
  · rfl

/-- Settles O38, a command a line: what its channel does with the message (`Hub.onControl_acts`, `Hub.onControl_refuses`) and what it does itself. -/
theorem controlMessagesTakeEffect : Obligations.ControlMessagesTakeEffect := by
  intro q h hm
  refine ⟨fun ch msg g raw hch ht hw hc _ => show execHelloMessage ch msg _ = _ from actIf_eq hch hm (Hub.onControl_acts ht hw hc rfl),
    fun ch msg g raw reason hch ht hw hc => show execHelloMessage ch msg _ = _ from actIf_eq hch hm (Hub.onControl_refuses ht hw hc),
    ?queued, ?reported,
    fun ch msg g raw reason hch ht hw hc => show execManifestMessage ch msg _ = _ from actIf_eq hch hm (Hub.onControl_refuses ht hw hc),
    fun ch msg g raw hch ht hw hc ho hb => show execPeekMessage ch msg _ = _ from
      actIf_eq hch hm (Hub.onControl_acts ht hw hc (Hub.peek_answers msg ho hb)),
    fun ch msg g raw hch ht hw hc ho hb => show execPeekMessage ch msg _ = _ from
      actIf_eq hch hm (Hub.onControl_acts ht hw hc (Hub.peek_holds msg ho hb)),
    fun ch msg g raw hch ht hw hc ho => show execPeekMessage ch msg _ = _ from actIf_eq hch hm (Hub.onControl_acts ht hw hc (if_pos ho)),
    fun ch msg g raw hch ht hw hc hl => show execAttestReq ch msg _ = _ from
      actIf_eq hch hm (Hub.onControl_acts ht hw hc (if_neg (by simp [hl]))),
    fun ch msg g raw hch ht hw hc hl => show execAttestReq ch msg _ = _ from
      actIf_eq hch hm (Hub.onControl_acts ht hw hc (if_pos (by simp [hl]))),
    fun ch msg g raw hch ht hb hw hc => show execUpdatePiece ch msg _ = _ from
      actIf_eq hch hm ((if_neg (by simp [hb])).trans (Hub.onControl_acts ht hw hc rfl)),
    fun ch msg g raw hch ht hb hw hc => show execUpdateAbort ch msg _ = _ from
      actIf_eq hch hm ((if_pos hb).trans (Hub.onControl_acts ht hw hc rfl)),
    fun mac frames g d hmac hd => show execMgmtSealedDatagram mac frames _ = _ from actIf_eq (decide_eq_true hmac) hm (by simp only [hd]),
    fun l msg g hl ht hb => show execSealedMessage l msg _ = _ from actIf_eq (decide_eq_true hl) hm (by simp [ht, hb]),
    fun l msg hl ht hb => show execSealedMessage l msg _ = _ from actIf_eq (decide_eq_true hl) hm (by simp [ht, hb]),
    fun ctx m rest hctx hq hp hb hs hr => show execManifestStart ctx _ = _ from
      actIf_eq (decide_eq_true hctx) hm (Hub.startManifest_starts hq hp hb hs hr),
    fun ctx hctx hr => show execManifestStart ctx _ = _ from actIf_eq (decide_eq_true hctx) hm (Hub.startManifest_full hr)⟩
  case queued =>
    rintro ch msg g raw _ hch ht hw hc hs b rfl hr
    show execManifestMessage ch msg _ = _
    exact actIf_eq hch hm (Hub.onControl_acts ht hw hc (Hub.manifest_served hs (Hub.manifest_queues hr)))
  case reported =>
    rintro ch msg g raw _ status detail hch ht hw hc hs b rfl hr
    show execManifestMessage ch msg _ = _
    exact actIf_eq hch hm (Hub.onControl_acts ht hw hc (Hub.manifest_served hs (Hub.manifest_reports hr)))

/-! ### The local port (O39) -/

/-- A message with its CRC-32C that has room joins the inbound FIFO (R122). -/
theorem Hub.localMessage_kept {h : Hub} {msg : List Byte} (hf : msg.length + 4 ≤ h.localFree) :
    h.localMessage msg (leBytes 4 (crc32c msg)) = { h with fifoIn := h.fifoIn ++ [msg] } := by
  simp [Hub.localMessage, hf]

/-- A write of one whole message is that message alone, cut where its header says (R122). -/
theorem Hub.localWrite_one (fuel : Nat) {msg : List Byte} (crc : List Byte) (h : Hub) (hl : msg.length = 8 + leAt msg 6 2) (hc : crc.length = 4) :
    Hub.localWrite (fuel + 2) (msg ++ crc) h = h.localMessage msg crc := by
  have hcut : 8 + leAt (msg ++ crc) 6 2 = msg.length := by rw [leAt_append crc (by omega), hl]
  have hne : (msg ++ crc).isEmpty = false := by
    rw [List.isEmpty_eq_false_iff, ← List.length_pos_iff, List.length_append]
    omega
  have hend : (msg ++ crc).drop (msg.length + 4) = [] := List.drop_eq_nil_of_le (Nat.le_of_eq (by rw [List.length_append, hc]))
  rw [Hub.localWrite, if_neg (by simp [hne])]
  simp only [hcut, hend, List.take_left, List.drop_left, List.take_of_length_le (Nat.le_of_eq hc)]
  rfl

/-- A read of an empty outbound FIFO gives zeros (R122). -/
theorem Hub.localRead_empty {h : Hub} (fuel count : Nat) (hf : fittingOut 32768 (h.ctx 4).out = []) :
    Hub.localRead (fuel + 1) count h = { h with spiOut := h.spiOut ++ List.replicate count 0 } := by
  simp only [Hub.localRead, hf]

/-- A read that ends within the first message of the outbound FIFO leaves that message there, read so far (R122). -/
theorem Hub.localRead_within {h : Hub} (fuel : Nat) {count : Nat} {m : OutMsg} {rest : List OutMsg} (hf : fittingOut 32768 (h.ctx 4).out = m :: rest)
    (hc : count < ((fifoBytes m).drop (h.ctx 4).readPos).length) :
    Hub.localRead (fuel + 1) count h =
      { h.modCtx 4 (fun c => { c with readPos := c.readPos + count }) with
        spiOut := h.spiOut ++ ((fifoBytes m).drop (h.ctx 4).readPos).take count } := by
  simp only [Hub.localRead, hf, if_pos hc]

/-- Settles O39, a command a line; a write comes down to the one message it holds (`Hub.localWrite_one`). -/
theorem localPortMovesMessagesByBytes : Obligations.LocalPortMovesMessagesByBytes := by
  intro q h hm
  refine ⟨fun msg ho hl hf => ?_, fun data ho => show execLocalWriteInboundFifo data _ = _ from act_eq hm (by simp [ho]),
    fun count hf => show execLocalReadOutboundFifo count _ = _ from act_eq hm (Hub.localRead_empty _ _ hf),
    fun count m rest hf hc => show execLocalReadOutboundFifo count _ = _ from act_eq hm (Hub.localRead_within _ hf hc),
    fun ho => show execLocalReadStatus _ = _ from act_eq hm (by simp [ho]),
    fun ho hw => show execLocalReadStatus _ = _ from act_eq hm (by simp [ho, hw, leBytes])⟩
  have hfuel : (msg ++ leBytes 4 (crc32c msg)).length = msg.length + 2 + 2 := by simp
  refine act_eq (f := fun h => if h.localOpen then (Hub.localWrite _ _ h).wakeBy 6 else h) hm ?_
  rw [if_pos ho, hfuel, Hub.localWrite_one _ _ _ hl (length_leBytes ..), Hub.localMessage_kept hf]

end Sys2Proof.Machine
end

section
/-! SUPPORT and the obligations O41, O42 and O43. A command of a landing's link where its occasion stands, and the windows of demand. -/

namespace Sys2Proof.Machine

/-! ### Commands of a landing's link -/

section
variable {h g : Hub} {q : List Instr} {f : Hub → Hub} {l : Nat}

/-- A command of a landing's link, by its effect; what follows any of them comes after it. -/
theorem onLink_eq {p : Prop} [Decidable p] (hp : p) (hf : f h = g) : onLink (decide p) l ⟨h, q⟩ f = .next ⟨g.linkSettled l, q⟩ :=
  actAnyIf_eq (decide_eq_true hp) (congrArg (fun g : Hub => g.linkSettled l) hf)

/-- A host frame of another length than its type's is counted as bad and is not taken (R171, R172). -/
theorem Hub.hostFrame_bad {good : Bool} (hw : InReplyWindow h l) (hg : good = false) : h.hostFrame l good f = h.notify (nLanding l 20) 1 := by
  rw [Hub.hostFrame_in hw, hg]
  rfl

end

/-! ### Bring-up and training (O41) -/

/-- Settles O41, a command a line: where its occasion stands and the effect it has there. -/
theorem landingsAreFoundAgreedAndTrained : Obligations.LandingsAreFoundAgreedAndTrained := by
  intro q h
  refine ⟨fun l hl => show execSidebandPoll l _ = _ from onLink_eq hl rfl,
    fun l hl hm h0 h11 => show execSidebandUnplug l _ = _ from onLink_eq hl (if_pos (by simp [hm, h0, h11])),
    fun l hl ha => show execPong l _ = _ from onLink_eq hl (Hub.hostFrame_out (fun ⟨_, hopen, _⟩ => by simp [hopen] at ha) ..),
    fun l hl _ ht => show execPong l _ = _ from onLink_eq hl (Hub.hostFrame_out (fun ⟨_, _, hin⟩ => Nat.not_le.mpr ht hin) ..),
    fun l hl hw hs => show execPong l _ = _ from onLink_eq hl (Hub.hostFrame_eq hw rfl (if_pos (by simpa using hs))),
    fun l hl hw hs hp => show execPong l _ = _ from
      onLink_eq hl (Hub.hostFrame_eq hw rfl ((if_neg (by simp [hs])).trans (if_pos hp))),
    fun l hl hw hs hp => show execPong l _ = _ from
      onLink_eq hl (Hub.hostFrame_eq hw rfl ((if_neg (by simp [hs])).trans (if_neg (Nat.not_lt.mpr hp)))),
    fun l hl => show execSidebandBadFrame l _ = _ from onLink_eq hl rfl,
    fun l body hl hw hb => show execLinkHello l body _ = _ from onLink_eq hl (Hub.hostFrame_bad hw (by simp [hb])),
    fun l body hl hw hb hs => show execLinkHello l body _ = _ from
      onLink_eq hl (Hub.hostFrame_eq hw (by simp [hb]) (if_pos (by simpa using hs))),
    fun l d hl hs hd ht => show execLinkHelloTimeout l _ = _ from
      onLink_eq hl ((if_pos (by simp [hs])).trans (Hub.expire_eq hd (if_pos ht))),
    fun l d hl hs hd ht => show execLinkHelloTimeout l _ = _ from
      onLink_eq hl ((if_pos (by simp [hs])).trans (Hub.expire_eq hd (if_neg (Nat.not_lt.mpr ht)))),
    fun l body hl hw hb => show execLinkSelectEcho l body _ = _ from onLink_eq hl (Hub.hostFrame_bad hw (by simp [hb])),
    fun l body hl hw hb hs => show execLinkSelectEcho l body _ = _ from
      onLink_eq hl (Hub.hostFrame_eq hw (by simp [hb]) (if_pos (by simp [hs]))),
    fun l hl hw hs => show execSidebandWake l _ = _ from onLink_eq hl (Hub.hostFrame_eq hw rfl (if_pos (by simp [hs]))),
    fun l d hl hs hr hd => show execTrainingStart l _ = _ from
      onLink_eq hl ((if_pos (by simp [hs, hr])).trans (Hub.expire_eq hd rfl)),
    fun l allotted reversed eyes hl hs hms => show execTrainingComplete l allotted reversed eyes _ = _ from
      onLink_eq hl (if_pos (by simpa [hs] using hms)),
    fun l d hl hs hd => show execTrainingRetryTimer l _ = _ from
      onLink_eq hl ((if_pos (by simp [hs])).trans (Hub.expire_eq hd rfl)),
    fun l hl hs => show execAlignComplete l _ = _ from onLink_eq hl (if_pos (by simp [hs])),
    fun l d hl hs hd => show execAlignTimeout l _ = _ from
      onLink_eq hl ((if_pos (by simp [hs])).trans (Hub.expire_eq hd rfl)),
    fun l results hl hs ⟨m1, hm1, hd1⟩ ⟨m2, hm2, hd2⟩ => show execRetrainComplete l results _ = _ from
      onLink_eq hl ((if_neg (by simp [hs])).trans (if_pos ?bothPass)),
    fun l results hl hs hnone => show execRetrainComplete l results _ = _ from
      onLink_eq hl ((if_neg (by simp [hs])).trans (if_neg ?onePasses))⟩
  case bothPass =>
    rw [Bool.and_eq_true, List.any_eq_true, List.any_eq_true]
    exact ⟨⟨m1, hm1, beq_iff_eq.mpr hd1⟩, m2, hm2, beq_iff_eq.mpr hd2⟩
  case onePasses =>
    rw [Bool.and_eq_true, List.any_eq_true, List.any_eq_true]
    rintro ⟨⟨m1, hm1, hd1⟩, m2, hm2, hd2⟩
    rcases hnone with hnone | hnone
    · exact hnone m1 hm1 (beq_iff_eq.mp hd1)
    · exact hnone m2 hm2 (beq_iff_eq.mp hd2)

/-! ### Demand windows (R193) -/

/-- The direction a demand window finds short of pairs: 1 host→dock, 2 dock→host, 0 neither (R193, R201). -/
def shortDir (k : Link) (state load : Nat) : Nat :=
  if state == 9 then 0
  else if decide (170 * k.demandCount < k.demandSum) && decide (load < 60) then 1
  else if decide (170 < load) && (decide (k.demandSum < 60 * k.demandCount) || k.demandCount == 0) then 2
  else 0

/-- The windows in a row that have found one direction short, a window that found dir among them. -/
def shortWindows (k : Link) (dir : Nat) : Nat := if dir == 0 then 0 else if dir == k.lopsidedDir then k.lopsided + 1 else 1

/-- A window that finds no lopsided demand. -/
theorem shortDir_none {k : Link} {load : Nat} (state : Nat) (hin : ¬ (170 * k.demandCount < k.demandSum ∧ load < 60))
    (hout : ¬ (170 < load ∧ (k.demandSum < 60 * k.demandCount ∨ k.demandCount = 0))) : shortDir k state load = 0 := by
  simp [shortDir, hin, hout]

/-- A window outside HOLD that finds the host busy and the device calm. -/
theorem shortDir_in {k : Link} {state load : Nat} (hs : state ≠ 9) (hin : 170 * k.demandCount < k.demandSum) (hload : load < 60) :
    shortDir k state load = 1 := by
  simp [shortDir, hs, hin, hload]

/-- A window before the fiftieth lopsided one in a row is counted, and begins the next (R193). -/
theorem execDemandWindow_counts {h g : Hub} (q : List Instr) {l load d dir n : Nat} (hl : l < 4) (hd : h.due T.demand l = some d)
    (hg : (h.expiredAt T.demand l d).arm T.demand l msec = g) (hdir : shortDir (g.link l) (g.lState l) load = dir)
    (hn : shortWindows (g.link l) dir = n) (h50 : n < 50) :
    execDemandWindow l load ⟨h, q⟩ = .next ⟨(g.modLink l (fun k =>
      { k with loadOut := load, demandSum := 0, demandCount := 0, lopsided := n, lopsidedDir := dir })).linkSettled l, q⟩ := by
  subst hg hdir hn
  refine onLink_eq hl (Hub.expire_eq hd (if_neg ?_))
  show ¬ (decide (50 ≤ shortWindows _ (shortDir _ _ load)) && _ && _ && _ && _ && _ && _) = true
  rw [decide_eq_false (Nat.not_le.mpr h50)]
  simp only [Bool.false_and, Bool.false_eq_true, not_false_eq_true]

/-! ### What a running link does by itself (O42) -/

/-- Settles O42, a command a line, as O41; a demand window comes down to `execDemandWindow_counts`, and the timeouts of AUTH act on a running main die. -/
theorem linkTimersAct : Obligations.LinkTimersAct := by
  intro q h
  refine ⟨fun hm => ⟨fun l d hl hd hs => show execAuthTimeout (.ldl l) _ = _ from
        actIf_eq hl hm (by rw [Hub.authTimeout]; exact Hub.expire_eq hd (if_pos (by simp [hs]))),
      fun l d hl hd => show execAuthTimeout (.legacy l) _ = _ from
        actIf_eq hl hm (by rw [Hub.authTimeout]; exact Hub.expire_eq hd rfl),
      fun d hc hd => show execAuthTimeout .mgmt _ = _ from
        actIf_eq hc hm (by rw [Hub.authTimeout]; exact Hub.expire_eq hd rfl)⟩,
    fun l hl hf hr ha => show execAckTimer l _ = _ from onLink_eq hl (by simp [hf, hr, ha]),
    fun l d hl hf hr ha hd => show execAckTimer l _ = _ from onLink_eq hl (by simp [hf, hr, ha, Hub.expire_eq hd]),
    fun l d hl hf hr hd => show execNakTimer l _ = _ from onLink_eq hl ((if_pos (by simp [hf, hr])).trans (Hub.expire_eq hd rfl)),
    fun l d f rest hl hf hu hd => show execReplayTimer l _ = _ from onLink_eq hl ((if_pos hf).trans (by simp only [hu, Hub.expire_eq hd])),
    fun l d hl hd => show execSealGroupTimer l _ = _ from onLink_eq hl (Hub.expire_eq hd rfl),
    fun l hl hf => show execFlitTransmit l _ = _ from onLink_eq hl (if_pos hf),
    fun l hl hs hw ht => show execFlitTransmit l _ = _ from onLink_eq hl (by simp [Hub.flitsRun, hs, hw, ht]),
    fun l hl hs ht => show execFlitTransmit l _ = _ from onLink_eq hl (by simp [Hub.flitsRun, hs, ht]),
    fun l hl hf hk => show execRekeyFlitLimit l _ = _ from onLink_eq hl ((if_neg (by simp [hf])).trans (if_pos (by simpa using hk))),
    fun l cls d hl hc hd => show execCreditStallTimer l cls _ = _ from onLink_eq ⟨hl, hc⟩ (Hub.expire_eq hd rfl),
    fun l slot hl hs => show execCeilingWindow l slot _ = _ from onLink_eq ⟨hl, hs⟩ rfl,
    fun l d hl hs hfe hon hb hq hsw hwa hi hd => show execLidleEntryTimer l _ = _ from
      onLink_eq hl ((if_pos (by simp [hs, hfe, hon, hb, hq, hsw, hwa, hi])).trans (Hub.expire_eq hd rfl)),
    fun l hl hs => show execLidleExit l _ = _ from onLink_eq hl (if_neg (by simp [hs])),
    fun l load d hl hd hin hout => show execDemandWindow l load _ = _ from
      execDemandWindow_counts q hl hd rfl (shortDir_none _ hin hout) rfl (by decide),
    fun l load d hl hd hs hin hload hdir hn => show execDemandWindow l load _ = _ from
      execDemandWindow_counts q hl hd rfl (shortDir_in hs hin hload) (by simp [shortWindows, hdir]) (Nat.succ_lt_succ hn)⟩

/-! ### Pair swaps, failures and rejoins (O43) -/

/-- Settles O43, a command a line, as O41; a quiet point comes on a running main die. -/
theorem pairsSwapFailAndRejoin : Obligations.PairsSwapFailAndRejoin := by
  intro q h
  refine ⟨fun hm l hl hs hr hq hi => show execQuietPoint l _ = _ from actIf_eq (decide_eq_true hl) hm ?quiet,
    fun l w hl hw hd hp => show execSwapEosReceived l _ = _ from onLink_eq hl (by simp [hw, hd, hp]),
    fun l w hl hw hd hp => show execSwapPairLocked l _ = _ from onLink_eq hl (by simp [hw, hd, hp]),
    fun l m rest hl hw hr hk => show execSwapPairLocked l _ = _ from onLink_eq hl (by simp [hw, hr, hk]),
    fun l w d hl hw hp hd => show execSwapAckTimeout l _ = _ from
      onLink_eq hl (by simp only [hw]; exact (if_pos (by simp [hp])).trans (Hub.expire_eq hd rfl)),
    fun l w d hl hw hd => show execSwapLockTimeout l true _ = _ from onLink_eq hl (by simp only [hw]; exact Hub.expire_eq hd (if_pos trivial)),
    fun l w d hl hw hd => show execSwapLockTimeout l false _ = _ from
      onLink_eq hl (by simp only [hw]; exact Hub.expire_eq hd (if_neg Bool.false_ne_true)),
    fun l d hl hs hd => show execAllotRetryTimer l _ = _ from onLink_eq hl ((if_pos (by simp [hs])).trans (Hub.expire_eq hd rfl)),
    fun l pair cause hl hp hf hc ha => show execPairFailure l pair cause _ = _ from
      onLink_eq ⟨hl, hp⟩ (if_pos (by rw [hf, ha]; simpa using hc)),
    fun pair d hp hs ht hd => show execSoloRetrainTimer pair _ = _ from
      onLink_eq hp ((if_pos (by simp [hs, ht])).trans (Hub.expire_eq hd rfl)),
    fun pair results hp hpass hr => show execSoloRetrainDone pair results _ = _ from
      onLink_eq hp ((if_neg (by simp [hr])).trans (if_pos hpass)),
    fun pair results hp hpass hr hf => show execSoloRetrainDone pair results _ = _ from
      onLink_eq hp ((if_neg (by simp [hr])).trans ((if_neg (by simp [hpass])).trans ((if_neg (by simpa using hf)).trans ?again)))⟩
  case quiet =>
    rw [Hub.quietPoint, if_neg (by simp [hs, hr])]
    dsimp only
    rw [if_neg (by rw [hq, hi]; decide)]
  case again => simp only [beq_iff_eq]

end Sys2Proof.Machine
end

section
/-! SUPPORT and the obligations O35 and O36. What an arriving flit is by its header, and what the landing does with it. -/

namespace Sys2Proof.Machine

/-! ### A landing's link -/

/-- A change of a link is what it makes of the link as it stands. -/
theorem Hub.modLink_congr {h : Hub} {l : Nat} {f f' : Link → Link} (hf : f (h.link l) = f' (h.link l)) : h.modLink l f = h.modLink l f' := by
  rw [Hub.modLink, Hub.modLink, hf]

/-- A link that has heard a flit since its last ACK is read back as it was written. -/
theorem Hub.link_modLink {h : Hub} {l : Nat} {f : Link → Link} (hf : (f (h.link l)).sinceAck ≠ 0) : (h.modLink l f).link l = f (h.link l) := by
  have hne : f (h.link l) ≠ {} := fun he => hf (congrArg Link.sinceAck he)
  rw [Hub.link, Hub.modLink, Table.write, if_neg hne, Table.read, lookupCell_putCell_some]
  rfl

/-! ### Flit commands -/

/-- The header bit of a control flit (R184). -/
theorem ControlOf.isControl {t : Nat} {flit : List Byte} (hc : ControlOf t flit) : 2 ^ 31 ≤ leAt flit 0 4 := hc.1

/-- The CTYPE of a control flit (R184). -/
theorem ControlOf.ctype_eq {t : Nat} {flit : List Byte} (hc : ControlOf t flit) : ctypeOf flit = t := hc.2.1

section
variable {h g : Hub} {q : List Instr} {l pair fec : Nat} {flit : List Byte}

/-- The command of a data flit has the effect of the flit's arrival. -/
theorem rxCommand_data (hl : l < 4 ∧ pair < 4) (hd : leAt flit 0 4 < 2 ^ 31) (hg : h.rxFlit l pair fec flit = g) :
    rxCommand none l pair fec flit ⟨h, q⟩ = .next ⟨g.linkSettled l, q⟩ :=
  onLink_eq hl ((if_pos (decide_eq_true hd)).trans hg)

/-- The command of a type of control flit has the effect of the arrival of a flit of that type. -/
theorem rxCommand_control {t : Nat} (hl : l < 4 ∧ pair < 4) (hc : ControlOf t flit) (hg : h.rxFlit l pair fec flit = g) :
    rxCommand (some [t]) l pair fec flit ⟨h, q⟩ = .next ⟨g.linkSettled l, q⟩ := by
  have ht := hc.ctype_eq
  rw [ctypeOf] at ht
  exact onLink_eq hl ((if_pos (by simp only [ht]; simp [-Nat.reducePow, hc.isControl])).trans hg)

/-- The command of a type of AUTH message on the pairs has the effect of the arrival of an AUTH flit of that type. -/
theorem authCommand_flit {t : Nat} (hl : l < 4 ∧ pair < 4) (hc : ControlOf 0x10 flit) (ht : byteAt flit 4 = t) (hg : h.rxFlit l pair fec flit = g) :
    authCommand t (.ldl l) pair fec flit ⟨h, q⟩ = .next ⟨g.linkSettled l, q⟩ := by
  have hctype := hc.ctype_eq
  rw [ctypeOf] at hctype
  exact onLink_eq hl ((if_pos (by simp only [hctype]; simp [-Nat.reducePow, hc.isControl, ht])).trans hg)

/-- The command of a control flit of no type the host may send has the effect of its arrival. -/
theorem execReservedControlFlit_eq (hl : l < 4 ∧ pair < 4) (hctl : 2 ^ 31 ≤ leAt flit 0 4) (hc : 0x14 < ctypeOf flit ∨ ctlFromHost (ctypeOf flit) = false)
    (hg : h.rxFlit l pair fec flit = g) : execReservedControlFlit l pair fec flit ⟨h, q⟩ = .next ⟨g.linkSettled l, q⟩ := by
  rw [ctypeOf] at hc
  exact onLink_eq hl ((if_pos (by rcases hc with hc | hc <;> simp [-Nat.reducePow, hctl, hc])).trans hg)

/-! ### Flits by their header (R183 to R188) -/

/-- A codeword beyond correction is noted for the pair, and the flit asked for again (R188, R196). -/
theorem Hub.rxFlit_uncorrectable (hrun : h.flitsRun l = true) (hon : h.hearsOn l pair = true) (hfec : 15 < fec) :
    h.rxFlit l pair fec flit = ((h.add F.PAIR.FEC_UNCORRECTABLE (4 * l + pair) 1).modLink l (fun k => { k with
      badCodes := k.badCodes.write (fun _ => []) pair ((k.badCodes.read (fun _ => []) pair).filter (fun t => h.now < t + msec) ++ [h.now]) })).wantNak l := by
  simp [-Nat.reducePow, Hub.rxFlit, hrun, hon, hfec]

/-- A flit with a wrong CRC is counted and asked for again (R188). -/
theorem Hub.rxFlit_badCrc (hrun : h.flitsRun l = true) (hon : h.hearsOn l pair = true) (hfec : fec ≤ 15) (hcrc : leAt flit 132 4 ≠ crc32c (flit.take 132)) :
    h.rxFlit l pair fec flit = ((h.add F.PAIR.FEC_CORRECTED (4 * l + pair) fec).add F.PAIR.CRC_ERRORS (4 * l + pair) 1).wantNak l := by
  simp [-Nat.reducePow, Hub.rxFlit, hrun, hon, Nat.not_lt.mpr hfec, hcrc]

/-- An intact data flit comes to its place in the sequence (R186). -/
theorem Hub.rxFlit_data (hi : Intact h l pair fec flit) (hd : leAt flit 0 4 < 2 ^ 31) (h12 : bitB (leAt flit 0 4) 12 = false) :
    h.rxFlit l pair fec flit = (h.add F.PAIR.FEC_CORRECTED (4 * l + pair) fec).sequenced l flit := by
  obtain ⟨hrun, hon, hfec, hlen, hcrc⟩ := hi
  simp [-Nat.reducePow, Hub.rxFlit, hrun, hon, Nat.not_lt.mpr hfec, hlen, hcrc, hd, h12]

/-- An intact control flit of a reserved type is a protocol error (R185). -/
theorem Hub.rxFlit_reserved (hi : Intact h l pair fec flit) (hctl : 2 ^ 31 ≤ leAt flit 0 4) (ht : 0x14 < ctypeOf flit) :
    h.rxFlit l pair fec flit = (h.add F.PAIR.FEC_CORRECTED (4 * l + pair) fec).protocolError l (ctypeOf flit) 1 := by
  obtain ⟨hrun, hon, hfec, hlen, hcrc⟩ := hi
  rw [ctypeOf] at ht
  simp [-Nat.reducePow, Hub.rxFlit, hrun, hon, Nat.not_lt.mpr hfec, hlen, hcrc, Nat.not_lt.mpr hctl, ht, ctypeOf]

/-- An intact control flit of a type that only the device sends is a protocol error (R185). -/
theorem Hub.rxFlit_notFromHost (hi : Intact h l pair fec flit) (hctl : 2 ^ 31 ≤ leAt flit 0 4) (ht : ctypeOf flit ≤ 0x14)
    (hh : ctlFromHost (ctypeOf flit) = false) :
    h.rxFlit l pair fec flit = (h.add F.PAIR.FEC_CORRECTED (4 * l + pair) fec).protocolError l (ctypeOf flit) 2 := by
  obtain ⟨hrun, hon, hfec, hlen, hcrc⟩ := hi
  rw [ctypeOf] at ht hh
  simp [-Nat.reducePow, Hub.rxFlit, hrun, hon, Nat.not_lt.mpr hfec, hlen, hcrc, Nat.not_lt.mpr hctl, Nat.not_lt.mpr ht, hh, ctypeOf]

/-- What an intact control flit of the host does by its type: IDLE, ACK and RESYNC at once, the others at their place in the sequence (R185 to R189). -/
theorem Hub.rxFlit_control {t : Nat} (hi : Intact h l pair fec flit) (hc : ControlOf t flit) (ht : t ≤ 0x14) (hh : ctlFromHost t = true) :
    h.rxFlit l pair fec flit =
      if t = 0 then h.add F.PAIR.FEC_CORRECTED (4 * l + pair) fec
      else if t = 1 then (h.add F.PAIR.FEC_CORRECTED (4 * l + pair) fec).takeAck l ((flit.drop 4).take 128)
      else if t = 0x14 then (h.add F.PAIR.FEC_CORRECTED (4 * l + pair) fec).takeResync l (leAt flit 4 4)
      else (h.add F.PAIR.FEC_CORRECTED (4 * l + pair) fec).sequenced l flit := by
  obtain ⟨hrun, hon, hfec, hlen, hcrc⟩ := hi
  obtain ⟨hctl, htype, h15, hres, h14, h12⟩ := hc
  rw [ctypeOf] at htype
  simp [-Nat.reducePow, Hub.rxFlit, hrun, hon, Nat.not_lt.mpr hfec, hlen, hcrc, Nat.not_lt.mpr hctl, htype, Nat.not_lt.mpr ht, hh, h15, hres, h14, h12]

end

/-! ### Flits at their place in the sequence (R186, R188, R204) -/

section
variable {h g : Hub} {l pair fec : Nat} {flit : List Byte}

/-- A flit joins the open inbound seal group at a sequence number (R204). -/
def Hub.joined (h : Hub) (l seq : Nat) (flit : List Byte) : Hub := h.modLink l (fun k => { k with groupIn := k.groupIn ++ [(seq, flit)] })

/-- A data flit is counted as taken of its class (R189). -/
def Hub.taken (h : Hub) (l cls : Nat) : Hub :=
  h.modLink l (fun k => { k with taken := k.taken.write (fun _ => 0) cls ((k.taken.read (fun _ => 0) cls + 1) % 2 ^ 32) })

/-- A link has accepted a flit after sequence number n, and not acknowledged it yet. -/
def Accepted (n : Nat) (k : Link) : Prop := k.rxSeq = (n + 1) % 2 ^ 32 ∧ k.sinceAck ≠ 0

/-- A change that leaves the expected sequence and the count of flits to acknowledge leaves the link as having accepted its flit. -/
theorem accepted_modLink {n : Nat} {f : Link → Link} (ha : Accepted n (h.link l)) (hrx : (f (h.link l)).rxSeq = (h.link l).rxSeq)
    (hs : (f (h.link l)).sinceAck = (h.link l).sinceAck) : Accepted n ((h.modLink l f).link l) := by
  obtain ⟨hseq, hack⟩ := ha
  rw [Hub.link_modLink (by rwa [hs])]
  exact ⟨hrx.trans hseq, by rwa [hs]⟩

/-- An accepted flit moves the expected sequence on by one. -/
theorem Hub.received_accepted (h : Hub) (l pair fec : Nat) (flit : List Byte) : Accepted (h.link l).rxSeq ((h.received l pair fec flit).link l) := by
  unfold Hub.received
  extract_lets g g1 g2 g3 g4
  have hg4 : Accepted (h.link l).rxSeq (g4.link l) := by
    show Accepted (h.link l).rxSeq (g1.link l)
    rw [Hub.link_modLink (Nat.succ_ne_zero _)]
    exact ⟨rfl, Nat.succ_ne_zero _⟩
  split
  · exact accepted_modLink hg4 rfl rfl
  · exact hg4

/-- The sequence number before the expected one of a link that has accepted a flit is that flit's. -/
theorem seq_of_accepted {n : Nat} {k : Link} (ha : Accepted n k) : (k.rxSeq + 2 ^ 32 - 1) % 2 ^ 32 = n % 2 ^ 32 := by
  rw [ha.1]
  omega

/-- What an accepted flit does to the hub that has received it: on a link not sealed a control flit other than a TAG takes effect; on a sealed one a
TAG closes the open group, and any other flit joins it. -/
def Hub.acceptedFlit (r : Hub) (sealIn : Bool) (l n : Nat) (flit : List Byte) : Hub :=
  if sealIn = false then
    if leAt flit 0 4 < 2 ^ 31 then r.protocolError l 0xFF 3
    else if ctypeOf flit = 2 then r.protocolError l 2 3
    else r.takeControlFlit l (ctypeOf flit) ((flit.drop 4).take 128)
  else if 2 ^ 31 ≤ leAt flit 0 4 ∧ ctypeOf flit = 2 then r.takeTag l ((flit.drop 4).take 128)
  else r.joined l (n % 2 ^ 32) flit

/-- A flit at its place is received, a data flit within its credits counted as taken of its class, and has its effect. -/
theorem Hub.acceptFlit_eq (hcredit : ¬ (leAt flit 0 4 < 2 ^ 31 ∧
      ((h.add F.PAIR.FEC_CORRECTED (4 * l + pair) fec).link l).granted.read (fun _ => 0) (bits (leAt flit 0 4) 28 3) ≤
        (h.add F.PAIR.FEC_CORRECTED (4 * l + pair) fec).heldFlits l (bits (leAt flit 0 4) 28 3))) :
    (h.add F.PAIR.FEC_CORRECTED (4 * l + pair) fec).acceptFlit l flit =
      some ((if leAt flit 0 4 < 2 ^ 31 then (h.received l pair fec flit).taken l (bits (leAt flit 0 4) 28 3) else h.received l pair fec flit).acceptedFlit
        (h.link l).sealIn l (h.link l).rxSeq flit) := by
  unfold Hub.acceptFlit
  extract_lets k hd data cls ctype x declined h1 h2
  rw [if_neg (by simpa [data, k, cls, hd] using hcredit)]
  have h1eq : h1 = h.received l pair fec flit :=
    ite_congr (propext (by simp [declined, data, ctype, ctypeOf, hd])) (fun _ => rfl) (fun _ => rfl)
  have h2eq : h2 = if leAt flit 0 4 < 2 ^ 31 then (h.received l pair fec flit).taken l (bits (leAt flit 0 4) 28 3) else h.received l pair fec flit :=
    h1eq ▸ rfl
  rw [← h2eq]
  have hacc : Accepted (h.link l).rxSeq (h2.link l) := by
    rw [h2eq]
    split
    · exact accepted_modLink (h.received_accepted l pair fec flit) rfl rfl
    · exact h.received_accepted l pair fec flit
  have hjoin : (h2.modLink l fun k => { k with groupIn := k.groupIn ++ [(k.rxSeq + 2 ^ 32 - 1, flit)].map (fun x => (x.1 % 2 ^ 32, x.2)) }) =
      h2.joined l ((h.link l).rxSeq % 2 ^ 32) flit :=
    Hub.modLink_congr (by simp only [List.map_cons, List.map_nil, seq_of_accepted hacc])
  rw [hjoin]
  show (if (!(h.link l).sealIn) = true then some (if leAt flit 0 4 < 2 ^ 31 then _ else if (ctypeOf flit == 2) = true then _ else _)
    else if (!decide (leAt flit 0 4 < 2 ^ 31) && ctypeOf flit == 2) = true then some _ else some _) = some (Hub.acceptedFlit ..)
  cases hs : (h.link l).sealIn
  · simp only [Hub.acceptedFlit, beq_iff_eq, Bool.not_false, if_true]
    rfl
  · simp [Hub.acceptedFlit, apply_ite some]

end

section
variable {h g : Hub} {l pair fec : Nat} {flit : List Byte}

/-- A flit at its place that is accepted is followed by those that waited for it (R186, R188). -/
theorem Hub.sequenced_inOrder (ho : InOrder h l flit) (ha : h.acceptFlit l flit = some g) : h.sequenced l flit = g.followed l := by
  obtain ⟨hresync, hseq⟩ := ho
  have hat : (leAt flit 0 4 % 4096 + 4096 - (h.link l).rxSeq % 4096) % 4096 = 0 := by omega
  simp [Hub.sequenced, hresync, hat, ha, Hub.followed]

/-- How far a flit lies ahead of the expected one. -/
def Hub.aheadBy (h : Hub) (l : Nat) (flit : List Byte) : Nat := (leAt flit 0 4 % 4096 + 4096 - (h.link l).rxSeq % 4096) % 4096

/-- A flit 256 or more ahead changes nothing (R188). -/
theorem Hub.sequenced_far (hr : (h.link l).resync = false) (ha : 256 ≤ h.aheadBy l flit) : h.sequenced l flit = h := by
  rw [Hub.aheadBy] at ha
  simp [Hub.sequenced, hr, Nat.not_lt.mpr ha, show ¬ (leAt flit 0 4 % 4096 + 4096 - (h.link l).rxSeq % 4096) % 4096 = 0 by omega]

/-- A flit ahead that already waits changes nothing (R188). -/
theorem Hub.sequenced_waiting (hr : (h.link l).resync = false) (h0 : 0 < h.aheadBy l flit) (ha : h.aheadBy l flit < 256)
    (hw : ∃ f, (leAt flit 0 4 % 4096, f) ∈ (h.link l).reorder) : h.sequenced l flit = h := by
  rw [Hub.aheadBy] at h0 ha
  simp [Hub.sequenced, hr, ha, Nat.ne_of_gt h0, hw]

/-- A flit ahead that does not wait yet is kept, to be asked for again after 2 µs, while fewer than 255 wait (R188). -/
theorem Hub.sequenced_kept (hr : (h.link l).resync = false) (h0 : 0 < h.aheadBy l flit) (ha : h.aheadBy l flit < 256)
    (hw : ∀ f, (leAt flit 0 4 % 4096, f) ∉ (h.link l).reorder) (hroom : (h.link l).reorder.length < 254) :
    h.sequenced l flit = (h.modLink l (fun k => { k with reorder := k.reorder ++ [(leAt flit 0 4 % 4096, flit)] })).armOnce T.nak l 2000 := by
  rw [Hub.aheadBy] at h0 ha
  simp [Hub.sequenced, hr, ha, Nat.ne_of_gt h0, hw, Nat.not_le.mpr hroom]

/-- An intact control flit of a sequenced type at its place is received and has its effect, and those that waited follow (R186). -/
theorem Hub.rxFlit_sequenced {t : Nat} (hi : Intact h l pair fec flit) (hc : ControlOf t flit) (ho : InOrder h l flit) (hh : ctlFromHost t = true)
    (hs : ctlSequenced t = true) :
    h.rxFlit l pair fec flit = ((h.received l pair fec flit).acceptedFlit (h.link l).sealIn l (h.link l).rxSeq flit).followed l := by
  have ht : t ≤ 0x14 := by simp [ctlFromHost] at hh; omega
  obtain ⟨⟨h0, h1⟩, h14⟩ : (t ≠ 0 ∧ t ≠ 1) ∧ t ≠ 0x14 := by simpa [ctlSequenced] using hs
  have hctl := Nat.not_lt.mpr hc.isControl
  rw [Hub.rxFlit_control hi hc ht hh, if_neg h0, if_neg h1, if_neg h14]
  exact Hub.sequenced_inOrder ho ((Hub.acceptFlit_eq (fun hx => hctl hx.1)).trans (by rw [if_neg hctl]))

/-- An intact data flit at its place and within its credits is received and counted as taken of its class, and those that waited follow (R186, R189). -/
theorem Hub.rxFlit_dataInOrder (hi : Intact h l pair fec flit) (hd : leAt flit 0 4 < 2 ^ 31) (h12 : bitB (leAt flit 0 4) 12 = false) (ho : InOrder h l flit)
    (hcredit : (h.add F.PAIR.FEC_CORRECTED (4 * l + pair) fec).heldFlits l (bits (leAt flit 0 4) 28 3) <
      ((h.add F.PAIR.FEC_CORRECTED (4 * l + pair) fec).link l).granted.read (fun _ => 0) (bits (leAt flit 0 4) 28 3)) :
    h.rxFlit l pair fec flit = (((h.received l pair fec flit).taken l (bits (leAt flit 0 4) 28 3)).acceptedFlit (h.link l).sealIn l (h.link l).rxSeq
      flit).followed l := by
  rw [Hub.rxFlit_data hi hd h12]
  exact Hub.sequenced_inOrder ho ((Hub.acceptFlit_eq (fun hx => Nat.not_le.mpr hcredit hx.2)).trans (by rw [if_pos hd]))

/-- On a link not sealed a control flit other than a TAG takes effect. -/
theorem Hub.acceptedFlit_open {t : Nat} (r : Hub) (l n : Nat) (hc : ControlOf t flit) (ht : t ≠ 2) :
    r.acceptedFlit false l n flit = r.takeControlFlit l t ((flit.drop 4).take 128) := by
  rw [Hub.acceptedFlit, if_pos rfl, if_neg (Nat.not_lt.mpr hc.isControl), hc.ctype_eq, if_neg ht]

/-- On a sealed link a flit other than a TAG joins the open group (R204). -/
theorem Hub.acceptedFlit_sealed (r : Hub) (l n : Nat) (ht : leAt flit 0 4 < 2 ^ 31 ∨ ctypeOf flit ≠ 2) :
    r.acceptedFlit true l n flit = r.joined l (n % 2 ^ 32) flit := by
  rw [Hub.acceptedFlit, if_neg (by decide), if_neg]
  rintro ⟨hctl, h2⟩
  rcases ht with hd | ht
  · exact Nat.not_lt.mpr hctl hd
  · exact ht h2

/-- On a sealed link a TAG closes the open group (R204). -/
theorem Hub.acceptedFlit_tag (r : Hub) (l n : Nat) (hc : ControlOf 2 flit) : r.acceptedFlit true l n flit = r.takeTag l ((flit.drop 4).take 128) := by
  rw [Hub.acceptedFlit, if_neg (by decide), if_pos ⟨hc.isControl, hc.ctype_eq⟩]

end

/-! ### What an authentic flit delivers (R185, R203, R204) -/

/-- A message whole in one segment is acted on (R202). -/
theorem Hub.authSegment_whole (h : Hub) (l : Nat) {p : List Byte} (h1 : byteAt p 1 = 0) (h2 : byteAt p 2 = 1) (h3 : byteAt p 3 = 0)
    (hlen : leAt p 4 2 = leAt p 6 2) (hmax : leAt p 6 2 ≤ 120) (hp : p.length = 128) :
    h.authSegment l p = (h.setExchange l { h.exchange l with part := [], partNext := 0 }).authMessage l (byteAt p 0) ((p.drop 8).take (leAt p 6 2)) := by
  have hgot : ((p.drop 8).take (leAt p 6 2)).length = leAt p 6 2 := by simp; omega
  simp [Hub.authSegment, h1, h2, h3, hlen, Nat.not_lt.mpr hmax, hgot, show ¬ 16384 < leAt p 6 2 by omega]

/-! ### Flits that take effect, and flits that do not (O35, O36) -/

/-- A command has the effect of a flit's arrival, whatever it finds. -/
def IsArrival (i : Instr) (l pair fec : Nat) (flit : List Byte) : Prop :=
  ∀ (h g : Hub) (q : List Instr), h.rxFlit l pair fec flit = g → exec i ⟨h, q⟩ = .next ⟨g.linkSettled l, q⟩

/-- A control flit other than a TAG arrives at its place: it takes effect before the inbound side is sealed, and joins the open group after. -/
theorem IsArrival.takes_effect {i : Instr} {t l pair fec : Nat} {flit : List Byte} (ha : IsArrival i l pair fec flit) {h : Hub}
    (hi : Intact h l pair fec flit) (hc : ControlOf t flit) (ho : InOrder h l flit) (hh : ctlFromHost t = true) (hseq : ctlSequenced t = true) (ht : t ≠ 2)
    (q : List Instr) :
    ((h.link l).sealIn = false → exec i ⟨h, q⟩ =
      .next ⟨(((h.received l pair fec flit).takeControlFlit l t ((flit.drop 4).take 128)).followed l).linkSettled l, q⟩) ∧
    ((h.link l).sealIn = true → exec i ⟨h, q⟩ =
      .next ⟨(((h.received l pair fec flit).joined l ((h.link l).rxSeq % 2 ^ 32) flit).followed l).linkSettled l, q⟩) := by
  have heffect := Hub.rxFlit_sequenced hi hc ho hh hseq
  refine ⟨fun hs => ha h _ q ?_, fun hs => ha h _ q ?_⟩
  · rw [heffect, hs, Hub.acceptedFlit_open _ _ _ hc ht]
  · rw [heffect, hs, Hub.acceptedFlit_sealed _ _ _ (.inr (by rwa [hc.ctype_eq]))]

/-- The commands of the sequenced control flits besides TAG and AUTH, each with its CTYPE (R184). -/
def controlCommands (l pair fec : Nat) (flit : List Byte) : List (Instr × Nat) :=
  [(.swapAck l pair fec flit, 5), (.swapNak l pair fec flit, 6), (.swapDone l pair fec flit, 7), (.rekeyFlit l pair fec flit, 9),
    (.idleReq l pair fec flit, 0x0A), (.idleAck l pair fec flit, 0x0B), (.sleepReq l pair fec flit, 0x0C), (.retrainReq l pair fec flit, 0x11),
    (.pairOut l pair fec flit, 0x12), (.pairJoin l pair fec flit, 0x13)]

/-- Each of them is the arrival of a flit of its type, which the host may send in sequence. -/
theorem controlCommands_arrive {l pair fec : Nat} {flit : List Byte} (hl : l < 4 ∧ pair < 4) : ∀ x ∈ controlCommands l pair fec flit,
    (ControlOf x.2 flit → IsArrival x.1 l pair fec flit) ∧ ctlFromHost x.2 = true ∧ ctlSequenced x.2 = true ∧ x.2 ≠ 2 := by
  simp only [controlCommands, List.forall_mem_cons, List.not_mem_nil, false_implies, implies_true, and_true]
  refine ⟨?_, ?_, ?_, ?_, ?_, ?_, ?_, ?_, ?_, ?_⟩ <;> exact ⟨fun hc _ _ _ hg => rxCommand_control hl hc hg, by decide⟩

/-- The commands of AUTH messages on a landing's pairs, each with its AUTH type (R202). -/
def authCommands (l pair fec : Nat) (flit : List Byte) : List (Instr × Nat) :=
  [(.authInit (.ldl l) pair fec flit, 1), (.authProof (.ldl l) pair fec flit, 3), (.authAbort (.ldl l) pair fec flit, 5),
    (.authGo (.ldl l) pair fec flit, 6)]

/-- Each of them is the arrival of an AUTH flit of its type. -/
theorem authCommands_arrive {l pair fec : Nat} {flit : List Byte} (hl : l < 4 ∧ pair < 4) (hc : ControlOf 0x10 flit) :
    ∀ x ∈ authCommands l pair fec flit, byteAt flit 4 = x.2 → IsArrival x.1 l pair fec flit := by
  simp only [authCommands, List.forall_mem_cons, List.not_mem_nil, false_implies, implies_true, and_true]
  refine ⟨?_, ?_, ?_, ?_⟩ <;> exact fun ht _ _ _ hg => authCommand_flit hl hc ht hg

/-- Settles O35: what each command's flit is by its header (`Hub.rxFlit_control`, `IsArrival.takes_effect`, `Hub.rxFlit_dataInOrder`), then what an
authentic flit delivers. -/
theorem flitsInOrderTakeEffect : Obligations.FlitsInOrderTakeEffect := by
  constructor
  · intro q h l pair fec flit hl hp hi p seq counted joined
    refine ⟨fun hc => ?idle, fun hc => ?ack, fun hc => ?resync,
      fun ho => ⟨fun i t hrow hc => ?control, fun i t hrow hc ht => ?auth, fun hc hs => ?tag, fun hd h12 hs hcredit => ?data⟩⟩
    case idle =>
      show execIdleFlit l pair fec flit _ = _
      exact rxCommand_control ⟨hl, hp⟩ hc ((Hub.rxFlit_control hi hc (by decide) rfl).trans (if_pos rfl))
    case ack =>
      show execAckFlit l pair fec flit _ = _
      exact rxCommand_control ⟨hl, hp⟩ hc ((Hub.rxFlit_control hi hc (by decide) rfl).trans ((if_neg (by decide)).trans (if_pos rfl)))
    case resync =>
      show execResync l pair fec flit _ = _
      exact rxCommand_control ⟨hl, hp⟩ hc ((Hub.rxFlit_control hi hc (by decide) rfl).trans
        ((if_neg (by decide)).trans ((if_neg (by decide)).trans (if_pos rfl))))
    case control =>
      obtain ⟨harrives, hh, hseq, h2⟩ := controlCommands_arrive ⟨hl, hp⟩ _ hrow
      exact (harrives hc).takes_effect hi hc ho hh hseq h2 q
    case auth =>
      exact (authCommands_arrive ⟨hl, hp⟩ hc _ hrow ht).takes_effect hi hc ho rfl rfl (by decide) q
    case tag =>
      show execTagFlit l pair fec flit _ = _
      refine rxCommand_control ⟨hl, hp⟩ hc ?_
      rw [Hub.rxFlit_sequenced hi hc ho rfl rfl, hs, Hub.acceptedFlit_tag _ _ _ hc]
    case data =>
      show execDataFlit l pair fec flit _ = _
      refine rxCommand_data ⟨hl, hp⟩ hd ?_
      rw [Hub.rxFlit_dataInOrder hi hd h12 ho hcredit, hs, Hub.acceptedFlit_sealed _ _ _ (.inl hd)]
      rfl
  · exact fun h l first i s flit _ => ⟨fun hctl => if_neg (Nat.not_lt.mpr hctl), fun hd => if_pos hd, fun _ => rfl,
      fun _ h1 h2 h3 hlen hmax hp => h.authSegment_whole l h1 h2 h3 hlen hmax hp⟩

/-- Settles O36: what the arrival of each flit comes to (`Hub.sequenced_far`, `Hub.sequenced_waiting`, `Hub.sequenced_kept`, and by the header the lemmas
of `Hub.rxFlit`). -/
theorem flitsOutOfOrderOrBad : Obligations.FlitsOutOfOrderOrBad := by
  intro q h l pair fec flit hl hp hd counted n ahead kept
  refine ⟨fun hi h12 hr => ⟨fun ha => ?_, fun h0 ha hw => ?_, fun h0 ha hw hroom => ?_⟩,
    fun hrun hon => ⟨fun hfec => ?_, fun hfec hlen hcrc => ?_⟩, fun f hi hctl => ⟨fun ht => ?_, fun ht hh => ?_⟩⟩
  · show execDataFlit l pair fec flit _ = _
    exact rxCommand_data ⟨hl, hp⟩ hd ((Hub.rxFlit_data hi hd h12).trans (Hub.sequenced_far hr ha))
  · show execDataFlit l pair fec flit _ = _
    exact rxCommand_data ⟨hl, hp⟩ hd ((Hub.rxFlit_data hi hd h12).trans (Hub.sequenced_waiting hr h0 ha hw))
  · show execDataFlit l pair fec flit _ = _
    exact rxCommand_data ⟨hl, hp⟩ hd ((Hub.rxFlit_data hi hd h12).trans (Hub.sequenced_kept hr h0 ha hw hroom))
  · show execDataFlit l pair fec flit _ = _
    exact rxCommand_data ⟨hl, hp⟩ hd (Hub.rxFlit_uncorrectable hrun hon hfec)
  · show execDataFlit l pair fec flit _ = _
    exact rxCommand_data ⟨hl, hp⟩ hd (Hub.rxFlit_badCrc hrun hon hfec hcrc)
  · show execReservedControlFlit l pair fec f _ = _
    exact execReservedControlFlit_eq ⟨hl, hp⟩ hctl (.inl ht) (Hub.rxFlit_reserved hi hctl ht)
  · show execReservedControlFlit l pair fec f _ = _
    exact execReservedControlFlit_eq ⟨hl, hp⟩ hctl (.inr hh) (Hub.rxFlit_notFromHost hi hctl ht hh)

end Sys2Proof.Machine
end

section
/-! SUPPORT and the obligation O44. When a port's unit goes down, and which engine and thread take a waiting message. -/

namespace Sys2Proof.Machine

/-! ### Units of the Yard's ports (R260) -/

/-- The UP bit of a unit is cleared and notice 96 tells of it: what going down does before any flush (R260). -/
def Hub.unitCleared (h : Hub) (port unit : Nat) : Hub :=
  (h.set F.YARDPORT.UP port (clrBit (h.get F.YARDPORT.UP port) unit)).notify 96 (unitPayload port unit)

/-- A unit that is up goes down with its flush put off by a FLUSH_DELAY (R260). -/
theorem Hub.unitDown_delayed {h : Hub} {port unit : Nat} (hup : h.unitUp port unit = true) (hd : h.get F.YARDPORT.FLUSH_DELAY port ≠ 0) :
    h.unitDown port unit = (h.unitCleared port unit).arm T.flush (unitKey port unit) (h.get F.YARDPORT.FLUSH_DELAY port * msec) := by
  rw [Hub.unitDown, if_pos hup]
  exact if_neg (by rwa [beq_iff_eq])

/-- Without a FLUSH_DELAY a unit that is up goes down and is flushed at once (R260). -/
theorem Hub.unitDown_flushed {h : Hub} {port unit : Nat} (hup : h.unitUp port unit = true) (hd : h.get F.YARDPORT.FLUSH_DELAY port = 0) :
    h.unitDown port unit = (h.unitCleared port unit).flushUnit port unit := by
  rw [Hub.unitDown, if_pos hup]
  exact if_pos (by rwa [beq_iff_eq])

/-- The ports with an adapter lose a unit where the adapter's state asks for it, and the internal ones when told (R259, R260). -/
theorem execYardPortDown_eq {h g : Hub} {port unit : Nat} (q : List Instr) (hm : h.mainUp = true) (he : unitExists port unit = true) (hp : port < 14)
    (hdown : h.mustBeDown port unit = true ∨ 6 < port) (hg : h.unitDown port unit = g) : execYardPortDown port unit ⟨h, q⟩ = .next ⟨g, q⟩ :=
  actIf_eq he hm ((if_pos (by simpa [hp] using hdown)).trans hg)

/-! ### Shunter dispatch (R268) -/

/-- The next waiting message goes to the first free thread of the least busy engine, and the turn passes to the port after its own (R268). -/
theorem execShunterDispatch_eq {h : Hub} {t : Ticket} {e k : Nat} (q : List Instr) (hm : h.mainUp = true) (ht : h.nextTicket = some t)
    (he : h.freeEngine = some e) (hk : firstWhere 16 (fun k => h.threadOf e k == 0) = some k) :
    execShunterDispatch ⟨h, q⟩ = .next
      ⟨((((h.setThread e k (t.id + 1)).setTicket t.id (fun x => { x with state := .onThread })).modYard (fun y =>
        { y with nextPort := (t.input + 1) % 16 })).syncEngine e).fillPlaces t.input, q⟩ :=
  act_eq hm (by simp only [ht, he, hk])

/-- Settles O44, a command a line: where its occasion stands (`act_eq`, `actIf_eq`, `Hub.expire_eq`) and the effect it has there; a unit going down
is `Hub.unitDown_delayed` or `Hub.unitDown_flushed`. -/
theorem yardAndShuntersMoveMessages : Obligations.YardAndShuntersMoveMessages := by
  intro q h hm
  refine ⟨show execCellMatch _ = _ from act_eq hm rfl,
    fun port unit he => show execEgressSelect port unit _ = _ from actIf_eq he hm rfl,
    fun port unit he hp hdown hup hd => show execYardPortDown port unit _ = _ from
      execYardPortDown_eq q hm he hp hdown (Hub.unitDown_delayed hup hd),
    fun port unit he hp hdown hup hd => show execYardPortDown port unit _ = _ from
      execYardPortDown_eq q hm he hp hdown (Hub.unitDown_flushed hup hd),
    fun port unit he hup => show execYardPortUp port unit _ = _ from actIf_eq he hm (if_neg (by simp [hup])),
    fun port unit d he hd hdown => show execYardFlush port unit _ = _ from actIf_eq he hm (Hub.expire_eq hd (if_neg (by simp [hdown]))),
    fun output d ho hd => show execIncastTimer output _ = _ from actIf_eq (decide_eq_true ho) hm (Hub.expire_eq hd rfl),
    fun voq d hv hd hwaits hblocked => show execBackpressureTimer voq _ = _ from
      actIf_eq (decide_eq_true hv) hm (Hub.expire_eq hd (if_neg (by simp [hwaits, hblocked]))),
    fun entry d he hd htype hkept => show execLearnAgeExpiry entry _ = _ from
      actIf_eq (decide_eq_true he) hm (Hub.expire_eq hd (if_pos (by simp [htype, hkept]))),
    fun port hp => show execPortStall port _ = _ from actIf_eq (decide_eq_true hp) hm rfl,
    fun t e k ht he hk => show execShunterDispatch _ = _ from execShunterDispatch_eq q hm ht he hk,
    fun engine he => show execShunterEngineFault engine _ = _ from actIf_eq (decide_eq_true he) hm rfl⟩

end Sys2Proof.Machine
end

section
/-! SUPPORT and the obligations O45 and O46. What a Timetable's cycle boundary and a launch time do, and what a MAC's watchdog, link report and MDIO
answer do. -/

namespace Sys2Proof.Machine

/-! ### Shapers, Timetables and launch times (O45) -/

/-- At the cycle boundary of an enabled Timetable the cycle is counted, a pending bank goes in, and then what waits for the boundary commits (R302). -/
theorem Hub.cycleBoundary_enabled {h : Hub} {y : Nat} (hon : h.on F.TIMETABLE.ENABLE y = true) :
    let g := (h.advanceNetworkBy (h.ttToCycle y)).add F.TIMETABLE.CYCLES y 1
    h.cycleBoundary y = (if g.on F.TIMETABLE.SWAP_PENDING y then g.ttSwap y else g).moment (fun e => e == .cycle y) :=
  if_neg (by simp [hon])

/-- At its launch time the head of a leaf of the Ethernet port is released or discarded (R304). -/
theorem execLaunchTimeReached_eq {h : Hub} {leaf t : Nat} {e : LeafPkt} {rest : List LeafPkt} (q : List Instr) (hm : h.mainUp = true)
    (hl : leaf < 2048) (hhead : h.yard.leaf leaf = e :: rest) (ht : e.pkt.launch = some t) (h6 : leaf / 128 = 6) :
    execLaunchTimeReached leaf ⟨h, q⟩ = .next ⟨(h.advanceToNetwork t).purgeLeaf leaf, q⟩ :=
  actIf_eq (decide_eq_true hl) hm (by simp only [hhead, ht, h6, beq_self_eq_true, if_true])

/-- Settles O45, a command a line, as O40. -/
theorem shapersAndTimetablesKeepTime : Obligations.ShapersAndTimetablesKeepTime := by
  intro q h hm
  exact ⟨fun n hn => show execShaperRefill n _ = _ from actIf_eq (decide_eq_true hn) hm rfl,
    show execWheelSlotExpiry _ = _ from act_eq hm rfl,
    fun port hp hon => show execTimetableEntryBoundary port _ = _ from actIf_eq (decide_eq_true hp) hm (if_pos hon),
    fun port hp hon => show execTimetableCycleBoundary port _ = _ from actIf_eq (decide_eq_true hp) hm (Hub.cycleBoundary_enabled hon),
    fun leaf e rest t hl hhead ht h6 => show execLaunchTimeReached leaf _ = _ from execLaunchTimeReached_eq q hm hl hhead ht h6⟩

/-! ### Ethernet MACs (O46) -/

/-- A watch that runs out while the pause still holds ends the honouring of PAUSE, until a quiet second, and notice 151 tells of it (R309). -/
theorem execPauseWatchdogExpiry_held {h : Hub} {mac d e : Nat} (q : List Instr) (hm : h.mainUp = true) (hmac : mac < 2)
    (hd : h.due T.pauseWatch (h.watchedFirst mac) = some d) :
    let g := h.expiredAt T.pauseWatch (h.watchedFirst mac) d
    g.yard.pauseIgnored.read (fun _ => false) mac = false → g.due T.pauseEnd (h.watchedFirst mac) = some e → g.now ≤ e →
    execPauseWatchdogExpiry mac ⟨h, q⟩ = .next
      ⟨((g.modYard (fun y => { y with pauseIgnored := y.pauseIgnored.write (fun _ => false) mac true })).arm T.pauseQuiet mac sec).raise 151
        (mac + 2) (g.holderCtx (55 + mac)), q⟩ :=
  fun hhonoured hend hholds => actIf_eq (decide_eq_true hmac) hm (Hub.expire_eq hd (if_pos (by simp [hhonoured, hend, hholds])))

/-- A link report that differs from LINK, at a speed its interface has and without a fault to report, shows the link and its speed, tells of it by
notice 150, and the Ethernet port's unit and the PTP port follow (R306, R311). -/
theorem Hub.macLink_follows {h : Hub} {mac speed fault : Nat} {isUp : Bool} :
    let iface := h.get F.ETHPORT.IFACE mac
    let isNow := isUp && iface != 0
    isNow ≠ h.on F.ETHPORT.LINK mac → (isNow = false ∨ iface ≠ 3 ∨ ([100, 1000, 2500, 5000, 10000] : List Nat).contains speed = true) → fault ≠ 2 →
    fault ≠ 3 →
    let sp := (if !isNow then 0 else match iface with | 1 => 25000 | 2 => 10000 | _ => speed)
    let g := (h.set F.ETHPORT.LINK mac (ofB isNow)).set F.ETHPORT.SPEED mac sp
    h.macLink mac isUp speed fault = ((g.raise 150 (mac + ofB isNow * 2 + iface * 4 + h.get F.ETHPORT.FEC mac * 64 + sp * 256)
      (h.holderCtx (55 + mac))).syncPort 6 (1 + mac)).ptpState (4 + mac) := by
  intro iface isNow hne hspeed h2 h3 sp g
  have hnofault : ¬ (fault == 2 || fault == 3) = true := by simp [h2, h3]
  have hreport : ¬ (isNow == h.on F.ETHPORT.LINK mac ||
      isNow && iface == 3 && !([100, 1000, 2500, 5000, 10000] : List Nat).contains speed) = true := by
    rw [Bool.or_eq_true, beq_iff_eq, not_or]
    refine ⟨hne, ?_⟩
    obtain hdown | hiface | hlisted := hspeed
    · simp only [hdown, Bool.false_and, Bool.false_eq_true, not_false_eq_true]
    · simp only [beq_eq_false_iff_ne.mpr hiface, Bool.and_false, Bool.false_and, Bool.false_eq_true, not_false_eq_true]
    · simp only [hlisted, Bool.not_true, Bool.and_false, Bool.false_eq_true, not_false_eq_true]
  exact (if_neg hreport).trans (congrArg (fun g : Hub => (g.syncPort 6 (1 + mac)).ptpState (4 + mac)) (if_neg hnofault))

/-- Outside Desk Standby, or with MGMT_ENABLE, and for a link that is down, the link follows its report (R311, R566). -/
theorem execEthLinkChange_eq {h g : Hub} {mac speed fault : Nat} {isUp : Bool} (q : List Instr) (hm : h.mainUp = true) (hmac : mac < 2)
    (hpower : isUp = false ∨ h.get F.SYSTEM.POWER_STATE 0 ≠ 1 ∨ h.on F.ETHPORT.MGMT_ENABLE mac = true)
    (hg : h.macLink mac isUp speed fault = g) : execEthLinkChange mac isUp speed fault ⟨h, q⟩ = .next ⟨g, q⟩ := by
  have hheld : ¬ (isUp && h.get F.SYSTEM.POWER_STATE 0 == 1 && !h.on F.ETHPORT.MGMT_ENABLE mac) = true := by
    simp only [Bool.and_eq_true, beq_iff_eq, Bool.not_eq_true']
    intro ⟨⟨hup, hstandby⟩, hoff⟩
    obtain hdown | hrunning | henabled := hpower
    · exact absurd (hup.symm.trans hdown) (by decide)
    · exact hrunning hstandby
    · exact absurd (henabled.symm.trans hoff) (by decide)
  exact actIf_eq (decide_eq_true hmac) hm ((if_neg hheld).trans hg)

/-- The PHY's answer is the transaction's result, and notice 156 brings it (R311). -/
theorem execMdioDone_answered {h : Hub} {mac d : Nat} (q : List Instr) (data : Nat) (hm : h.mainUp = true) (hmac : mac < 2)
    (hd : h.due T.mdio mac = some d) : execMdioDone mac true data ⟨h, q⟩ = .next
      ⟨((h.disarm T.mdio mac).set F.ETHPORT.MDIO_RESULT mac (2 ^ 31 + data % 65536)).raise 156 (mac + data % 65536 * 2 ^ 16)
        (h.holderCtx (55 + mac)), q⟩ :=
  actIf_eq (decide_eq_true hmac) hm (by simp [hd, ofB])

/-- A PHY that does not answer in time leaves a result with its error bit, and notices 156 and 154 tell of it (R311). -/
theorem execMdioDone_timeout {h : Hub} {mac d : Nat} (q : List Instr) (data : Nat) (hm : h.mainUp = true) (hmac : mac < 2)
    (hd : h.due T.mdio mac = some d) : execMdioDone mac false data ⟨h, q⟩ = .next
      ⟨((((h.expiredAt T.mdio mac d).set F.ETHPORT.MDIO_RESULT mac (2 ^ 31 + 2 ^ 30)).raise 156 (mac + 2) (h.holderCtx (55 + mac))).raise 154
        (mac + 16) (h.holderCtx (55 + mac))), q⟩ :=
  actIf_eq (decide_eq_true hmac) hm (by simp [hd, ofB, Hub.expiredAt])

/-- Settles O46, a command a line, as O40. -/
theorem ethernetFramesAndLinks : Obligations.EthernetFramesAndLinks := by
  intro q h hm
  exact ⟨fun l slot msg hl hs hwaits hcls => show execNetworkFrame l slot msg _ = _ from
      actIf_eq (decide_eq_true ⟨hl, hs⟩) hm (if_pos (by rw [hwaits, hcls]; rfl)),
    fun mac frame hmac hlink => show execEthFrameReceived mac frame _ = _ from actIf_eq (decide_eq_true hmac) hm (if_neg (by simp [hlink])),
    fun mac frame hmac hlink hpause => show execPauseReceived mac frame _ = _ from
      actIf_eq (decide_eq_true hmac) hm (if_pos (by simp [hlink, hpause])),
    fun mac d e hmac hd hhonoured hend hholds => show execPauseWatchdogExpiry mac _ = _ from
      execPauseWatchdogExpiry_held q hm hmac hd hhonoured hend hholds,
    fun mac d hmac hd => show execPauseHonourResume mac _ = _ from actIf_eq (decide_eq_true hmac) hm (Hub.expire_eq hd rfl),
    fun mac d hmac hd => show execStormWindow mac _ = _ from actIf_eq (decide_eq_true hmac) hm (Hub.expire_eq hd rfl),
    fun mac isUp speed fault hmac hpower hne hspeed h2 h3 => show execEthLinkChange mac isUp speed fault _ = _ from
      execEthLinkChange_eq q hm hmac hpower (Hub.macLink_follows hne hspeed h2 h3),
    fun mac data d hmac hd => show execMdioDone mac true data _ = _ from execMdioDone_answered q data hm hmac hd,
    fun mac data d hmac hd => show execMdioDone mac false data _ = _ from execMdioDone_timeout q data hm hmac hd⟩

end Sys2Proof.Machine
end

section
/-! SUPPORT and the obligation O47. What a message of a Display tunnel, a finished copy, a head's timing generator and its sink do where
their occasion stands. -/

namespace Sys2Proof.Machine

/-! ### Messages of Display tunnels and copies (R335, R341, R347) -/

/-- The first message of a Display tunnel is taken when it is of the command's type and, where the command waits for jobs to land, none of the
tunnel's is still to land (R335). -/
theorem Hub.fromDisplay_taken {h : Hub} {l slot type : Nat} {msg : List Byte} {landed : Bool} {f : Hub → List Byte → Hub}
    (hfirst : h.firstOf 7 l slot msg = true) (htype : bits (leAt msg 0 2) 4 8 = type)
    (hlanded : landed = true → ∀ j ∈ h.jobs, ¬ (j.l = l ∧ j.slot = slot)) :
    h.fromDisplay l slot msg type landed f = f (h.takeInbox 7 l slot msg) (msg.drop 8) := by
  have hjobs : (landed && h.jobs.any (fun j => j.l == l && j.slot == slot)) = false := by
    rw [Bool.and_eq_false_imp, List.any_eq_false]
    intro hl j hj
    simpa using hlanded hl j hj
  exact if_pos (by rw [hfirst, htype, hjobs, beq_self_eq_true]; rfl)

/-- A message that writes the Depot is taken while its controller does not pause (R335, R362). -/
theorem Hub.fromDisplay_unpaused {h : Hub} {l slot type : Nat} {msg : List Byte} {f : Hub → List Byte → Hub} (hdepot : h.depot ≠ 1)
    (hfirst : h.firstOf 7 l slot msg = true) (htype : bits (leAt msg 0 2) 4 8 = type) (hjobs : ∀ j ∈ h.jobs, ¬ (j.l = l ∧ j.slot = slot)) :
    (if h.depot == 1 then h else h.fromDisplay l slot msg type true f) = f (h.takeInbox 7 l slot msg) (msg.drop 8) :=
  (if_neg (by simpa using hdepot)).trans (Hub.fromDisplay_taken hfirst htype fun _ => hjobs)

/-- The first job of a landing completes once no clone's copy runs (R341, R346). -/
theorem Hub.jobDone_first {h : Hub} {l : Nat} {j : Job} (hdepot : h.depot ≠ 1) (hclones : (h.clones.cells.any (fun c => c.2.copy.isSome)) = false)
    (hj : h.jobs.find? (fun j => j.l == l) = some j) :
    h.jobDone l = ((({ h.turn j with jobs := h.jobs.erase j }).add F.SURFACE.WRITES j.dst 1).syncSurfaces).turnDone j 0 := by
  rw [Hub.jobDone, if_neg (by simp [hdepot, hclones]), hj]

/-- A clone's copy completes, with no flip of the source since it began (R347). -/
theorem Hub.copyDone_last {h : Hub} {y : Nat} {j : Job} (hdepot : h.depot ≠ 1) (hcopy : (h.clone y).copy = some j)
    (hagain : (h.clone y).again = false) :
    h.copyDone y = ((h.turn j).modClone y (fun c => { c with copy := none, done := j.id + 1 })).syncSurfaces := by
  rw [Hub.copyDone, if_neg (by simpa using hdepot), hcopy]
  simp only [hagain, Bool.false_eq_true, if_false]

section
variable {h : Hub} {n : Nat}

/-! ### Timing generators (R350, R352, R361) -/

/-- A scanning head outside a gap begins its next frame from its blanking (R350). -/
theorem Hub.frameStart_blank (hs : h.scanning n = true) (hgap : (h.head n).gap = 0) (hblank : (h.head n).inBlank = true) :
    h.frameStart n = h.beginFrame n (h.head n).nextAt :=
  if_pos (by simp [hs, hgap, hblank])

/-- The line LINE_MATCH names is matched once in a frame, at the moment it begins, and the notice goes out where EVENT_MASK asks for it (R350). -/
theorem Hub.lineMatch_unmatched (hs : h.scanning n = true) :
    let k := h.head n
    let line := h.use F.HEAD.LINE_MATCH n
    k.gap = 0 → k.inBlank = false → k.matched = false → line < h.use F.HEAD.TIMING_VACT n →
    let g := ({ h with clk := max h.clk (k.frameAt + h.pixelTime n (line * h.hTot n)) } : Hub).modHead n (fun k => { k with matched := true })
    h.lineMatch n =
      if bitB (h.get F.HEAD.EVENT_MASK n) 1 then g.notify (nHead n 1) (h.get F.HEAD.FRAME_COUNT n % 2 ^ 32 + line * 2 ^ 32) else g :=
  fun hgap hblank hmatched hline => if_pos (by simp [hs, hgap, hblank, hmatched, hline])

/-- A frame is done once, at the moment its last pixel leaves, and the notice goes out where EVENT_MASK asks for it (R350). -/
theorem Hub.frameDone_undone (hs : h.scanning n = true) :
    let k := h.head n
    k.gap = 0 → k.done = false →
    let g := ({ h with clk := max h.clk (k.frameAt + h.pixelTime n (h.activePx n)) } : Hub).modHead n (fun k => { k with done := true })
    h.frameDone n = if bitB (h.get F.HEAD.EVENT_MASK n) 2 then g.notify (nHead n 2) (h.get F.HEAD.FRAME_COUNT n) else g :=
  fun hgap hdone => if_pos (by simp [hs, hgap, hdone])

/-! ### Sinks (R360, R363) -/

/-- A sink without an active link is gone: its training and retry end, and notice 4 of the head tells of it (R360). -/
theorem Hub.sinkAbsent_inactive (hsink : (h.head n).sink = true) (hlink : h.get F.HEAD.LINK_ACTIVE n < 128) :
    let g := (h.modHead n (fun k => { k with sink := false, training := false })).disarm T.dpRetry n
    h.sinkAbsent n = ((((g.set F.HEAD.LINK_ACTIVE n 0).set F.HEAD.SINK_CAPS n 0).notify (nHead n 4) 0).syncHead n).idleWatch := by
  intro g
  rw [Hub.sinkAbsent, if_neg (by simp [hsink])]
  simp only [if_neg (Nat.not_le.mpr hlink), g]

/-- A sink that answers with an intact EDID shows its capabilities and EDID, and its link trains (R360). -/
theorem Hub.sinkPresent_read (caps : Nat) (edid : List Nat) (hsink : (h.head n).sink = false) :
    let g := (h.modHead n (fun k => { k with sink := true })).idleWatch.notify (nHead n 4) 1
    h.sinkPresent n caps edid true true =
      ((List.range 128).foldl (fun g i => g.set F.HEAD.EDID n (edid.getD i 0) i) (g.set F.HEAD.SINK_CAPS n (caps % 2 ^ 17))).tryLink n :=
  if_neg (by simp [hsink])

/-- A sink that does not answer raises an AUX fault of cause 1, and its link trains (R360, R363). -/
theorem Hub.sinkPresent_silent (caps : Nat) (edid : List Nat) (intact : Bool) (hsink : (h.head n).sink = false) :
    let g := (h.modHead n (fun k => { k with sink := true })).idleWatch.notify (nHead n 4) 1
    h.sinkPresent n caps edid false intact = (g.notify (nHead n 13) 1).tryLink n :=
  if_neg (by simp [hsink])

/-- The going of a sink is a wake source (R569). -/
theorem execSinkAbsent_eq {g : Hub} (q : List Instr) (hm : h.mainUp = true) (hn : n < 4) (hsink : (h.head n).sink = true)
    (hg : h.sinkAbsent n = g) : execSinkAbsent n ⟨h, q⟩ = .next ⟨g.wakeBy 4, q⟩ :=
  actIf_eq (decide_eq_true hn) hm ((if_pos hsink).trans (by rw [hg]))

/-- The coming of a sink is a wake source (R569). -/
theorem execSinkPresent_eq {g : Hub} {caps : Nat} {edid : List Nat} {answered intact : Bool} (q : List Instr) (hm : h.mainUp = true) (hn : n < 4)
    (hsink : (h.head n).sink = false) (hg : h.sinkPresent n caps edid answered intact = g) :
    execSinkPresent n caps edid answered intact ⟨h, q⟩ = .next ⟨g.wakeBy 4, q⟩ :=
  actIf_eq (decide_eq_true hn) hm ((if_neg (by simp [hsink])).trans (by rw [hg]))

/-- An HPD IRQ 10 ms or more after the last one served is served, and one with the link still up changes nothing more (R360). -/
theorem Hub.hpdIrq_served (hsink : (h.head n).sink = true) (hspaced : (h.head n).irqAt = 0 ∨ (h.head n).irqAt - 1 + 10 * msec ≤ h.now) :
    h.hpdIrq n false = (h.modHead n (fun k => { k with irqAt := h.now + 1 })).notify (nHead n 4) 3 := by
  have hfree : ¬ ((h.head n).irqAt != 0 && decide (h.now < (h.head n).irqAt - 1 + 10 * msec)) = true := by
    simp only [Bool.and_eq_true, bne_iff_ne, decide_eq_true_eq, not_and, Nat.not_lt]
    exact hspaced.resolve_left
  exact (if_neg (by simp [hsink])).trans (if_neg hfree)

/-- An HPD IRQ within 10 ms of the last one served is not served: an AUX fault of cause 2 tells of it (R360, R363). -/
theorem Hub.hpdIrq_tooSoon (lost : Bool) (hsink : (h.head n).sink = true) (hirq : (h.head n).irqAt ≠ 0)
    (hsoon : h.now < (h.head n).irqAt - 1 + 10 * msec) : h.hpdIrq n lost = h.notify (nHead n 13) 2 :=
  (if_neg (by simp [hsink])).trans (if_pos (by simp [hirq, hsoon]))

/-- A training in progress ends well: the link is active at the rate and lanes tried (R360). -/
theorem Hub.dpTrained_active (htrain : (h.head n).training = true) :
    let k := h.head n
    h.dpTrained n true = (((h.modHead n (fun k => { k with training := false })).set F.HEAD.LINK_ACTIVE n (k.rate + k.lanes * 16 + 128)).linkNotice n
      1).syncHead n :=
  if_neg (by simp [htrain])

/-- A training in progress fails (R360). -/
theorem Hub.dpTrained_failed (htrain : (h.head n).training = true) : h.dpTrained n false = h.linkFails n :=
  if_neg (by simp [htrain])

end

/-- Settles O47, a command a line: where its occasion stands (`actIf_eq`, `act_eq`, `Hub.expire_eq`) and the effect it has there. -/
theorem displayCommandsAndHeadsAct : Obligations.DisplayCommandsAndHeadsAct := by
  intro q h hm
  exact ⟨fun l slot msg hl hslot hdepot hfirst htype hjobs => show execSurfaceWrite l slot msg _ = _ from
      actIf_eq (decide_eq_true ⟨hl, hslot⟩) hm (Hub.fromDisplay_unpaused hdepot hfirst htype hjobs),
    fun l slot msg hl hslot hdepot hfirst htype hjobs => show execTileDelta l slot msg _ = _ from
      actIf_eq (decide_eq_true ⟨hl, hslot⟩) hm (Hub.fromDisplay_unpaused hdepot hfirst htype hjobs),
    fun l slot msg hl hslot hfirst htype hjobs => show execPresent l slot msg _ = _ from
      actIf_eq (decide_eq_true ⟨hl, hslot⟩) hm (Hub.fromDisplay_taken hfirst htype fun _ => hjobs),
    fun l slot msg hl hslot hfirst htype => show execTurnJob l slot msg _ = _ from
      actIf_eq (decide_eq_true ⟨hl, hslot⟩) hm (Hub.fromDisplay_taken hfirst htype (by simp)),
    fun l j hl hdepot hclones hj => show execTurnJobDone l _ = _ from
      actIf_eq (decide_eq_true hl) hm (Hub.jobDone_first hdepot hclones hj),
    fun layer j hlayer hdepot hcopy hagain => show execCloneCopyDone layer _ = _ from
      actIf_eq (decide_eq_true hlayer) hm (Hub.copyDone_last hdepot hcopy hagain),
    fun d hd => show execDepotSelfRefreshReturn _ = _ from act_eq hm (Hub.expire_eq hd rfl),
    fun head hn => show execStartOfBlanking head _ = _ from actIf_eq (decide_eq_true hn) hm rfl,
    fun head us hn _ _ => show execModeRestartDone head us _ = _ from actIf_eq (decide_eq_true hn) hm rfl,
    fun head hn hs hgap hblank => show execFrameStart head _ = _ from
      actIf_eq (decide_eq_true hn) hm (Hub.frameStart_blank hs hgap hblank),
    fun head hn hs hgap hblank hmatched hline => show execLineMatch head _ = _ from
      actIf_eq (decide_eq_true hn) hm (Hub.lineMatch_unmatched hs hgap hblank hmatched hline),
    fun head hn hs hgap hdone => show execFrameDone head _ = _ from actIf_eq (decide_eq_true hn) hm (Hub.frameDone_undone hs hgap hdone),
    fun head line hn hs => show execLineUnderrun head line _ = _ from actIf_eq (decide_eq_true hn) hm (if_pos hs),
    fun head hn hsink hlink => show execSinkAbsent head _ = _ from execSinkAbsent_eq q hm hn hsink (Hub.sinkAbsent_inactive hsink hlink),
    fun head caps edid hn hsink => show execSinkPresent head caps edid true true _ = _ from
      execSinkPresent_eq q hm hn hsink (Hub.sinkPresent_read caps edid hsink),
    fun head caps edid intact hn hsink => show execSinkPresent head caps edid false intact _ = _ from
      execSinkPresent_eq q hm hn hsink (Hub.sinkPresent_silent caps edid intact hsink),
    fun head hn hsink hspaced => show execHpdIrq head false _ = _ from actIf_eq (decide_eq_true hn) hm (Hub.hpdIrq_served hsink hspaced),
    fun head lost hn hsink hirq hsoon => show execHpdIrq head lost _ = _ from
      actIf_eq (decide_eq_true hn) hm (Hub.hpdIrq_tooSoon lost hsink hirq hsoon),
    fun head hn htrain => show execDpTrainingDone head true _ = _ from actIf_eq (decide_eq_true hn) hm (Hub.dpTrained_active htrain),
    fun head hn htrain => show execDpTrainingDone head false _ = _ from actIf_eq (decide_eq_true hn) hm (Hub.dpTrained_failed htrain),
    fun head d hn hd => show execDpTrainRetry head _ = _ from actIf_eq (decide_eq_true hn) hm (Hub.expire_eq hd rfl)⟩

end Sys2Proof.Machine
end

section
/-! SUPPORT and the obligations O2 and O48. A tick of the local counter, and what the clock, its reference, triggers, cues, the pulse per
second and the PTP ports do where their occasion stands. -/

namespace Sys2Proof.Machine

/-- Settles O2: the idle step is a tick of 131,072 65,536ths of a nanosecond, which are 2 ns. -/
theorem idleStepTicksLocalCounter : Obligations.IdleStepTicksLocalCounter := by
  intro s hs
  have hidle : step s = .next (idle s) := by
    unfold step
    simp only [hs]
  have htick : s.hub.tick = { s.hub with clk := s.hub.clk + 2 * 65536 } := rfl
  rw [hidle, idle, htick]

section
variable {h g : Hub} {i : Nat}

/-! ### The reference and the servo (R370, R374) -/

/-- A reference that was not lost is lost: holdover begins, and notice 227 tells of it (R370). -/
theorem Hub.refLost_starts (hs : h.get F.CLOCK.REF_STATE 0 ≠ 1) :
    h.refLost = ((h.set F.CLOCK.REF_STATE 0 1).modClock (fun c => { c with lostAt := h.now })).notify 227 (h.get F.CLOCK.REF_SOURCE 0) :=
  if_neg (by simpa using hs)

/-- A reference in holdover comes back, no sooner than 1 s after its loss, and notice 228 carries the outage in milliseconds (R370). -/
theorem Hub.refRestored_ends (ms : Nat) (hs : h.get F.CLOCK.REF_STATE 0 ≠ 0) :
    let g := h.advanceTo (h.clock.lostAt + max 1000 ms * msec)
    h.refRestored ms = (g.set F.CLOCK.REF_STATE 0 0).notify 228 (min ((g.now - h.clock.lostAt) / msec) (2 ^ 32 - 1)) :=
  if_neg (by simpa using hs)

/-- The built-in servo steers while K1 is in the free pool (R373). -/
theorem Hub.servoRuns_iff : h.servoRuns = true ↔ h.holder 1 = 0xF :=
  beq_iff_eq

/-! ### The pulse per second (R389) -/

/-- An enabled pulse begins on the next second; with PPS_LOCKED_ONLY it does so in LOCKED alone (R389). -/
theorem Hub.ppsPulse_rises (hon : h.on F.CLOCK.PPS_ENABLE 0 = true)
    (hlock : h.on F.CLOCK.PPS_LOCKED_ONLY 0 = false ∨ h.get F.CLOCK.STATE 0 = 2) :
    let g := h.advanceNetwork ((sec : Int) - h.networkInt % (sec : Int))
    h.ppsPulse = (g.ppsLevel true).arm T.ppsEnd 0 (g.get F.CLOCK.PPS_WIDTH 0) :=
  if_pos (by simpa [hon] using hlock)

/-! ### PTP (R375, R381, R385) -/

/-- A command on a PTP message that arrives takes its kind's effect on its port (R375). -/
theorem actIf_onPtp {m : List Byte} {kinds : List Nat} {t : Nat} {f : Hub → Nat → Hub} (q : List Instr) (hm : h.mainUp = true) (hi : i < 6)
    (ha : PtpArrives h i m kinds g t) : actIf (decide (i < 6)) ⟨h, q⟩ (fun h => h.onPtp i m kinds f) = .next ⟨f g t, q⟩ :=
  actIf_eq (decide_eq_true hi) hm (Hub.onPtp_arrives ha f)

/-- A Sync or Follow_Up that arrives takes its effect, and with it what a step of the servo passes (R375, R377). -/
theorem actIf_onPtp_afterServo {m : List Byte} {kinds : List Nat} {t : Nat} {f : Hub → Nat → Hub} (q : List Instr) (hm : h.mainUp = true)
    (hi : i < 6) (ha : PtpArrives h i m kinds g t) :
    actIf (decide (i < 6)) ⟨h, q⟩ (fun h => (h.onPtp i m kinds f).afterServo h) = .next ⟨(f g t).afterServo h, q⟩ :=
  actIf_eq (decide_eq_true hi) hm (by rw [Hub.onPtp_arrives ha])

/-- A transmit timer of an enabled port starts again at the interval of its LOG field, and the port sends (R381, R385). -/
theorem Hub.ptpTimer_enabled {kind d : Nat} (log : Fld) (f : Hub → Hub) (hd : h.due kind i = some d) :
    let g := h.expiredAt kind i d
    g.on F.PTPPORT.ENABLE i = true → h.ptpTimer kind i log f = f (g.arm kind i (powerSec (g.getI log i))) :=
  fun hon => Hub.expire_eq hd (if_pos hon)

end

/-- Settles O48, a command a line: where its occasion stands (`act_eq`, `actIf_eq`, `Hub.expire_eq`, `actIf_onPtp`) and the effect it has
there. -/
theorem clockPulsesTriggersAndPtpAct : Obligations.ClockPulsesTriggersAndPtpAct := by
  intro q h hm
  exact ⟨fun hs => show execRefLost _ = _ from act_eq hm (Hub.refLost_starts hs),
    fun ms hs => show execRefRestored ms _ = _ from act_eq hm (Hub.refRestored_ends ms hs),
    fun d hd hk1 => show execSyncLossTimeout _ = _ from act_eq hm (Hub.expire_eq hd (if_pos (Hub.servoRuns_iff.mpr hk1))),
    fun port d hp hd => show execFollowUpTimeout port _ = _ from actIf_eq (decide_eq_true hp) hm (Hub.expire_eq hd rfl),
    fun trigger ht hon => show execTriggerFire trigger _ = _ from actIf_eq (decide_eq_true ht) hm (if_pos hon),
    fun cue d hc hd => show execCuePulseEnd cue _ = _ from actIf_eq (decide_eq_true hc) hm (Hub.expire_eq hd rfl),
    fun hon hlock => show execPpsPulse _ = _ from act_eq hm (Hub.ppsPulse_rises hon hlock),
    fun d hd => show execPpsPulseEnd _ = _ from act_eq hm (Hub.expire_eq hd rfl),
    fun port msg g t hp ha => show execPtpSync port msg _ = _ from actIf_onPtp_afterServo q hm hp ha,
    fun port msg g t hp ha => show execPtpFollowUp port msg _ = _ from actIf_onPtp_afterServo q hm hp ha,
    fun port msg g t hp ha => show execPtpDelayReq port msg _ = _ from actIf_onPtp q hm hp ha,
    fun port msg g t hp ha => show execPtpDelayResp port msg _ = _ from actIf_onPtp q hm hp ha,
    fun port msg g t hp ha => show execPtpPdelayReq port msg _ = _ from actIf_onPtp q hm hp ha,
    fun port msg g t hp ha => show execPtpPdelayResp port msg _ = _ from actIf_onPtp q hm hp ha,
    fun port msg g t hp ha => show execPtpAnnounce port msg _ = _ from actIf_onPtp q hm hp ha,
    fun port msg g t hp ha => show execPtpUnsupported port msg _ = _ from actIf_onPtp q hm hp ha,
    fun port d hp hd hon => show execPtpSyncTxTimer port _ = _ from
      actIf_eq (decide_eq_true hp) hm (Hub.ptpTimer_enabled F.PTPPORT.LOG_SYNC _ hd hon),
    fun port d hp hd hon => show execPtpPdelayTxTimer port _ = _ from
      actIf_eq (decide_eq_true hp) hm (Hub.ptpTimer_enabled F.PTPPORT.LOG_PDELAY _ hd hon),
    fun port d hp hd hon => show execPtpAnnounceTxTimer port _ = _ from
      actIf_eq (decide_eq_true hp) hm (Hub.ptpTimer_enabled F.PTPPORT.LOG_ANNOUNCE _ hd hon)⟩

end Sys2Proof.Machine
end

section
/-! SUPPORT and the obligation O49. What a storage slot's module, link, traffic and requests do where their occasion stands. -/

namespace Sys2Proof.Machine

section
variable {h : Hub} {n : Nat}

/-! ### A slot comes up (R403) -/

/-- A module found in an empty slot waits for its feed, which SLOT_ENABLE asks for, and notice 272 tells of it (R403). -/
theorem Hub.slotPresent_found (habsent : h.on F.STORAGE.PRESENT n = false) :
    let g := ((h.set F.STORAGE.PRESENT n 1).set F.STORAGE.STATE n 1).modSlot n (fun k => { k with tries := 0 })
    h.slotPresent n = (if h.on F.STORAGE.SLOT_ENABLE n then g.slotFeed n true else g).storageNotice n 272 (n + 2) :=
  if_neg (by simp [habsent])

/-- The feed of a slot that waits for it is good: SnPERST_N is released 100 ms later where a context holds the slot's token (R403). -/
theorem Hub.slotPowerGood_powered (hstate : h.get F.STORAGE.STATE n = 1) (hfeed : h.get F.FEED.STATE (12 + n) = 3) :
    let g := (h.set F.STORAGE.STATE n 2).modSlot n (fun k => { k with power := true })
    h.slotPowerGood n = if g.holder (11 + n) < 6 then g.arm T.slotPerst n (100 * msec) else g :=
  if_neg (by simp [hstate, hfeed])

/-- A powered slot held by a context, with no handover under way, leaves reset and trains for 1 s at most (R403). -/
theorem Hub.perstRelease_trains (hstate : h.get F.STORAGE.STATE n = 2) (hpower : (h.slot n).power = true) (hphase : (h.slot n).phase = 0)
    (hheld : h.holder (11 + n) < 6) : h.perstRelease n = ((h.perst n true).set F.STORAGE.STATE n 3).arm T.slotTrain n sec :=
  if_pos (by simp [hstate, hpower, hphase, hheld])

/-- A training slot's link comes up at the width, generation and payload size the slot and its module share (R403). -/
theorem Hub.slotLinkUp_trained {gen width mps w g m : Nat} (hstate : h.get F.STORAGE.STATE n = 3)
    (hw : w = if width = 4 ∨ width = 2 then min width (h.get F.STORAGE.MAX_WIDTH n) else 1)
    (hg : g = max 1 (min gen (h.get F.STORAGE.MAX_GEN n))) (hmps : m = if 512 ≤ mps then 512 else if 256 ≤ mps then 256 else 128) :
    let x := ((((h.set F.STORAGE.STATE n 4).set F.STORAGE.GEN n g).set F.STORAGE.WIDTH n w).set F.STORAGE.MPS n m).disarm T.slotTrain n
    h.slotLinkUp n gen width mps =
      (((x.modSlot n (fun k => { k with tries := 0 })).syncPort (4 + n) 0).slotRates.syncPresence n).slotLink n 1 := by
  subst hw hg hmps
  refine (if_neg (by simp [hstate])).trans ?_
  simp only [Bool.or_eq_true, beq_iff_eq]

/-! ### A slot goes (R404) -/

/-- A link that is up goes down with presence kept: what was sent is aborted and logged under cause 2, and the slot trains again (R404). -/
theorem Hub.slotLinkDown_retrains (hstate : h.get F.STORAGE.STATE n = 4) :
    let g := (h.abortAll n true).logPosted n 2 true
    h.slotLinkDown n = (((g.linkGone n 3).slotPortDown n).slotLink n 2).arm T.slotTrain n sec :=
  if_neg (by simp [hstate])

/-- A module present is removed: its requests are aborted, its writes logged under cause 1, its port flushed at once and its feed turned off,
and notice 274 carries what was outstanding (R404). -/
theorem Hub.surpriseRemoval_removed (hpresent : h.on F.STORAGE.PRESENT n = true) :
    let g := (h.abortAll n false).logPosted n 1 false
    let g1 := ((((g.set F.STORAGE.PRESENT n 0).perst n false).disarm T.slotPerst n).linkGone n 0).syncPort (4 + n) 0
    let g2 := if g1.yard.flushed.read (fun _ => false) (unitKey (4 + n) 0) then g1
      else (g1.flushUnit (4 + n) 0).disarm T.flush (unitKey (4 + n) 0)
    h.surpriseRemoval n = ((g2.slotFeed n false).add F.STORAGE.REMOVALS n 1).storageNotice n 274
      (n + min (h.slot n).down.length 65535 * 2 ^ 16 + (h.slot n).posted.length * 2 ^ 32) :=
  if_neg (by simp [hpresent])

/-! ### Traffic and time-outs (R399, R409) -/

/-- A memory request of a slot whose link is up is counted and goes on to its window (R399). -/
theorem Hub.fromSlot_memory {tlp : List Byte} {write : Bool} (hstate : h.get F.STORAGE.STATE n = 4)
    (hkind : tlpKind tlp = some (if write then .memWrite else .memRead)) :
    h.fromSlot n tlp = (h.add F.STORAGE.TLPS_UP n 1).slotMemory n tlp write := by
  rw [Hub.fromSlot, if_neg (by simp [hstate])]
  cases write <;> simp only [hkind, if_true, Bool.false_eq_true, if_false]

/-- The one request sent to a slot and not completed times out 50 ms after it was sent, is aborted and counted, and notice 275 tells of it
(R409). -/
theorem Hub.cplTimeout_one {r : HostReq} (hr : (h.slot n).down.filter (fun r => r.sentAt != 0) = [r]) :
    h.cplTimeout n false =
      (((h.advanceTo (r.sentAt - 1 + 50 * msec)).abortReq n r).add F.STORAGE.CPL_TIMEOUTS n 1).storageNotice n 275 (n + 2 ^ 32) := by
  simp only [Hub.cplTimeout, Bool.false_eq_true, if_false, hr, List.foldl_nil]
  rfl

end

/-- Settles O49, a command a line: where its occasion stands (`actIf_eq`, `Hub.expire_eq`) and the effect it has there. -/
theorem storageSlotsComeUpAndGo : Obligations.StorageSlotsComeUpAndGo := by
  intro q h hm
  exact ⟨fun n hn habsent => show execSlotPresence n _ = _ from actIf_eq (decide_eq_true hn) hm (Hub.slotPresent_found habsent),
    fun n hn hstate hfeed => show execSlotPowerGood n _ = _ from
      actIf_eq (decide_eq_true hn) hm (Hub.slotPowerGood_powered hstate hfeed),
    fun n d hn hd hstate hpower hphase hheld => show execSlotPerstRelease n _ = _ from
      actIf_eq (decide_eq_true hn) hm (Hub.expire_eq hd (Hub.perstRelease_trains hstate hpower hphase hheld)),
    fun n gen width mps w g m hn hstate hw hg hmps => show execSlotLinkUp n gen width mps _ = _ from
      actIf_eq (decide_eq_true hn) hm (Hub.slotLinkUp_trained hstate hw hg hmps),
    fun n d hn hd => show execSlotTrainTimeout n _ = _ from actIf_eq (decide_eq_true hn) hm (Hub.expire_eq hd rfl),
    fun n hn hstate => show execSlotLinkDown n _ = _ from actIf_eq (decide_eq_true hn) hm (Hub.slotLinkDown_retrains hstate),
    fun n hn hpresent => show execSurpriseRemoval n _ = _ from
      actIf_eq (decide_eq_true hn) hm (Hub.surpriseRemoval_removed hpresent),
    fun l slot msg hl hslot hwaits hclass => show execStorageTlpFromHost l slot msg _ = _ from
      actIf_eq (decide_eq_true ⟨hl, hslot⟩) hm (if_pos (Bool.and_eq_true_iff.mpr ⟨hwaits, beq_iff_eq.mpr hclass⟩)),
    fun n tlp hn hstate hkind => show execStorageTlpFromSlot n tlp _ = _ from
      actIf_eq (decide_eq_true hn) hm (Hub.fromSlot_memory (write := false) hstate hkind),
    fun n tlp hn hstate hkind => show execStorageTlpFromSlot n tlp _ = _ from
      actIf_eq (decide_eq_true hn) hm (Hub.fromSlot_memory (write := true) hstate hkind),
    fun n count hn => show execPostedWriteAck n count _ = _ from actIf_eq (decide_eq_true hn) hm rfl,
    fun n r hn hr => show execCplTimeout n false _ = _ from actIf_eq (decide_eq_true hn) hm (Hub.cplTimeout_one hr),
    fun n d hn hd => show execHandoverDrainEnd n _ = _ from actIf_eq (decide_eq_true hn) hm (Hub.expire_eq hd rfl),
    fun n d hn hd => show execHandoverPerstEnd n _ = _ from actIf_eq (decide_eq_true hn) hm (Hub.expire_eq hd rfl)⟩

end Sys2Proof.Machine
end

section
/-! SUPPORT and the obligation O50. What a message of a Branch tunnel, a finished transaction, a CAN frame or error state, and the timers of the
Branch interfaces do where their occasion stands. -/

namespace Sys2Proof.Machine

section
variable {h : Hub} {n : Nat}

/-! ### Branch messages and transactions (R420, R421) -/

/-- A Branch message that waits is taken by the command of its type, with its header off (R419). -/
theorem Hub.fromBranch_taken {l slot type : Nat} {msg : List Byte} {f : Hub → List Byte → Hub} (hw : WaitsAt h 9 l slot msg type) :
    h.fromBranch l slot msg type f = f (h.takeInbox 9 l slot msg) ((msg.drop 8).take (leAt msg 2 2)) :=
  if_pos (Bool.and_eq_true_iff.mpr ⟨hw.1, beq_iff_eq.mpr hw.2⟩)

/-- An access that reads nothing ends well on a bus, with the pieces written (R421). -/
theorem Hub.transactionDone_wrote {status cause pieces : Nat} {data : List Byte} {a : Access} (hjob : (h.farBus n).job = some (.access a))
    (hn : n < 5) (hread : a.readLen = 0) (hstatus : status = 0) :
    h.transactionDone n status cause pieces data = (h.i2cFault n cause).accessOver n a 0 pieces data := by
  subst hstatus
  simp [Hub.transactionDone, hjob, hread, show n ≠ 5 by omega]

/-! ### CAN (R417, R425, R433, R435) -/

/-- A remote frame is counted as a bus error and discarded (R417). -/
theorem Hub.canReceived_remote {addr : Nat} {data : List Byte} (hmode : h.get F.BRANCH.MODE n ≠ 0) :
    h.canReceived n addr data true = h.add F.BRANCH.BUS_ERRORS n 1 :=
  (if_neg (by simpa using hmode)).trans (if_pos rfl)

/-- A frame received with no access in progress, room in the Yard and none waiting before it is taken at once (R425, R436). -/
theorem Hub.canReceived_taken {addr : Nat} {data : List Byte} (hmode : h.get F.BRANCH.MODE n ≠ 0) :
    let g := (h.add F.BRANCH.RX_COUNT n 1).drainCan n
    (g.farBus n).job = none → g.branchRoom = true → (g.farBus n).rxFifo = [] →
    h.canReceived n addr data false = g.canFrame n addr data g.clk := by
  intro g hjob hroom hfifo
  rw [Hub.canReceived, if_neg (by simpa using hmode)]
  simp [g, hjob, hroom, hfifo]

/-- The hub that a CAN interface's new error state leaves before what follows it: the state and its counters stand, and notice 304 and an EVENT
tell of them (R433, R436). -/
def Hub.canStateTold (h : Hub) (n st tec rec_ : Nat) : Hub :=
  ((((h.set F.BRANCH.CAN_STATE n st).set F.BRANCH.TEC n tec).set F.BRANCH.REC n rec_).branchNotice n 304
    (n + st * 2 ^ 4 + tec % 256 * 2 ^ 8 + rec_ % 256 * 2 ^ 16)).farEvent n 3 (st + tec % 256 * 2 ^ 8 + rec_ % 256 * 2 ^ 16)

/-- A report of the present error state sets the counters alone (R433). -/
theorem Hub.canState_same {st tec rec_ : Nat} (hst : h.get F.BRANCH.CAN_STATE n = st) :
    h.canState n st tec rec_ = ((h.set F.BRANCH.CAN_STATE n st).set F.BRANCH.TEC n tec).set F.BRANCH.REC n rec_ :=
  if_pos (by simp [hst])

/-- An interface may leave its error state: it is not bus-off, or AUTO_RECOVER is set (R435). -/
theorem Hub.canState_mayLeave (hleave : h.get F.BRANCH.CAN_STATE n ≠ 2 ∨ h.on F.BRANCH.AUTO_RECOVER n = true) :
    ¬ (h.get F.BRANCH.CAN_STATE n == 2 && !h.on F.BRANCH.AUTO_RECOVER n) = true := by
  simp only [Bool.and_eq_true, beq_iff_eq, Bool.not_eq_true', not_and, Bool.not_eq_false]
  exact fun hoff => hleave.resolve_left (not_not_intro hoff)

section
variable {st tec rec_ : Nat} (hst : h.get F.BRANCH.CAN_STATE n ≠ st)
  (hleave : h.get F.BRANCH.CAN_STATE n ≠ 2 ∨ h.on F.BRANCH.AUTO_RECOVER n = true)
include hst hleave

/-- An interface that changes to an error state other than bus-off goes on with its next work (R435). -/
theorem Hub.canState_active (hnew : st ≠ 2) : h.canState n st tec rec_ = (h.canStateTold n st tec rec_).farNext n :=
  (if_neg (by simpa using hst)).trans ((if_neg (Hub.canState_mayLeave hleave)).trans (if_pos (by simpa using hnew)))

/-- An interface without a transaction in progress that goes bus-off drops what waits for its bus (R435, R436). -/
theorem Hub.canState_busOff (hnew : st = 2) (hjob : ((h.canStateTold n st tec rec_).farBus n).job = none) :
    h.canState n st tec rec_ = (h.canStateTold n st tec rec_).busFault n := by
  rw [Hub.canStateTold] at hjob ⊢
  rw [Hub.canState, if_neg (by simpa using hst), if_neg (Hub.canState_mayLeave hleave), if_neg (by simpa using hnew), hjob]

end

end

/-- Settles O50, a command a line, as O49. -/
theorem branchMessagesAndTimersAct : Obligations.BranchMessagesAndTimersAct := by
  intro q h hm
  exact ⟨fun l slot msg hl hslot hw => show execAccess l slot msg _ = _ from
      actIf_eq (decide_eq_true ⟨hl, hslot⟩) hm (Hub.fromBranch_taken hw),
    fun l slot msg hl hslot hw => show execSignalSet l slot msg _ = _ from
      actIf_eq (decide_eq_true ⟨hl, hslot⟩) hm (Hub.fromBranch_taken hw),
    fun l slot msg hl hslot hw => show execTargetReply l slot msg _ = _ from
      actIf_eq (decide_eq_true ⟨hl, hslot⟩) hm (Hub.fromBranch_taken hw),
    fun n d hn hd => show execFarBusLockTimeout n _ = _ from actIf_eq (decide_eq_true hn) hm (Hub.expire_eq hd rfl),
    fun n status cause pieces data a hn hjob h5 hread hstatus => show execBranchTransactionDone n status cause pieces data _ = _ from
      actIf_eq (decide_eq_true hn) hm (Hub.transactionDone_wrote hjob h5 hread hstatus),
    fun n addr data hn hmode => show execCanFrameReceived n addr data true _ = _ from
      actIf_eq (decide_eq_true hn) hm (Hub.canReceived_remote hmode),
    fun n addr data hn hmode hjob hroom hfifo => show execCanFrameReceived n addr data false _ = _ from
      actIf_eq (decide_eq_true hn) hm (Hub.canReceived_taken hmode hjob hroom hfifo),
    fun n st tec rec_ hn hst => show execCanErrorState n st tec rec_ _ = _ from
      actIf_eq (decide_eq_true hn) hm (Hub.canState_same hst),
    fun n st tec rec_ hn hst hleave hnew => show execCanErrorState n st tec rec_ _ = _ from
      actIf_eq (decide_eq_true hn) hm (Hub.canState_active hst hleave hnew),
    fun n st tec rec_ hn hst hleave hnew hjob => show execCanErrorState n st tec rec_ _ = _ from
      actIf_eq (decide_eq_true hn) hm (Hub.canState_busOff hst hleave hnew hjob),
    fun n frame d hn hframe hd => show execCanTxPeriod n frame _ = _ from
      actIf_eq (decide_eq_true ⟨hn, hframe⟩) hm (Hub.expire_eq hd rfl),
    fun entry d hentry hd => show execI2cPoll entry _ = _ from actIf_eq (decide_eq_true hentry) hm (Hub.expire_eq hd rfl),
    fun l slot d hl hslot hd => show execSignalsFlushTimer l slot _ = _ from
      actIf_eq (decide_eq_true ⟨hl, hslot⟩) hm (Hub.expire_eq hd rfl),
    fun levels => show execGpioEdge levels _ = _ from act_eq hm rfl,
    fun n reg data h2 h4 hreg htarget => show execI2cTargetWrite n reg data _ = _ from
      actIf_eq (decide_eq_true ⟨h2, h4, hreg⟩) hm (if_pos htarget),
    fun n reg len h2 h4 hreg htarget => show execI2cTargetRead n reg len _ = _ from
      actIf_eq (decide_eq_true ⟨h2, h4, hreg⟩) hm (if_pos htarget),
    fun n reg d h2 h4 hreg hd => show execTargetReplyTimeout n reg _ = _ from
      actIf_eq (decide_eq_true ⟨h2, h4, hreg⟩) hm (Hub.expire_eq hd rfl),
    fun n reg d h2 h4 hreg hd => show execSplitHoldExpiry n reg _ = _ from
      actIf_eq (decide_eq_true ⟨h2, h4, hreg⟩) hm (Hub.expire_eq hd rfl),
    fun n recovered d h2 h4 hd => show execI2cRecoveryRetry n recovered _ = _ from
      actIf_eq (decide_eq_true ⟨h2, h4⟩) hm (Hub.expire_eq hd rfl)⟩

end Sys2Proof.Machine
end

section
/-! SUPPORT and the obligation O52. What a SETUP of a legacy pair, its bus signals and its wakes do where their occasion stands. -/

namespace Sys2Proof.Machine

section
variable {h : Hub} {l : Nat}

/-! ### Control requests (R463) -/

/-- The commands of the requests that each have one of their own, each with what names it in a SETUP. -/
noncomputable def legacyRequestCommands (l fn : Nat) (setup : List Byte) : List (Instr × Bool) :=
  [(.getStatus l fn setup, isRequest setup 0 (fn == 0)), (.clearFeature l fn setup, isRequest setup 1 (fn == 0)),
    (.setFeature l fn setup, isRequest setup 3 (fn == 0)), (.setAddress l fn setup, isRequest setup 5 false),
    (.getDescriptor l fn setup, isRequest setup 6 (fn == 0)), (.getConfiguration l fn setup, isRequest setup 8 false),
    (.setConfiguration l fn setup, isRequest setup 9 false), (.getInterface l fn setup, isRequest setup 10 false),
    (.setInterface l fn setup, isRequest setup 11 false),
    (.clearTtBuffer l fn setup, fn == 0 && byteAt setup 0 == 0x23 && byteAt setup 1 == 8),
    (.resetTt l fn setup, fn == 0 && byteAt setup 0 == 0x23 && byteAt setup 1 == 9)]

/-- Each of these commands is the same control request, under its own name. -/
theorem exec_legacyRequestCommands (l fn : Nat) (setup : List Byte) (s : State) : ∀ x ∈ legacyRequestCommands l fn setup,
    exec x.1 s = actIf (decide (l < 4)) s (fun h => h.legacyRequest l fn setup [] x.2) := by
  simp only [legacyRequestCommands, List.forall_mem_cons]
  exact ⟨rfl, rfl, rfl, rfl, rfl, rfl, rfl, rfl, rfl, rfl, rfl, List.forall_mem_nil _⟩

/-- A named SETUP of a running port is counted, and its function answers it. -/
theorem Hub.legacyRequest_answered {fn : Nat} {setup : List Byte} {named : Bool} (data : List Byte) (h0 : h.get F.LEGACY.STATE l ≠ 0)
    (h4 : h.get F.LEGACY.STATE l ≠ 4) (hfn : fn ≤ 2) (hlen : setup.length = 8) (hnamed : named = true) :
    h.legacyRequest l fn setup data named =
      ((h.add F.LEGACY.SETUPS l 1).fnRequest l 2 fn setup data).1.legacyAnswer l fn ((h.add F.LEGACY.SETUPS l 1).fnRequest l 2 fn setup data).2 :=
  if_neg (by simp [h0, h4, hfn, hlen, hnamed])

/-! ### Suspend, resume and wake (R457, R465) -/

/-- A running bus that goes to suspend keeps the state it leaves. -/
theorem execLegacySuspend_running (q : List Instr) (hm : h.mainUp = true) (hl : l < 4) (h0 : h.get F.LEGACY.STATE l ≠ 0)
    (h4 : h.get F.LEGACY.STATE l ≠ 4) : execLegacySuspend l ⟨h, q⟩ =
      .next ⟨((h.modVhub l 2 (fun v => { v with before := h.get F.LEGACY.STATE l })).legacyState l 4).busSuspend l 2, q⟩ :=
  actIf_eq (decide_eq_true hl) hm (if_neg (by simp [h0, h4]))

/-- A suspended bus resumes into the state it left. -/
theorem Hub.legacyResume_suspended (h4 : h.get F.LEGACY.STATE l = 4) :
    h.legacyResume l = ((h.legacyState l (h.vhub l 2).before).disarm T.legacyWake l).busResume l 2 :=
  if_neg (by simp [h4])

/-- With no wake waiting, a resume takes none over. -/
theorem Hub.legacyMerge_none (hd : h.due T.legacyWake l = none) : h.legacyMerge l = h :=
  if_neg (by simp [hd])

/-- A resume of the host's takes over the wake that waits. -/
theorem Hub.legacyMerge_waiting {d : Nat} (hd : h.due T.legacyWake l = some d) :
    h.legacyMerge l = ((h.disarm T.legacyWake l).add F.LEGACY.WAKES_MERGED l 1).notify (370 + 4 * l) 0 :=
  if_pos (by simp [hd])

/-- 5 ms into suspend the wake that waits is driven, counted and told of. -/
theorem execLegacyWakeSignal_driven {d : Nat} (q : List Instr) (hm : h.mainUp = true) (hl : l < 4) (hd : h.due T.legacyWake l = some d) :
    execLegacyWakeSignal l false ⟨h, q⟩ =
      .next ⟨(((h.expiredAt T.legacyWake l d).emit .legacy l [2]).add F.LEGACY.WAKES l 1).notify (370 + 4 * l) 1, q⟩ :=
  actIf_eq (decide_eq_true hl) hm ((if_neg Bool.false_ne_true).trans (Hub.expire_eq hd rfl))

/-- The host's resume comes before the wake that waits is driven. -/
theorem execLegacyWakeSignal_hostFirst {d : Nat} (q : List Instr) (hm : h.mainUp = true) (hl : l < 4) (hd : h.due T.legacyWake l = some d) :
    execLegacyWakeSignal l true ⟨h, q⟩ =
      .next ⟨(((h.disarm T.legacyWake l).add F.LEGACY.WAKES_MERGED l 1).notify (370 + 4 * l) 0).legacyResume l, q⟩ :=
  actIf_eq (decide_eq_true hl) hm
    (((if_pos rfl).trans (if_pos (by simp [hd]))).trans (congrArg (·.legacyResume l) (Hub.legacyMerge_waiting hd)))

/-- The idle time of a context that is up, or held, resets it. -/
theorem execLegacyIdleReset_idle {d : Nat} (q : List Instr) (hm : h.mainUp = true) (hl : l < 4) (hd : h.due T.legacyIdle l = some d)
    (hup : (h.expiredAt T.legacyIdle l d).up l = true ∨ (h.expiredAt T.legacyIdle l d).get F.CONTEXT.STATE l = 2) :
    execLegacyIdleReset l ⟨h, q⟩ = .next ⟨(h.expiredAt T.legacyIdle l d).resetContext l 3, q⟩ :=
  actIf_eq (decide_eq_true hl) hm (Hub.expire_eq hd (if_pos (by simpa using hup)))

end

/-- Settles O52, a command a line; every request with a command of its own comes down to `exec_legacyRequestCommands`. -/
theorem legacyInterfaceAnswers : Obligations.LegacyInterfaceAnswers := by
  intro q h hm
  exact ⟨fun l fn setup data hl h0 h4 hfn hlen =>
      ⟨fun hown => show execUnsupportedRequest l fn setup data _ = _ from
        actIf_eq (decide_eq_true hl) hm (Hub.legacyRequest_answered data h0 h4 hfn hlen (congrArg not hown)),
      fun i named hi hnamed => (exec_legacyRequestCommands l fn setup ⟨h, q⟩ (i, named) hi).trans
        (actIf_eq (decide_eq_true hl) hm (Hub.legacyRequest_answered [] h0 h4 hfn hlen hnamed))⟩,
    fun l stage speed outCut inCut hl _ => show execLegacyBusReset l stage speed outCut inCut _ = _ from actIf_eq (decide_eq_true hl) hm rfl,
    fun l hl h0 h4 => show execLegacySuspend l _ = _ from execLegacySuspend_running q hm hl h0 h4,
    fun l hl hd h4 => show execLegacyResume l _ = _ from
      actIf_eq (decide_eq_true hl) hm ((congrArg (·.legacyResume l) (Hub.legacyMerge_none hd)).trans (Hub.legacyResume_suspended h4)),
    fun l d hl hd => show execLegacyWakeSignal l false _ = _ from execLegacyWakeSignal_driven q hm hl hd,
    fun l d hl hd => show execLegacyWakeSignal l true _ = _ from execLegacyWakeSignal_hostFirst q hm hl hd,
    fun l d hl hd hup => show execLegacyIdleReset l _ = _ from execLegacyIdleReset_idle q hm hl hd hup⟩

end Sys2Proof.Machine
end

section
/-! SUPPORT and the obligation O53. What a keyslot operation, the tamper pin, a piece in flash, an image's age and link firmware that waits for a
landing do where their occasion stands. -/

namespace Sys2Proof.Machine

section
variable {h : Hub}

/-! ### Keyslots and tamper (R513, R515) -/

/-- A KIND 5 slot's operation ends with the HMAC of its input in OUTPUT (R513). -/
theorem Hub.keyslotOpDone_hmac {k : Nat} (hkind : h.get F.KEYSLOT.KIND k = 5) :
    h.keyslotOpDone k =
      ((h.setBytes F.KEYSLOT.OUTPUT k 6 (hmac (h.slotKey k) (h.keyInputs.read (fun _ => []) k))).add F.KEYSLOT.OPS k 1).keyslotDone k 2 :=
  congrArg (fun g : Hub => (g.add F.KEYSLOT.OPS k 1).keyslotDone k 2) (if_pos (by simp [hkind]))

/-- A slot of any other kind ends its operation with the signature of its input in OUTPUT (R513). -/
theorem Hub.keyslotOpDone_signature {k : Nat} (hkind : h.get F.KEYSLOT.KIND k ≠ 5) :
    h.keyslotOpDone k =
      ((h.setBytes F.KEYSLOT.OUTPUT k 12 (beBytes 96 (Config.ecdsaSign (h.slotScalar k) (h.keyInputs.read (fun _ => []) k)).toNat)).add
        F.KEYSLOT.OPS k 1).keyslotDone k 2 :=
  congrArg (fun g : Hub => (g.add F.KEYSLOT.OPS k 1).keyslotDone k 2) (if_neg (by simp [hkind]))

/-- The hub as a low TAMPER_N leaves its pin, latch and count (R515). -/
def Hub.tamperLatched (h : Hub) : Hub := (({ h with tamperLow := true }).set F.KEYSLOT.TAMPER_LATCH 0 1).add F.KEYSLOT.TAMPER_COUNT 0 1

/-- A tamper event with the main die down is latched, and kept for the next start (R515, log entry 55). -/
theorem Hub.tamper_unpowered (hm : h.mainUp = false) : h.tamper true = { h.tamperLatched with tamperUnpowered := true } := by
  have hdown : (!h.tamperLatched.mainUp) = true := by simp [Hub.tamperLatched, hm]
  exact (if_neg (by decide)).trans (if_pos hdown)

/-- A tamper event with the main die up is latched, zeroizes the keys, ends the sessions and is told of by notice 472 (R515). -/
theorem Hub.tamper_powered (hm : h.mainUp = true) :
    h.tamper true = (h.tamperLatched.zeroize.dropSessions 6 2).notify 472 (h.tamperLatched.get F.KEYSLOT.TAMPER_COUNT 0 * 2 ^ 32) := by
  have hup : ¬ (!h.tamperLatched.mainUp) = true := by simp [Hub.tamperLatched, hm]
  exact (if_neg (by decide)).trans (if_neg hup)

/-! ### Pieces and the age of an image (R530, R531) -/

/-- After a piece written to flash outside recovery, nothing restarts (R530, R589). -/
theorem execPieceProgrammed_outsideRecovery {p : Nat} (ok : Bool) (q : List Instr) (hm : h.mainUp = true) (hp : p < 5)
    (hstart : (h.pieceProgrammed p ok).get F.SYSTEM.START_STATE 0 ≠ 4) :
    execPieceProgrammed p ok ⟨h, q⟩ = .next ⟨h.pieceProgrammed p ok, q⟩ :=
  actIf_eq (decide_eq_true hp) hm (if_neg (by simp [hstart]))

section
variable {p : Nat} (hstaged : (h.part p).staged ≠ []) (hunready : (h.part p).ready = false)
include hstaged hunready

/-- A part holds an image whose pieces are still to come. -/
theorem Hub.part_incomplete : ¬ ((h.part p).staged.isEmpty || (h.part p).ready) = true := by
  simp [hstaged, hunready]

/-- An incomplete image 30 days without a piece is discarded (R531). -/
theorem Hub.updateAged_old (hold : ((30 * 86400 * sec : Nat) : Int) ≤ h.inactive p) : h.updateAged p = h.discardImage p 3 :=
  (if_neg (Hub.part_incomplete hstaged hunready)).trans (if_pos hold)

/-- A younger incomplete image is discarded when its timer expires with the 30 days over (R531). -/
theorem Hub.updateAged_expired {d : Nat} (hyoung : h.inactive p < ((30 * 86400 * sec : Nat) : Int)) (hd : h.due T.updateAge p = some d)
    (hold : ((30 * 86400 * sec : Nat) : Int) ≤ (h.expiredAt T.updateAge p d).inactive p) :
    h.updateAged p = (h.expiredAt T.updateAge p d).discardImage p 3 :=
  (if_neg (Hub.part_incomplete hstaged hunready)).trans ((if_neg (not_le.mpr hyoung)).trans (Hub.expire_eq hd (if_pos hold)))

end

/-! ### Link firmware that waits for a landing (R410, R535) -/

/-- A notice leaves the state of every landing. -/
theorem Hub.lState_notify (h : Hub) {src l : Nat} (payload : Nat) (hs : src < 512) (hl : l < 2 ^ 16) : (h.notify src payload).lState l = h.lState l :=
  h.get_raise hs payload _ _ (by decide) hl (by decide) (by decide)

/-- The end of a deferral with no request old any more and the landing not ACTIVE: the deferral's time is told by notice 283, and no HOLD
starts (R410, log entry 58). -/
theorem Hub.holdDeferEnd_inactive {l : Nat} (hl : l < 4) (hwaits : h.lkfWaits l 2 = true) (hnone : h.oldRequest l = false)
    (hstate : h.lState l ≠ 5) :
    let start := (h.due T.holdDefer l).getD h.now - 30 * msec
    h.holdDeferEnd l = ((h.disarm T.holdDefer l).notify 283 (l + min ((h.now - start) / usec) 65535 * 2 ^ 16)).modActivation
      (fun a => { a with phase := 0 }) := by
  intro start
  have hkept : ((h.disarm T.holdDefer l).notify 283 (l + min ((h.now - start) / usec) 65535 * 2 ^ 16)).lState l ≠ 5 := by
    rwa [Hub.lState_notify _ _ (by decide) (by omega)]
  exact (if_neg (by simp [hwaits])).trans ((if_pos (by simp [hnone])).trans (if_neg fun h5 => hkept (beq_iff_eq.mp h5)))

end

/-- Settles O53, a command a line: where its occasion stands (`act_eq`, `actIf_eq`, `actAny_eq`, `Hub.expire_eq`) and the effect it has there. -/
theorem keysTamperAndUpdatesAct : Obligations.KeysTamperAndUpdatesAct := by
  intro q h
  refine ⟨fun hm => ?_, show execTamperEvent false _ = _ from actAny_eq rfl,
    fun hm => show execTamperEvent true _ = _ from actAny_eq (Hub.tamper_unpowered hm),
    fun hm => show execTamperEvent true _ = _ from actAny_eq (Hub.tamper_powered hm)⟩
  exact ⟨fun test => show execRngFault test _ = _ from act_eq hm rfl,
    show execRngRecovered _ = _ from act_eq hm rfl,
    fun k d hk hd hkind => show execKeyslotOpDone k _ = _ from
      actIf_eq (decide_eq_true hk) hm (Hub.expire_eq hd (Hub.keyslotOpDone_hmac hkind)),
    fun k d hk hd hkind => show execKeyslotOpDone k _ = _ from
      actIf_eq (decide_eq_true hk) hm (Hub.expire_eq hd (Hub.keyslotOpDone_signature hkind)),
    fun p ok hp _ hstart => show execPieceProgrammed p ok _ = _ from execPieceProgrammed_outsideRecovery ok q hm hp hstart,
    fun p hp hstaged hunready hold => show execUpdateAgeDiscard p _ = _ from
      actIf_eq (decide_eq_true hp) hm (Hub.updateAged_old hstaged hunready hold),
    fun p d hp hstaged hunready hyoung hd hold => show execUpdateAgeDiscard p _ = _ from
      actIf_eq (decide_eq_true hp) hm (Hub.updateAged_expired hstaged hunready hyoung hd hold),
    fun us => show execActivationStepDone us _ = _ from act_eq hm rfl,
    fun d hd => show execAutoConfirmExpiry _ = _ from act_eq hm (Hub.expire_eq hd rfl),
    fun l hl hwaits hnone hstate => show execHoldDeferEnd l _ = _ from
      actIf_eq (decide_eq_true hl) hm (Hub.holdDeferEnd_inactive hl hwaits hnone hstate),
    fun l d hl hwaits hd => show execLkfLandingAwaitExpiry l _ = _ from
      actIf_eq (decide_eq_true hl) hm ((if_pos hwaits).trans (Hub.expire_eq hd rfl)),
    show execPoweredTimeUpdate _ = _ from act_eq hm rfl⟩

end Sys2Proof.Machine
end

section
/-! SUPPORT and the obligations O1 and O5. The step on a waiting command, and what the main die being down holds back. -/

namespace Sys2Proof.Machine

/-- Settles O1. -/
theorem stepCarriesOutFrontCommand : Obligations.StepCarriesOutFrontCommand := by
  intro c rest s hs
  simp only [step, hs]

/-- Every arm of the dispatch but those carried out beside the main die leaves the hub as it is while the main die is down: it ends in act or
actIf. -/
theorem exec_answer_gated (i : Instr) (s : State) :
    ∃ h, exec i s = s.answer i.inRange (if besideMainDie i || s.hub.mainUp then h else s.hub) := by
  cases i
  case authTimeout ch | helloMessage ch _ | manifestMessage ch _ | peekMessage ch _ | attestReq ch _ | updatePiece ch _ | updateAbort ch _ |
      authInit ch _ _ _ | authProof ch _ _ _ | authGo ch _ _ _ | authAbort ch _ _ _ =>
    cases ch <;> exact ⟨_, rfl⟩
  all_goals exact ⟨_, rfl⟩

/-- Settles O5: with the main die down, what the command answers is the state it found (`exec_answer_gated`). -/
theorem mainDieDownHoldsItsCommands : Obligations.MainDieDownHoldsItsCommands := by
  intro i s hdown hreal hmain
  obtain ⟨h, he⟩ := exec_answer_gated i s
  simpa [State.answer, hdown, hreal, hmain] using he

end Sys2Proof.Machine
end

section
/-! SUPPORT and the obligation O59. The commands that end a time, and what they do where that time does not run. -/

namespace Sys2Proof.Machine

/-- A command that ends a time of the main die changes nothing where that time does not run. -/
theorem actIf_expire_idle {s : State} {b : Bool} {kind inst : Nat} {f : Hub → Hub} (hb : b = true) (hd : s.hub.due kind inst = none) :
    actIf b s (fun h => h.expire kind inst f) = .next s := by
  simp [actIf, act, hb, Hub.expire_idle _ _ _ f hd]

/-- The end of a time of the feed die that does not run changes nothing. -/
theorem Hub.feedExpire_idle {h : Hub} {kind inst : Nat} {f : Hub → Hub} (hd : h.feedDue kind inst = none) : h.feedExpire kind inst f = h := by
  rw [Hub.feedExpire, hd]

/-- The commands that are each the end of one time of the main die, with the kind and object of that time. -/
noncomputable def timeEnds (n m outcome speed refusal vid pid cls : Nat) (b : Bool) : List (Instr × Nat × Nat) :=
  [(.standingTokenTimeout, T.standingToken, 0), (.k0WindowEnd, T.k0Window, 0),
    (.paceBelowFloor, T.paceLow, 0), (.yardFlush n m, T.flush, unitKey n m), (.incastTimer n, T.incast, n),
    (.backpressureTimer n, T.backpressure, n), (.learnAgeExpiry n, T.learnAge, n),
    (.pauseHonourResume n, T.pauseQuiet, n), (.stormWindow n, T.storm, n), (.dpTrainRetry n, T.dpRetry, n), (.syncLossTimeout, T.syncLoss, 0),
    (.cuePulseEnd n, T.cueEnd, n), (.ppsPulseEnd, T.ppsEnd, 0), (.slotPerstRelease n, T.slotPerst, n), (.slotTrainTimeout n, T.slotTrain, n),
    (.handoverDrainEnd n, T.handDrain, n), (.handoverPerstEnd n, T.handPerst, n), (.farBusLockTimeout n, T.busLock, n),
    (.canTxPeriod n m, T.canTx, 16 * n + m), (.i2cPoll n, T.farPoll, n), (.signalsFlushTimer n m, T.signals, tunnelOf n m),
    (.targetReplyTimeout n m, T.targetReply, 256 * n + m), (.splitHoldExpiry n m, T.splitHold, 256 * n + m),
    (.i2cRecoveryRetry n b, T.busRecovery, n), (.usbPowered n, T.usbPower, n), (.usbBounceHoldEnd n, T.usbBounce, n),
    (.usbResetDone n outcome speed refusal vid pid cls, T.usbReset, n), (.usbResumeDone n, T.usbResume, n), (.legacyIdleReset n, T.legacyIdle, n),
    (.keyslotOpDone n, T.keyOp, n), (.autoConfirmExpiry, T.autoConfirm, 0),
    (.ledgerReread n b, T.ledgerReread, n), (.vcoreRampDone, T.vcoreRamp, 0), (.thermalShutdown n, T.shutdown, n),
    (.heldContextExpiry n, T.heldContext, n), (.depotSelfRefreshReturn, T.selfRefresh, 0), (.followUpTimeout n, T.followUp, n)]

/-- Each of these commands, on the object it names, is the expiry of its time with an effect of its own. -/
theorem exec_timeEnds (n m outcome speed refusal vid pid cls : Nat) (b : Bool) (s : State) :
    ∀ x ∈ timeEnds n m outcome speed refusal vid pid cls b,
      ∃ f, exec x.1 s = actIf x.1.inRange s (fun h => h.expire x.2.1 x.2.2 f) := by
  simp only [timeEnds, List.forall_mem_cons, List.not_mem_nil, false_imp_iff, implies_true, and_true]
  and_intros
  all_goals exact ⟨_, rfl⟩

/-- Settles O59: each command is the expiry of a time (`exec_timeEnds`), and one that does not run has none. -/
theorem timersNotRunningChangeNothing : Obligations.TimersNotRunningChangeNothing := by
  refine ⟨fun s n m outcome speed refusal vid pid cls b i kind inst hmem hreal hd => ?_,
    fun s n hn hd => show execPauseWatchdogExpiry n s = _ from actIf_expire_idle (decide_eq_true hn) hd,
    fun s hd => show execFeedLinkHoldEntry s = _ from actAny_eq (Hub.feedExpire_idle hd),
    fun s l hl hd => show execPowerReduceTimeout l s = _ from actAnyIf_eq (decide_eq_true hl) (Hub.feedExpire_idle hd)⟩
  obtain ⟨f, hf⟩ := exec_timeEnds n m outcome speed refusal vid pid cls b s (i, kind, inst) hmem
  rw [hf]
  exact actIf_expire_idle hreal hd

end Sys2Proof.Machine
end

section
/-! SUPPORT and the obligation O56. What the button, the wake sources, the rails, the resets and VWAKE do where their occasion stands. -/

namespace Sys2Proof.Machine

section
variable {h : Hub}

/-! ### Standby and its ends (R569, R570, R571) -/

/-- A wake source whose bit is set ends Desk Standby (R569). -/
theorem Hub.wakeBy_desk {source : Nat} (hbit : bitB (h.get F.SYSTEM.WAKE_SOURCES 0) source = true) (hp : h.get F.SYSTEM.POWER_STATE 0 = 1) :
    h.wakeBy source = h.deskLeave 3 (2 ^ source) := by
  rw [Hub.wakeBy, if_neg (by simp [hbit]), if_pos (by simp [hp])]

/-- A wake source whose bit is set cancels an entry into Deep Standby that still waits for its 100 ms (R570). -/
theorem Hub.wakeBy_deepEntry {source d : Nat} (hbit : bitB (h.get F.SYSTEM.WAKE_SOURCES 0) source = true)
    (hp : h.get F.SYSTEM.POWER_STATE 0 = 2) (hd : h.due T.deepEntry 0 = some d) :
    h.wakeBy source =
      ((((h.disarm T.deepEntry 0).set F.SYSTEM.POWER_STATE 0 0).set F.SYSTEM.POWER_TARGET 0 0).powerNotice 0 2 3 (2 ^ source)).deskResumes := by
  rw [Hub.wakeBy, if_neg (by simp [hbit]), if_neg (by simp [hp]), if_pos (by simp [hp, hd])]

/-- The button begins an entry into Deep Standby, unless one is under way (R570). -/
theorem Hub.deepEnter_button (hp : h.get F.SYSTEM.POWER_STATE 0 ≠ 2) :
    h.deepEnter 4 = (({ h with deepWanted := false }.set F.SYSTEM.POWER_STATE 0 2).powerNotice 2 (h.get F.SYSTEM.POWER_STATE 0) 4 0).arm
      T.deepEntry 0 (100 * msec) :=
  (if_neg (by simpa using hp)).trans (if_neg (by simp))

/-- A press of 50 ms to 4 s wakes a device whose main die runs, and notice 510 carries its length (R569, R591). -/
theorem execPwrbtnPress_up {ms : Nat} (q : List Instr) (hlong : 50 ≤ ms) (hshort : ms ≤ 4000) (hm : h.mainUp = true) :
    execPwrbtnPress ms ⟨h, q⟩ = .next ⟨(h.wakeBy 5).notify 510 ms, q⟩ :=
  actAny_eq ((if_neg (not_lt.mpr hlong)).trans ((if_pos hm).trans (if_pos hshort)))

/-- A press of at least 50 ms starts the rails of a device whose main die is down (R571). -/
theorem execPwrbtnPress_down {ms : Nat} (q : List Instr) (hlong : 50 ≤ ms) (hm : h.mainUp = false) :
    execPwrbtnPress ms ⟨h, q⟩ = .next ⟨h.startRails 6, q⟩ :=
  actAny_eq ((if_neg (not_lt.mpr hlong)).trans (if_neg (by simp [hm])))

/-! ### Rails (R571–R573) -/

/-- A step of the sequence completes and the next begins; step 6 waits for F15 to be GOOD (R572). -/
theorem Hub.railComplete_next (h1 : 1 ≤ h.island.step) (h8 : h.island.step < 8)
    (hf15 : h.island.step = 6 → h.get F.FEED.STATE 15 = 3) : h.railComplete = h.railStep (h.island.step + 1) := by
  refine (if_neg ?_).trans (if_pos h8)
  simp only [Bool.or_eq_true, Bool.and_eq_true, beq_iff_eq, bne_iff_ne, decide_eq_true_eq]
  rintro ((h0 | h9) | ⟨h6, hbad⟩)
  · omega
  · omega
  · exact hbad (hf15 h6)

/-- The last step completes: power-good, and the main die leaves reset (R572). -/
theorem Hub.railComplete_last (h8 : h.island.step = 8) :
    h.railComplete = ((h.modIsland (fun i => { i with step := 9, tries := 0 })).boardPin 5 false).dieRelease h.island.cause :=
  (if_neg (by simp [h8])).trans (if_neg (by simp [h8]))

/-- A step from 2 to 7 that takes too long fails the sequence (R573). -/
theorem execRailStepTimeout_fails (q : List Instr) (h2 : 2 ≤ h.island.step) (h7 : h.island.step ≤ 7) :
    execRailStepTimeout ⟨h, q⟩ = .next ⟨h.railsFail 0, q⟩ :=
  actAny_eq (if_pos (by simp [h2, h7]))

/-- A failed sequence is tried again 1 s later, from step 2 (R573). -/
theorem execRailSequenceRetry_begins (q : List Instr) (h0 : h.island.step = 0) (hr : h.island.retrying = true) :
    execRailSequenceRetry ⟨h, q⟩ = .next
      ⟨((h.feedAdvance (h.feedNow + sec)).modIsland (fun i => { i with retrying := false })).railStep 2, q⟩ :=
  actAny_eq (if_pos (by simp [h0, hr]))

/-- A rail lost by a device that runs fails the rails (R573). -/
theorem execRailLost_running (q : List Instr) (h9 : h.island.step = 9) : execRailLost ⟨h, q⟩ = .next ⟨h.railsFail 1, q⟩ :=
  actAny_eq (if_pos (by simp [h9]))

/-- VHV starts the sequence with AUTO_START, where nothing keeps the device in Deep Standby (R571). -/
theorem execVhvRise_starts (q : List Instr) (hauto : h.on F.SYSTEM.AUTO_START 0 = true) (horder : h.island.byOrder = false)
    (hbar : h.island.barred = false) (hr : h.island.retrying = false) : execVhvRise ⟨h, q⟩ = .next ⟨h.startRails 1, q⟩ :=
  actAny_eq (if_pos (by simp [hauto, horder, hbar, hr]))

/-- VHV lost by a device that runs takes it to Deep Standby (R571). -/
theorem execVhvLoss_running (q : List Instr) (h9 : h.island.step = 9) : execVhvLoss ⟨h, q⟩ = .next ⟨h.deepDown false, q⟩ :=
  actAny_eq (if_pos (by simp [h9]))

/-- VHV lost in the sequence fails the step (R573). -/
theorem execVhvLoss_starting (q : List Instr) (h2 : 2 ≤ h.island.step) (h9 : h.island.step ≠ 9) :
    execVhvLoss ⟨h, q⟩ = .next ⟨h.railsFail 0, q⟩ :=
  actAny_eq ((if_neg (by simp [h9])).trans (if_pos h2))

/-! ### RESET_N (R580) -/

/-- RESET_N released lets the main die start that it held down, the rails being up (R580). -/
theorem execResetNRelease_starts (q : List Instr) :
    let g := h.modIsland (fun i => { i with resetLow := false })
    h.island.resetLow = true → g.island.step = 9 → g.mainUp = false → execResetNRelease ⟨h, q⟩ = .next ⟨g.dieRelease h.island.cause, q⟩ := by
  intro g hlow h9 hdown
  exact actAny_eq (if_pos (by simp [g, hlow, h9, hdown]))

end

/-- Settles O56, a command a line: where its occasion stands (`act_eq`, `actIf_eq`, `actAny_eq`, `Hub.expire_eq`) and the effect it has there. -/
theorem powerAndStartSequence : Obligations.PowerAndStartSequence := by
  intro q h
  refine ⟨fun hm => ?_,
    fun ms hlong hshort hm => show execPwrbtnPress ms _ = _ from execPwrbtnPress_up q hlong hshort hm,
    fun ms hlong hm => show execPwrbtnPress ms _ = _ from execPwrbtnPress_down q hlong hm,
    fun l hl hwake => show execSidebandWakePulse l _ = _ from actAnyIf_eq (decide_eq_true hl) (if_pos hwake),
    fun hauto horder hbar hr => show execVhvRise _ = _ from execVhvRise_starts q hauto horder hbar hr,
    fun h9 => show execVhvLoss _ = _ from execVhvLoss_running q h9,
    fun h2 h9 => show execVhvLoss _ = _ from execVhvLoss_starting q h2 h9,
    fun h1 h8 hf15 => show execRailStepComplete _ = _ from actAny_eq (Hub.railComplete_next h1 h8 hf15),
    fun h8 => show execRailStepComplete _ = _ from actAny_eq (Hub.railComplete_last h8),
    fun h2 h7 => show execRailStepTimeout _ = _ from execRailStepTimeout_fails q h2 h7,
    fun h0 hr => show execRailSequenceRetry _ = _ from execRailSequenceRetry_begins q h0 hr,
    fun h9 => show execRailLost _ = _ from execRailLost_running q h9,
    fun hm => show execResetN _ = _ from actAny_eq (if_pos hm),
    fun hm => show execResetN _ = _ from actAny_eq (if_neg (by simp [hm])),
    fun hlow h9 hdown => show execResetNRelease _ = _ from execResetNRelease_starts q hlow h9 hdown,
    show execPmfWatchdog _ = _ from actAny_eq rfl,
    show execVwakeLoss _ = _ from actAny_eq rfl,
    fun hv => show execVwakeFirstApplied _ = _ from actAny_eq (if_pos hv),
    fun hv => show execVwakeFirstApplied _ = _ from actAny_eq (if_neg (by simp [hv]))⟩
  exact ⟨fun d hd => show execStandbyIdleExpiry _ = _ from act_eq hm (Hub.expire_eq hd rfl),
    fun source hs hbit hp => show execDeskStandbyWake source _ = _ from actIf_eq (decide_eq_true hs) hm (Hub.wakeBy_desk hbit hp),
    fun source d hs hbit hp hd => show execDeskStandbyWake source _ = _ from
      actIf_eq (decide_eq_true hs) hm (Hub.wakeBy_deepEntry hbit hp hd),
    fun d hp hd => show execDeepStandbyShutdown _ = _ from act_eq hm ((if_pos (beq_iff_eq.mpr hp)).trans (Hub.expire_eq hd rfl)),
    fun hp => show execPwrbtnHold _ = _ from act_eq hm (Hub.deepEnter_button hp),
    fun facts _ => show execStartUp facts _ = _ from act_eq hm rfl,
    fun h0 => show execReferenceAbsent _ = _ from act_eq hm (if_pos (beq_iff_eq.mpr h0)),
    show execWatchdogReset _ = _ from act_eq hm (by unfold Hub.watchdogReset; cases h.activation <;> rfl)⟩

end Sys2Proof.Machine
end

section
/-! SUPPORT and the obligations O7 and O8. The fields of a Knaen word, read from the word each format lays out and put together again to it. -/

namespace Sys2Proof

/-! ### The fields of a word -/

section
variable (op : BitVec 6) (a b c : RegNo) (func : BitVec 14) (imm : BitVec 18) (field : BitVec 12) (modifier : BitVec 6)

@[simp] theorem wordA_opcode : (wordA op a b c func).extractLsb' 26 6 = op := by ext; grind [wordA]
@[simp] theorem wordA_first : (wordA op a b c func).extractLsb' 22 4 = a := by ext; grind [wordA]
@[simp] theorem wordA_second : (wordA op a b c func).extractLsb' 18 4 = b := by ext; grind [wordA]
@[simp] theorem wordA_third : (wordA op a b c func).extractLsb' 14 4 = c := by ext; grind [wordA]
@[simp] theorem wordA_func : (wordA op a b c func).extractLsb' 0 14 = func := by ext; grind [wordA]
@[simp] theorem wordI_opcode : (wordI op a b imm).extractLsb' 26 6 = op := by ext; grind [wordI]
@[simp] theorem wordI_first : (wordI op a b imm).extractLsb' 22 4 = a := by ext; grind [wordI]
@[simp] theorem wordI_second : (wordI op a b imm).extractLsb' 18 4 = b := by ext; grind [wordI]
@[simp] theorem wordI_imm : (wordI op a b imm).extractLsb' 0 18 = imm := by ext; grind [wordI]
@[simp] theorem wordF_opcode : (wordF op a b field modifier).extractLsb' 26 6 = op := by ext; grind [wordF]
@[simp] theorem wordF_first : (wordF op a b field modifier).extractLsb' 22 4 = a := by ext; grind [wordF]
@[simp] theorem wordF_second : (wordF op a b field modifier).extractLsb' 18 4 = b := by ext; grind [wordF]
@[simp] theorem wordF_field : (wordF op a b field modifier).extractLsb' 6 12 = field := by ext; grind [wordF]
@[simp] theorem wordF_modifier : (wordF op a b field modifier).extractLsb' 0 6 = modifier := by ext; grind [wordF]
@[simp] theorem reserved_opcode (rest : BitVec 26) : (op ++ rest).extractLsb' 26 6 = op := BitVec.extractLsb'_append_eq_left
@[simp] theorem reserved_rest (rest : BitVec 26) : (op ++ rest).extractLsb' 0 26 = rest := BitVec.extractLsb'_append_eq_right

/-- Format E lays a word out as format A does. -/
theorem wordE_eq_wordA : wordE op a b c func = wordA op a b c func := rfl

end

/-! ### A word from its fields -/

section
variable (w : Word)

theorem wordA_of_fields : wordA (w.extractLsb' 26 6) (w.extractLsb' 22 4) (w.extractLsb' 18 4) (w.extractLsb' 14 4) (w.extractLsb' 0 14) = w := by
  ext; grind [wordA]
theorem wordI_of_fields : wordI (w.extractLsb' 26 6) (w.extractLsb' 22 4) (w.extractLsb' 18 4) (w.extractLsb' 0 18) = w := by
  ext; grind [wordI]
theorem wordF_of_fields : wordF (w.extractLsb' 26 6) (w.extractLsb' 22 4) (w.extractLsb' 18 4) (w.extractLsb' 6 12) (w.extractLsb' 0 6) = w := by
  ext; grind [wordF]
theorem reserved_of_fields : w.extractLsb' 26 6 ++ w.extractLsb' 0 26 = w := by
  ext; grind
end

/-! ### Operands beside fixed bits

Stated at the widths the formats have, where a library lemma about a sum of widths is not found by `simp`. -/

section
variable (func13 : BitVec 13) (func12 : BitVec 12) (imm17 : BitVec 17) (kind3 : BitVec 3) (y : BitVec 1) (z : BitVec 2)

@[simp] theorem func13_bit : (func13 ++ y : BitVec 14)[0] = y[0] := by grind
@[simp] theorem func13_rest : (func13 ++ y : BitVec 14).extractLsb' 1 13 = func13 := BitVec.extractLsb'_append_eq_left
@[simp] theorem func12_bits : (func12 ++ z : BitVec 14).extractLsb' 0 2 = z := BitVec.extractLsb'_append_eq_right
@[simp] theorem func12_rest : (func12 ++ z : BitVec 14).extractLsb' 2 12 = func12 := BitVec.extractLsb'_append_eq_left
@[simp] theorem imm17_bit : (y ++ imm17 : BitVec 18)[17] = y[0] := by grind
@[simp] theorem imm17_rest : (y ++ imm17 : BitVec 18).extractLsb' 0 17 = imm17 := BitVec.extractLsb'_append_eq_right
@[simp] theorem kind3_low : (kind3 ++ y : BitVec 4)[0] = y[0] := by grind
@[simp] theorem kind3_above : (kind3 ++ y : BitVec 4).extractLsb' 1 3 = kind3 := BitVec.extractLsb'_append_eq_left
@[simp] theorem kind3_high : (y ++ kind3 : BitVec 4)[3] = y[0] := by grind
@[simp] theorem kind3_below : (y ++ kind3 : BitVec 4).extractLsb' 0 3 = kind3 := BitVec.extractLsb'_append_eq_right

end

/-- The low two bits of a number, as its remainder by 4. -/
theorem low_two_bits (func : BitVec 14) : func.extractLsb' 0 2 = 1#2 ↔ func.toNat % 4 = 1 := by
  simp [← BitVec.toNat_inj]

/-- Decoding the word of an instruction gives it back: each field is read where its format puts it, and where rows share an opcode the operand bits tell
them apart, for the general row because its form bars the other rows' bits. -/
theorem decode_of_word {i : Instr} {p : ProgId} {w : Word} (hi : i.formOk = true) (hw : knaenWord i = some (p, w)) : knaenDecode p w = i := by
  cases i
  case commitReservedKind | waitDelay =>
    cases hw
    simp only [Instr.formOk, decide_eq_true_eq] at hi
    simp only [knaenDecode, wordE_eq_wordA, wordA_opcode, wordA_first, wordA_second, wordA_third, wordA_func, BitVec.reduceToNat]
    split
    case h_7 => rfl
    all_goals omega
  case csumCompute func =>
    cases hw
    simp [Instr.formOk] at hi
    simp [knaenDecode, low_two_bits, hi]
  case executeReservedOpcode op rest =>
    cases hw
    simp only [Instr.formOk, Bool.or_eq_true, Bool.and_eq_true, decide_eq_true_eq] at hi
    simp only [knaenDecode, reserved_opcode, reserved_rest]
    split
    case h_52 => rfl
    all_goals omega
  case halt | nop | lit | litw | mov | add | addi | sub | mul | and | or | xor | andi | ori | shl | shr | sar | cmp | br | call | ret | openObject | get | gets |
      set | setx | setm | abandon | note | xfer | release | ext | ins | scale | look | drop | mirr | corr | emit | count | mulh | mulhu | min | minu | max |
      maxu | timeLocal | timeNetwork | own | ownForce | yield | yieldForce | fwd | fwdReplace | stamp | stampEgress | csumFix | commitNow | commitRefill |
      commitBlanking | commitTime | commitCycle | commitQuiet | waitNow | waitRefill | waitBlanking | waitTime | waitCycle | waitQuiet =>
    cases hw
    simp [knaenDecode, wordE_eq_wordA]
  all_goals cases hw

/-- An instruction of its row whose word is w. -/
def Spells (p : ProgId) (w : Word) (i : Instr) : Prop := knaenWord i = some (p, w) ∧ i.formOk = true

/-- A vector told from its number. -/
theorem ofNat_of_toNat {n k : Nat} {x : BitVec n} (h : x.toNat = k) : BitVec.ofNat n k = x := by
  rw [← h, BitVec.ofNat_toNat, BitVec.setWidth_eq]

/-- A vector is its upper bits before its lowest. -/
theorem append_low_bit {n : Nat} (x : BitVec (n + 1)) {b : Bool} (h : x.getLsbD 0 = b) : x.extractLsb' 1 n ++ BitVec.ofBool b = x := by
  subst h; ext; grind

/-- A vector is its highest bit before its lower ones. -/
theorem append_high_bit {n : Nat} (x : BitVec (n + 1)) {b : Bool} (h : x.getLsbD n = b) :
    (BitVec.ofBool b ++ x.extractLsb' 0 n).cast (Nat.add_comm 1 n) = x := by
  subst h; ext; grind

theorem append_low_two_bits (x : BitVec 14) {y : BitVec 2} (h : x.extractLsb' 0 2 = y) : x.extractLsb' 2 12 ++ y = x := by
  subst h; ext; grind

section
variable {p : ProgId} {w : Word} {i : Instr} {op : BitVec 6}

/-- A word of format A or E is spelled by the instruction of its opcode and operands. -/
theorem spells_wordA {c : RegNo} {func : BitVec 14} (hop : op = w.extractLsb' 26 6) (hc : c = w.extractLsb' 14 4) (hf : func = w.extractLsb' 0 14)
    (hw : knaenWord i = some (p, wordA op (w.extractLsb' 22 4) (w.extractLsb' 18 4) c func)) (hi : i.formOk = true) : Spells p w i := by
  subst hop hc hf
  exact ⟨by rw [hw, wordA_of_fields], hi⟩

/-- A word of format I or B is spelled by the instruction of its opcode and operands. -/
theorem spells_wordI {imm : BitVec 18} (hop : op = w.extractLsb' 26 6) (him : imm = w.extractLsb' 0 18)
    (hw : knaenWord i = some (p, wordI op (w.extractLsb' 22 4) (w.extractLsb' 18 4) imm)) (hi : i.formOk = true) : Spells p w i := by
  subst hop him
  exact ⟨by rw [hw, wordI_of_fields], hi⟩

/-- A word of format F is spelled by the instruction of its opcode and operands. -/
theorem spells_wordF (hop : op = w.extractLsb' 26 6)
    (hw : knaenWord i = some (p, wordF op (w.extractLsb' 22 4) (w.extractLsb' 18 4) (w.extractLsb' 6 12) (w.extractLsb' 0 6))) (hi : i.formOk = true) :
    Spells p w i := by
  subst hop
  exact ⟨by rw [hw, wordF_of_fields], hi⟩

end

/-- Every word is spelled by what it decodes to: its opcode tells the format, and in opcodes that rows share the operand bits tell the row. -/
theorem spells_decode (p : ProgId) (w : Word) : Spells p w (knaenDecode p w) := by
  unfold knaenDecode
  extract_lets op a b c func imm field modifier
  split
  -- opcodes of one row in format A or E
  case h_1 h | h_2 h | h_5 h | h_6 h | h_8 h | h_9 h | h_11 h | h_12 h | h_13 h | h_16 h | h_17 h | h_18 h | h_21 h | h_32 h | h_36 h | h_38 h | h_39 h |
      h_40 h | h_41 h | h_42 h | h_43 h | h_45 h | h_46 h | h_48 h | h_50 h | h_51 h =>
    exact spells_wordA (ofNat_of_toNat h) rfl rfl rfl rfl
  -- opcodes of one row in format I or B
  case h_3 h | h_4 h | h_7 h | h_14 h | h_15 h | h_22 h | h_23 h | h_24 h | h_25 h => exact spells_wordI (ofNat_of_toNat h) rfl rfl rfl
  -- opcodes in format F
  case h_26 h | h_27 h | h_28 h | h_29 h | h_30 h => exact spells_wordF (ofNat_of_toNat h) rfl rfl
  -- two rows told by bit 0 of func
  case h_10 h | h_19 h | h_20 h | h_37 h =>
    split
    case isTrue hb => exact spells_wordA (ofNat_of_toNat h) rfl (append_low_bit func hb) rfl rfl
    case isFalse hb => exact spells_wordA (ofNat_of_toNat h) rfl (append_low_bit func (Bool.eq_false_iff.mpr hb)) rfl rfl
  -- FWD: by bit 0 of kind
  case h_44 h =>
    split
    case isTrue hb => exact spells_wordA (ofNat_of_toNat h) (append_low_bit c hb) rfl rfl rfl
    case isFalse hb => exact spells_wordA (ofNat_of_toNat h) (append_low_bit c (Bool.eq_false_iff.mpr hb)) rfl rfl rfl
  -- STAMP: by bit 3 of kind
  case h_47 h =>
    split
    case isTrue hb => exact spells_wordA (ofNat_of_toNat h) (append_high_bit c hb) rfl rfl rfl
    case isFalse hb => exact spells_wordA (ofNat_of_toNat h) (append_high_bit c (Bool.eq_false_iff.mpr hb)) rfl rfl rfl
  -- OWN and YIELD: by bit 17 of the immediate
  case h_34 h | h_35 h =>
    split
    case isTrue hb => exact spells_wordI (ofNat_of_toNat h) (append_high_bit imm hb) rfl rfl
    case isFalse hb => exact spells_wordI (ofNat_of_toNat h) (append_high_bit imm (Bool.eq_false_iff.mpr hb)) rfl rfl
  -- COMMIT and WAIT: by kind
  case h_31 h | h_33 h =>
    split
    case h_7 =>
      refine spells_wordA (ofNat_of_toNat h) rfl rfl rfl ?_
      simp only [Instr.formOk, decide_eq_true_eq]
      simp only [imp_false] at *
      omega
    all_goals exact spells_wordA (ofNat_of_toNat h) (ofNat_of_toNat ‹_›) rfl rfl rfl
  -- CSUM: by bits 1 and 0 of func
  case h_49 h =>
    split
    case isTrue hb =>
      exact spells_wordA (ofNat_of_toNat h) rfl (append_low_two_bits func (eq_of_beq hb)) rfl rfl
    case isFalse hb =>
      refine spells_wordA (ofNat_of_toNat h) rfl rfl rfl ?_
      simpa [Instr.formOk, low_two_bits] using hb
  -- no row's opcode
  case h_52 =>
    refine ⟨congrArg (fun x => some (p, x)) (reserved_of_fields w), ?_⟩
    have hop := op.isLt
    simp only [Instr.formOk, Bool.or_eq_true, Bool.and_eq_true, decide_eq_true_eq]
    simp only [imp_false] at *
    omega

/-- Settles O7: each format spells its fields in its word, and the decoder reads each field back from its bits. -/
theorem knaenDecodeUndoesEncode : Obligations.KnaenDecodeUndoesEncode := fun _ _ _ => decode_of_word

/-- Settles O8: the fields the decoder reads from a word, put together in their format, are the word again. -/
theorem knaenEncodeUndoesDecode : Obligations.KnaenEncodeUndoesDecode := spells_decode

end Sys2Proof
end

section
/-! SUPPORT and the obligations O9 to O12. The core instructions that change only registers and flags, and the arithmetic of their flags. -/

namespace Sys2Proof.Machine

/-! ### Instructions that write one register and the flags -/

/-- The program after an instruction that leaves the flags given, writes one register and goes on to the next word. -/
def Prog.computed (q : Prog) (wd : RegNo) (val : Word) (z n c v : Bool) : Prog :=
  (({ q.counted with z := z, n := n, c := c, v := v } : Prog).setReg wd val).next

section
variable {s : State} {p : ProgId} {w : Word} {q : Prog} {i : Instr} {wd : RegNo} {val : Word} {z n c v : Bool}

/-- An instruction computes a result where it leaves the program of that result. -/
theorem computes_of_goesTo (hq : q.canonical) (hi : exec i s = .next (s.goesTo p (q.computed wd val z n c v))) :
    Computes i s p q wd val z n c v := by
  have hw := Prog.setReg_wrote { q.counted with z := z, n := n, c := c, v := v } wd val hq
  obtain ⟨t, ht⟩ := Prog.setReg_rest { q.counted with z := z, n := n, c := c, v := v } wd val
  refine ⟨_, hi, hw, ?_⟩
  simp only [Prog.computed, ht]
  exact ⟨⟨rfl, rfl, rfl, rfl, rfl⟩, rfl, rfl, rfl⟩

theorem computed_block : (q.computed wd val z n c v).block = q.block := by
  obtain ⟨t, ht⟩ := Prog.setReg_rest { q.counted with z := z, n := n, c := c, v := v } wd val
  simp only [Prog.computed, ht]
  rfl

/-- A register instruction with no reserved bit set computes the result its effect writes. -/
theorem computes_of_runRegs (hq : q.canonical) (ha : At s p w q) {clean : Bool} {f : Prog → Prog}
    (hi : exec i s = knaen p s (fun h => h.runRegs p w clean f)) (hc : clean = true)
    (hf : (f q.counted).next = q.computed wd val z n c v) : Computes i s p q wd val z n c v := by
  have hb : (f q.counted).block = none := (congrArg Prog.block hf).trans (computed_block.trans (at_unblocked ha))
  exact computes_of_goesTo hq (by rw [hi, runRegs_at ha hc f hb, hf])

/-- A register instruction with a reserved bit set faults (R55). -/
theorem runRegs_unclean (ha : At s p w q) {clean : Bool} (hc : clean = false) (f : Prog → Prog) :
    knaen p s (fun h => h.runRegs p w clean f) = .next (s.faulted p q 3) := by
  rw [knaen_at ha]
  simp only [Hub.runRegs]
  rw [runWord_barred ha { clean := clean } _ (c := 3) (by simp [Prog.barred, hc])]
  rfl

end

/-! ### Signed overflow (R63, R62) -/

/-- An exact signed result overflows where the word it is cut to does not stand for it. -/
theorem overflows_eq (x : Int) : overflows x = decide ((BitVec.ofInt 32 x).toInt ≠ x) := by
  rw [overflows, ← Bool.decide_or, decide_eq_decide, BitVec.toInt_ofInt]
  simp only [Int.bmod_def]
  omega

theorem overflows_add (a b : Word) : overflows (a.toInt + b.toInt) = decide ((a + b).toInt ≠ a.toInt + b.toInt) := by
  rw [overflows_eq, BitVec.ofInt_add, BitVec.ofInt_toInt, BitVec.ofInt_toInt]

theorem overflows_sub (a b : Word) : overflows (a.toInt - b.toInt) = decide ((a - b).toInt ≠ a.toInt - b.toInt) := by
  rw [overflows_eq, Int.sub_eq_add_neg, BitVec.ofInt_add, BitVec.ofInt_neg, BitVec.ofInt_toInt, BitVec.ofInt_toInt, BitVec.sub_eq_add_neg]

theorem overflows_mul (a b : Word) : overflows (a.toInt * b.toInt) = decide ((a * b).toInt ≠ a.toInt * b.toInt) := by
  rw [overflows_eq, BitVec.ofInt_mul, BitVec.ofInt_toInt, BitVec.ofInt_toInt]

theorem addFlags_eq (q : Prog) (a b : Word) : q.addFlags a b =
    { q with z := a + b == 0#32, n := (a + b).msb, c := decide (2 ^ 32 ≤ a.toNat + b.toNat), v := decide ((a + b).toInt ≠ a.toInt + b.toInt) } := by
  rw [← overflows_add]; rfl

theorem subFlags_eq (q : Prog) (a b : Word) : q.subFlags a b =
    { q with z := a - b == 0#32, n := (a - b).msb, c := a.ult b, v := decide ((a - b).toInt ≠ a.toInt - b.toInt) } := by
  rw [← overflows_sub]; rfl

theorem mulFlags_eq (q : Prog) (a b : Word) : q.mulFlags a b =
    { q with z := a * b == 0#32, n := (a * b).msb, c := decide (2 ^ 32 ≤ a.toNat * b.toNat), v := decide ((a * b).toInt ≠ a.toInt * b.toInt) } := by
  rw [← overflows_mul]; rfl

/-- Settles O9: each is its word at the core level, and writes one register and the flags of its sum or difference. -/
theorem addSubtractCompareResults : Obligations.AddSubtractCompareResults := by
  intro s p q wd wa wb imm hq
  refine ⟨fun ha => ?_, fun ha => ?_, fun ha => ?_, fun ha => ?_, fun ha hwd => runRegs_unclean ha (by simp [hwd]) _⟩
  · exact computes_of_runRegs hq ha rfl rfl (by rw [addFlags_eq]; rfl)
  · exact computes_of_runRegs hq ha rfl rfl (by rw [addFlags_eq]; rfl)
  · exact computes_of_runRegs hq ha rfl rfl (by rw [subFlags_eq]; rfl)
  · exact computes_of_runRegs hq ha rfl rfl (by rw [subFlags_eq]; rfl)

/-! ### Logic, minimum and maximum (R61, R65) -/

/-- Of two equal words either is the smaller, so the order of the comparison does not matter. -/
theorem min_signed_eq (a b : Word) : (if a.slt b then a else b) = if a.toInt ≤ b.toInt then a else b := by
  simp only [BitVec.slt, decide_eq_true_eq]
  split_ifs with h1 h2 h2
  · rfl
  · omega
  · exact (BitVec.eq_of_toInt_eq (by omega)).symm
  · rfl

theorem max_signed_eq (a b : Word) : (if a.slt b then b else a) = if a.toInt ≤ b.toInt then b else a := by
  simp only [BitVec.slt, decide_eq_true_eq]
  split_ifs with h1 h2 h2
  · rfl
  · omega
  · exact BitVec.eq_of_toInt_eq (by omega)
  · rfl

theorem min_unsigned_eq (a b : Word) : (if a.ult b then a else b) = if a.toNat ≤ b.toNat then a else b := by
  simp only [BitVec.ult, decide_eq_true_eq]
  split_ifs with h1 h2 h2
  · rfl
  · omega
  · exact (BitVec.eq_of_toNat_eq (by omega)).symm
  · rfl

theorem max_unsigned_eq (a b : Word) : (if a.ult b then b else a) = if a.toNat ≤ b.toNat then b else a := by
  simp only [BitVec.ult, decide_eq_true_eq]
  split_ifs with h1 h2 h2
  · rfl
  · omega
  · exact BitVec.eq_of_toNat_eq (by omega)
  · rfl

/-- Settles O10: each is its word at the core level, and writes one register, with Z and N of it but for MOV. -/
theorem moveLogicMinAndMaxResults : Obligations.MoveLogicMinAndMaxResults := by
  intro s p q wd wa wb imm hq
  refine ⟨fun ha => ?_, fun ha => ?_, fun ha => ?_, fun ha => ?_, fun ha => ?_, fun ha => ?_, fun ha => ?_, fun ha => ?_, fun ha => ?_, fun ha => ?_⟩
  case refine_1 | refine_2 | refine_3 | refine_4 | refine_5 | refine_6 => exact computes_of_runRegs hq ha rfl rfl rfl
  · exact computes_of_runRegs hq ha rfl rfl (by simp only [min_signed_eq]; rfl)
  · exact computes_of_runRegs hq ha rfl rfl (by simp only [min_unsigned_eq]; rfl)
  · exact computes_of_runRegs hq ha rfl rfl (by simp only [max_signed_eq]; rfl)
  · exact computes_of_runRegs hq ha rfl rfl (by simp only [max_unsigned_eq]; rfl)

/-! ### Multiplication (R62) -/

/-- The high half of a product: its floor by 2^32, as the bits above 31 of the 64-bit product. -/
theorem high_half_of_product {x y : Int} {a b : BitVec 64} (ha : a = BitVec.ofInt 64 x) (hb : b = BitVec.ofInt 64 y) :
    BitVec.ofInt 32 (x * y / 2 ^ 32) = (a * b).extractLsb' 32 32 := by
  subst ha hb
  rw [← BitVec.ofInt_mul]
  apply BitVec.eq_of_toNat_eq
  simp only [BitVec.toNat_ofInt, BitVec.extractLsb'_toNat, Nat.shiftRight_eq_div_pow]
  omega

theorem mulHigh_signed (a b : Word) : BitVec.ofInt 32 (a.toInt * b.toInt / 2 ^ 32) = (a.signExtend 64 * b.signExtend 64).extractLsb' 32 32 :=
  high_half_of_product rfl rfl

theorem zeroExtend_eq_ofInt (a : Word) : a.zeroExtend 64 = BitVec.ofInt 64 (a.toNat : Int) := by
  apply BitVec.eq_of_toNat_eq
  simp

theorem mulHigh_unsigned (a b : Word) :
    BitVec.ofInt 32 ((a.toNat : Int) * (b.toNat : Int) / 2 ^ 32) = (a.zeroExtend 64 * b.zeroExtend 64).extractLsb' 32 32 :=
  high_half_of_product (zeroExtend_eq_ofInt a) (zeroExtend_eq_ofInt b)

/-- Settles O11: each is its word at the core level, and writes half of the product. -/
theorem multiplyResults : Obligations.MultiplyResults := by
  intro s p q wd wa wb hq
  refine ⟨fun ha => ?_, fun ha => ?_, fun ha => ?_⟩
  · exact computes_of_runRegs hq ha rfl rfl (by rw [mulFlags_eq]; rfl)
  · exact computes_of_runRegs hq ha rfl rfl (by rw [← mulHigh_signed]; rfl)
  · exact computes_of_runRegs hq ha rfl rfl (by rw [← mulHigh_unsigned]; rfl)

/-! ### Shifts (R64) -/

/-- What a shift leaves. -/
theorem shifted_next (q : Prog) (wd : RegNo) (a r : Word) (left : Bool) (n : Nat) :
    (q.counted.shifted wd a r left n).next =
      q.computed wd r (r == 0#32) r.msb (if n = 0 then q.c else a.getLsbD (if left then 32 - n else n - 1)) q.v := by
  simp only [← beq_iff_eq (a := n)]
  rfl

/-- The two ways of naming a shift's amount n: in wb[4:0], or in func[4:0] with func[13] set. -/
def Prog.ShiftsBy (q : Prog) (wb : RegNo) (func : BitVec 14) (n : Nat) : Prop :=
  (func = 0#14 ∧ n = (q.reg wb).toNat % 32) ∨ (n < 32 ∧ wb = 0#4 ∧ func = BitVec.ofNat 14 (2 ^ 13 + n))

theorem getLsbD_13_of_immediate {n : Nat} (hn : n < 32) : (BitVec.ofNat 14 (2 ^ 13 + n)).getLsbD 13 = true := by
  have h : n.testBit 13 = false := Nat.testBit_lt_two_pow (by omega)
  rw [BitVec.getLsbD_ofNat, Nat.testBit_two_pow_add_eq, h]
  rfl

theorem shiftAmount_of {q : Prog} {wb : RegNo} {func : BitVec 14} {n : Nat} (h : q.ShiftsBy wb func n) : q.shiftAmount wb func = n := by
  obtain ⟨rfl, rfl⟩ | ⟨hn, rfl, rfl⟩ := h
  · rfl
  · rw [Prog.shiftAmount, getLsbD_13_of_immediate hn, if_pos rfl, BitVec.toNat_ofNat]
    omega

theorem shiftClean_of {q : Prog} {wb : RegNo} {func : BitVec 14} {n : Nat} (h : q.ShiftsBy wb func n) : shiftClean wb func = true := by
  obtain ⟨rfl, rfl⟩ | ⟨hn, rfl, rfl⟩ := h
  · rfl
  · simp only [shiftClean, getLsbD_13_of_immediate hn, bits, BitVec.toNat_ofNat, if_true, Bool.and_eq_true, beq_iff_eq, and_true]
    omega

/-- A reserved bit of a shift, as the statement words it. -/
theorem shiftClean_eq_false {wb : RegNo} {func : BitVec 14}
    (h : func.extractLsb' 5 8 ≠ 0 ∨ (func.getLsbD 13 = true ∧ wb ≠ 0) ∨ (func.getLsbD 13 = false ∧ func.extractLsb' 0 5 ≠ 0)) :
    shiftClean wb func = false := by
  have high : func.extractLsb' 5 8 = 0 ↔ bits func.toNat 5 8 = 0 := by
    simp [← BitVec.toNat_inj, bits, Nat.shiftRight_eq_div_pow]
  have low : func.extractLsb' 0 5 = 0 ↔ func.toNat % 32 = 0 := by
    simp [← BitVec.toNat_inj]
  simp only [ne_eq, high, low] at h
  obtain h | ⟨hf, h⟩ | ⟨hf, h⟩ := h
  · simp [shiftClean, h]
  · simp_all [shiftClean]
  · simp_all [shiftClean]

/-- Settles O12: the amount is read from its register or its field, and the flags follow the last bit out. -/
theorem shiftResults : Obligations.ShiftResults := by
  intro s p q wd wa wb func hq
  refine ⟨fun n hn => ?_, fun h => ?_⟩
  · have hc : shiftClean wb func = true := shiftClean_of (q := q) hn
    have hs : q.counted.shiftAmount wb func = n := shiftAmount_of (q := q) hn
    refine ⟨fun ha => ?_, fun ha => ?_, fun ha => ?_⟩
    · exact computes_of_runRegs hq ha rfl hc (by rw [hs, shifted_next]; rfl)
    · exact computes_of_runRegs hq ha rfl hc (by rw [hs, shifted_next]; rfl)
    · exact computes_of_runRegs hq ha rfl hc (by rw [hs, shifted_next]; rfl)
  · have hc := shiftClean_eq_false h
    exact ⟨fun ha => runRegs_unclean ha hc _, fun ha => runRegs_unclean ha hc _, fun ha => runRegs_unclean ha hc _⟩

end Sys2Proof.Machine
end

section
/-! SUPPORT and the obligations O13, O14 and O15. What an instruction at its word comes to by what its body answers, and the core instructions that do
more than compute one register. -/

namespace Sys2Proof.Machine

/-! ### An instruction at its word, by what its body answers -/

/-- What an instruction comes to depends on the hub it finds alone. -/
theorem knaen_congr {s : State} {p : ProgId} {f g : Hub → Hub} (h : f s.hub = g s.hub) : knaen p s f = knaen p s g := by
  simp only [knaen, actIf, act, h]

section
variable {s : State} {p : ProgId} {w : Word} {q r : Prog} {a : Asks} {body : Hub → Prog → Ran} {h : Hub}

/-- The program goes on, the hub as the body left it. -/
theorem runWord_on (ha : At s p w q) (hb : q.counted.barred a = none) (hbody : body (s.hub.countStep p) q.counted = .on h r) (hr : r.block = none) :
    knaen p s (fun g => g.runWord p w a body) = .next { s with hub := h.goOn p r } := by
  rw [knaen_at ha, runWord_at ha a body hb, hbody]
  simp only [hr, Option.isSome_none, Hub.passTurn, Bool.false_eq_true, if_false]

/-- The program is held, and its turn has ended (R129). -/
theorem runWord_holds (ha : At s p w q) (hb : q.counted.barred a = none) (hbody : body (s.hub.countStep p) q.counted = .on h r)
    (hr : r.block.isSome = true) : knaen p s (fun g => g.runWord p w a body) = .next { s with hub := (h.passTurn true).goOn p r } := by
  rw [knaen_at ha, runWord_at ha a body hb, hbody]
  simp only [hr]

/-- The program goes on and nothing else has changed. -/
theorem runWord_goesTo (ha : At s p w q) (hb : q.counted.barred a = none) (hbody : body (s.hub.countStep p) q.counted = .on (s.hub.countStep p) r)
    (hr : r.block = none) : knaen p s (fun g => g.runWord p w a body) = .next (s.goesTo p r) :=
  runWord_on ha hb hbody hr

/-- The instruction's own effect is a fault. -/
theorem runWord_faults (ha : At s p w q) (hb : q.counted.barred a = none) {c : Nat} (hbody : body (s.hub.countStep p) q.counted = .fault c) :
    knaen p s (fun g => g.runWord p w a body) = .next (s.faulted p q c) := by
  rw [knaen_at ha, runWord_at ha a body hb, hbody]
  rfl

/-- A fault comes before the instruction's own effect. -/
theorem runWord_bars (ha : At s p w q) {c : Nat} (hb : q.counted.barred a = some c) :
    knaen p s (fun g => g.runWord p w a body) = .next (s.faulted p q c) := by
  rw [knaen_at ha, runWord_barred ha a body hb]
  rfl

/-- The program ends. -/
theorem runWord_ends (ha : At s p w q) (hb : q.counted.barred a = none) (hbody : body (s.hub.countStep p) q.counted = .ends h) :
    knaen p s (fun g => g.runWord p w a body) = .next { s with hub := h } := by
  rw [knaen_at ha, runWord_at ha a body hb, hbody]

end

/-- Nothing bars an instruction of both profiles and all levels that sets no reserved bit. -/
theorem barred_core (q : Prog) {clean : Bool} (hc : clean = true) : q.barred { clean := clean } = none := by
  simp [Prog.barred, hc]

/-! ### HALT, NOP and literals (R59, R60) -/

/-- Settles O13: by what the body of each answers at its word. -/
theorem haltNopAndLiteralResults : Obligations.HaltNopAndLiteralResults := by
  intro s p q wd imm hq
  refine ⟨fun ha => ?_, fun ha => ?_, fun ha => ?_, fun ha => ⟨fun x hx => ?_, fun hx => ?_⟩⟩
  · exact runWord_ends ha (barred_core _ rfl) rfl
  · exact computes_of_runRegs hq ha rfl rfl rfl
  · exact computes_of_runRegs hq ha rfl rfl rfl
  · obtain ⟨t, ht⟩ := q.counted.setReg_rest wd x
    have hx' : q.counted.words[q.counted.pc + 1]? = some x := hx
    have hb : q.block = none := at_unblocked ha
    refine ⟨(q.counted.setReg wd x).next.next, runWord_goesTo ha (barred_core _ rfl) (by simp only [hx']) (by rw [ht]; exact hb),
      q.counted.setReg_wrote wd x hq, ?_⟩
    rw [ht]
    exact ⟨⟨rfl, rfl, rfl, rfl, rfl⟩, rfl, rfl, rfl⟩
  · have hx' : q.counted.words[q.counted.pc + 1]? = none := hx
    exact runWord_faults ha (barred_core _ rfl) (by simp only [hx'])

/-! ### TIME (R66, R371) -/

/-- The registers after TIME: the high part is written last. -/
theorem Prog.reg_time (q : Prog) (hq : q.canonical) (wd wa : RegNo) (ns : Nat) (x : RegNo) :
    (q.time wd wa ns).reg x = if x = 0#4 then 0#32 else if x = wa then BitVec.ofNat 32 (ns / 2 ^ 32 % 2 ^ 16)
      else if x = wd then BitVec.ofNat 32 (ns % 2 ^ 32) else q.reg x := by
  have hlow : BitVec.ofNat 32 (ns % 2 ^ 32) = BitVec.ofNat 32 ns := BitVec.eq_of_toNat_eq (by simp)
  rw [hlow]
  simp only [Prog.time, bits, Prog.reg_setReg _ (q.canonical_setReg wd _ hq), Prog.reg_setReg q hq]
  by_cases hx : x = 0#4 <;> simp [hx]

/-- What TIME leaves besides the registers. -/
theorem Prog.time_rest (q : Prog) (wd wa : RegNo) (ns : Nat) : ∃ t, q.time wd wa ns = { q with regs := t } := by
  obtain ⟨t, ht⟩ := q.setReg_rest wd (BitVec.ofNat 32 ns)
  obtain ⟨u, hu⟩ := Prog.setReg_rest { q with regs := t } wa (BitVec.ofNat 32 (bits ns 32 16))
  exact ⟨u, by rw [Prog.time, ht, hu]⟩

/-- Whether TIME names one register twice (R66). -/
theorem timeClean_eq {wd wa : RegNo} : timeClean wd wa 0#4 0#13 = decide (wd ≠ wa ∨ wd = 0#4) := by
  by_cases h : wd = wa <;> by_cases h0 : wd = 0#4 <;> simp_all [timeClean]

/-- Network time is the local counter with its offset and rate, floored (R371). -/
theorem Hub.network_eq (h : Hub) : h.network =
    ((((h.clk : Int) + h.clockOffset + (((h.clk : Int) - h.clockAnchor) * h.getI F.CLOCK.RATE 0).fdiv (2 ^ 48)).fdiv 65536).emod (2 ^ 64)).toNat := by
  rw [Int.fdiv_eq_ediv_of_nonneg _ (by norm_num), Int.fdiv_eq_ediv_of_nonneg _ (by norm_num)]
  rfl

/-- TIME of a moment, whichever it is. -/
theorem time_results {s : State} {p : ProgId} {w : Word} {q : Prog} {wd wa : RegNo} {i : Instr} {ns : Hub → Nat} (hq : q.canonical)
    (ha : At s p w q) (hi : exec i s = knaen p s (fun h => h.runRegs p w (timeClean wd wa 0#4 0#13) (fun q => q.time wd wa (ns h)))) :
    ((wd ≠ wa ∨ wd = 0#4) → ∃ r, exec i s = .next (s.goesTo p r) ∧
        (∀ x, r.reg x = if x = 0#4 then 0#32 else if x = wa then BitVec.ofNat 32 (ns s.hub / 2 ^ 32 % 2 ^ 16)
          else if x = wd then BitVec.ofNat 32 (ns s.hub % 2 ^ 32) else q.reg x) ∧
        Flags r q.z q.n q.c q.v q.k ∧ r.pc = q.pc + 1 ∧ r.stack = q.stack ∧ SameBut q r) ∧
      (wd = wa → wd ≠ 0#4 → exec i s = .next (s.faulted p q 3)) := by
  replace hi := hi.trans (knaen_congr (g := fun h => h.runRegs p w (timeClean wd wa 0#4 0#13) (fun q => q.time wd wa (ns s.hub))) rfl)
  refine ⟨fun hn => ?_, fun he h0 => ?_⟩
  · obtain ⟨t, ht⟩ := q.counted.time_rest wd wa (ns s.hub)
    have hb : q.block = none := at_unblocked ha
    refine ⟨_, hi.trans (runRegs_at ha (by simp [timeClean_eq, hn]) _ (by rw [ht]; exact hb)), q.counted.reg_time hq wd wa (ns s.hub), ?_⟩
    rw [ht]
    exact ⟨⟨rfl, rfl, rfl, rfl, rfl⟩, rfl, rfl, rfl⟩
  · subst he
    exact hi.trans (runRegs_unclean ha (by simp [timeClean_eq, h0]) _)

/-- Settles O14: by what the body of TIME answers at its word, for either clock. -/
theorem timeResults : Obligations.TimeResults := by
  refine ⟨fun s p q wd wa net hq ha => ?_, Hub.network_eq⟩
  cases net
  · exact time_results (ns := Hub.now) hq ha rfl
  · exact time_results (ns := Hub.network) hq ha rfl

/-! ### Transfers of control (R56, R68 to R70) -/

/-- The targets a taken transfer may have. -/
theorem Prog.targetOk_iff (q : Prog) (t : Int) : q.targetOk t = true ↔ 0 ≤ t ∧ t < q.words.length ∧ t.toNat ∉ literals 0 q.words := by
  simp [Prog.targetOk, and_assoc]

section
variable {q : Prog} {h : Hub} {t : Int}

theorem Prog.transfer_bad {st : Option (List Nat)} (ht : ¬ q.targetOk t = true) : q.transfer h t st = .fault 4 :=
  if_pos (by simpa using ht)

theorem Prog.transfer_noRoom (ht : q.targetOk t = true) : q.transfer h t none = .fault 5 :=
  if_neg (by simp [ht])

theorem Prog.transfer_goes {st : List Nat} (ht : q.targetOk t = true) : q.transfer h t (some st) = .on h { q with pc := t.toNat, stack := st } :=
  if_neg (by simp [ht])

end

/-- The conditions of R56. -/
theorem Prog.cond_codes (q : Prog) :
    q.cond 0 = some (q.z == true) ∧ q.cond 1 = some (q.z == false) ∧ q.cond 2 = some (q.n != q.v) ∧ q.cond 3 = some (q.n == q.v) ∧
    q.cond 4 = some (q.c == true) ∧ q.cond 5 = some (q.c == false) ∧ q.cond 6 = some (q.n == true) ∧ q.cond 7 = some (q.n == false) ∧
    q.cond 8 = some (q.v == true) ∧ q.cond 9 = some (q.v == false) ∧ q.cond 10 = some (q.k == true) ∧ q.cond 11 = some (q.k == false) ∧
    q.cond 12 = some true ∧ q.cond 13 = none ∧ q.cond 14 = none ∧ q.cond 15 = none := by
  simp only [beq_true, beq_false]
  exact ⟨rfl, rfl, rfl, rfl, rfl, rfl, rfl, rfl, rfl, rfl, rfl, rfl, rfl, rfl, rfl, rfl⟩

/-- A transfer with a condition, as BR, CALL and RET have it: the body's answer by the condition. -/
def Prog.onCond (q : Prog) (cond : RegNo) (h : Hub) (taken : Ran) : Ran :=
  match q.cond cond with
  | none => .fault 3
  | some false => .on h q.next
  | some true => taken

section
variable {s : State} {p : ProgId} {w : Word} {q : Prog} {i : Instr} {cond : RegNo} {a : Asks} {taken : Hub → Prog → Ran}

/-- What an instruction under a condition does where the condition is reserved, where it does not hold, and where it holds (R56, R68). -/
theorem exec_onCond (ha : At s p w q) (hb : q.counted.barred a = none)
    (hi : exec i s = knaen p s (fun h => h.runWord p w a (fun g q => q.onCond cond g (taken g q)))) :
    (q.cond cond = none → exec i s = .next (s.faulted p q 3)) ∧
    (q.cond cond = some false → exec i s = .next (s.goesTo p { q.counted with pc := q.pc + 1 })) ∧
    (∀ c, q.cond cond = some true → taken (s.hub.countStep p) q.counted = .fault c → exec i s = .next (s.faulted p q c)) ∧
    (∀ r, q.cond cond = some true → taken (s.hub.countStep p) q.counted = .on (s.hub.countStep p) r → r.block = q.block →
      exec i s = .next (s.goesTo p r)) := by
  have hcond : q.counted.cond cond = q.cond cond := rfl
  have hn : q.block = none := at_unblocked ha
  simp only [hi]
  refine ⟨fun hc => ?_, fun hc => ?_, fun c hc ht => ?_, fun r hc ht hr => ?_⟩
  · exact runWord_faults ha hb (by simp only [Prog.onCond, hcond, hc])
  · exact runWord_goesTo ha hb (by simp only [Prog.onCond, hcond, hc]; rfl) hn
  · exact runWord_faults ha hb (by simp only [Prog.onCond, hcond, hc, ht])
  · exact runWord_goesTo ha hb (by simp only [Prog.onCond, hcond, hc, ht]) (hr.trans hn)

end

/-- Settles O15, by what each of the three answers where its condition holds. -/
theorem branchCallAndReturn : Obligations.BranchCallAndReturn := by
  refine ⟨fun s p q cond wa offset => ?_, Prog.cond_codes⟩
  intro target legal
  have hok (t : Int) : q.counted.targetOk t = true ↔ legal t := q.counted.targetOk_iff t
  refine ⟨fun ha => ?_, fun ha => ?_, fun ha => ?_, fun ha hr => ?_⟩
  · obtain ⟨hnone, hfalse, hfault, hgoes⟩ := exec_onCond (i := .br p cond wa offset) (cond := cond) ha (barred_core _ rfl)
      (taken := fun g q => q.transfer g (q.target wa offset) (some q.stack)) rfl
    exact ⟨hnone, hfalse, fun hc hl => hfault 4 hc (Prog.transfer_bad (mt (hok _).mp hl)),
      fun hc hl => hgoes _ hc (Prog.transfer_goes ((hok _).mpr hl)) rfl⟩
  · obtain ⟨hnone, hfalse, hfault, hgoes⟩ := exec_onCond (i := .call p cond wa offset) (cond := cond) ha (barred_core _ rfl)
      (taken := fun g q => q.transfer g (q.target wa offset) (if q.stack.length < 16 then some ((q.pc + 1) :: q.stack) else none)) rfl
    refine ⟨hnone, hfalse, fun hc hl => hfault 4 hc (Prog.transfer_bad (mt (hok _).mp hl)), fun hc hl hs => hfault 5 hc ?_, fun hc hl hs => hgoes _ hc ?_ rfl⟩
    · have hfull : ¬ q.counted.stack.length < 16 := not_lt.mpr hs
      rw [if_neg hfull]
      exact Prog.transfer_noRoom ((hok _).mpr hl)
    · have hroom : q.counted.stack.length < 16 := hs
      rw [if_pos hroom]
      exact Prog.transfer_goes ((hok _).mpr hl)
  · obtain ⟨hnone, hfalse, hfault, hgoes⟩ := exec_onCond (i := .ret p cond 0#4 0#18) (cond := cond) ha (barred_core _ rfl)
      (taken := fun g q => match q.stack with | [] => .fault 5 | a :: st => q.transfer g (a : Int) (some st)) rfl
    have hstack : q.counted.stack = q.stack := rfl
    exact ⟨hnone, hfalse, fun hc hs => hfault 5 hc (by simp only [hstack, hs]),
      fun a st hc hs hl => hfault 4 hc (by simp only [hstack, hs]; exact Prog.transfer_bad (mt (hok _).mp hl)),
      fun a st hc hs hl => hgoes _ hc (by simp only [hstack, hs]; exact Prog.transfer_goes ((hok _).mpr hl)) rfl⟩
  · exact runWord_bars ha (by
      have hclean : (wa == 0#4 && offset == 0#18) = false := by obtain h | h := hr <;> simp [h]
      simp [Prog.barred, hclean])

end Sys2Proof.Machine
end

section
/-! SUPPORT and the obligation O17. Every Knaen instruction is the execution of its word in the profile of its opcode; the faults that come before
an instruction's own effect. -/

namespace Sys2Proof.Machine

/-- The profile an opcode belongs to (R57); a reserved one faults in both. -/
def opcodeProfile (op : Nat) : Profile :=
  if 0x18 ≤ op ∧ op ≤ 0x26 ∧ op ≠ 0x24 then .manifest else if 0x30 ≤ op ∧ op ≤ 0x3B then .shunter else .both

/-- An instruction comes to the execution of a word, in the profile of the word's opcode. -/
def Runs (i : Instr) (p : ProgId) (w : Word) : Prop :=
  ∀ s, ∃ (a : Asks) (body : Hub → Prog → Ran), exec i s = knaen p s (fun h => h.runWord p w a body) ∧ a.profile = opcodeProfile (w.extractLsb' 26 6).toNat

section
variable {i : Instr} {p : ProgId} {w : Word}

theorem runs_core (hp : opcodeProfile (w.extractLsb' 26 6).toNat = .both)
    (hi : ∀ s, ∃ (clean : Bool) (body : Hub → Prog → Ran), exec i s = knaen p s (fun h => h.runWord p w { clean := clean } body)) : Runs i p w := fun s => by
  obtain ⟨clean, body, h⟩ := hi s
  exact ⟨_, _, h, hp.symm⟩

theorem runs_manifest (hp : opcodeProfile (w.extractLsb' 26 6).toNat = .manifest)
    (hi : ∀ s, ∃ (new11 clean : Bool) (body : Nat → Hub → Prog → Ran), exec i s = knaen p s (fun h => h.runManifest p w new11 clean body)) :
    Runs i p w := fun s => by
  obtain ⟨new11, clean, body, h⟩ := hi s
  exact ⟨_, _, h, hp.symm⟩

theorem runs_shunter (hp : opcodeProfile (w.extractLsb' 26 6).toNat = .shunter)
    (hi : ∀ s, ∃ (clean : Bool) (body : Hub → Prog → Ran), exec i s = knaen p s (fun h => h.runShunter p w clean body)) : Runs i p w := fun s => by
  obtain ⟨clean, body, h⟩ := hi s
  exact ⟨_, _, h, hp.symm⟩

/-- An instruction of its row is the execution of its word, in the profile of its opcode. -/
theorem runs_of_word (hi : i.formOk = true) (hw : knaenWord i = some (p, w)) : Runs i p w := by
  cases i
  case halt | nop | lit | litw | mov | add | addi | sub | mul | mulh | mulhu | and | or | xor | andi | ori | shl | shr | sar | min | minu | max | maxu | cmp |
      br | call | ret | timeLocal | timeNetwork =>
    cases hw
    exact runs_core (by simp [opcodeProfile]) fun s => ⟨_, _, knaen_congr rfl⟩
  case executeReservedOpcode p op rest =>
    cases hw
    have hop : reservedOpcode op = true := hi
    simp only [Instr.formOk, Bool.or_eq_true, Bool.and_eq_true, decide_eq_true_eq] at hi
    exact runs_core (by rw [reserved_opcode, opcodeProfile, if_neg (by omega), if_neg (by omega)]) fun s => ⟨true, _, knaen_congr (if_pos hop)⟩
  case openObject | get | gets | set | setx | setm | commitNow | commitRefill | commitBlanking | commitTime | commitCycle | commitQuiet | abandon | waitNow |
      waitRefill | waitBlanking | waitTime | waitCycle | waitQuiet | own | ownForce | yield | yieldForce | note | xfer | release =>
    cases hw
    exact runs_manifest (by simp [opcodeProfile, wordE_eq_wordA]) fun s => ⟨_, _, _, rfl⟩
  case commitReservedKind p wa wb kind index =>
    cases hw
    have hk : 6 ≤ kind.toNat := of_decide_eq_true hi
    exact runs_manifest (by simp [opcodeProfile, wordE_eq_wordA]) fun s => ⟨_, _, _, knaen_congr (if_pos hk)⟩
  case waitDelay p wa wb kind index =>
    cases hw
    have hk : ¬ kind.toNat < 6 := not_lt.mpr (of_decide_eq_true hi)
    exact runs_manifest (by simp [opcodeProfile, wordE_eq_wordA]) fun s => ⟨_, _, _, knaen_congr (if_neg hk)⟩
  case ext | ins | scale | look | fwd | fwdReplace | drop | mirr | stamp | stampEgress | corr | csumFix | emit | count =>
    cases hw
    exact runs_shunter (by simp [opcodeProfile, wordE_eq_wordA]) fun s => ⟨_, _, rfl⟩
  case csumCompute p wd wa wb func =>
    cases hw
    have hk : ¬ (func.toNat % 4 == 1) = true := by simpa [Instr.formOk] using hi
    exact runs_shunter (by simp [opcodeProfile]) fun s => ⟨_, _, knaen_congr (if_neg hk)⟩
  all_goals cases hw

end

/-- An instruction of its row whose opcode R57 reserves is the reserved-opcode command. -/
theorem eq_executeReservedOpcode {i : Instr} {p : ProgId} {w : Word} (hi : i.formOk = true) (hw : knaenWord i = some (p, w))
    (hop : reservedOpcode (w.extractLsb' 26 6) = true) : i = .executeReservedOpcode p (w.extractLsb' 26 6) (w.extractLsb' 0 26) := by
  rw [← decode_of_word hi hw, knaenDecode]
  simp only [reservedOpcode, Bool.or_eq_true, Bool.and_eq_true, decide_eq_true_eq] at hop
  split
  case h_52 => rfl
  all_goals omega

/-- An opcode R57 reserves, at its word (R58). -/
theorem execReservedOpcode_faults {s : State} {p : ProgId} {opcode : BitVec 6} {rest : BitVec 26} {q : Prog} (ha : At s p (opcode ++ rest) q)
    (hop : reservedOpcode opcode = true) : exec (.executeReservedOpcode p opcode rest) s = .next (s.faulted p q 1) :=
  (knaen_congr (if_pos hop)).trans (runWord_faults ha (a := {}) (barred_core _ rfl) rfl)

/-- A program that has executed all its steps faults before anything is executed or counted (R72). -/
theorem runWord_stepLimit {s : State} {p : ProgId} {w : Word} {q : Prog} (hm : s.hub.mainUp = true) (hp : progExists p = true)
    (hq : s.hub.prog (progKey p) = some q) (he : s.hub.executes p q w = true) (hl : s.hub.stepLimit q ≤ q.steps) (a : Asks)
    (body : Hub → Prog → Ran) : knaen p s (fun h => h.runWord p w a body) = .next { s with hub := s.hub.faultProg p q 6 } := by
  rw [knaen, actIf_up _ hp hm]
  simp only [Hub.runWord, hq, he, Bool.not_true, Bool.false_eq_true, if_false, hl, if_true]

/-- A program of an engine's thread is a Shunter program. -/
theorem at_shunter_shunter {s : State} {e t : Nat} {w : Word} {q : Prog} (ha : At s (.shunter e t) w q) : q.shunter = true := by
  obtain ⟨-, -, -, he, -⟩ := ha
  simp only [Hub.executes, Bool.and_eq_true, beq_iff_eq] at he
  exact he.1.2

/-- Settles O17: every Knaen command is the execution of its word, and the three faults come before its own effect. -/
theorem stepLimitOpcodeAndProfileFaults : Obligations.StepLimitOpcodeAndProfileFaults := by
  refine ⟨fun i s p w q hi hw hm hp hq he hl => ?_, fun i s p w q hi hw ha => ?_, fun s p opcode rest q ha hop => ?_⟩
  · obtain ⟨a, body, hexec, -⟩ := runs_of_word hi hw s
    exact hexec.trans (runWord_stepLimit hm hp hq he hl a body)
  · intro op
    obtain ⟨a, body, hexec, hprofile⟩ := runs_of_word hi hw s
    refine ⟨fun hop => ?_, fun n hn hlo hhi => ?_, fun e t hn hlo hhi htime => ?_⟩
    · have hr : reservedOpcode (w.extractLsb' 26 6) = true := by
        simpa only [reservedOpcode, Bool.or_eq_true, Bool.and_eq_true, decide_eq_true_eq] using hop
      rw [← reserved_of_fields w] at ha
      exact eq_executeReservedOpcode hi hw hr ▸ execReservedOpcode_faults ha hr
    · subst hn
      have hs : q.shunter = false := at_manifest_shunter ha
      have hshunter : a.profile = .shunter := by rw [hprofile, opcodeProfile, if_neg (by omega), if_pos ⟨hlo, hhi⟩]
      exact hexec.trans (runWord_bars ha (by simp [Prog.barred, Prog.counted, hshunter, hs]))
    · subst hn
      have hs : q.shunter = true := at_shunter_shunter ha
      have hmanifest : a.profile = .manifest := by rw [hprofile, opcodeProfile, if_pos ⟨hlo, hhi, htime⟩]
      exact hexec.trans (runWord_bars ha (by simp [Prog.barred, Prog.counted, hmanifest, hs]))
  · exact execReservedOpcode_faults ha (by simpa only [reservedOpcode, Bool.or_eq_true, Bool.and_eq_true, decide_eq_true_eq] using hop)

end Sys2Proof.Machine
end

section
/-! SUPPORT and the obligations O19, O21 and O23. Manifest instructions at their word, by what their body answers: OPEN, the stores and COMMIT. -/

namespace Sys2Proof.Machine

/-! ### A Manifest instruction at its word, by what its body answers -/

section
variable {s : State} {n : Nat} {w : Word} {q r : Prog} {new11 clean : Bool} {body : Nat → Hub → Prog → Ran} {h : Hub}

/-- The program goes on, the hub as the body left it. -/
theorem runManifest_on (ha : At s (.manifest n) w q) (hl : new11 = true → q.level ≠ 0x10) (hc : clean = true)
    (hbody : body q.head.ctx (s.hub.countStep (.manifest n)) q.counted = .on h r) (hr : r.block = none) :
    knaen (.manifest n) s (fun g => g.runManifest (.manifest n) w new11 clean body) = .next { s with hub := h.manifestOn n r } := by
  subst hc
  exact runWord_on ha (at_manifest_unbarred ha hl) hbody hr

/-- The program goes on and nothing else has changed. -/
theorem runManifest_continues (ha : At s (.manifest n) w q) (hl : new11 = true → q.level ≠ 0x10) (hc : clean = true)
    (hbody : body q.head.ctx (s.hub.countStep (.manifest n)) q.counted = .on (s.hub.countStep (.manifest n)) r) (hr : r.block = none) :
    knaen (.manifest n) s (fun g => g.runManifest (.manifest n) w new11 clean body) = .next (s.goesTo (.manifest n) r) :=
  runManifest_on ha hl hc hbody hr

/-- The program is held, and its turn has ended (R129). -/
theorem runManifest_holds (ha : At s (.manifest n) w q) (hl : new11 = true → q.level ≠ 0x10) (hc : clean = true)
    (hbody : body q.head.ctx (s.hub.countStep (.manifest n)) q.counted = .on h r) (hr : r.block.isSome = true) :
    knaen (.manifest n) s (fun g => g.runManifest (.manifest n) w new11 clean body) = .next { s with hub := (h.passTurn true).manifestOn n r } := by
  subst hc
  exact runWord_holds ha (at_manifest_unbarred ha hl) hbody hr

/-- The instruction's own effect is a fault. -/
theorem runManifest_faults (ha : At s (.manifest n) w q) (hl : new11 = true → q.level ≠ 0x10) (hc : clean = true) {c : Nat}
    (hbody : body q.head.ctx (s.hub.countStep (.manifest n)) q.counted = .fault c) :
    knaen (.manifest n) s (fun g => g.runManifest (.manifest n) w new11 clean body) = .next (s.faulted (.manifest n) q c) := by
  subst hc
  exact runWord_faults ha (at_manifest_unbarred ha hl) hbody

/-- The program ends. -/
theorem runManifest_ends (ha : At s (.manifest n) w q) (hl : new11 = true → q.level ≠ 0x10) (hc : clean = true)
    (hbody : body q.head.ctx (s.hub.countStep (.manifest n)) q.counted = .ends h) :
    knaen (.manifest n) s (fun g => g.runManifest (.manifest n) w new11 clean body) = .next { s with hub := h } := by
  subst hc
  exact runWord_ends ha (at_manifest_unbarred ha hl) hbody

end

/-- A level-1.0 instruction asks nothing of the program's level. -/
theorem level_any {q : Prog} : false = true → q.level ≠ 0x10 := nofun

/-! ### Handles (R73, R74) -/

/-- No class has more instances than a handle's low half counts. -/
theorem classInstances_le (cls : Nat) : classInstances cls ≤ 2 ^ 16 := by
  unfold classInstances
  split <;> norm_num

theorem handleOf_eq_some {w : Word} {cls inst : Nat} :
    handleOf w = some (cls, inst) ↔ w.toNat = cls * 2 ^ 16 + inst ∧ cls < 0x24 ∧ inst < classInstances cls := by
  have hle := classInstances_le cls
  have hw := w.isLt
  constructor
  · intro h
    simp only [handleOf] at h
    split at h
    case isTrue hc =>
      simp only [classDefined, Bool.and_eq_true, beq_iff_eq, decide_eq_true_eq] at hc
      obtain ⟨⟨hhigh, hcls⟩, hinst⟩ := hc
      simp only [bits, Option.some.injEq, Prod.mk.injEq] at h hhigh hcls hinst
      obtain ⟨rfl, rfl⟩ := h
      exact ⟨by omega, hcls, hinst⟩
    case isFalse => cases h
  · rintro ⟨he, hcls, hinst⟩
    have hc : bits w.toNat 16 8 = cls := by simp only [bits]; omega
    have hi : w.toNat % 65536 = inst := by omega
    have hz : bits w.toNat 24 8 = 0 := by simp only [bits]; omega
    simp only [handleOf, hc, hi, hz, classDefined, hcls, hinst, beq_self_eq_true, decide_true, Bool.and_self, if_true]

/-- The word OPEN forms of a class and one of its objects. -/
theorem toNat_handle {cls inst : Nat} (hcls : cls < 0x24) (hinst : inst < classInstances cls) :
    (BitVec.ofNat 32 (cls * 2 ^ 16 + inst)).toNat = cls * 2 ^ 16 + inst := by
  have hle := classInstances_le cls
  rw [BitVec.toNat_ofNat, Nat.mod_eq_of_lt (by omega)]

/-- Settles O19: by the class table, and the fields of a handle as it is put together. -/
theorem openWritesTheObjectsHandle : Obligations.OpenWritesTheObjectsHandle := by
  refine ⟨fun s n q wd wa imm hq ha => ?_, fun cls inst hcls hinst => ?_, fun w cls inst h => handleOf_eq_some.mp h⟩
  · intro cls inst
    have hcls : bits imm.toNat 10 8 = cls := Nat.mod_eq_of_lt (by have := imm.isLt; omega)
    have hinst : q.counted.regN wa + imm.toNat % 1024 = inst := rfl
    refine ⟨fun h => ?_, fun h hi => ?_, fun h hi => ?_⟩
    · exact runManifest_faults ha level_any rfl (by simp only [hcls, classDefined, not_lt.mpr h, decide_false, Bool.not_false, if_true])
    · exact runManifest_faults ha level_any rfl (by simp only [hcls, hinst, classDefined, h, decide_true, Bool.not_true, Bool.false_eq_true, if_false, hi, if_true])
    · refine computes_of_goesTo hq (runManifest_continues ha level_any rfl ?_ (computed_block.trans (at_unblocked ha)))
      simp only [hcls, hinst, classDefined, h, decide_true, Bool.not_true, Bool.false_eq_true, if_false, not_le.mpr hi]
      rfl
  · exact handleOf_eq_some.mpr ⟨toNat_handle hcls hinst, hcls, hinst⟩

/-! ### Stores (R80 to R82, R133) -/

/-- What a store stages, told by its result. -/
theorem Prog.stage_staged (q : Prog) (h : Hub) (f : FieldInfo) (cls inst num elem : Nat) (v : Int) (strict : Bool) :
    let x := (q.storing h).store f cls inst num elem v q.staged strict
    ∃ steps, q.stage h f cls inst num elem v strict =
      ({ q with
          staged := q.staged ++ x.value.toList.map (fun y => { cls := cls, inst := inst, num := num, elem := elem, value := y })
          clamps := q.clamps ++ x.clamps, stepsRefused := steps }, x.changed) := by
  intro x
  refine ⟨(q.stage h f cls inst num elem v strict).1.stepsRefused, ?_⟩
  have hx : (q.storing h).store f cls inst num elem v q.staged strict = x := rfl
  simp only [Prog.stage, hx]
  cases x.value <;> simp

/-- A program after a store: what it staged, its clamp entries, C as the store tells and K as given, at the next word. -/
def Prog.stored (q : Prog) (r : FieldRef) (x : StoreResult) (steps : List Int) (k : Bool) : Prog :=
  { q with
    staged := q.staged ++ x.value.toList.map (fun y => { cls := r.cls, inst := r.inst, num := r.num, elem := r.elem, value := y })
    clamps := q.clamps ++ x.clamps, stepsRefused := steps, c := x.changed, k := k, pc := q.pc + 1, steps := q.steps + 1 }

section
variable {s : State} {n : Nat} {q : Prog} {wv wh : RegNo} {field : BitVec 12} {modifier : BitVec 6} {r : FieldRef}

/-- SET of a field operand that resolves. -/
theorem execSet_stores (ha : At s (.manifest n) (wordF 0x1a#6 wv wh field modifier) q) (hf : q.fieldOperand wv wh field modifier = .ok r) :
    let x := (q.storing (s.hub.countStep (.manifest n))).store r.info r.cls r.inst r.num r.elem (q.storeValue r wv) q.staged false
    ∃ steps, exec (.set (.manifest n) wv wh field modifier) s = .next (s.goesTo (.manifest n) (q.stored r x steps (q.k || x.changed))) := by
  intro x
  obtain ⟨steps, hs⟩ := q.counted.stage_staged (s.hub.countStep (.manifest n)) r.info r.cls r.inst r.num r.elem (q.storeValue r wv) false
  have hn : q.block = none := at_unblocked ha
  refine ⟨steps, runManifest_continues ha level_any rfl ?_ hn⟩
  have hv : q.counted.storeValue r wv = q.storeValue r wv := rfl
  simp only [Prog.counted_fieldOperand, hf, hv, hs]
  rfl

/-- SETX of a field operand that resolves: K stays. -/
theorem execSetx_stores (ha : At s (.manifest n) (wordF 0x1b#6 wv wh field modifier) q) (hl : q.level ≠ 0x10)
    (hf : q.fieldOperand wv wh field modifier = .ok r) :
    let x := (q.storing (s.hub.countStep (.manifest n))).store r.info r.cls r.inst r.num r.elem (q.storeValue r wv) q.staged true
    ∃ steps, exec (.setx (.manifest n) wv wh field modifier) s = .next (s.goesTo (.manifest n) (q.stored r x steps q.k)) := by
  intro x
  obtain ⟨steps, hs⟩ := q.counted.stage_staged (s.hub.countStep (.manifest n)) r.info r.cls r.inst r.num r.elem (q.storeValue r wv) true
  have hn : q.block = none := at_unblocked ha
  refine ⟨steps, runManifest_continues ha (fun _ => hl) rfl ?_ hn⟩
  have hv : q.counted.storeValue r wv = q.storeValue r wv := rfl
  simp only [Prog.counted_fieldOperand, hf, hv, hs]
  rfl

/-- SETM of a field operand that resolves: the value staged or read, outside the mask as it was. -/
theorem execSetm_stores (ha : At s (.manifest n) (wordF 0x1c#6 wv wh field modifier) q) (hf : q.maskOperand wv wh field modifier = .ok r) :
    let g := s.hub.countStep (.manifest n)
    let old := (q.stagedValue r).getD (g.liveValue r.cls r.inst r.num r.elem)
    let x := (q.storing g).store r.info r.cls r.inst r.num r.elem (q.masked wv (modifier.extractLsb' 0 4) old : Nat) q.staged false
    ∃ steps, exec (.setm (.manifest n) wv wh field modifier) s = .next (s.goesTo (.manifest n) (q.stored r x steps (q.k || x.changed))) := by
  intro g old x
  obtain ⟨steps, hs⟩ := q.counted.stage_staged g r.info r.cls r.inst r.num r.elem (q.masked wv (modifier.extractLsb' 0 4) old : Nat) false
  have hn : q.block = none := at_unblocked ha
  refine ⟨steps, runManifest_continues ha level_any rfl ?_ hn⟩
  have ho : q.counted.maskOperand wv wh field modifier = .ok r := hf
  have hm (v : Nat) : q.counted.masked wv (modifier.extractLsb' 0 4) v = q.masked wv (modifier.extractLsb' 0 4) v := rfl
  cases h : q.stagedValue r
  all_goals
    simp only [g, old, h, Option.getD_none, Option.getD_some] at hs
    simp only [ho, Prog.counted_stagedValue, h, hm, hs, g, x, old, Option.getD_none, Option.getD_some]
    rfl

end

/-- Settles O21: what each of the three stages is `Prog.stored`. -/
theorem setStagesCheckedValue : Obligations.SetStagesCheckedValue := by
  intro s n q wv wh field modifier r g result stagedBy
  have hstored (x : StoreResult) (steps : List Int) (k : Bool) : stagedBy x k (q.stored r x steps k) :=
    ⟨rfl, rfl, rfl, ⟨rfl, rfl, rfl, rfl, rfl⟩, rfl, rfl, rfl, rfl, rfl, rfl⟩
  refine ⟨?_, ?_, ?_⟩
  · intro ha hf x
    obtain ⟨steps, hs⟩ := execSet_stores ha hf
    exact ⟨_, hs, hstored x steps _⟩
  · intro ha hl hf x
    obtain ⟨steps, hs⟩ := execSetx_stores ha hl hf
    exact ⟨_, hs, hstored x steps _⟩
  · intro ha hf old mask x
    obtain ⟨steps, hs⟩ := execSetm_stores ha hf
    exact ⟨_, hs, hstored x steps _⟩

/-! ### COMMIT (R84, R138) -/

section
variable {s : State} {n k : Nat} {q : Prog} {wa wb : RegNo} {index : BitVec 14}

/-- The epoch a COMMIT of a kind names in the hub that has counted its step: a replay commits at once (R155). -/
def commitEpoch (s : State) (n k : Nat) (q : Prog) (wa wb : RegNo) (index : BitVec 14) : Epoch :=
  (s.hub.countStep (.manifest n)).epochOf (if q.head.replay.isSome then 0 else k) index.toNat (q.reg wa).toNat (q.reg wb).toNat q.staged

theorem runCommit_faults {code : Nat} (ha : At s (.manifest n) (wordE 0x1e#6 wa wb (BitVec.ofNat 4 k) index) q)
    (he : q.epochFault k wa wb index = some code) :
    knaen (.manifest n) s (fun h => h.runCommit (.manifest n) k wa wb index) = .next (s.faulted (.manifest n) q code) := by
  have he' : q.counted.epochFault k wa wb index = some code := he
  exact runManifest_faults ha level_any rfl (by simp only [he'])

/-- A COMMIT goes on to what `Hub.commit` does with the context's set. -/
theorem runCommit_commits (ha : At s (.manifest n) (wordE 0x1e#6 wa wb (BitVec.ofNat 4 k) index) q) (he : q.epochFault k wa wb index = none) :
    knaen (.manifest n) s (fun h => h.runCommit (.manifest n) k wa wb index) = .next
      { s with hub := (s.hub.countStep (.manifest n)).commit q.head.ctx q.counted k index.toNat (q.reg wa).toNat (q.reg wb).toNat } := by
  have he' : q.counted.epochFault k wa wb index = none := he
  exact runManifest_ends ha level_any rfl (by simp only [he']; rfl)

theorem runCommit_enters (ha : At s (.manifest n) (wordE 0x1e#6 wa wb (BitVec.ofNat 4 k) index) q) (he : q.epochFault k wa wb index = none)
    (hroom : (s.hub.countStep (.manifest n)).waitingSets q.head.ctx < 4) :
    knaen (.manifest n) s (fun h => h.runCommit (.manifest n) k wa wb index) = .next { s with
      hub := ((s.hub.countStep (.manifest n)).enterStage q.head.ctx q.counted (commitEpoch s n k q wa wb index) (if q.head.replay.isSome then 0 else k)).settle } := by
  rw [runCommit_commits ha he, Hub.commit, if_pos hroom]
  rfl

theorem runCommit_blocks (ha : At s (.manifest n) (wordE 0x1e#6 wa wb (BitVec.ofNat 4 k) index) q) (he : q.epochFault k wa wb index = none)
    (hfull : 4 ≤ (s.hub.countStep (.manifest n)).waitingSets q.head.ctx) :
    knaen (.manifest n) s (fun h => h.runCommit (.manifest n) k wa wb index) = .next { s with
      hub := ((s.hub.countStep (.manifest n)).passTurn true).setProg q.head.ctx
        { q.counted with block := some (.commitStage (commitEpoch s n k q wa wb index) (if q.head.replay.isSome then 0 else k)) } } := by
  rw [runCommit_commits ha he, Hub.commit, if_neg (not_lt.mpr hfull)]
  rfl

end

/-- Settles O23: the six commands are COMMIT of their kind (`runCommit_enters`, `runCommit_blocks`), the seventh is of the kinds that fault. -/
theorem commitHandsOverTheSet : Obligations.CommitHandsOverTheSet := by
  intro s n q wa wb index kind ha i k g e
  have hkind : BitVec.ofNat 4 kind.toNat = kind := ofNat_of_toNat rfl
  have ha' : At s (.manifest n) (wordE 0x1e#6 wa wb (BitVec.ofNat 4 kind.toNat) index) q := by rwa [hkind]
  have hcmd : ∀ c, i = some c → exec c s = knaen (.manifest n) s (fun h => h.runCommit (.manifest n) kind.toNat wa wb index) := by
    intro c hc
    simp only [i] at hc
    split at hc
    case h_7 => cases hc
    all_goals
      cases hc
      simp only [*]
      rfl
  refine ⟨fun c hc code he => ?_, fun c hc he hroom => ?_, fun c hc he hfull => ?_, fun hk => ?_⟩
  · exact (hcmd c hc).trans (runCommit_faults ha' he)
  · exact (hcmd c hc).trans (runCommit_enters ha' he hroom)
  · exact (hcmd c hc).trans (runCommit_blocks ha' he hfull)
  · exact (knaen_congr (if_pos hk)).trans (runManifest_faults ha (new11 := false) (body := fun _ _ _ => .fault 0x0C) level_any rfl rfl)

end Sys2Proof.Machine
end

section
/-! SUPPORT and the obligation O24. A set in the commit stage, and the fields after the last stores of a set are written. -/

namespace Sys2Proof.Machine

/-! ### Entering the commit stage (R136, R138, R140) -/

/-- The set a program hands to the commit stage for a network time. -/
def timeSet (h : Hub) (n : Nat) (q : Prog) (kind target : Nat) : WaitSet :=
  { head := q.head, words := q.words, epoch := .time target, kind := kind, deadline := h.now + h.commitTimeout n, arrived := h.atOnce (.time target),
    late := decide (diff48 target h.network48 < 0), staged := q.staged, notes := q.notes, clamps := q.clamps, stepsRefused := q.stepsRefused,
    steps := q.steps }

theorem Hub.enterStage_tooFar {h : Hub} {n : Nat} {q : Prog} {kind target : Nat} (hf : (h.commitTimeout n : Int) < diff48 target h.network48) :
    h.enterStage n q (.time target) kind = (h.endManifest n).discardSet (timeSet h n q kind target) 7 0x103 [] :=
  if_pos hf

theorem Hub.enterStage_within {h : Hub} {n : Nat} {q : Prog} {kind target : Nat} (hf : diff48 target h.network48 ≤ h.commitTimeout n) :
    h.enterStage n q (.time target) kind = { h.endManifest n with sets := (h.endManifest n).sets ++ [timeSet h n q kind target] } :=
  if_neg (not_lt.mpr hf)

/-! ### The stores of an applied set (R83) -/

theorem Staged.same_iff (a b : Staged) : a.same b = true ↔ fieldKey a.cls a.inst a.num a.elem = fieldKey b.cls b.inst b.num b.elem := beq_iff_eq

/-- The hub after stores are written one after another. -/
def Hub.writeStores (h : Hub) (sts : List Staged) : Hub := sts.foldl (fun g s => g.setN s.cls s.inst s.num s.elem s.value) h

theorem Applied.write_eq (a : Applied) (h : Hub) : a.write h = h.writeStores a.sts := rfl

@[simp] theorem Hub.writeStores_cons (h : Hub) (s : Staged) (t : List Staged) :
    h.writeStores (s :: t) = (h.setN s.cls s.inst s.num s.elem s.value).writeStores t := rfl

/-- A field element that no store names stays. -/
theorem Hub.getN_writeStores_other {sts : List Staged} {c i m e : Nat} (hk : ∀ x ∈ sts, fieldKey x.cls x.inst x.num x.elem ≠ fieldKey c i m e) (h : Hub) :
    (h.writeStores sts).getN c i m e = h.getN c i m e := by
  induction sts generalizing h with
  | nil => rfl
  | cons s t ih =>
    rw [h.writeStores_cons, ih (fun x hx => hk x (List.mem_cons_of_mem _ hx))]
    exact h.getN_setN_other _ (hk s List.mem_cons_self).symm

/-- The last stores are stores of the set. -/
theorem mem_of_mem_lastStores {x : Staged} {staged : List Staged} (hx : x ∈ lastStores staged) : x ∈ staged := by
  induction staged with
  | nil => exact hx
  | cons s t ih =>
    rw [lastStores] at hx
    split at hx
    · exact List.mem_cons_of_mem _ (ih hx)
    · obtain rfl | hx := List.mem_cons.mp hx
      · exact List.mem_cons_self
      · exact List.mem_cons_of_mem _ (ih hx)

/-- A field element holds the value of its last store once the last stores of a set are written. -/
theorem Hub.getN_writeStores_last {s : Staged} {after : List Staged} (hlast : ∀ x ∈ after, s.same x = false) (before : List Staged) {h : Hub}
    (hw : h.fields.wf fieldDefault = true) :
    (h.writeStores (lastStores (before ++ s :: after))).getN s.cls s.inst s.num s.elem = s.value := by
  induction before generalizing h with
  | nil =>
    have hnone : ¬ after.any s.same = true := by simpa using hlast
    have hother : ∀ x ∈ lastStores after, fieldKey x.cls x.inst x.num x.elem ≠ fieldKey s.cls s.inst s.num s.elem := fun x hx he =>
      absurd (hlast x (mem_of_mem_lastStores hx)) (by simp [(Staged.same_iff s x).mpr he.symm])
    rw [List.nil_append, lastStores, if_neg hnone, h.writeStores_cons, Hub.getN_writeStores_other hother]
    exact h.getN_setN_same _ _ _ _ _ hw
  | cons b t ih =>
    rw [List.cons_append, lastStores]
    split
    · exact ih hw
    · exact ih (h.fields_wf_setN _ _ _ _ _ hw)

/-- Settles O24: by what entering the stage answers, and by induction on the stores for the fields they leave. -/
theorem setEntersCommitStageWithItsLastStores : Obligations.SetEntersCommitStageWithItsLastStores := by
  refine ⟨fun h n q kind target => ?_, fun a h staged hsts hw => ⟨fun before s after hs hlast => ?_, fun c i m e hk => ?_⟩⟩
  · refine ⟨fun hf => ⟨timeSet h n q kind target, rfl, rfl, Hub.enterStage_tooFar hf⟩,
      fun hf => ⟨timeSet h n q kind target, rfl, rfl, rfl, rfl, rfl, rfl, Hub.enterStage_within hf⟩⟩
  · rw [a.write_eq, hsts, hs]
    exact Hub.getN_writeStores_last hlast before hw
  · rw [a.write_eq, hsts]
    exact Hub.getN_writeStores_other (fun x hx => hk x (mem_of_mem_lastStores hx)) h

end Sys2Proof.Machine
end

section
/-! SUPPORT and the obligation O25. ABANDON, WAIT and NOTE at their word. -/

namespace Sys2Proof.Machine

/-! ### WAIT (R86, R87, R155) -/

section
variable {s : State} {n k : Nat} {q : Prog} {wa wb : RegNo} {index : BitVec 14}

/-- The epoch a WAIT of a kind names in the hub that has counted its step. -/
def waitEpoch (s : State) (n k : Nat) (q : Prog) (wa wb : RegNo) (index : BitVec 14) : Epoch :=
  (s.hub.countStep (.manifest n)).epochOf k index.toNat (q.reg wa).toNat (q.reg wb).toNat q.staged

theorem runWait_faults {code : Nat} (ha : At s (.manifest n) (wordE 0x20#6 wa wb (BitVec.ofNat 4 k) index) q)
    (he : q.epochFault k wa wb index = some code) :
    knaen (.manifest n) s (fun h => h.runWait (.manifest n) k wa wb index) = .next (s.faulted (.manifest n) q code) := by
  have he' : q.counted.epochFault k wa wb index = some code := he
  exact runManifest_faults ha level_any rfl (by simp only [he'])

/-- A WAIT whose moment has come, or of a replay, goes on at once. -/
theorem runWait_goesOn (ha : At s (.manifest n) (wordE 0x20#6 wa wb (BitVec.ofNat 4 k) index) q) (he : q.epochFault k wa wb index = none)
    (hnow : q.head.replay.isSome = true ∨ (s.hub.countStep (.manifest n)).atOnce (waitEpoch s n k q wa wb index) = true) :
    knaen (.manifest n) s (fun h => h.runWait (.manifest n) k wa wb index) =
      .next (s.goesTo (.manifest n) { q.counted with z := true, pc := q.pc + 1 }) := by
  have he' : q.counted.epochFault k wa wb index = none := he
  have hn : q.block = none := at_unblocked ha
  exact runManifest_continues ha level_any rfl (by simp only [he']; exact if_pos ((Bool.or_eq_true _ _).mpr hnow)) hn

/-- A WAIT whose moment is to come holds the Manifest until then or until COMMIT_TIMEOUT. -/
theorem runWait_waits (ha : At s (.manifest n) (wordE 0x20#6 wa wb (BitVec.ofNat 4 k) index) q) (he : q.epochFault k wa wb index = none)
    (hr : q.head.replay = none) (hlater : (s.hub.countStep (.manifest n)).atOnce (waitEpoch s n k q wa wb index) = false) :
    knaen (.manifest n) s (fun h => h.runWait (.manifest n) k wa wb index) = .next { s with
      hub := (((s.hub.countStep (.manifest n)).seekQuiet (waitEpoch s n k q wa wb index)).passTurn true).manifestOn n
        { q.counted with pc := q.pc + 1, block := some (.wait (waitEpoch s n k q wa wb index) (s.hub.now + s.hub.commitTimeout q.head.ctx)) } } := by
  have he' : q.counted.epochFault k wa wb index = none := he
  have hnot : ¬ (q.head.replay.isSome || (s.hub.countStep (.manifest n)).atOnce (waitEpoch s n k q wa wb index)) = true := by simp [hr, hlater]
  exact runManifest_holds ha level_any rfl (by simp only [he']; exact if_neg hnot) rfl

end

/-! ### Delays (R86, R87) -/

section
variable {s : State} {n : Nat} {q : Prog} {wa wb : RegNo} {index : BitVec 14}

/-- WAIT kinds 7 to 15. -/
theorem execWaitDelay_reserved {kind : BitVec 4} (ha : At s (.manifest n) (wordE 0x20#6 wa wb kind index) q) (hk : 7 ≤ kind.toNat) :
    exec (.waitDelay (.manifest n) wa wb kind index) s = .next (s.faulted (.manifest n) q 0x0C) := by
  have hlt : ¬ kind.toNat < 6 := by omega
  have h6 : decide (6 < kind.toNat) = true := decide_eq_true hk
  exact (knaen_congr (if_neg hlt)).trans (runManifest_faults ha level_any (by simp [h6]) (by simp [h6]))

theorem execWaitDelay_outOfRange (ha : At s (.manifest n) (wordE 0x20#6 wa 0#4 6#4 0#14) q)
    (hus : (q.reg wa).toNat = 0 ∨ 1000000 < (q.reg wa).toNat) :
    exec (.waitDelay (.manifest n) wa 0#4 6#4 0#14) s = .next (s.faulted (.manifest n) q 0x0C) := by
  have hlt : ¬ (6#4).toNat < 6 := by decide
  refine (knaen_congr (if_neg hlt)).trans (runManifest_faults ha level_any rfl (if_pos ?_))
  obtain h | h := hus
  · simp [Prog.regN, h]
  · simp [Prog.regN, h]

/-- WAIT of kind 6 holds the Manifest for as many microseconds as its register says. -/
theorem execWaitDelay_holds (ha : At s (.manifest n) (wordE 0x20#6 wa 0#4 6#4 0#14) q)
    (hlo : 1 ≤ (q.reg wa).toNat) (hhi : (q.reg wa).toNat ≤ 1000000) :
    exec (.waitDelay (.manifest n) wa 0#4 6#4 0#14) s = .next (s.heldAs (.manifest n) { q.counted with
      pc := q.pc + 1, block := some (.delay (s.hub.now + (q.reg wa).toNat * usec) (s.hub.now + s.hub.commitTimeout q.head.ctx)) }) := by
  have hlt : ¬ (6#4).toNat < 6 := by decide
  refine (knaen_congr (if_neg hlt)).trans (runManifest_holds ha level_any rfl (if_neg ?_) rfl)
  have hreg : q.counted.regN wa = (q.reg wa).toNat := rfl
  simp only [hreg, Bool.or_eq_true, decide_eq_true_eq, beq_iff_eq, BitVec.reduceToNat]
  omega

end

/-- A delay that ends within COMMIT_TIMEOUT. -/
theorem execWaitDelayExpiry_ends {s : State} {n : Nat} {q : Prog} {due deadline : Nat} (hm : s.hub.mainUp = true) (hn : n < 6)
    (hq : s.hub.prog n = some q) (hb : q.block = some (.delay due deadline)) (hd : due ≤ deadline) :
    exec (.waitDelayExpiry n) s = .next { s with hub := (s.hub.advanceTo due).manifestOn n { q with block := none, z := true } } := by
  refine (actIf_up _ (decide_eq_true hn) hm).trans ?_
  simp only [hq, hb, hd, if_true]

/-! ### NOTE (R91) -/

section
variable {s : State} {n : Nat} {q : Prog} {wa wb : RegNo}

theorem execNote_notes (ha : At s (.manifest n) (wordA 0x23#6 0#4 wa wb 0#14) q) (hl : q.notes.length < 32) :
    exec (.note (.manifest n) 0#4 wa wb 0#14) s =
      .next (s.goesTo (.manifest n) { q.counted with notes := q.notes ++ [(q.reg wa, q.reg wb)], c := false, pc := q.pc + 1 }) := by
  have hn : q.block = none := at_unblocked ha
  exact runManifest_continues ha level_any rfl (if_pos hl) hn

theorem execNote_full (ha : At s (.manifest n) (wordA 0x23#6 0#4 wa wb 0#14) q) (hl : 32 ≤ q.notes.length) :
    exec (.note (.manifest n) 0#4 wa wb 0#14) s = .next (s.goesTo (.manifest n) { q.counted with c := true, pc := q.pc + 1 }) := by
  have hn : q.block = none := at_unblocked ha
  exact runManifest_continues ha level_any rfl (if_neg (not_lt.mpr hl)) hn

end

/-- Settles O25: the six epochs are WAIT of their kind, kind 6 and above the delay. -/
theorem abandonWaitAndNote : Obligations.AbandonWaitAndNote := by
  refine ⟨⟨fun s n q func ha => runManifest_ends ha level_any rfl rfl, fun s n q wa wb index kind c ha hc => ?_,
    fun s n q wa wb index kind ha => ?_, fun s n q due deadline hm hn hq hb hd => execWaitDelayExpiry_ends hm hn hq hb hd⟩,
    fun s n q wa wb ha => ⟨execNote_notes ha, execNote_full ha⟩⟩
  · intro g e
    have ha' : At s (.manifest n) (wordE 0x20#6 wa wb (BitVec.ofNat 4 kind.toNat) index) q := by rwa [ofNat_of_toNat (x := kind) rfl]
    have hcmd : exec c s = knaen (.manifest n) s (fun h => h.runWait (.manifest n) kind.toNat wa wb index) := by
      split at hc
      case h_7 => cases hc
      all_goals
        cases hc
        simp only [*]
        rfl
    exact ⟨fun code he => hcmd.trans (runWait_faults ha' he), fun he hnow => hcmd.trans (runWait_goesOn ha' he hnow),
      fun he hr hlater => hcmd.trans (runWait_waits ha' he hr hlater)⟩
  · refine ⟨execWaitDelay_reserved ha, ?_, ?_⟩
    · rintro rfl rfl rfl hus
      exact execWaitDelay_outOfRange ha hus
    · rintro rfl rfl rfl hlo hhi
      exact execWaitDelay_holds ha hlo hhi

end Sys2Proof.Machine
end

section
/-! SUPPORT and the obligation O26. The token instructions, OWN and YIELD, at their word. -/

namespace Sys2Proof.Machine

/-! ### Tokens (R88, R89, R146) -/

/-- The program after a token operation: Z tells whether it was granted, and wd reads the holder. -/
def Prog.tokenDone (q : Prog) (wd : RegNo) (granted : Bool) (holder : Nat) : Prog :=
  (({ q.counted with z := granted } : Prog).setReg wd (BitVec.ofNat 32 holder)).next

theorem Prog.tokenDone_block (q : Prog) (wd : RegNo) (granted : Bool) (holder : Nat) : (q.tokenDone wd granted holder).block = q.block := by
  obtain ⟨t, ht⟩ := Prog.setReg_rest { q.counted with z := granted } wd (BitVec.ofNat 32 holder)
  simp only [Prog.tokenDone, ht]
  rfl

/-- The hub after a token has moved for a Manifest; a replay remembers what it took by OWN (R155). -/
def Hub.tokenMoved (h : Hub) (q : Prog) (k new : Nat) (force own : Bool) : Hub :=
  let g := h.moveToken k new (if force then 0xE else q.head.ctx) own
  if own && q.head.replay.isSome then { g with replayTokens := g.replayTokens.filter (fun x => x.1 != k) ++ [(k, q.head.ctx)] } else g

section
variable {h : Hub} {q : Prog} {wd : RegNo} {k new : Nat} {force own : Bool}

theorem Hub.tokenMove_refused : h.tokenMove q.counted wd q.head.ctx k new true force own = .on h (q.tokenDone wd false (h.holder k)) := by
  simp [Hub.tokenMove, Prog.tokenDone]

theorem Hub.tokenMove_granted : h.tokenMove q.counted wd q.head.ctx k new false force own =
    .on (h.tokenMoved q k new force own) (q.tokenDone wd true ((h.tokenMoved q k new force own).holder k)) := by
  simp only [Hub.tokenMove, Bool.not_false, Bool.and_true, Bool.false_eq_true, if_false]
  rfl

end

section
variable {s : State} {n : Nat} {q : Prog} {wd wa : RegNo} {imm : BitVec 17} {force : Bool}

/-- A token instruction whose body comes to a token operation: what it does where that is refused, and where it is granted. -/
theorem runToken {w : Word} {clean own refused : Bool} {k new : Nat} {body : Nat → Hub → Prog → Ran} (ha : At s (.manifest n) w q) (hc : clean = true)
    (hbody : body q.head.ctx (s.hub.countStep (.manifest n)) q.counted =
      (s.hub.countStep (.manifest n)).tokenMove q.counted wd q.head.ctx k new refused force own) :
    let run := knaen (.manifest n) s (fun h => h.runManifest (.manifest n) w false clean body)
    let g := (s.hub.countStep (.manifest n)).tokenMoved q k new force own
    (refused = true → run = .next (s.goesTo (.manifest n) (q.tokenDone wd false (s.hub.holder k)))) ∧
    (refused = false → run = .next { s with hub := g.goOn (.manifest n) (q.tokenDone wd true (g.holder k)) }) := by
  intro run g
  refine ⟨?_, ?_⟩
  · rintro rfl
    exact runManifest_continues ha level_any hc (hbody.trans Hub.tokenMove_refused) ((q.tokenDone_block ..).trans (at_unblocked ha))
  · rintro rfl
    exact runManifest_on ha level_any hc (hbody.trans Hub.tokenMove_granted) ((q.tokenDone_block ..).trans (at_unblocked ha))

/-- OWN with its reserved bits zero: of a number no token has, and of one that has, refused or granted. -/
theorem runOwn_cases (ha : At s (.manifest n) (wordI 0x21#6 wd wa (BitVec.ofBool force ++ imm)) q) (hc : imm.toNat / 64 = 0) :
    let k := (q.reg wa).toNat + imm.toNat % 64
    let run := knaen (.manifest n) s (fun h => h.runOwn (.manifest n) wd wa imm force)
    let g := (s.hub.countStep (.manifest n)).tokenMoved q k q.head.ctx force true
    (64 ≤ k → run = .next (s.faulted (.manifest n) q 0x0C)) ∧
    (k < 64 → s.hub.ownRefused q q.head.ctx k force = true → run = .next (s.goesTo (.manifest n) (q.tokenDone wd false (s.hub.holder k)))) ∧
    (k < 64 → s.hub.ownRefused q q.head.ctx k force = false → run = .next { s with hub := g.goOn (.manifest n) (q.tokenDone wd true (g.holder k)) }) := by
  intro k run g
  have hclean : (bits imm.toNat 6 11 == 0) = true := by simp only [bits, beq_iff_eq]; omega
  refine ⟨fun hk => runManifest_faults ha level_any hclean (if_pos hk), fun hk => ?_, fun hk => ?_⟩
  · exact (runToken ha hclean (if_neg (not_le.mpr hk))).1
  · exact (runToken ha hclean (if_neg (not_le.mpr hk))).2

/-- YIELD with its reserved bits zero: of a number no token has or to a code no context has, refused, and granted. -/
theorem runYield_cases (ha : At s (.manifest n) (wordI 0x22#6 wd wa (BitVec.ofBool force ++ imm)) q) (hc : imm.toNat / 2 ^ 12 = 0)
    (hc' : imm.toNat / 64 % 4 = 0) :
    let k := (q.reg wa).toNat + imm.toNat % 64
    let dest := imm.toNat / 256 % 16
    let run := knaen (.manifest n) s (fun h => h.runYield (.manifest n) wd wa imm force)
    let g := (s.hub.countStep (.manifest n)).tokenMoved q k dest force false
    (64 ≤ k ∨ (6 ≤ dest ∧ dest ≤ 14) → run = .next (s.faulted (.manifest n) q 0x0C)) ∧
    (k < 64 → (dest < 6 ∨ dest = 15) → s.hub.yieldRefused q q.head.ctx k dest force = true →
      run = .next (s.goesTo (.manifest n) (q.tokenDone wd false (s.hub.holder k)))) ∧
    (k < 64 → (dest < 6 ∨ dest = 15) → s.hub.yieldRefused q q.head.ctx k dest force = false →
      run = .next { s with hub := g.goOn (.manifest n) (q.tokenDone wd true (g.holder k)) }) := by
  intro k dest run g
  have hclean : (bits imm.toNat 12 5 == 0 && bits imm.toNat 6 2 == 0) = true := by
    simp only [bits, Bool.and_eq_true, beq_iff_eq]
    omega
  have hbad : (decide (64 ≤ k) || (decide (6 ≤ dest) && decide (dest < 15))) = true ↔ 64 ≤ k ∨ (6 ≤ dest ∧ dest ≤ 14) := by
    simp only [Bool.or_eq_true, Bool.and_eq_true, decide_eq_true_eq, Nat.lt_succ_iff]
  refine ⟨fun h => runManifest_faults ha level_any hclean (if_pos (hbad.mpr h)), fun hk hd => ?_, fun hk hd => ?_⟩
  · exact (runToken ha hclean (if_neg (mt hbad.mp (by omega)))).1
  · exact (runToken ha hclean (if_neg (mt hbad.mp (by omega)))).2

end

/-- Settles O26: plain and forced are one operation with the force bit as the command has it. -/
theorem ownAndYieldMoveTokens : Obligations.OwnAndYieldMoveTokens := by
  intro s n q wd wa imm force me k done kept
  refine ⟨fun ha hc => ?_, fun ha hc hc' => ?_⟩
  · intro c
    obtain ⟨hbad, hkept, hdone⟩ := runOwn_cases ha hc
    have hcmd : exec c s = knaen (.manifest n) s (fun h => h.runOwn (.manifest n) wd wa imm force) := by cases force <;> rfl
    exact ⟨fun hk => hcmd.trans (hbad hk), fun hk hr => hcmd.trans (hkept hk hr), fun hk hr => hcmd.trans (hdone hk hr)⟩
  · intro c dest
    obtain ⟨hbad, hkept, hdone⟩ := runYield_cases ha hc hc'
    have hcmd : exec c s = knaen (.manifest n) s (fun h => h.runYield (.manifest n) wd wa imm force) := by cases force <;> rfl
    exact ⟨fun hk => hcmd.trans (hbad hk), fun hk hd hr => hcmd.trans (hkept hk hd hr), fun hk hd hr => hcmd.trans (hdone hk hd hr)⟩

end Sys2Proof.Machine
end

section
/-! SUPPORT and the obligation O28. Branch Line transactions of a Manifest: XFER, its end, and RELEASE. -/

namespace Sys2Proof.Machine

/-! ### XFER (R92 to R94) -/

section
variable {h : Hub} {q : Prog} {wa wb : RegNo} {lock : Bool} {index : BitVec 14} {b : Nat}

/-- The lengths of an XFER are in range: neither above 16 bytes, and not both zero. -/
def xferRange (index : BitVec 14) : Prop :=
  (xferLengths index).1 ≤ 16 ∧ (xferLengths index).2 ≤ 16 ∧ ¬ ((xferLengths index).1 = 0 ∧ (xferLengths index).2 = 0)

theorem xferRange_iff : xferRange index ↔
    ¬ (decide (16 < (xferLengths index).1) || decide (16 < (xferLengths index).2) || ((xferLengths index).1 == 0 && (xferLengths index).2 == 0)) = true := by
  simp only [xferRange, Bool.or_eq_true, Bool.and_eq_true, decide_eq_true_eq, beq_iff_eq, not_or, not_lt, and_assoc]

theorem Hub.xfer_badLength (hr : ¬ xferRange index) : h.xfer q wa wb lock index = .fault 0x0C :=
  if_pos (not_not.mp (mt xferRange_iff.mpr hr))

theorem Hub.xfer_noInterface (hr : xferRange index) (hb : branchOf (q.reg wa) = none) : h.xfer q wa wb lock index = .fault 8 := by
  refine (if_neg (xferRange_iff.mp hr)).trans ?_
  simp only [hb]

theorem Hub.xfer_noToken (hr : xferRange index) (hb : branchOf (q.reg wa) = some b) (ht : h.holds q.head.ctx (45 + b) = false) :
    h.xfer q wa wb lock index = .ends (h.finish q.head.ctx q { status := 6, detail := 2 }) := by
  refine (if_neg (xferRange_iff.mp hr)).trans ?_
  simp only [hb, ht, Bool.not_false, if_true]

/-- An XFER whose interface can take it: the access is submitted and the Manifest is held. -/
theorem Hub.xfer_submits (hr : xferRange index) (hb : branchOf (q.reg wa) = some b) (ht : h.holds q.head.ctx (45 + b) = true)
    (hm : h.get F.BRANCH.MODE b ≠ 0) (ha : farAddrOk b (q.reg wb).toNat (xferLengths index).1 (xferLengths index).2 = true)
    (hs : (h.farBus b).stuck = false) (hc : b < 2 → h.get F.BRANCH.CAN_STATE b ≠ 2) :
    let a : Access := { xfer := true, ctx := q.head.ctx, lock := lock, addr := (q.reg wb).toNat, data := q.xferBytes (xferLengths index).1,
                        readLen := (xferLengths index).2 }
    h.xfer q wa wb lock index = .on (h.farSubmit b a) { q with pc := q.pc + 1, block := some (.xfer b (xferLengths index).2) } := by
  intro a
  have hopen : ¬ (h.get F.BRANCH.MODE b == 0 || !farAddrOk b (q.regN wb) (xferLengths index).1 (xferLengths index).2) = true := by
    simp [hm, Prog.regN, ha]
  have hlive : ¬ ((h.farBus b).stuck || (decide (b < 2) && h.get F.BRANCH.CAN_STATE b == 2)) = true := by
    simpa [hs] using hc
  refine (if_neg (xferRange_iff.mp hr)).trans ?_
  simp only [hb, ht, Bool.not_true, Bool.false_eq_true, if_false, if_neg hopen, if_neg hlive]
  rfl

end

/-- The word of an XFER sets no reserved bit. -/
theorem xfer_clean {kind : BitVec 4} {index : BitVec 14} (hk : kind = 0#4 ∨ kind = 8#4) (hi : index.toNat / 2 ^ 10 = 0) :
    (kind.toNat % 8 == 0 && bits index.toNat 10 4 == 0) = true := by
  have hb : bits index.toNat 10 4 = 0 := by simp only [bits]; omega
  obtain rfl | rfl := hk <;> simp [hb]

/-- The lengths of an XFER without reserved bits. -/
theorem xferLengths_eq {index : BitVec 14} (hi : index.toNat / 2 ^ 10 = 0) : xferLengths index = (index.toNat % 32, index.toNat / 32) := by
  simp only [xferLengths, bits, Prod.mk.injEq]
  omega

/-! ### The end of a transaction (R94, R421) -/

/-- A transaction's end by its status: Z where it is done, C where the far side failed, V where it timed out. -/
theorem Prog.xferEnded_eq (q : Prog) (status r : Nat) (data : List Byte) :
    ({ q with block := none } : Prog).xferEnded status r data =
      { (if r = 0 then q else q.placeRead data) with block := none, z := decide (status = 0), c := decide (status = 3 ∨ status = 5 ∨ status = 6),
                                                     v := decide (status = 4) } := by
  have hflags : (status == 0) = decide (status = 0) ∧ (status == 3 || status == 5 || status == 6) = decide (status = 3 ∨ status = 5 ∨ status = 6) ∧
      (status == 4) = decide (status = 4) := ⟨rfl, by rw [Bool.eq_iff_iff]; simp [or_assoc], rfl⟩
  obtain ⟨hz, hc, hv⟩ := hflags
  rw [Prog.xferEnded, hz, hc, hv]
  by_cases hr : r = 0
  · simp only [hr, beq_self_eq_true, if_true]; rfl
  · simp only [hr, beq_iff_eq, if_false]; rfl

theorem execXferDone_ends {s : State} {n : Nat} {q : Prog} {b r status : Nat} {data : List Byte} (hm : s.hub.mainUp = true) (hn : n < 6)
    (hq : s.hub.prog n = some q) (hb : q.block = some (.xfer b r)) (hd : s.hub.xferDone.read (fun _ => none) n = some (status, data)) (hs : status ≠ 1) :
    exec (.xferDone n) s = .next { s with
      hub := ({ s.hub with xferDone := s.hub.xferDone.write (fun _ => none) n none } : Hub).manifestOn n
        (({ q with block := none } : Prog).xferEnded status r data) } := by
  refine (actIf_up _ (decide_eq_true hn) hm).trans ?_
  simp only [hq, hb, hd, beq_iff_eq, hs, if_false]

/-! ### RELEASE (R95) -/

section
variable {s : State} {n : Nat} {q : Prog} {wa : RegNo}

theorem execRelease_noInterface (ha : At s (.manifest n) (wordA 0x26#6 0#4 wa 0#4 0#14) q) (hl : q.level ≠ 0x10) (hb : branchOf (q.reg wa) = none) :
    exec (.release (.manifest n) 0#4 wa 0#4 0#14) s = .next (s.faulted (.manifest n) q 8) := by
  have hb' : branchOf (q.counted.reg wa) = none := hb
  exact runManifest_faults ha (fun _ => hl) rfl (by simp only [hb'])

theorem execRelease_releases {b : Nat} (ha : At s (.manifest n) (wordA 0x26#6 0#4 wa 0#4 0#14) q) (hl : q.level ≠ 0x10)
    (hb : branchOf (q.reg wa) = some b) :
    let x := (s.hub.countStep (.manifest n)).farRelease b q.head.ctx
    exec (.release (.manifest n) 0#4 wa 0#4 0#14) s =
      .next { s with hub := x.1.manifestOn n { q.counted with pc := q.pc + 1, c := !x.2 } } := by
  intro x
  have hb' : branchOf (q.counted.reg wa) = some b := hb
  have hn : q.block = none := at_unblocked ha
  exact runManifest_on ha (fun _ => hl) rfl (by simp only [hb']; rfl) hn

end

/-- Settles O28: by what the bodies of XFER and RELEASE answer, and by the status a transaction ends with. -/
theorem branchTransactionsOfManifests : Obligations.BranchTransactionsOfManifests := by
  refine ⟨fun s n q wa wb kind index b ha hl hk hi => ?_, fun s n q b r status data hm hn hq hb hd hs => ?_,
    fun s n q wa ha hl => ⟨execRelease_noInterface ha hl, fun b => execRelease_releases ha hl⟩⟩
  · intro w r c g
    have hclean := xfer_clean hk hi
    have hlen : xferLengths index = (w, r) := xferLengths_eq hi
    have hrange : xferRange index ↔ w ≤ 16 ∧ r ≤ 16 ∧ ¬ (w = 0 ∧ r = 0) := by rw [xferRange, hlen]
    have hlock : kind.getLsbD 3 = (kind == 8#4) := by obtain rfl | rfl := hk <;> rfl
    refine ⟨fun hbad => ?_, fun hw hr hwr hb => ?_, fun hw hr hwr hb ht => ?_, fun hw hr hwr hb ht hm hf hs hc => ?_⟩
    · exact runManifest_faults ha (fun _ => hl) hclean (Hub.xfer_badLength (mt hrange.mp (by omega)))
    · exact runManifest_faults ha (fun _ => hl) hclean (Hub.xfer_noInterface (hrange.mpr ⟨hw, hr, hwr⟩) hb)
    · exact runManifest_ends ha (fun _ => hl) hclean (Hub.xfer_noToken (hrange.mpr ⟨hw, hr, hwr⟩) hb ht)
    · have hsub := Hub.xfer_submits (h := g) (q := q.counted) (lock := kind.getLsbD 3) (hrange.mpr ⟨hw, hr, hwr⟩) hb ht hm (by rw [hlen]; exact hf) hs hc
      simp only [hlen, hlock] at hsub
      refine runManifest_holds ha (fun _ => hl) hclean (Eq.trans ?_ hsub) rfl
      rw [hlock]
  · intro h q1 q2
    rw [execXferDone_ends hm hn hq hb hd hs, Prog.xferEnded_eq]

end Sys2Proof.Machine
end

section
/-! SUPPORT and the obligations O29, O31 and O32. Shunter instructions at their word, by what their body answers: message fields, the signal map, the
Route table, counters and destinations. -/

namespace Sys2Proof.Machine

/-! ### A Shunter instruction at its word, by what its body answers -/

/-- Nothing bars a clean Shunter instruction. -/
theorem at_shunter_unbarred {s : State} {e t : Nat} {w : Word} {q : Prog} (ha : At s (.shunter e t) w q) :
    q.counted.barred { profile := .shunter, clean := true } = none := by
  have hs := at_shunter_shunter ha
  simp [Prog.barred, Prog.counted, hs]

section
variable {s : State} {e t : Nat} {w : Word} {q r : Prog} {clean : Bool} {body : Hub → Prog → Ran} {h : Hub}

/-- The program goes on, the hub as the body left it. -/
theorem runShunter_on (ha : At s (.shunter e t) w q) (hc : clean = true)
    (hbody : body (s.hub.countStep (.shunter e t)) q.counted = .on h r) (hr : r.block = q.block) :
    knaen (.shunter e t) s (fun g => g.runShunter (.shunter e t) w clean body) = .next { s with hub := h.goOn (.shunter e t) r } := by
  subst hc
  exact runWord_on ha (at_shunter_unbarred ha) hbody (hr.trans (at_unblocked ha))

/-- The program goes on and nothing else has changed. -/
theorem runShunter_goesTo (ha : At s (.shunter e t) w q) (hc : clean = true)
    (hbody : body (s.hub.countStep (.shunter e t)) q.counted = .on (s.hub.countStep (.shunter e t)) r) (hr : r.block = q.block) :
    knaen (.shunter e t) s (fun g => g.runShunter (.shunter e t) w clean body) = .next (s.goesTo (.shunter e t) r) :=
  runShunter_on ha hc hbody hr

/-- The instruction's own effect is a fault. -/
theorem runShunter_faults (ha : At s (.shunter e t) w q) (hc : clean = true) {c : Nat}
    (hbody : body (s.hub.countStep (.shunter e t)) q.counted = .fault c) :
    knaen (.shunter e t) s (fun g => g.runShunter (.shunter e t) w clean body) = .next (s.faulted (.shunter e t) q c) := by
  subst hc
  exact runWord_faults ha (at_shunter_unbarred ha) hbody

/-- The program ends. -/
theorem runShunter_ends (ha : At s (.shunter e t) w q) (hc : clean = true)
    (hbody : body (s.hub.countStep (.shunter e t)) q.counted = .ends h) :
    knaen (.shunter e t) s (fun g => g.runShunter (.shunter e t) w clean body) = .next { s with hub := h } := by
  subst hc
  exact runWord_ends ha (at_shunter_unbarred ha) hbody

end

/-! ### Flags beside a register write -/

section
variable (q : Prog) (r : RegNo) (x : Word)

@[simp] theorem Prog.setReg_withC (c : Bool) : (q.setReg r x).withC c = (q.withC c).setReg r x := by
  by_cases hr : r = 0#4 <;> simp [Prog.setReg, hr, Prog.withC]

@[simp] theorem Prog.setReg_withV (v : Bool) : (q.setReg r x).withV v = (q.withV v).setReg r x := by
  by_cases hr : r = 0#4 <;> simp [Prog.setReg, hr, Prog.withV]

@[simp] theorem Prog.setReg_zn (y : Word) : (q.setReg r x).zn y = (q.zn y).setReg r x := by
  by_cases hr : r = 0#4 <;> simp [Prog.setReg, hr, Prog.zn]

@[simp] theorem Prog.setReg_pc : (q.setReg r x).pc = q.pc := by
  by_cases hr : r = 0#4 <;> simp [Prog.setReg, hr]

@[simp] theorem Prog.setReg_block : (q.setReg r x).block = q.block := by
  by_cases hr : r = 0#4 <;> simp [Prog.setReg, hr]

end

/-! ### EXT and INS (R98, R99) -/

theorem bitN_eq_getLsbD {n : Nat} (x : BitVec n) (i : Nat) : bitN x.toNat i = if x.getLsbD i then 1 else 0 := by
  rw [← BitVec.testBit_toNat, Nat.testBit_eq_decide_div_mod_eq, bitN]
  simp only [decide_eq_true_eq]
  split_ifs <;> omega

/-- The field an EXT or INS names. -/
theorem Prog.fieldSpan_eq (q : Prog) (wa : RegNo) (func : BitVec 14) :
    q.fieldSpan wa func = ((q.reg wa).toNat + func.toNat / 2 ^ 7, func.toNat % 32 + 1, if func.getLsbD 5 then 1 else 0) := by
  have hf := func.isLt
  have hb : bits func.toNat 7 7 = func.toNat / 2 ^ 7 := Nat.mod_eq_of_lt (by omega)
  rw [Prog.fieldSpan, bitN_eq_getLsbD, hb]
  rfl

/-- Settles O29: by what the bodies of EXT and INS answer for the span of bits the instruction names. -/
theorem messageFieldsExtractedAndInserted : Obligations.MessageFieldsExtractedAndInserted := by
  intro s e t q wd wa func hq start len order past
  have hspan : q.counted.fieldSpan wa func = (start, len, order) := q.fieldSpan_eq wa func
  refine ⟨fun ha => ?_, fun ha => ?_⟩
  · intro v r
    refine computes_of_goesTo hq (runShunter_goesTo ha rfl ?_ computed_block)
    simp only [hspan, Prog.result, Prog.setReg_withC]
    rfl
  · intro j r
    exact runShunter_goesTo ha rfl (by simp only [hspan]; rfl) rfl

/-! ### SCALE, LOOK, EMIT and COUNT (R100, R101, R108, R109) -/

/-- What a LOOK leaves. -/
theorem Prog.looked_eq (q : Prog) (wd : RegNo) (x : Word) (c : Bool) :
    ((q.counted.setReg wd x).withC c).next = { q.counted.setReg wd x with c := c, pc := q.pc + 1 } := by
  simp only [Prog.withC, Prog.next, Prog.setReg_pc]
  rfl

/-- Settles O31: by what the body of each answers, on either side of its operand's limit. -/
theorem scaleLookEmitAndCount : Obligations.ScaleLookEmitAndCount := by
  refine ⟨fun s e t q wd wa wb func => ⟨fun ha hf => ?_, fun ha hf => ?_⟩, fun s e t q wa wb index => ?_⟩
  -- SCALE
  · intro entry x
    have hclean : (bits func.toNat 1 13 == 0) = true := by simp only [bits, beq_iff_eq]; omega
    refine ⟨fun hbad => runShunter_faults ha hclean (if_pos hbad), fun hok => ?_⟩
    intro y v r
    have hr : ((q.counted.result wd v).withV y.2).next = r := by
      rw [Prog.result, ← Prog.setReg_zn]
      rfl
    refine runShunter_on ha hclean ((if_neg (not_lt.mpr hok)).trans ?_) (by simp [r, Prog.next, Prog.counted])
    rw [← hr]
    rfl
  -- LOOK
  · intro found
    have hclean : (bits func.toNat 4 10 == 0) = true := by simp only [bits, beq_iff_eq]; omega
    have hkey : func.toNat % 16 = func.toNat := by omega
    have hlook : (s.hub.countStep (.shunter e t)).look (func.toNat % 16) (q.counted.regN wa) (q.counted.regN wb) = found := by rw [hkey]; rfl
    refine ⟨fun hn => ?_, fun hn => ?_, fun i hn => ?_⟩
    · exact runShunter_faults ha hclean (by simp only [hlook, hn])
    · exact runShunter_goesTo ha hclean (by simp only [hlook, hn, Prog.looked_eq]) (by simp [Prog.counted])
    · exact runShunter_goesTo ha hclean (by simp only [hlook, hn, Prog.looked_eq]) (by simp [Prog.counted])
  · intro id
    refine ⟨fun ha => ?_, fun ha => ?_⟩
    -- EMIT
    · intro entry x
      refine ⟨fun hbad => runShunter_faults ha rfl (if_pos hbad), fun hok => ?_⟩
      exact runShunter_on ha rfl ((if_neg (not_lt.mpr hok)).trans rfl) rfl
    -- COUNT
    · intro c
      refine ⟨fun hbad => runShunter_faults ha rfl (if_pos hbad), fun hok => ?_⟩
      intro h
      exact runShunter_on ha rfl ((if_neg (not_lt.mpr hok)).trans rfl) rfl

/-! ### FWD, DROP and MIRR (R102 to R104) -/

section
variable {s : State} {e t : Nat} {q : Prog} {wa wb : RegNo} {index : BitVec 14} {replace : Bool}

/-- FWD, plain or replacing, of a program no landing's scope binds: the queue is out of range, it replaces the set, it is in the set or finds it full, and it joins the set. -/
theorem runFwd_cases (ha : At s (.shunter e t) (wordE 0x34#6 wa wb (0#3 ++ BitVec.ofBool replace) index) q) :
    let leaf := (q.reg wa).toNat + index.toNat
    let d := (leaf, (q.reg wb).toNat % 4096)
    let free := (s.hub.countStep (.shunter e t)).get F.PROGRAM.SCOPE q.job.slot = 0xF
    let inSet := (∃ x ∈ q.job.dests, x.1 = leaf) ∨ 16 ≤ q.job.dests.length
    let run := knaen (.shunter e t) s (fun h => h.runFwd (.shunter e t) wa wb 0#3 index replace)
    (2047 < leaf → run = .next (s.faulted (.shunter e t) q 0x0C)) ∧
    (leaf ≤ 2047 → free → replace = true →
      run = .next (s.goesTo (.shunter e t) { q.counted with job := { q.job with dests := [d] }, c := false, pc := q.pc + 1 })) ∧
    (leaf ≤ 2047 → free → replace = false → inSet → run = .next (s.goesTo (.shunter e t) { q.counted with c := true, pc := q.pc + 1 })) ∧
    (leaf ≤ 2047 → free → replace = false → ¬ inSet →
      run = .next (s.goesTo (.shunter e t) { q.counted with job := { q.job with dests := q.job.dests ++ [d] }, c := false, pc := q.pc + 1 })) := by
  intro leaf d free inSet run
  have hbound (hf : free) : ¬ (decide (leaf < 512) && (s.hub.countStep (.shunter e t)).scopeOf q.counted != 0xF &&
      leaf / 128 != (s.hub.countStep (.shunter e t)).scopeOf q.counted) = true := by
    have hs : (s.hub.countStep (.shunter e t)).scopeOf q.counted = 0xF := hf
    simp [hs]
  have hin : (q.job.dests.any (fun x => x.1 == leaf) || decide (16 ≤ q.job.dests.length)) = true ↔ inSet := by simp [inSet]
  refine ⟨fun hl => ?_, fun hl hf hr => ?_, fun hl hf hr hs => ?_, fun hl hf hr hs => ?_⟩
  · exact runShunter_faults ha rfl (if_pos hl)
  · exact runShunter_goesTo ha rfl ((if_neg (not_lt.mpr hl)).trans ((if_neg (hbound hf)).trans (if_pos hr))) rfl
  · have hr' : ¬ replace = true := by simp [hr]
    exact runShunter_goesTo ha rfl ((if_neg (not_lt.mpr hl)).trans ((if_neg (hbound hf)).trans ((if_neg hr').trans (if_pos (hin.mpr hs))))) rfl
  · have hr' : ¬ replace = true := by simp [hr]
    exact runShunter_goesTo ha rfl ((if_neg (not_lt.mpr hl)).trans ((if_neg (hbound hf)).trans ((if_neg hr').trans (if_neg (mt hin.mp hs))))) rfl

end

/-- Settles O32: by what the body of each answers at its word. -/
theorem destinationsDropsAndMarks : Obligations.DestinationsDropsAndMarks := by
  intro s e t q wa wb index leaf d id free
  refine ⟨fun ha => ?_, fun ha => ?_, fun func hfunc ha => ?_, fun hi ha hf => ?_⟩
  · obtain ⟨hbad, -, hin, hjoin⟩ := runFwd_cases (replace := false) ha
    exact ⟨hbad, fun hl hf hs => hin hl hf rfl hs, fun hl hf hnew hroom => hjoin hl hf rfl (by
      rintro (⟨x, hx, he⟩ | hfull)
      · exact hnew x hx he
      · omega)⟩
  · obtain ⟨hbad, hreplace, -, -⟩ := runFwd_cases (replace := true) ha
    exact ⟨hbad, fun hl hf => hreplace hl hf rfl⟩
  · have hclean : ((0#4 : RegNo) == 0#4 && (0#4 : RegNo) == 0#4 && (0#4 : RegNo) == 0#4 && bits func.toNat 8 6 == 0) = true := by
      simp only [bits, beq_self_eq_true, Bool.true_and, beq_iff_eq]
      omega
    have hreason : func.toNat % 256 = func.toNat := Nat.mod_eq_of_lt hfunc
    refine runShunter_ends ha hclean ?_
    simp only [hreason]
    rfl
  · have hclean : ((0#4 : RegNo) == 0#4 && (0#4 : RegNo) == 0#4 && (0#4 : RegNo) == 0#4 && bits index.toNat 2 12 == 0) = true := by
      simp only [bits, beq_self_eq_true, Bool.true_and, beq_iff_eq]
      omega
    have hmark : index.toNat % 4 = index.toNat := Nat.mod_eq_of_lt hi
    have hs : ¬ ((s.hub.countStep id).scopeOf q.counted != 0xF) = true := by
      have hs' : (s.hub.countStep id).scopeOf q.counted = 0xF := hf
      simp [hs']
    refine runShunter_goesTo ha hclean ((if_neg hs).trans ?_) rfl
    rw [hmark]
    rfl

end Sys2Proof.Machine
end

section
/-! SUPPORT and the obligations O33 and O34. Time fields and checksums, and the state a Shunter program starts in. -/

namespace Sys2Proof.Machine

/-! ### STAMP (R105) -/

/-- Whether a byte range passes the message end, of a message that counting a step leaves. -/
theorem Prog.counted_beyond (q : Prog) (off n : Nat) : q.counted.beyond off n = decide (q.job.bytes.length < off + n) := rfl

section
variable {kind : BitVec 4}

/-- The format of a STAMP is the low two bits of its kind, whose bit 3 tells the moment and bit 2 is zero. -/
theorem stamp_kind (hk : kind.toNat < 4) :
    0#1 ++ kind.extractLsb' 0 3 = kind ∧ ((0#4 : RegNo) == 0#4 && !(kind.extractLsb' 0 3).getLsbD 2) = true ∧
      (kind.extractLsb' 0 3).toNat % 4 = kind.toNat % 4 := by
  revert kind; decide

theorem stampEgress_kind (hlo : 8 ≤ kind.toNat) (hhi : kind.toNat < 12) :
    1#1 ++ kind.extractLsb' 0 3 = kind ∧ ((0#4 : RegNo) == 0#4 && !(kind.extractLsb' 0 3).getLsbD 2) = true ∧
      (kind.extractLsb' 0 3).toNat % 4 = kind.toNat % 4 := by
  revert kind; decide

end

section
variable {s : State} {e t : Nat} {q : Prog} {wa : RegNo} {kind : BitVec 4} {index : BitVec 14}

/-- STAMP of the ingress time: past the message end, and within it. -/
theorem execStamp_cases (hk : kind.toNat < 4) (ha : At s (.shunter e t) (wordE 0x37#6 wa 0#4 kind index) q) :
    let off := (q.reg wa).toNat + index.toNat
    let f := kind.toNat % 4
    let at_ := ((s.hub.countStep (.shunter e t)).jobPkt q).stamp
    let j : ShunterJob := { q.job with bytes := putBytes q.job.bytes off (stampBytes f at_ ((s.hub.countStep (.shunter e t)).networkAt at_)) }
    let run := exec (.stamp (.shunter e t) wa 0#4 (kind.extractLsb' 0 3) index) s
    (q.job.bytes.length < off + stampLen f → run = .next (s.goesTo (.shunter e t) { q.counted with c := true, pc := q.pc + 1 })) ∧
    (off + stampLen f ≤ q.job.bytes.length → run = .next (s.goesTo (.shunter e t) { q.counted with job := j, c := false, pc := q.pc + 1 })) := by
  intro off f at_ j run
  obtain ⟨hword, hclean, hf⟩ := stamp_kind hk
  rw [← hword] at ha
  have hbeyond : q.counted.beyond off (stampLen f) = true ↔ q.job.bytes.length < off + stampLen f := by simp [Prog.counted_beyond]
  refine ⟨fun h => ?_, fun h => ?_⟩
  · refine runShunter_goesTo ha hclean ?_ rfl
    simp only [hf]
    exact if_pos (hbeyond.mpr h)
  · refine runShunter_goesTo ha hclean ?_ rfl
    simp only [hf]
    exact if_neg (mt hbeyond.mp (not_lt.mpr h))

/-- STAMP of the egress time: past the message end, and within it. -/
theorem execStampEgress_cases (hlo : 8 ≤ kind.toNat) (hhi : kind.toNat < 12) (ha : At s (.shunter e t) (wordE 0x37#6 wa 0#4 kind index) q) :
    let off := (q.reg wa).toNat + index.toNat
    let f := kind.toNat % 4
    let run := exec (.stampEgress (.shunter e t) wa 0#4 (kind.extractLsb' 0 3) index) s
    (q.job.bytes.length < off + stampLen f → run = .next (s.goesTo (.shunter e t) { q.counted with c := true, pc := q.pc + 1 })) ∧
    (off + stampLen f ≤ q.job.bytes.length → run = .next (s.goesTo (.shunter e t)
      { q.counted with job := { q.job with marks := q.job.marks ++ [.stamp off f] }, c := false, pc := q.pc + 1 })) := by
  intro off f run
  obtain ⟨hword, hclean, hf⟩ := stampEgress_kind hlo hhi
  rw [← hword] at ha
  have hbeyond : q.counted.beyond off (stampLen f) = true ↔ q.job.bytes.length < off + stampLen f := by simp [Prog.counted_beyond]
  refine ⟨fun h => ?_, fun h => ?_⟩
  · refine runShunter_goesTo ha hclean ?_ rfl
    simp only [hf]
    exact if_pos (hbeyond.mpr h)
  · refine runShunter_goesTo ha hclean ?_ rfl
    simp only [hf]
    exact if_neg (mt hbeyond.mp (not_lt.mpr h))

end

/-! ### CORR (R106) -/

section
variable {s : State} {e t : Nat} {q : Prog} {wa wb : RegNo} {kind : BitVec 4} {index : BitVec 14}

/-- CORR at a level that has its kind: of no addition, past the message end, and within it. -/
theorem execCorr_cases (hk : kind.toNat < 8) (ha : At s (.shunter e t) (wordE 0x38#6 wa wb kind index) q)
    (hl : kind.getLsbD 2 = false ∨ q.level ≠ 0x10) :
    let off := (q.reg wa).toNat + index.toNat
    let x := if kind.getLsbD 1 then addCorrection q.job.bytes off ((q.reg wb).toInt * 65536) else (q.job.bytes, false)
    let later : List EgressMark := if kind.getLsbD 0 || kind.getLsbD 2 then [.corr off (kind.getLsbD 0) (kind.getLsbD 2)] else []
    let run := exec (.corr (.shunter e t) wa wb kind index) s
    (kind = 0#4 → run = .next (s.faulted (.shunter e t) q 0x0C)) ∧
    (kind ≠ 0#4 → q.job.bytes.length < off + 8 → run = .next (s.goesTo (.shunter e t) { q.counted with c := true, v := false, pc := q.pc + 1 })) ∧
    (kind ≠ 0#4 → off + 8 ≤ q.job.bytes.length → run = .next (s.goesTo (.shunter e t)
      { q.counted with job := { q.job with bytes := x.1, marks := q.job.marks ++ later }, c := false, v := x.2, pc := q.pc + 1 })) := by
  intro off x later run
  have hclean : (!kind.getLsbD 3) = true := by clear ha hl; revert kind; decide
  have hlevel : ¬ (kind.getLsbD 2 && q.counted.level == 0x10) = true := by
    have hl' : kind.getLsbD 2 = false ∨ q.counted.level ≠ 0x10 := hl
    obtain h | h := hl'
    · rw [h]; simp
    · simp [h]
  have hzero : (kind.toNat % 8 == 0) = true ↔ kind = 0#4 := by clear ha hl hlevel; revert kind; decide
  have hbeyond : q.counted.beyond off 8 = true ↔ q.job.bytes.length < off + 8 := by simp [Prog.counted_beyond]
  refine ⟨fun h0 => ?_, fun h0 h => ?_, fun h0 h => ?_⟩
  · exact runShunter_faults ha hclean ((if_neg hlevel).trans (if_pos (hzero.mpr h0)))
  · exact runShunter_goesTo ha hclean ((if_neg hlevel).trans ((if_neg (mt hzero.mp h0)).trans (if_pos (hbeyond.mpr h)))) rfl
  · exact runShunter_goesTo ha hclean ((if_neg hlevel).trans ((if_neg (mt hzero.mp h0)).trans (if_neg (mt hbeyond.mp (not_lt.mpr h))))) rfl

end

/-! ### CSUM (R107) -/

section
variable {s : State} {e t : Nat} {q : Prog} {wd wa wb : RegNo}

theorem execCsumCompute_computes (ha : At s (.shunter e t) (wordA 0x39#6 wd wa wb 0#14) q) :
    let r : Word := BitVec.ofNat 32 (fold16 (fold16 (onesSum ((q.job.bytes.drop (q.reg wa).toNat).take (q.reg wb).toNat))))
    let past := decide ((q.reg wb).toNat ≠ 0 ∧ q.job.bytes.length < (q.reg wa).toNat + (q.reg wb).toNat)
    exec (.csumCompute (.shunter e t) wd wa wb 0#14) s =
      .next (s.goesTo (.shunter e t) (({ q.counted with z := r == 0#32, c := past } : Prog).setReg wd r).next) := by
  intro r past
  have hform : ¬ ((0#14).toNat % 4 == 1) = true := by decide
  have hpast : (q.counted.regN wb != 0 && q.counted.beyond (q.counted.regN wa) (q.counted.regN wb)) = past := by
    have hn : (q.counted.regN wb != 0) = decide ((q.reg wb).toNat ≠ 0) := by
      change ((q.reg wb).toNat != 0) = _
      rw [Bool.eq_iff_iff]; simp
    simp only [past, Bool.decide_and, hn]
    rfl
  refine (knaen_congr (if_neg hform)).trans (runShunter_goesTo ha rfl ?_ (by simp [Prog.next, Prog.counted]))
  rw [← hpast]
  rfl

theorem execCsumFix_cases (ha : At s (.shunter e t) (wordA 0x39#6 0#4 wa 0#4 1#14) q) :
    let run := exec (.csumFix (.shunter e t) 0#4 wa 0#4 0#12) s
    (q.job.bytes.length < (q.reg wa).toNat + 2 → run = .next (s.goesTo (.shunter e t) { q.counted with c := true, pc := q.pc + 1 })) ∧
    ((q.reg wa).toNat + 2 ≤ q.job.bytes.length → run = .next (s.goesTo (.shunter e t)
      { q.counted with job := { q.job with marks := q.job.marks ++ [.csum (q.reg wa).toNat] }, c := false, pc := q.pc + 1 })) := by
  intro run
  have hbeyond : q.counted.beyond (q.reg wa).toNat 2 = true ↔ q.job.bytes.length < (q.reg wa).toNat + 2 := by simp [Prog.counted_beyond]
  exact ⟨fun h => runShunter_goesTo ha rfl (if_pos (hbeyond.mpr h)) rfl,
    fun h => runShunter_goesTo ha rfl (if_neg (mt hbeyond.mp (not_lt.mpr h))) rfl⟩

end

/-- Settles O33: by what the body of each answers, within the message and past its end. -/
theorem timeFieldsAndChecksums : Obligations.TimeFieldsAndChecksums := by
  intro s e t q wd wa wb kind index id off f size
  exact ⟨execStamp_cases, execStampEgress_cases, execCorr_cases, execCsumCompute_computes, execCsumFix_cases⟩

/-! ### The start of a program (R96) -/

theorem execShunterProgramStart_starts {s : State} {e t : Nat} {k : Ticket} {level : Nat} {words : List Word} (hm : s.hub.mainUp = true) (he : e < 8)
    (ht : t < 16) (hk : s.hub.yard.tickets.find? (fun x => x.id + 1 == s.hub.threadOf e t) = some k) (hp : s.hub.prog (progKey (.shunter e t)) = none)
    (h1 : k.slot ≠ 1) (h2 : k.slot ≠ 2) (hw : s.hub.yard.loaded.read (fun _ => none) k.slot = some (level, words)) :
    exec (.shunterProgramStart e t) s = .next { s with
      hub := ((s.hub.add F.PROGRAM.RUNS k.slot 1).goOn (.shunter e t) (startProg level words k.slot k)).branchDrain } := by
  refine (actIf_up _ (decide_eq_true ⟨he, ht⟩) hm).trans ?_
  simp only [Hub.startThread, hk, hp, Option.isSome_none, Bool.false_eq_true, if_false, beq_iff_eq, h1, h2, hw]

/-- A program started on a message, before its entry registers are written. -/
def Prog.onMessage (level slot : Nat) (words : List Word) (k : Ticket) : Prog :=
  { shunter := true, level := level, words := words, job := { slot := slot, msgId := k.id, bytes := k.pkt.bytes, mirrors := k.pkt.mirrors } }

/-- The state a program starts in: its entry registers, every other field at rest. -/
theorem startProg_rest (level slot : Nat) (words : List Word) (k : Ticket) :
    ∃ r, startProg level words slot k = { Prog.onMessage level slot words k with regs := r } := by
  simp only [startProg, Prog.onMessage, Prog.setReg, if_neg (show (1#4 : RegNo) ≠ 0#4 by decide), if_neg (show (2#4 : RegNo) ≠ 0#4 by decide),
    if_neg (show (3#4 : RegNo) ≠ 0#4 by decide), if_neg (show (4#4 : RegNo) ≠ 0#4 by decide)]
  exact ⟨_, rfl⟩

/-- The entry register w2 of a message: port, tunnel and class (R96). -/
def Ticket.entryClass (k : Ticket) : Nat := k.pkt.port + if k.pkt.port < 4 then k.pkt.index * 2 ^ 4 + k.pkt.cls * 2 ^ 16 else 0

/-- The registers a program starts with (R96). -/
theorem startProg_reg (level slot : Nat) (words : List Word) (k : Ticket) (x : RegNo) : (startProg level words slot k).reg x =
    if x = 0#4 then 0#32 else if x = 4#4 then BitVec.ofNat 32 (k.pkt.stamp / 65536) else if x = 3#4 then BitVec.ofNat 32 k.pkt.entry
      else if x = 2#4 then BitVec.ofNat 32 k.entryClass else if x = 1#4 then BitVec.ofNat 32 k.pkt.bytes.length else 0#32 := by
  have h0 : (Prog.onMessage level slot words k).canonical := rfl
  have h1 := Prog.canonical_setReg _ 1#4 (BitVec.ofNat 32 k.pkt.bytes.length) h0
  have h2 := Prog.canonical_setReg _ 2#4 (BitVec.ofNat 32 k.entryClass) h1
  have h3 := Prog.canonical_setReg _ 3#4 (BitVec.ofNat 32 k.pkt.entry) h2
  have hrest : (Prog.onMessage level slot words k).reg x = 0#32 := by
    by_cases hx : x = 0#4
    · exact if_pos hx
    · exact if_neg hx
  refine (Prog.reg_setReg _ h3 4#4 _ x).trans ?_
  rw [Prog.reg_setReg _ h2, Prog.reg_setReg _ h1, Prog.reg_setReg _ h0, hrest]
  by_cases hx : x = 0#4
  · simp [hx]
  · simp [hx]

/-- The fields of w2: port, and of a landing's message its tunnel and class (R96). -/
theorem Ticket.entryClass_fields (k : Ticket) (hp : k.pkt.port < 16) (hi : k.pkt.index < 4096) (hc : k.pkt.cls < 8) :
    k.entryClass % 16 = k.pkt.port ∧ k.entryClass / 2 ^ 4 % 2 ^ 12 = (if k.pkt.port < 4 then k.pkt.index else 0) ∧
      k.entryClass / 2 ^ 16 % 2 ^ 3 = (if k.pkt.port < 4 then k.pkt.cls else 0) ∧ k.entryClass / 2 ^ 19 = 0 := by
  unfold Ticket.entryClass
  by_cases h4 : k.pkt.port < 4
  · simp only [if_pos h4]; omega
  · simp only [if_neg h4]; omega

/-- Settles O34: the entry registers are the four written last, every other field is at rest. -/
theorem shunterProgramStartsOnMessage : Obligations.ShunterProgramStartsOnMessage := by
  refine ⟨fun s e t k level words hm he ht hk hp h1 h2 hw => execShunterProgramStart_starts hm he ht hk hp h1 h2 hw, fun level slot words k => ?_⟩
  intro q
  have hreg (x : RegNo) := startProg_reg level slot words k x
  have hrest : Flags q false false false false false ∧ q.stack = [] ∧ q.pc = 0 ∧ q.steps = 0 ∧ q.words = words ∧ q.job.bytes = k.pkt.bytes ∧
      q.shunter = true := by
    obtain ⟨r, hr⟩ := startProg_rest level slot words k
    rw [show q = _ from hr]
    exact ⟨⟨rfl, rfl, rfl, rfl, rfl⟩, rfl, rfl, rfl, rfl, rfl, rfl⟩
  refine ⟨fun hp hi hc => ?_, hreg 1, hreg 3, hreg 4, fun x hx => ?_, hrest⟩
  · have hfields := k.entryClass_fields hp hi hc
    have hsmall : k.entryClass < 2 ^ 32 := by omega
    have h2 : (q.reg 2).toNat = k.entryClass := by
      rw [show q.reg 2 = BitVec.ofNat 32 k.entryClass from hreg 2, BitVec.toNat_ofNat, Nat.mod_eq_of_lt hsmall]
    rw [h2]
    exact hfields
  · have hne (y : RegNo) (hy : y.toNat < 5) (h0 : y ≠ 0#4) : x ≠ y := by
      rintro rfl
      obtain h | h := hx
      · exact h0 h
      · omega
    refine (hreg x).trans ?_
    simp only [if_neg (hne 4#4 (by decide) (by decide)), if_neg (hne 3#4 (by decide) (by decide)), if_neg (hne 2#4 (by decide) (by decide)),
      if_neg (hne 1#4 (by decide) (by decide)), ite_self]

end Sys2Proof.Machine
end

section
/-! SUPPORT and the obligation O30. The bits of a message, and a field read back after it was written (R98, R99). -/

namespace Sys2Proof.Machine

/-! ### A bit of a byte -/

/-- Setting a bit of a byte. -/
theorem ofNat_setBit (b : Byte) (p : Nat) : BitVec.ofNat 8 (setBit b.toNat p) = b ||| BitVec.twoPow 8 p := by
  have hb : bitB b.toNat p = b.getLsbD p := by rw [bitB_eq_testBit, BitVec.testBit_toNat]
  rw [setBit, hb]
  split_ifs with hset
  · rw [BitVec.ofNat_toNat, BitVec.setWidth_eq, eq_comm]
    refine BitVec.eq_of_getLsbD_eq fun i hi => ?_
    obtain rfl | hne := eq_or_ne i p
    · rw [BitVec.getLsbD_or, hset, Bool.true_or]
    · simp [hne.symm]
  · have hand : b &&& BitVec.twoPow 8 p = 0#8 := by
      refine BitVec.eq_of_getLsbD_eq fun i hi => ?_
      obtain rfl | hne := eq_or_ne i p
      · rw [BitVec.getLsbD_and, eq_false_of_ne_true hset, Bool.false_and, BitVec.getLsbD_zero]
      · simp [hne.symm]
    rw [← BitVec.add_eq_or_of_and_eq_zero _ _ hand]
    apply BitVec.eq_of_toNat_eq
    simp

/-- Clearing a bit of a byte. -/
theorem ofNat_clrBit (b : Byte) (p : Nat) : BitVec.ofNat 8 (clrBit b.toNat p) = b &&& ~~~BitVec.twoPow 8 p := by
  have hb : bitB b.toNat p = b.getLsbD p := by rw [bitB_eq_testBit, BitVec.testBit_toNat]
  rw [clrBit, hb]
  split_ifs with hset
  · have hle : 2 ^ p ≤ b.toNat := Nat.ge_two_pow_of_testBit (by rwa [BitVec.testBit_toNat])
    have hpow : BitVec.ofNat 8 (2 ^ p) = BitVec.twoPow 8 p := BitVec.eq_of_toNat_eq (by simp)
    have hsplit : b = (b &&& ~~~BitVec.twoPow 8 p) + BitVec.twoPow 8 p := by
      rw [BitVec.add_eq_or_of_and_eq_zero _ _ (by ext i hi; simp)]
      refine BitVec.eq_of_getLsbD_eq fun i hi => ?_
      obtain rfl | hne := eq_or_ne i p
      · simp [hset, hi]
      · simp [hne, hi]
    rw [← BitVec.sub_eq_iff_eq_add.mpr hsplit, ← hpow]
    apply BitVec.eq_of_toNat_eq
    have hlt := b.isLt
    simp only [BitVec.toNat_ofNat, BitVec.toNat_sub]
    omega
  · rw [BitVec.ofNat_toNat, BitVec.setWidth_eq]
    refine BitVec.eq_of_getLsbD_eq fun i hi => ?_
    obtain rfl | hne := eq_or_ne i p
    · rw [BitVec.getLsbD_and, eq_false_of_ne_true hset, Bool.false_and]
    · simp [hne, hi]

/-- A bit of a byte one of whose bits was made v. -/
theorem getLsbD_putBit (b : Byte) {p i : Nat} (v : Bool) (hi : i < 8) :
    (BitVec.ofNat 8 (putBit b.toNat p v)).getLsbD i = if i = p then v else b.getLsbD i := by
  cases v with
  | true =>
    rw [putBit, if_pos rfl, ofNat_setBit]
    obtain rfl | hne := eq_or_ne i p
    · simp [hi]
    · simp [hne, hne.symm]
  | false =>
    rw [putBit, if_neg (by decide), ofNat_clrBit]
    obtain rfl | hne := eq_or_ne i p
    · simp
    · simp [hne, hi]

/-! ### A bit of a message -/

/-- The bit of its byte that bit i of a message is, in a bit order. -/
def bitPlace (order i : Nat) : Nat := if order == 0 then i % 8 else 7 - i % 8

theorem bitPlace_lt (order i : Nat) : bitPlace order i < 8 := by
  unfold bitPlace
  split <;> omega

/-- Two bits of one byte of a message stand at one place only when they are the same. -/
theorem bitPlace_inj {order i j : Nat} (hbyte : i / 8 = j / 8) (hplace : bitPlace order i = bitPlace order j) : i = j := by
  unfold bitPlace at hplace
  split at hplace <;> omega

/-- Bit i of a message in a bit order, as a truth value. -/
def messageBit (order : Nat) (bs : List Byte) (i : Nat) : Bool := (bs.getD (i / 8) 0).getLsbD (bitPlace order i)

theorem msgBit_eq_messageBit (order : Nat) (bs : List Byte) (i : Nat) : msgBit order bs i = (messageBit order bs i).toNat := by
  have hbit : msgBit order bs i = bitN (byteAt bs (i / 8)) (bitPlace order i) := by
    simp only [msgBit, bitPlace]
    split <;> rfl
  rw [hbit, byteAt, bitN_eq_getLsbD, messageBit]
  cases (bs.getD (i / 8) 0).getLsbD (bitPlace order i) <;> rfl

@[simp] theorem length_putMsgBit (order : Nat) (bs : List Byte) (i : Nat) (v : Bool) : (putMsgBit order bs i v).length = bs.length :=
  List.length_modify ..

/-- A bit of a message after one bit within it was written. -/
theorem messageBit_putMsgBit {order : Nat} {bs : List Byte} {i : Nat} (j : Nat) (v : Bool) (hi : i < 8 * bs.length) :
    messageBit order (putMsgBit order bs i v) j = if j = i then v else messageBit order bs j := by
  have hlen : i / 8 < bs.length := by omega
  by_cases hbyte : i / 8 = j / 8
  · have hplace : bitPlace order j = bitPlace order i ↔ j = i := ⟨fun h => bitPlace_inj hbyte.symm h, fun h => h ▸ rfl⟩
    have hget : (putMsgBit order bs i v).getD (j / 8) 0 = BitVec.ofNat 8 (putBit (bs.getD (j / 8) 0).toNat (bitPlace order i) v) := by
      rw [← hbyte]
      simp [putMsgBit, bitPlace, List.getD_eq_getElem?_getD, hlen]
    rw [messageBit, hget, getLsbD_putBit _ _ (bitPlace_lt order j)]
    simp only [hplace, messageBit]
  · have hne : j ≠ i := fun h => hbyte (h ▸ rfl)
    have hget : (putMsgBit order bs i v).getD (j / 8) 0 = bs.getD (j / 8) 0 := by
      simp [putMsgBit, List.getD_eq_getElem?_getD, hbyte]
    rw [messageBit, hget, if_neg hne, messageBit]

/-! ### A field of a message -/

/-- The bit of the message that bit j of the field of n bits from bit s is, in a bit order. -/
def fieldBit (order s n j : Nat) : Nat := if order == 0 then s + j else s + (n - 1 - j)

theorem fieldBit_lt {order s n j : Nat} (hj : j < n) : fieldBit order s n j < s + n := by
  unfold fieldBit
  split <;> omega

theorem fieldBit_ne {order s n i j : Nat} (hij : i < j) (hj : j < n) : fieldBit order s n i ≠ fieldBit order s n j := by
  unfold fieldBit
  split <;> omega

/-- Writes the low k bits of a value into the first k of the field of n bits from bit s. -/
def putLow (order : Nat) (bs : List Byte) (s n v k : Nat) : List Byte :=
  (List.range k).foldl (fun b j => putMsgBit order b (fieldBit order s n j) (bitB v j)) bs

theorem putField_eq_putLow (order : Nat) (bs : List Byte) (s n v : Nat) : putField order bs s n v = putLow order bs s n v n := rfl

theorem putLow_succ (order : Nat) (bs : List Byte) (s n v k : Nat) :
    putLow order bs s n v (k + 1) = putMsgBit order (putLow order bs s n v k) (fieldBit order s n k) (bitB v k) := by
  simp [putLow, List.range_succ]

@[simp] theorem length_putLow (order : Nat) (bs : List Byte) (s n v k : Nat) : (putLow order bs s n v k).length = bs.length := by
  induction k with
  | zero => rfl
  | succ k ih => rw [putLow_succ, length_putMsgBit, ih]

/-- Each bit of the field written so far holds its bit of the value: a later write is of another bit. -/
theorem messageBit_putLow {order : Nat} {bs : List Byte} {s n : Nat} (v : Nat) {k j : Nat} (hj : j < k) (hk : k ≤ n) (hn : s + n ≤ 8 * bs.length) :
    messageBit order (putLow order bs s n v k) (fieldBit order s n j) = bitB v j := by
  induction k with
  | zero => exact absurd hj (Nat.not_lt_zero j)
  | succ k ih =>
    have hin : fieldBit order s n k < 8 * (putLow order bs s n v k).length := by
      rw [length_putLow]
      exact (fieldBit_lt (by omega)).trans_le hn
    rw [putLow_succ, messageBit_putMsgBit _ _ hin]
    obtain hlt | rfl := Nat.lt_succ_iff_lt_or_eq.mp hj
    · rw [if_neg (fieldBit_ne hlt (by omega)), ih hlt (by omega)]
    · rw [if_pos rfl]

/-- The low n bits of a number, weighted, are the number below 2^n. -/
theorem sum_bitB (v n : Nat) : ((List.range n).map (fun j => (bitB v j).toNat * 2 ^ j)).sum = v % 2 ^ n := by
  induction n with
  | zero => simp [Nat.mod_one]
  | succ n ih =>
    have hbit : (bitB v n).toNat = v / 2 ^ n % 2 := by
      rw [bitB_eq_testBit, Nat.toNat_testBit]
    rw [List.sum_range_succ, ih, hbit, Nat.mod_pow_succ, Nat.mul_comm]

theorem getField_eq_sum (order : Nat) (bs : List Byte) (s n : Nat) :
    getField order bs s n = ((List.range n).map (fun j => (messageBit order bs (fieldBit order s n j)).toNat * 2 ^ j)).sum := by
  simp only [getField, msgBit_eq_messageBit, fieldBit]

/-- Settles O30: each write of a bit within the message changes that bit alone, and the bits weighted make up the low bits of the value. -/
theorem insertedFieldReadsBack : Obligations.InsertedFieldReadsBack := by
  intro order bs start len v _ _ _ hin
  rw [putField_eq_putLow]
  refine ⟨?_, length_putLow ..⟩
  rw [getField_eq_sum, ← sum_bitB]
  refine congrArg List.sum (List.map_congr_left fun j hj => ?_)
  rw [messageBit_putLow v (List.mem_range.mp hj) le_rfl hin]

end Sys2Proof.Machine
end
